-- ==== Sys2Proof/Word.lean ====
section
/-! DEFINITION. The word types of the KBL524: register words, bytes, device time, requester IDs. -/

namespace Sys2Proof

/-- A register word (R33). -/
abbrev Word := BitVec 32

/-- A byte of flash, DRAM or a message. -/
abbrev Byte := BitVec 8

/-- Device time: NS in bits 71:8 and FRAC in bits 7:0 (R164). -/
abbrev DevTime := BitVec 72

/-- A requester ID (R30). -/
abbrev ReqId := BitVec 10

/-- A sparse store keyed by Nat, in rising key order; an unlisted key reads as the store's default. -/
abbrev SMap (α : Type) := List (Nat × α)

end Sys2Proof
end

