-- ==== Sys2Proof/Syntax.lean ====
section
/-! DEFINITION. The commands of the block: the operand types and the one inductive Instr, one constructor per row of the opcode table. -/

namespace Sys2Proof

/-- An edge of a root clock, from which the edges of the bough clocks on it follow (R153). -/
structure ClockEdge where
  root : BitVec 4
  falling : Bool
deriving DecidableEq, Repr

/-- A clock that R151 switches: a bough clock, a root clock, or the Guide clock. -/
inductive ClkSite where
  | bclk (b : BitVec 7) (c : BitVec 3)
  | root (r : BitVec 4)
  | guide
deriving DecidableEq, Repr

/-- Where an event crosses: an EVENT down cell of a bough, a fabric event 256 + j on its way to the event controller, or a
fabric event line on its way into the fabric. -/
inductive CrossTarget where
  | down (b : BitVec 7) (u : BitVec 8)
  | fabricEvent (j : BitVec 6)
  | line (j : BitVec 6)
deriving DecidableEq, Repr

/-- A rope port: WEST, EAST, BRANCH (R243). -/
inductive RopePort where
  | west | east | branch
deriving DecidableEq, Repr

/-- Why a rope port becomes faulty (R263); a burst carries its number of code errors. -/
inductive PortCause where
  | noSignal | lossOfLock | noCstart
  | errBurst (errors : BitVec 16)
deriving DecidableEq, Repr

/-- A cycle frame (R258, R259): its sync area, the valid map and the sample sections at key 32p + s. -/
structure CycleFrame where
  cycleNo : BitVec 32 := 0
  t : DevTime := 0
  cyc : BitVec 2 := 0
  rate : Bool := false
  wrapNr : Bool := false
  wrapAny : Bool := false
  rope : BitVec 3 := 0
  quality : BitVec 4 := 0
  sizeM1 : BitVec 6 := 0
  present : BitVec 64 := 0
  seen : BitVec 64 := 0
  count : BitVec 8 := 0
  rateChg : Bool := false
  newRate : Bool := false
  heal : Bool := false
  tword : BitVec 32 := 0
  valid : SMap Bool := []
  data : SMap Word := []
deriving DecidableEq, Repr

/-- The payload of an access frame (R294). -/
inductive AccBody where
  | rdReq (addr : BitVec 24) (sync : Bool) (epoch : BitVec 16)
  | rdRsp (data : Word) (status : BitVec 8) (latched : List Word) (epoch : BitVec 16)
  | wrReq (addr : BitVec 24) (data : Word) (sync : Bool) (pair : Option Word) (epoch : BitVec 16)
  | wrAck (status : BitVec 8) (epoch : BitVec 16)
  | mbx (m : BitVec 5) (sync : Bool) (epoch : BitVec 16) (words : List Word)
  | mbxAck (status : BitVec 8) (epoch : BitVec 16)
  | nak (code : BitVec 8) (epoch : BitVec 16)
deriving DecidableEq, Repr

/-- An access frame (R255). -/
structure AccFrame where
  dst : BitVec 9
  src : BitVec 9
  seq : BitVec 12
  ack : BitVec 12
  passed : Bool
  body : AccBody
deriving DecidableEq, Repr

/-- The header H and the CRC-32 with which a frame comes in over a port (R255). -/
structure Wire where
  head : BitVec 64
  fcs : Word
deriving DecidableEq, Repr

/-- A frame's header and CRC-32 with the instant at which its first symbol came in. -/
structure Arrival where
  wire : Wire
  time : DevTime
deriving DecidableEq, Repr

/-- What the header of a TLP adds to an access through BAR4: the tag of a read, and the mark of a poisoned one (R349, R353). -/
structure TlpMark where
  tag : BitVec 6
  poisoned : Bool
deriving DecidableEq, Repr

/-- What a remote access asks for (R293): a read, a write, or the two words of a mailbox or queue operation are all plain
register reads and writes. -/
inductive AccessKind where
  | read
  | write (v : Word)
deriving DecidableEq, Repr

/-- A service call as the Guide takes it (R328): the request mailbox or the JTAG path, the caller, and the request words. -/
structure Call where
  mbx : BitVec 5 := 0
  jtag : Bool := false
  caller : BitVec 10 := 1
  ctag : BitVec 16 := 0
  progress : Bool := false
  replyNode : BitVec 9 := 0
  replyMbx : BitVec 5 := 0
  w2 : Word := 0
  w3 : Word := 0
  w4 : Word := 0
  w5 : Word := 0
  w6 : Word := 0
  w7 : Word := 0
deriving DecidableEq, Repr

/-- A call with the junction temperature that the Guide samples as it takes it (R427). -/
structure SampledCall where
  call : Call
  tj : BitVec 16
deriving DecidableEq, Repr

/-- The commands, in the order of the opcode table, those that carry operands first. Each constructor's docstring names its row of the table and the rule that describes it. -/
inductive Instr where
  /-- VIN_GOOD (R465). VIN in units of 10 mV, and the straps sampled (R467). -/
  | vinGood (vin : BitVec 16) (straps : BitVec 3)
  /-- BRACE (R462). VIN at the crossing, in units of 10 mV. -/
  | brace (vin : BitVec 16)
  /-- HEART_BRACE_WRITE (R531). `tj` is the junction temperature then, signed, in units of 1/8 °C. -/
  | heartBraceWrite (tj : BitVec 16)
  /-- VIN_ABOVE_WARN (R487). VIN in units of 10 mV. -/
  | vinAboveWarn (vin : BitVec 16)
  /-- RAIL_FAULT (R468). The rail (1 VCORE, 2 VAUX, 3 VIO), and whether it was above its window or limit. -/
  | railFault (rail : BitVec 2) (above : Bool)
  /-- PHASE_FAULT (R469). -/
  | phaseFault (phase : BitVec 2)
  /-- K_MEASURE (R470). k × 128, the rails in mV, the VCORE current and VIN in units of 10 mA and 10 mV, as measured (log 46). -/
  | kMeasure (k : BitVec 8) (vcore vaux vio icore vin : BitVec 16)
  /-- SVC_DEVICE_RESET (R461). -/
  | svcDeviceReset (c : Call)
  /-- SVC_INFO (R565). -/
  | svcInfo (c : Call)
  /-- SVC_PAGE_OWNER (R566). -/
  | svcPageOwner (c : Call)
  /-- SVC_PIN_OWNER (R345). -/
  | svcPinOwner (c : Call)
  /-- SVC_HOLD_ENTER (R20). -/
  | svcHoldEnter (c : Call)
  /-- SVC_HOLD_RELEASE (R24). -/
  | svcHoldRelease (c : Call)
  /-- SVC_SERVICE_ENTER (R20). -/
  | svcServiceEnter (c : Call)
  /-- SVC_SERVICE_EXIT (R461). -/
  | svcServiceExit (c : Call)
  /-- GUIDE_RESPONSE_POST (R329). `m` is the request mailbox of the response held. -/
  | guideResponsePost (m : BitVec 5)
  /-- REGISTER_WRITE (R53). Requester, byte offset, value and whether every byte enable is set; of a host TLP also its length and its poison mark. -/
  | registerWrite (r : ReqId) (addr : BitVec 24) (v : Word) (full : Bool) (dwords : BitVec 8) (poisoned : Bool)
  /-- SNAPSHOT_READ (R47). Requester and byte offset; of a host TLP also its length. -/
  | snapshotRead (r : ReqId) (addr : BitVec 24) (dwords : BitVec 8)
  /-- COMMIT (R41). The word written to PAGE_CTL of page p, whose COMMIT bit is 1. -/
  | commit (r : ReqId) (p : BitVec 12) (v : Word)
  /-- COMMIT_TRANSFER (R41). -/
  | commitTransfer (p : BitVec 12)
  /-- LOCK (R52). The word written to PAGE_CTL of page p, whose LOCK bit is 1. -/
  | lock (r : ReqId) (p : BitVec 12) (v : Word)
  /-- BOUGH_FREEZE (R112). The word written to PAGE_CTL of the bough, whose ENABLE bit is 0. -/
  | boughFreeze (r : ReqId) (b : BitVec 7) (v : Word)
  /-- BOUGH_RESUME (R112). -/
  | boughResume (r : ReqId) (b : BitVec 7) (v : Word)
  /-- CAD_CLR (R94). The word written to HS_CTL of the bough, whose CAD_CLR bit is 1. -/
  | cadClr (r : ReqId) (b : BitVec 7) (v : Word)
  /-- CADENCE_WINDOW (R111). -/
  | cadenceWindow (b : BitVec 7)
  /-- HS_REQUEST (R103). The controller, or a wrapper from 288 on. -/
  | hsRequest (b : BitVec 7) (j : BitVec 9)
  /-- CHANNEL_PUSH (R160). -/
  | channelPush (b : BitVec 7) (ch : BitVec 5)
  /-- CHANNEL_VALID (R160). -/
  | channelValid (b : BitVec 7) (ch : BitVec 5)
  /-- CHANNEL_POP (R160). -/
  | channelPop (b : BitVec 7) (ch : BitVec 5)
  /-- CROSSING_EVENT (R157). -/
  | crossingEvent (k : CrossTarget)
  /-- BRAM_ECC_ERROR (R128). Bough, memory and row read, and whether the error is uncorrectable. -/
  | bramEccError (b : BitVec 7) (n : BitVec 3) (row : BitVec 9) (dbe : Bool)
  /-- PLL_ENABLE (R144). The word written to PLL_CTL, whose EN bit is 1. -/
  | pllEnable (r : ReqId) (p : BitVec 3) (v : Word)
  /-- PLL_DISABLE (R144). -/
  | pllDisable (r : ReqId) (p : BitVec 3) (v : Word)
  /-- PLL_LOCK (R144). -/
  | pllLock (p : BitVec 3)
  /-- PLL_LOSS_OF_LOCK (R144). -/
  | pllLossOfLock (p : BitVec 3)
  /-- CLOCK_SWITCH (R151). The word written to the register of the site. -/
  | clockSwitch (r : ReqId) (k : ClkSite) (v : Word)
  /-- CLOCK_SWITCH_DONE (R151). -/
  | clockSwitchDone (k : ClkSite)
  /-- DIV_WRITE (R153). -/
  | divWrite (r : ReqId) (b : BitVec 7) (ch : BitVec 3) (v : Word)
  /-- BCLK_GATE (R154). -/
  | bclkGate (r : ReqId) (b : BitVec 7) (ch : BitVec 3) (v : Word)
  /-- ROOT_GATE (R154). -/
  | rootGate (r : ReqId) (n : BitVec 4) (v : Word)
  /-- XMERGE_CLR (R150). -/
  | xmergeClr (r : ReqId) (b : BitVec 7) (v : Word)
  /-- PPS_EDGE (R169). The device time of the edge. -/
  | ppsEdge (at_ : DevTime)
  /-- TIME_STAT_READ (R168). -/
  | timeStatRead (r : ReqId)
  /-- EQ_LO (R181). -/
  | eqLo (r : ReqId) (p : BitVec 8) (v : Word)
  /-- EQ_HI (R181). -/
  | eqHi (r : ReqId) (p : BitVec 8) (v : Word)
  /-- QUEUE_EDGE (R181). -/
  | queueEdge (p : BitVec 8)
  /-- EDGE_DISABLE (R180). -/
  | edgeDisable (r : ReqId) (p : BitVec 8) (v : Word)
  /-- EDGE_ENABLE (R183). -/
  | edgeEnable (r : ReqId) (p : BitVec 8) (v : Word)
  /-- PWM_PERIOD_START (R183). -/
  | pwmPeriodStart (p : BitVec 8)
  /-- PWM_EDGE (R183). -/
  | pwmEdge (p : BitVec 8) (rising : Bool)
  /-- CAPTURE_EDGE (R186). The device time of the edge at the pad. -/
  | captureEdge (p : BitVec 8) (falling : Bool) (at_ : DevTime)
  /-- CAP_LO_READ (R186). -/
  | capLoRead (r : ReqId) (p : BitVec 8)
  /-- GRP_COMMIT (R184). -/
  | grpCommit (r : ReqId) (v : Word)
  /-- CAL_CYCLE_START (R188). -/
  | calCycleStart (i : BitVec 2)
  /-- LINE_CAL_DONE (R189). -/
  | lineCalDone (p : BitVec 8) (ok : Bool)
  /-- LINE_SWAP (R189). -/
  | lineSwap (p : BitVec 8)
  /-- SWAP_ABANDON (R189). -/
  | swapAbandon (p : BitVec 8)
  /-- BOOT_CAL_DONE (R190). -/
  | bootCalDone (i : BitVec 2)
  /-- SDF_START (R197). -/
  | sdfStart (r : ReqId) (ch : BitVec 6) (v : Word)
  /-- SDF_STOP (R197). -/
  | sdfStop (r : ReqId) (ch : BitVec 6) (v : Word)
  /-- SDF_STOP_DONE (R197). -/
  | sdfStopDone (ch : BitVec 6)
  /-- SDF_OUTPUT (R201). -/
  | sdfOutput (ch : BitVec 6)
  /-- SDF_CMP_TRIP (R203). -/
  | sdfCmpTrip (ch : BitVec 6) (high : Bool)
  /-- SDF_CLK_FAULT (R199). Whether 1 µs has passed without an edge; else an edge came within 25 ns. -/
  | sdfClkFault (ch : BitVec 6) (gap : Bool) (at_ : DevTime)
  /-- SDF_RUN_FAULT (R198). -/
  | sdfRunFault (ch : BitVec 6)
  /-- LOOP_GRID_POINT (R218). What the decode of the record read finds (R494): 0 nothing, 1 a single-bit error, else a double-bit error. -/
  | loopGridPoint (n : BitVec 10) (ecc : BitVec 2)
  /-- LOOP_EVENT_TRIGGER (R218). What the decode of the record read finds (R494): 0 nothing, 1 a single-bit error, else a double-bit error. -/
  | loopEventTrigger (n : BitVec 10) (ecc : BitVec 2)
  /-- LOOP_SAMPLE_TRIGGER (R218). What the decode of the record read finds (R494): 0 nothing, 1 a single-bit error, else a double-bit error. -/
  | loopSampleTrigger (n : BitVec 10) (ecc : BitVec 2)
  /-- ABSEIL_TRIGGER (R218). What the decode of the record read finds (R494): 0 nothing, 1 a single-bit error, else a double-bit error. -/
  | abseilTrigger (n : BitVec 10) (ecc : BitVec 2)
  /-- OUTPUT_APPLY (R216). -/
  | outputApply (n : BitVec 10)
  /-- FSLOT_WORD (R215). The slot port and the channel word. -/
  | fslotWord (q : BitVec 2) (w : BitVec 64)
  /-- CTX_COMMIT (R225). -/
  | ctxCommit (r : ReqId) (v : Word)
  /-- ABSEIL_ENTER (R229). -/
  | abseilEnter (r : ReqId) (v : Word)
  /-- ABSEIL_RELEASE (R231). -/
  | abseilRelease (r : ReqId) (v : Word)
  /-- HB_KICK (R230). -/
  | hbKick (r : ReqId) (v : Word)
  /-- HB_MISS (R230). -/
  | hbMiss (h : BitVec 1)
  /-- STATE_WRITE (R237). -/
  | stateWrite (r : ReqId) (w : BitVec 4) (v : Word)
  /-- MISSED_CLR (R209). -/
  | missedClr (r : ReqId) (n : BitVec 10) (v : Word)
  /-- ROPE_ENABLE (R268). -/
  | ropeEnable (r : ReqId) (v : Word)
  /-- ROPE_LOCK (R268). The rate found: true for 1.25 Gbaud. -/
  | ropeLock (rate : Bool)
  /-- JOIN_CHECK (R269). The fourth good frame, and whether it came on WEST_RX. -/
  | joinCheck (f : CycleFrame) (west : Bool)
  /-- LEADING_START (R268). On the branch of an anchor, or on the own rope. -/
  | leadingStart (br : Bool)
  /-- BELAY (R270). -/
  | belay (r : ReqId) (v : Word)
  /-- CYCLE_START (R257). -/
  | cycleStart (br : Bool) (tc : DevTime)
  /-- CYCLE_FRAME_RX (R260). The frame, its port, its arrival and the forward latency measured; `w` is the header and the CRC-32 it came in with. -/
  | cycleFrameRx (f : CycleFrame) (west : Bool) (ta : DevTime) (fwd : Word) (w : Wire)
  /-- CYCLE_FRAME_RETURN (R260). The frame, its port and its arrival. -/
  | cycleFrameReturn (port : RopePort) (f : CycleFrame) (a : Arrival)
  /-- SUB_STALE (R289). -/
  | subStale (e : BitVec 8)
  /-- PORT_FAULT (R263). -/
  | portFault (p : RopePort) (cause : PortCause)
  /-- RATE_RETURN (R265). -/
  | rateReturn (br : Bool)
  /-- RATE_SWITCH (R265). -/
  | rateSwitch (br : Bool)
  /-- HOP_SEND (R276). -/
  | hopSend (t3 : DevTime)
  /-- HOP_RX (R276). -/
  | hopRx (br : Bool) (seq : BitVec 12) (turn : Word) (t4 : DevTime) (w : Wire)
  /-- HOP_HOLD (R276). -/
  | hopHold (br : Bool)
  /-- REMOTE_ACCESS (R293). Requester, node, byte offset, byte enables and access; of a host TLP its length and its poison mark. -/
  | remoteAccess (r : ReqId) (n : BitVec 9) (addr : BitVec 24) (full : Bool) (k : AccessKind) (dwords : BitVec 8) (poisoned : Bool)
  /-- RD_REQ_RX (R295). -/
  | rdReqRx (port : RopePort) (f : AccFrame) (w : Wire)
  /-- WR_REQ_RX (R295). -/
  | wrReqRx (port : RopePort) (f : AccFrame) (w : Wire)
  /-- MBX_RX (R326). -/
  | mbxRx (port : RopePort) (f : AccFrame) (w : Wire)
  /-- RD_RSP_RX (R297). -/
  | rdRspRx (port : RopePort) (f : AccFrame) (w : Wire)
  /-- WR_ACK_RX (R302). -/
  | wrAckRx (port : RopePort) (f : AccFrame) (w : Wire)
  /-- MBX_ACK_RX (R326). -/
  | mbxAckRx (port : RopePort) (f : AccFrame) (w : Wire)
  /-- NAK_RX (R298). -/
  | nakRx (port : RopePort) (f : AccFrame) (w : Wire)
  /-- RETX_TIMEOUT (R298). -/
  | retxTimeout (n : BitVec 9)
  /-- POS0_PASS (R301). -/
  | pos0Pass (br : Bool) (f : AccFrame)
  /-- FRAME_FORWARD (R262). -/
  | frameForward (fromBranch : Bool) (f : AccFrame)
  /-- PORT_CNT_CLR (R274). -/
  | portCntClr (r : ReqId) (p : RopePort) (v : Word)
  /-- MSIX_SEND (R351). -/
  | msixSend (n : BitVec 6)
  /-- MSIX_PEND_CLEAR (R309). -/
  | msixPendClear (r : ReqId) (k : BitVec 1) (v : Word)
  /-- FABRIC_EVENT (R307). -/
  | fabricEvent (j : BitVec 6)
  /-- SW0_RAISE (R313). -/
  | sw0Raise (r : ReqId) (v : Word)
  /-- SW1_RAISE (R313). -/
  | sw1Raise (r : ReqId) (v : Word)
  /-- TX_WORD (R317). -/
  | txWord (r : ReqId) (m : BitVec 5) (w : BitVec 3) (v : Word)
  /-- TX_POST (R317). -/
  | txPost (r : ReqId) (m : BitVec 5) (v : Word)
  /-- RX_INFO0_READ (R318). -/
  | rxInfo0Read (r : ReqId) (m : BitVec 5)
  /-- MB_LOCK_READ (R319). -/
  | mbLockRead (r : ReqId) (m : BitVec 5)
  /-- MB_LOCK_WRITE (R319). -/
  | mbLockWrite (r : ReqId) (m : BitVec 5) (v : Word)
  /-- MB_TIMEOUT (R323). -/
  | mbTimeout (m : BitVec 5)
  /-- LINK_CHANGE (R354). -/
  | linkChange (up : Bool) (gen width : BitVec 3) (l1 : Bool)
  /-- RETRAIN (R353). -/
  | retrain (r : ReqId) (v : Word)
  /-- BAR4_ACCESS (R349). An access within one 64-byte line. -/
  | bar4Access (ofs : BitVec 28) (write : Bool) (be : BitVec 64) (data : BitVec 512) (mark : TlpMark)
  /-- I2C_ADDRESS_MATCH (R356). -/
  | i2cAddressMatch (fails : BitVec 16)
  /-- I2C_WRITE (R356). -/
  | i2cWrite (bytes : List Byte)
  /-- PARK_END (R342). -/
  | parkEnd (n : BitVec 10)
  /-- VCCIO_MEASURE (R334). The bank, the code it measures, and whether it has lasted as long as R334 asks. -/
  | vccioMeasure (b : BitVec 5) (meas : BitVec 3) (settled : Bool)
  /-- PIN_LOCK_ARM (R346). -/
  | pinLockArm (r : ReqId) (n : BitVec 10)
  /-- PIN_LOCK_KEY (R346). -/
  | pinLockKey (r : ReqId) (n : BitVec 10)
  /-- DRAM_REQUEST (R362). The port and the fields of R362; `a` is A[35:5]. -/
  | dramRequest (p : BitVec 3) (a : BitVec 31) (write line : Bool) (be : BitVec 64) (data : BitVec 512) (close fence : Bool) (tag : BitVec 6)
  /-- DRAM_ISSUE (R365). The requests, by number of acceptance, whose next command the DRAM's own timing permits now. -/
  | dramIssue (ready : List Nat)
  /-- DRAM_READ_DONE (R374). The request, and the bits that upsets have changed in the words of its line. -/
  | dramReadDone (seq : Nat) (ups : List (BitVec 3 × BitVec 72))
  /-- AGE_PROMOTE (R366). -/
  | agePromote (seq : Nat)
  /-- ROW_IDLE_CLOSE (R367). -/
  | rowIdleClose (bank : BitVec 5)
  /-- REFRESH (R370). -/
  | refresh (rank : BitVec 1) (postpone : Bool)
  /-- RETRIM (R373). By lane: the signed read and write steps found, and the widths left. -/
  | retrim (lanes : List (BitVec 8 × BitVec 8 × BitVec 8 × BitVec 8))
  /-- DRAM_ENABLE (R377). -/
  | dramEnable (r : ReqId) (v : Word)
  /-- DRAM_DISABLE (R377). -/
  | dramDisable (r : ReqId) (v : Word)
  /-- TRAINING_DONE (R371). By rank and lane: the passing steps of the read and the write sweep. -/
  | trainingDone (sweeps : List (BitVec 128 × BitVec 128))
  /-- PORT_CLK_MEASURE (R362). -/
  | portClkMeasure (p : BitVec 3) (fast : Bool)
  /-- SVC_IMAGE_LOAD (R400). -/
  | svcImageLoad (c : Call)
  /-- SVC_IMAGE_SWITCH (R403). -/
  | svcImageSwitch (c : Call)
  /-- SVC_IMAGE_VERIFY (R409). What the check of the stream finds and the USERCODE it carries follow from the stored stream:
  these two operands repeat them, and decide nothing (log 43). -/
  | svcImageVerify (c : Call) (cause : BitVec 4) (usercode : Word)
  /-- SVC_GROVE_LOAD (R407). -/
  | svcGroveLoad (c : Call)
  /-- SVC_READBACK (R410). -/
  | svcReadback (c : Call)
  /-- SVC_BOOT_BANK (R409). -/
  | svcBootBank (c : Call) (tj : BitVec 16)
  /-- NOP (R389). The packet header and whether its tag passes, as the stream stores the packet (log 43). -/
  | nop (header : BitVec 64) (tagOk : Bool)
  /-- DEVICE_ID (R389). -/
  | deviceId (header : BitVec 64) (tagOk : Bool)
  /-- WREG_MODE (R390). -/
  | wregMode (header : BitVec 64) (tagOk : Bool)
  /-- WREG_USERCODE (R390). -/
  | wregUsercode (header : BitVec 64) (tagOk : Bool)
  /-- FRAME (R394). With the decrypted frame data and its check. -/
  | frame (header : BitVec 64) (tagOk : Bool) (d : BitVec 4096) (check : Word)
  /-- KEY_ROLL (R391). -/
  | keyRoll (header : BitVec 64) (tagOk : Bool)
  /-- END (R393). With the CRC of its body and whether the digest passes. -/
  | end_ (header : BitVec 64) (tagOk : Bool) (crc : Word) (digestOk : Bool)
  /-- RELEASE_DONE (R458). -/
  | releaseDone (tj : BitVec 16)
  /-- SCRUB_FRAME (R413). The data and check cells of the next frame that upsets have changed, and whether its image can be fetched. -/
  | scrubFrame (flips : BitVec 4096) (checkFlips : Word) (fetched : Bool)
  /-- SVC_FLASH_READ (R433). -/
  | svcFlashRead (c : Call)
  /-- SVC_FLASH_PROGRAM (R424). -/
  | svcFlashProgram (c : Call) (tj : BitVec 16)
  /-- SVC_FLASH_ERASE (R425). -/
  | svcFlashErase (c : Call) (tj : BitVec 16)
  /-- SVC_FLASH_SUSPEND (R428). -/
  | svcFlashSuspend (c : Call)
  /-- SVC_FLASH_RESUME (R428). -/
  | svcFlashResume (c : SampledCall)
  /-- SVC_FLASH_BLANK_CHECK (R433). -/
  | svcFlashBlankCheck (c : Call)
  /-- SVC_FLASH_STATUS (R433). -/
  | svcFlashStatus (c : Call)
  /-- ERASE_PULSE_DONE (R425). Whether the sector verifies. -/
  | erasePulseDone (pass : Bool) (tj : BitVec 16)
  /-- PROGRAM_PULSE_DONE (R424). Whether the line verifies. -/
  | programPulseDone (pass : Bool) (tj : BitVec 16)
  /-- ERASE_TEMP_RESUME (R427). -/
  | eraseTempResume (tj : BitVec 16)
  /-- SVC_SETTINGS_READ (R448). -/
  | svcSettingsRead (c : Call)
  /-- SVC_SETTINGS_STAGE (R444). -/
  | svcSettingsStage (c : Call)
  /-- SVC_SETTINGS_COMMIT (R443). -/
  | svcSettingsCommit (c : Call) (tj : BitVec 16)
  /-- SVC_SETTINGS_ABORT (R444). -/
  | svcSettingsAbort (c : Call)
  /-- SVC_CLAMP_LOG (R448). -/
  | svcClampLog (c : Call)
  /-- DEFERRED_COMMIT_WRITE (R445). -/
  | deferredCommitWrite (tj : BitVec 16)
  /-- COMPACTION (R446). -/
  | compaction (tj : BitVec 16)
  /-- SVC_PWR_ENTER (R474). `passed` abort points pass before the command ends, 5 when nothing stops the entry (log 54). -/
  | svcPwrEnter (c : Call) (passed : BitVec 3) (tj : BitVec 16)
  /-- SVC_PWR_POLICY (R484). -/
  | svcPwrPolicy (c : Call)
  /-- TIME_LATCH (R481). The RTC tick, in ticks of the present second. -/
  | timeLatch (sub : BitVec 15)
  /-- WAKE_N (R479). `fails` are the retention banks whose signature fails, should this wake the device (R478). -/
  | wakeN (fails : BitVec 16)
  /-- PIN_WAKE (R479). -/
  | pinWake (n : BitVec 10) (rising : Bool) (fails : BitVec 16)
  /-- VIN_RESTORE (R479). -/
  | vinRestore (fails : BitVec 16)
  /-- TIME_RECONSTRUCT (R481). The RTC tick, in ticks of the present second. -/
  | timeReconstruct (sub : BitVec 15)
  /-- PITCH_DONE (R499). The signature found and the element codes that fail. -/
  | pitchDone (misr : Word) (fails : List Word)
  /-- PERIODIC_PITCH (R500). Whether the cycle has run more than 10 % over its nominal length. -/
  | periodicPitch (late : Bool)
  /-- PITCH_RETRY (R496). -/
  | pitchRetry (e : Word)
  /-- DBE_CHECK_TIMEOUT (R496). -/
  | dbeCheckTimeout (e : Word)
  /-- LINK_CHECK_DONE (R496). Whether an error came within the 64 cycles. -/
  | linkCheckDone (port : RopePort) (bad : Bool)
  /-- SVC_PITCH_RUN (R508). -/
  | svcPitchRun (c : Call)
  /-- SVC_PITCH_SCHEDULE (R509). -/
  | svcPitchSchedule (c : Call)
  /-- LC_TRANSITION (R516). Where a brace or a loss of supply stops it (log 55). -/
  | lcTransition (c : Call) (word : BitVec 8) (erased : BitVec 16) (loss : Bool) (tj : BitVec 16)
  /-- OTP_WRITE (R518). -/
  | otpWrite (c : Call) (word : BitVec 8) (erased : BitVec 16) (loss : Bool) (tj : BitVec 16)
  /-- SVC_DEBUG_OPEN (R520). -/
  | svcDebugOpen (c : Call)
  /-- SVC_DEBUG_CLOSE (R520). -/
  | svcDebugClose (c : Call)
  /-- SAMPLE_PRELOAD (R522). The pins' driver enables and data shifted in. -/
  | samplePreload (cells : List (BitVec 10 × Bool × Bool))
  /-- EXTEST (R522). -/
  | extest (cells : List (BitVec 10 × Bool × Bool))
  /-- BYPASS (R522). 0xFF or any unlisted code. -/
  | bypass (code : BitVec 8)
  /-- GUIDE_CALL (R523). The eight request words. -/
  | guideCall (words : List Word)
  /-- DEBUG_ACCESS (R523). -/
  | debugAccess (write : Bool) (ofs : BitVec 24) (v : Word)
  /-- SVC_HEART_READ (R539). -/
  | svcHeartRead (c : Call)
  /-- SVC_CALENDAR_SET (R538). -/
  | svcCalendarSet (c : Call) (tj : BitVec 16)
  /-- CALENDAR_SECOND (R534). -/
  | calendarSecond (tj : BitVec 16)
  /-- ALARM (R537). -/
  | alarm (fails : BitVec 16)
  /-- HEART_COUNT_WRITE (R531). -/
  | heartCountWrite (tj : BitVec 16)
  /-- HEART_DEFERRED_WRITE (R532). -/
  | heartDeferredWrite (tj : BitVec 16)
  /-- HEART_REBASE (R530). -/
  | heartRebase (tj : BitVec 16)
  /-- ACTIVE_CLOCK_EDGE (R65). The edges of one instant, and what the board does at the balls before it: the level it drives, or that it lets go. -/
  | activeClockEdge (edges : List ClockEdge) (balls : List (BitVec 10 × Option Bool))
  /-- SDF_BIT_SAMPLE (R199). The data bit and, for an EXT clock, the device time of the edge. -/
  | sdfBitSample (ch : BitVec 6) (b : Bool) (at_ : DevTime)
  /-- CONFIGURATION_SPACE_WRITE (R347). The power state, the MSI-X enable and the function mask written. -/
  | configurationSpaceWrite (d3hot en mask : Bool)
  /-- POWER_ON_RESET (R465). -/
  | powerOnReset
  /-- VIN_LOW_ASLEEP (R465). -/
  | vinLowAsleep
  /-- VIN_OV (R465). -/
  | vinOv
  /-- AUTO_HOLD_RELEASE (R24). -/
  | autoHoldRelease
  /-- RAIL_RETRY (R468). -/
  | railRetry
  /-- RST_N_ASSERT (R461). -/
  | rstNAssert
  /-- DEVICE_RESET_END (R461). -/
  | deviceResetEnd
  /-- GUIDE_WAIT (R472). -/
  | guideWait
  /-- GUIDE_TAKE_REQUEST (R329). -/
  | guideTakeRequest
  /-- GUIDE_REPLY_RETRY (R329). -/
  | guideReplyRetry
  /-- REFCLK_LOSS (R141). -/
  | refclkLoss
  /-- TPLL_RELOCK (R174). -/
  | tpllRelock
  /-- TIMING_PLL_LOCK (R166). -/
  | timingPllLock
  /-- XTAL_START (R142). -/
  | xtalStart
  /-- XTAL_FAIL (R142). -/
  | xtalFail
  /-- TIME_STEP_COMMIT (R172). -/
  | timeStepCommit
  /-- TIME_SLEW_COMMIT (R172). -/
  | timeSlewCommit
  /-- STEP_APPLY (R171). -/
  | stepApply
  /-- SERVO_MEASURE (R170). -/
  | servoMeasure
  /-- REF_LOST (R173). -/
  | refLost
  /-- TIME_WRAP (R165). -/
  | timeWrap
  /-- BOUND_UPDATE (R175). -/
  | boundUpdate
  /-- ADMISSION_DONE (R224). -/
  | admissionDone
  /-- HB1_KICK (R230). -/
  | hb1Kick
  /-- JOIN_OPEN (R268). -/
  | joinOpen
  /-- JOINED (R268). -/
  | joined
  /-- JOIN_TIMEOUT (R268). -/
  | joinTimeout
  /-- LEAVE_DONE (R270). -/
  | leaveDone
  /-- WRAP_NR_CLEAR (R264). -/
  | wrapNrClear
  /-- UNWRAP (R264). -/
  | unwrap
  /-- SYNC_LOST (R266). -/
  | syncLost
  /-- LISTEN_TIMEOUT (R266). -/
  | listenTimeout
  /-- ACCESS_FRAME_SEND (R261). -/
  | accessFrameSend
  /-- ROPE_EVENT_SEND (R311). -/
  | ropeEventSend
  /-- PERST_N_ASSERT (R350). -/
  | perstNAssert
  /-- PERST_N_RELEASE (R350). -/
  | perstNRelease
  /-- HOT_RESET (R350). -/
  | hotReset
  /-- FLR (R350). -/
  | flr
  /-- I2C_READ (R356). -/
  | i2cRead
  /-- DRAM_SCRUB_READ (R376). -/
  | dramScrubRead
  /-- WIPE_DONE (R400). -/
  | wipeDone
  /-- FALLBACK_LOAD (R401). -/
  | fallbackLoad
  /-- RELEASE_RANK (R458). -/
  | releaseRank
  /-- RELEASE_PORTS (R458). -/
  | releasePorts
  /-- RELEASE_PINS (R458). -/
  | releasePins
  /-- READBACK_CAPTURE (R410). -/
  | readbackCapture
  /-- ESS_ACTION (R414). -/
  | essAction
  /-- ERASE_TEMP_TIMEOUT (R427). -/
  | eraseTempTimeout
  /-- ENTRY_UNDO (R475). -/
  | entryUndo
  /-- BUDGET_STEP (R482). -/
  | budgetStep
  /-- BUDGET_REFILL (R482). -/
  | budgetRefill
  /-- PITCH_START (R499). -/
  | pitchStart
  /-- GRANT_TIMEOUT (R501). -/
  | grantTimeout
  /-- HOLDOFF_END (R501). -/
  | holdoffEnd
  /-- DEBUG_TIMEOUT (R521). -/
  | debugTimeout
  /-- IDCODE (R522). -/
  | idcode
  /-- CLAMP_INSTR (R522). -/
  | clampInstr
  /-- HIGHZ (R522). -/
  | highz
deriving DecidableEq, Repr

end Sys2Proof
end

