-- ==== Sys2Proof/Machine/FabricCfg.lean ====
section
/-! DEFINITION. The configuration cells of one bough as the fabric chapters name them: leaf, twig, crossbar, boundary-cell, channel, block-memory, MAC and tap fields (R63, R64, R71, R74, R97, R122, R133, R155, R159, R338). Cells that are zero are not listed. -/

namespace Sys2Proof.Machine

/-- The fields of a leaf (R63); INIT is in frame MINOR 63. -/
structure LeafCfg where
  tt : BitVec 16 := 0
  selA : BitVec 6 := 0
  selB : BitVec 6 := 0
  selC : BitVec 6 := 0
  selD : BitVec 6 := 0
  dsel : Bool := false
  osel : BitVec 2 := 0
  ceSel : BitVec 2 := 0
  srSel : BitVec 2 := 0
  srVal : Bool := false
deriving DecidableEq, Repr

/-- A wrapper's or a controller's handshake settings (R97, R139). -/
structure StageCfg where
  en : Bool := false
  dly : BitVec 6 := 0
  initToken : Bool := false
  rin : List (BitVec 9) := []
deriving DecidableEq, Repr

/-- The control set of a twig (R64) and its controller (R97). The selects are those of destinations 64 to 68. -/
structure TwigCfg where
  clkSel : BitVec 3 := 0
  falling : Bool := false
  sr0Async : Bool := false
  sr1Async : Bool := false
  cinSrc : BitVec 2 := 0
  selCe0 : BitVec 6 := 0
  selCe1 : BitVec 6 := 0
  selSr0 : BitVec 6 := 0
  selSr1 : BitVec 6 := 0
  selCin : BitVec 6 := 0
  ctl : StageCfg := {}
deriving DecidableEq, Repr

/-- One port of a block memory (R122). -/
structure BramPortCfg where
  width : BitVec 3 := 0
  rdw : BitVec 2 := 0
  outReg : Bool := false
  clkSel : BitVec 3 := 0
  falling : Bool := false
deriving DecidableEq, Repr

/-- A block memory (R122). -/
structure BramCfg where
  a : BramPortCfg := {}
  b : BramPortCfg := {}
  ecc : Bool := false
  cascLen : BitVec 2 := 0
  pitchAlways : Bool := false
  stage : StageCfg := {}
deriving DecidableEq, Repr

/-- A MAC block (R133). -/
structure MacCfg where
  areg : Bool := false
  breg : Bool := false
  creg : Bool := false
  mreg : Bool := false
  aSigned : Bool := false
  bSigned : Bool := false
  addSrc : BitVec 2 := 0
  accSat : Bool := false
  roundShift : BitVec 6 := 0
  roundMode : BitVec 2 := 0
  satW : BitVec 6 := 0
  clkSel : BitVec 3 := 0
  falling : Bool := false
  stage : StageCfg := {}
deriving DecidableEq, Repr

/-- A boundary cell (R155): UMODE and UCLK, or DMODE and DCLK. -/
structure CellCfg where
  mode : BitVec 2 := 0
  clk : BitVec 3 := 0
deriving DecidableEq, Repr

/-- A channel end (R159). -/
structure ChanCfg where
  en : Bool := false
  req : BitVec 8 := 0
  ack : BitVec 8 := 0
  dbase : BitVec 8 := 0
  w : BitVec 6 := 0
  clk : BitVec 3 := 0
  src : BitVec 9 := 0
deriving DecidableEq, Repr

/-- An input tap (R338). -/
structure TapCfg where
  pin : BitVec 10 := 0
  mode : BitVec 2 := 0
  clk : BitVec 3 := 0
deriving DecidableEq, Repr

/-- The configuration cells of one bough. The selects of a level are keyed by destination number within the bough. -/
structure BoughCfg where
  /-- Leaf branch × 256 + twig × 16 + leaf. -/
  leaf : SMap LeafCfg := []
  /-- Twig branch × 16 + twig. -/
  twig : SMap TwigCfg := []
  /-- 16 × twig + up wire. -/
  twigUp : SMap (BitVec 5) := []
  /-- 32 × twig + down wire: branch crossbar selects. -/
  twigDown : SMap (BitVec 9) := []
  /-- 64 × branch + up wire. -/
  branchUp : SMap (BitVec 8) := []
  /-- Bough crossbar destinations: 0 to 1023 branch down wires, from 1024 hard-block inputs. -/
  boughDest : SMap (BitVec 12) := []
  /-- Trunk up wires 0 to 255. -/
  boughUp : SMap (BitVec 12) := []
  /-- Trunk routes that end in the bough: down wire to source 256n + u (R71, R74). -/
  trunk : SMap (BitVec 15) := []
  up : SMap CellCfg := []
  down : SMap CellCfg := []
  och : SMap ChanCfg := []
  ich : SMap ChanCfg := []
  bram : SMap BramCfg := []
  mac : SMap MacCfg := []
  itap : SMap TapCfg := []
  /-- What R79 makes of the cells, which the design tool reports (R86): for each bough clock, the longest nominal sum in ps of the
  synchronous paths within the bough and of those from other boughs, tCO and tSU included; a clock with no such path has 0. -/
  longest : SMap (Nat × Nat) := []
  /-- The longest nominal sum Pi in ps of the path that request input i of stage j guards (R106, R139), at key 4j + i. -/
  guarded : SMap Nat := []
deriving DecidableEq, Repr, Inhabited

/-- Where the design places the hardened crossings (R397, MINOR 8): the bough of each loop slot port, fabric bus port,
fabric event and fabric event line. -/
structure Placement where
  slotPort : SMap Nat := []
  /-- The incoming channel of that bough, plus 1, that each slot port's output words enter by (R162, R215). -/
  slotChan : SMap Nat := []
  busPort : SMap Nat := []
  event : SMap Nat := []
  line : SMap Nat := []
  /-- The down cell of that bough at which each fabric event line arrives (R162). -/
  lineCell : SMap Nat := []
deriving DecidableEq, Repr, Inhabited

end Sys2Proof.Machine
end

