-- ==== Sys2Proof/Config.lean ====
section
/-! DEFINITION. The free values of the model: constants with no body, one for each kind of value the spec leaves open. -/

namespace Sys2Proof.Machine

/-- The variant of the ordering code (R2). -/
inductive Variant where
  | i
  | h
  | e
  deriving DecidableEq, Repr

end Sys2Proof.Machine

namespace Sys2Proof.Config

open Sys2Proof.Machine in
/-- The cells of a bough as its logic frames MINOR 0 to 62 hold them. The spec leaves the bit positions to the frame
database of the design tool (R396, log 20), so the decoding is open. -/
opaque boughCells (frames : SMap (BitVec 4096)) : BoughCfg

open Sys2Proof.Machine in
/-- The placement that CLOCK frame MINOR 8 holds (R397, log 20). -/
opaque placement (frame : BitVec 4096) : Placement

/-- The n-th free value of width w (log 1): a value the spec leaves open. Nothing constrains it. -/
opaque freeBits (w n : Nat) : BitVec w

/-- SHA-384 of a string of bytes (R386, R514, log 30): the spec names the algorithm and does not define it. -/
opaque sha384 (bytes : List Byte) : BitVec 384

/-- An ECDSA P-384 signature over a message verifies under a public key (R386, R387, log 30). -/
opaque sigValid (pubkey sig msg : List Byte) : Bool

/-- The key that AES Key Wrap unwraps under a root key, where it does (R386, R387, log 30). -/
opaque unwrapKey (root : BitVec 256) (wrapped : List Byte) : Option (List Byte)

/-- AES-256-GCM (R391, log 30): the plain body that a key and an IV open from the authenticated data, the encrypted body and the tag; none where
the tag fails. -/
opaque gcmOpen (key iv aad body tag : List Byte) : Option (List Byte)

/-- The Guide's ROM version word (R565), which the spec does not give (log 31). -/
opaque romVersion : Word

/-- The BIST signature that ROM holds for an element kind (R499), which the spec does not give (log 31). -/
opaque bistSignature (kind : Nat) : Word

/-- The serial number, token digests, Ibzel's image key digest and root key that Ibzel programs into the OTP of each device (R5,
R437, R510, log 87): the spec gives them no values. -/
opaque shippedSecret (w : Nat) : BitVec 64

open Sys2Proof.Machine in
/-- The OTP word w of a device as it is shipped (R2, R5): the group of TEST is full, that of PROVISION too unless the variant is E, and
what Ibzel programs is there. Every other word is blank. -/
def otpShipped (v : Variant) (w : Nat) : BitVec 64 :=
  if w < (if v = .e then 3 else 6) then 0xFFFFFFFFFFFFFFFF
  else if w = 15 ∨ (16 ≤ w ∧ w ≤ 57) ∨ (76 ≤ w ∧ w ≤ 79) then shippedSecret w
  else 0

/-- The fuse repairs that OTP words 96 to 119 spell (R437, R497): element code and spare. The spec does not lay them out. -/
opaque fuseRepairs (words : List (BitVec 64)) : List (Word × Nat)

/-- A Guide patch package verifies against the Ibzel key in ROM (R432), and the version it carries; the spec gives neither
the key nor the layout (log 30). -/
opaque patchValid (package : List Byte) : Bool
opaque patchVersion (package : List Byte) : Word

/-- What the unread bits of a half-programmed flash line read at a physical byte address, by the free values drawn and the time so far:
each reads 0 or 1, and its value may change over time (R431, log 138). -/
opaque weakByte (addr drawn time : Nat) : BitVec 8

/-- The subsystem IDs that the records of the host group give (R347): the spec does not say where they stand in them (log 137). -/
opaque subsystemIds (records : List (List Byte)) : Word

/-- The cycle-to-cycle jitter of the board's REFCLK in ps (R145), which the spec leaves to the board. -/
opaque refJitter : Nat

/-- The REFCLK frequency of code `ref` can produce the DRAM data rate of code `rate` (R358). The spec does not say which can
(log 58). -/
opaque dramRateFits (ref rate : Nat) : Bool

/-- The DRAM timing words match the DRAM parts that the board has (case 8 of R56): the spec cannot say which parts those are (log 94). -/
opaque dramTimingFits (words : List Word) : Bool

end Sys2Proof.Config
end

