-- ==== Sys2Proof/Machine/Pages.lean ====
section
/-! DEFINITION. The register pages of R34 and the register maps of every page: which offsets hold a register, its reset value and the access class of each bit. -/

namespace Sys2Proof.Machine

/-- The kinds of page the maps distinguish (R34, R147, R290, R340, R379). -/
inductive PageKind where
  | none | headerOnly
  | sys | pmu | supply | rtc | lc | cfg | scrub | pitch | mbx | evt0 | evt1 | time
  | clkSrc | clkRoot | clkPll | clkXhard | clkBclk
  | bough | grove | edge | sdf | edgecal | loop | loopctx
  | iob | psel | pcfg | plock
  | rope | ropePort | ropetime | pub | sub | acc
  | host | dramCtl | dramTiming | dramPorts | dramEcc | dramTrain
  | flash | settings | heart
deriving DecidableEq, Repr

/-- What R34 says of one page: its TYPE and INSTANCE, and whether its owner is fixed to the Guide. -/
structure PageInfo where
  kind : PageKind
  ty : Nat
  inst : Nat
  fixed : Bool := false
deriving DecidableEq, Repr

/-- The page table of R34; `none` is an unassigned page (R35). -/
def pageInfo (p : Nat) : PageInfo :=
  if p < 0x008 then
    match p with
    | 0 => { kind := .sys, ty := 0x001, inst := 0 }
    | 1 => { kind := .pmu, ty := 0x002, inst := 0, fixed := true }
    | 2 => { kind := .supply, ty := 0x003, inst := 0, fixed := true }
    | 3 => { kind := .rtc, ty := 0x004, inst := 0 }
    | 4 => { kind := .lc, ty := 0x005, inst := 0, fixed := true }
    | 5 => { kind := .cfg, ty := 0x006, inst := 0, fixed := true }
    | 6 => { kind := .scrub, ty := 0x007, inst := 0, fixed := true }
    | _ => { kind := .pitch, ty := 0x008, inst := 0, fixed := true }
  else if p < 0x010 then { kind := .mbx, ty := 0x009, inst := p - 0x008 }
  else if p = 0x010 then { kind := .evt0, ty := 0x00A, inst := 0 }
  else if p = 0x011 then { kind := .evt1, ty := 0x00A, inst := 1 }
  else if p = 0x018 then { kind := .time, ty := 0x00B, inst := 0 }
  else if 0x020 ≤ p ∧ p ≤ 0x02F then
    let i := p - 0x020
    { ty := 0x00C, inst := i,
      kind := if i = 0 then .clkSrc else if i = 1 then .clkRoot else if i ≤ 5 then .clkPll
        else if i = 6 then .clkXhard else if i = 7 then .headerOnly else .clkBclk }
  else if 0x040 ≤ p ∧ p ≤ 0x0BF then { kind := .bough, ty := 0x010, inst := p - 0x040 }
  else if 0x0C0 ≤ p ∧ p ≤ 0x0C3 then { kind := .grove, ty := 0x011, inst := p - 0x0C0 }
  else if 0x100 ≤ p ∧ p ≤ 0x1FF then { kind := .edge, ty := 0x020, inst := p - 0x100 }
  else if 0x200 ≤ p ∧ p ≤ 0x207 then { kind := .sdf, ty := 0x021, inst := p - 0x200 }
  else if 0x210 ≤ p ∧ p ≤ 0x213 then { kind := .edgecal, ty := 0x022, inst := p - 0x210 }
  else if p = 0x300 then { kind := .loop, ty := 0x030, inst := 0 }
  else if 0x400 ≤ p ∧ p ≤ 0x43F then { kind := .loopctx, ty := 0x031, inst := p - 0x400 }
  else if 0x500 ≤ p ∧ p ≤ 0x513 then { kind := .iob, ty := 0x040, inst := p - 0x500 }
  else if p = 0x520 then { kind := .psel, ty := 0x041, inst := 0 }
  else if p = 0x521 then { kind := .pcfg, ty := 0x041, inst := 1 }
  else if p = 0x522 then { kind := .plock, ty := 0x041, inst := 2 }
  else if p = 0x540 then { kind := .rope, ty := 0x050, inst := 0 }
  else if 0x541 ≤ p ∧ p ≤ 0x543 then { kind := .ropePort, ty := 0x051, inst := p - 0x541 }
  else if p = 0x548 then { kind := .ropetime, ty := 0x052, inst := 0 }
  else if 0x550 ≤ p ∧ p ≤ 0x557 then
    let i := p - 0x550
    { ty := 0x053, inst := i,
      kind := if i = 0 then .pub else if i ≤ 4 then .sub else if i = 5 then .acc else .headerOnly }
  else if p = 0x600 then { kind := .host, ty := 0x060, inst := 0 }
  else if 0x640 ≤ p ∧ p ≤ 0x64F then
    let i := p - 0x640
    { ty := 0x061, inst := i,
      kind := match i with
        | 0 => .dramCtl | 1 => .dramTiming | 2 => .dramPorts | 3 => .dramEcc | 4 => .dramTrain | 5 => .dramTrain
        | _ => .headerOnly }
  else if p = 0x700 then { kind := .flash, ty := 0x070, inst := 0, fixed := true }
  else if p = 0x710 then { kind := .settings, ty := 0x071, inst := 0, fixed := true }
  else if p = 0x720 then { kind := .heart, ty := 0x072, inst := 0, fixed := true }
  else if p = 0x800 then { kind := .headerOnly, ty := 0x080, inst := 0, fixed := true }
  else { kind := .none, ty := 0, inst := 0 }

/-- Is the page assigned (R35)? -/
def pageAssigned (p : Nat) : Bool := (pageInfo p).kind != .none

/-- One register, or a regular array of registers, of a page map. The masks give each bit's access class (R7, R40);
a bit in no mask is read-only or reserved. `aon` marks the bits held in the AON register file (R12). -/
structure RegSpec where
  off : Nat
  count : Nat := 1
  stride : Nat := 4
  reset : Nat := 0
  rw : Nat := 0
  rws : Nat := 0
  rwq : Nat := 0
  w1c : Nat := 0
  w1s : Nat := 0
  wo : Nat := 0
  aon : Nat := 0
deriving DecidableEq, Repr

/-- Every bit of a register. -/
def all32 : Nat := 0xFFFFFFFF

/-- The header of R36 to R39; PAGE_ID, LOCKED, ERR and the fixed part of PAGE_OWNER are computed on read. -/
def headerMap : List RegSpec :=
  [ { off := 0x000 },                                        -- PAGE_ID
    { off := 0x004, rw := 0x1, w1s := 0x6 },                 -- PAGE_CTL
    { off := 0x008 },                                        -- PAGE_STAT
    { off := 0x00C, w1c := 0xFFFF001F },                     -- PAGE_ERR
    { off := 0x010, rw := 0xFFFF011F },                      -- PAGE_EVT_EN
    { off := 0x014 },                                        -- PAGE_OWNER
    { off := 0x018 } ]                                       -- PAGE_SEQ

def sysMap : List RegSpec := [ { off := 0x020, reset := 0x00004005, aon := all32 } ]      -- MODE (R18)

/-- R485. -/
def pmuMap : List RegSpec :=
  [ { off := 0x020, aon := all32 },                                   -- STATE
    { off := 0x024, rw := 0xF, aon := all32 },                        -- WAKE_EN
    { off := 0x028, aon := all32 },                                   -- WAKE_CAUSE
    { off := 0x02C, reset := 0x1, rw := 0x3 },                        -- POLICY
    { off := 0x030, count := 2, aon := all32 },                       -- SLEPT_LO, SLEPT_HI
    { off := 0x038, reset := 0x07D00FA0, rw := all32, aon := all32 }, -- WAKE_BUDGET
    { off := 0x03C, reset := 0x00000FA0 },                            -- BUDGET_STAT
    { off := 0x040 },                                                 -- BUDGET_WAITS
    { off := 0x044, aon := all32 },                                   -- RET_STAT
    { off := 0x048, aon := all32 },                                   -- RET_FAILS
    { off := 0x04C, reset := 0xD },                                   -- BIAS_STAT
    { off := 0x050 } ]                                                -- WAKE_US

/-- R486. -/
def supplyMap : List RegSpec :=
  [ { off := 0x020, rw := 0x3FF },                                    -- VIN_CFG
    { off := 0x024, aon := 0x00040000 },                              -- VIN_STAT
    { off := 0x028, reset := 0x00C61000, rw := 0x00FF3F01 },          -- RAIL_CFG
    { off := 0x02C },                                                 -- RAIL_STAT
    { off := 0x030 },                                                 -- AUX_STAT
    { off := 0x034, aon := 0xFFFF },                                  -- FAULTS
    { off := 0x038, aon := all32 },                                   -- LAST_FAULT
    { off := 0x03C } ]                                                -- ICORE

/-- R535. -/
def rtcMap : List RegSpec :=
  [ { off := 0x020, rw := 0x1, aon := all32 },                        -- CTL
    { off := 0x024, aon := all32 },                                   -- STAT
    { off := 0x028, aon := all32 },                                   -- CAL_LO
    { off := 0x02C, aon := all32 },                                   -- CAL_HI
    { off := 0x030, aon := all32 },                                   -- CAL_SUB
    { off := 0x038, aon := all32 },                                   -- TICK_LO
    { off := 0x03C, aon := all32 },                                   -- TICK_HI
    { off := 0x040, rws := all32, aon := all32 },                     -- ALARM_LO
    { off := 0x044, rws := 0xFF, aon := all32 } ]                     -- ALARM_HI

/-- R524. -/
def lcMap : List RegSpec :=
  [ { off := 0x020 },                                                 -- STATE
    { off := 0x024, aon := all32 },                                   -- TOKEN_STAT
    { off := 0x028 },                                                 -- DBG_STAT
    { off := 0x02C },                                                 -- ARB
    { off := 0x030, count := 2 } ]                                    -- SERIAL_LO, SERIAL_HI

/-- R415. -/
def cfgMap : List RegSpec :=
  [ { off := 0x020 },                                                 -- STAT
    { off := 0x024, aon := 0x3 },                                     -- BANK
    { off := 0x028, count := 8 } ]                                    -- LAST_FAIL to LOADS

/-- R418. -/
def scrubMap : List RegSpec :=
  [ { off := 0x020, reset := 0x00640001, rw := 0xFFFF0007 },          -- CTL
    { off := 0x024, count := 6 } ]                                    -- STAT to LAST_INFO

/-- R504. -/
def pitchMap : List RegSpec :=
  [ { off := 0x020, reset := 0x00010018 },                            -- SCHED
    { off := 0x024 },                                                 -- STAT
    { off := 0x028, reset := 0x25810000 },                            -- POS
    { off := 0x02C, count := 7 },                                     -- HOLDOFF, CNT_PASS to CNT_OTHER
    { off := 0x048, reset := 0x00208000 },                            -- REPAIRS
    { off := 0x04C, count := 6 } ]                                    -- LAST_ELEM to LAST_EXP

/-- The reset value of MB_CFG of mailbox m (R315). -/
def mbCfgReset (m : Nat) : Nat :=
  if m < 16 then
    match m with
    | 0 => 2 <<< 22 ||| 1 <<< 12 | 2 => 2 <<< 22 ||| 1 <<< 12
    | 1 => 1 <<< 22 ||| 2 <<< 12 | 3 => 1 <<< 22 ||| 2 <<< 12
    | 4 => 2 <<< 22 ||| 8 <<< 12 | 6 => 2 <<< 22 ||| 8 <<< 12
    | 5 => 8 <<< 22 ||| 2 <<< 12 | 7 => 8 <<< 22 ||| 2 <<< 12
    | 8 => 8 <<< 22 ||| 1 <<< 12 | 10 => 8 <<< 22 ||| 1 <<< 12
    | 12 => 8 <<< 22 ||| 1 <<< 12 | 14 => 8 <<< 22 ||| 1 <<< 12
    | _ => 1 <<< 22 ||| 8 <<< 12
  else 1 <<< 22

/-- The writable bits of MB_CFG of mailbox m: the ends marked RW in R315, and LOCK_REQ. -/
def mbCfgRw (m : Nat) : Nat :=
  let rx := 0xFFC00000
  let tx := 0x003FF000
  0x800 ||| (if m < 4 then 0 else if m < 8 then (if m % 2 = 0 then tx else rx)
    else if m < 16 then (if m % 2 = 0 then rx else tx) else rx ||| tx)

/-- R316: the four mailboxes of MBX page i. -/
def mbxMap (i : Nat) : List RegSpec :=
  (List.range 4).flatMap fun l =>
    let b := 0x100 + 0x100 * l
    let m := 4 * i + l
    [ { off := b, reset := mbCfgReset m, rw := mbCfgRw m },           -- MB_CFG
      { off := b + 0x04 },                                            -- MB_STAT
      { off := b + 0x08, w1c := 0x1F },                               -- MB_FLAG
      { off := b + 0x0C, wo := all32 },                               -- MB_LOCK
      { off := b + 0x10, rw := 0xF00FFFFF },                          -- MB_CTL
      { off := b + 0x14 },                                            -- MB_TAG
      { off := b + 0x18 },                                            -- MB_EPOCH
      { off := b + 0x20, count := 8, wo := all32 },                   -- TX_W0 to TX_W7
      { off := b + 0x40, wo := all32 },                               -- TX_POST
      { off := b + 0x44 },                                            -- TX_RESULT
      { off := b + 0x60, count := 2 },                                -- RX_INFO0, RX_INFO1
      { off := b + 0x80, count := 8 } ]                               -- RX_W0 to RX_W7

/-- R313. -/
def evt0Map : List RegSpec :=
  [ { off := 0x020, wo := 0x3 },                                      -- SW_RAISE
    { off := 0x024, count := 2 },                                     -- CNT_MERGE, CNT_DMA_DROP
    { off := 0x040, count := 10, w1c := all32 },                      -- PEND0 to PEND9
    { off := 0x080, count := 8, rw := 0x3FFF },                       -- RTGT0 to RTGT7
    { off := 0x0A0, count := 2, w1c := all32 },                       -- MSIX_PEND0, MSIX_PEND1
    { off := 0x100, count := 320, rw := 0xBFBFBF00 } ]                -- ROUTE0 to ROUTE319

/-- R314. -/
def evt1Map : List RegSpec :=
  [ { off := 0x100, count := 640 },                                   -- TS_LO and TS_HI, in turn
    { off := 0xB00, count := 320 } ]                                  -- TS_INFO

/-- R167. -/
def timeMap : List RegSpec :=
  [ { off := 0x020, reset := 0x400, rw := 0x000F0F00, rwq := 0x7 },   -- CTL
    { off := 0x024 },                                                 -- STAT
    { off := 0x028 },                                                 -- NOW_FRAC
    { off := 0x02C, reset := 0xFFFFFFFF },                            -- BOUND
    { off := 0x030, count := 2 },                                     -- NOW_LO, NOW_HI
    { off := 0x038, count := 2, rws := all32 },                       -- SET_LO, SET_HI
    { off := 0x040, rws := 0xFF03 },                                  -- SET_CTL
    { off := 0x044, rws := all32 },                                   -- ADJ
    { off := 0x048, count := 6 } ]                                    -- RATE, OFFSET, PPS_LO, PPS_HI, PPS_FRAC, STEPS

/-- R148. -/
def clkSrcMap : List RegSpec :=
  [ { off := 0x020, rw := 0x301, aon := 0x1 },                        -- SRC_CTL
    { off := 0x024, reset := 0x100, aon := 0xC } ]                    -- SRC_STAT

def clkRootMap : List RegSpec :=
  [ { off := 0x020, count := 16, reset := 0x00210021, rw := 0x8000003F },   -- ROOT_CTL
    { off := 0x060, count := 16, rw := 0xFFFF } ]                           -- ROOT_ALIGN

/-- R149: the two PLLs of the page. -/
def clkPllMap : List RegSpec :=
  [0x020, 0x040].flatMap fun b =>
    [ { off := b, rw := 0x1, rwq := 0x00033F02 },                     -- PLL_CTL
      { off := b + 0x4, rwq := all32 },                               -- PLL_FB
      { off := b + 0x8, rwq := all32 },                               -- PLL_DIV
      { off := b + 0xC } ]                                            -- PLL_STAT

def clkXhardMap : List RegSpec :=
  [ { off := 0x020, count := 4, w1c := all32 },                       -- FEV_MERGE_LO/HI, FLN_MERGE_LO/HI
    { off := 0x030 } ]                                                -- XH_COUNT

/-- R150. -/
def clkBclkMap : List RegSpec :=
  [ { off := 0x040, count := 16, w1s := 0x8000 },                     -- XMERGE
    { off := 0x100, count := 128, rw := 0x8CFFFFFF } ]                -- BCLK

/-- R91. -/
def boughMap : List RegSpec :=
  [ { off := 0x020 },                                                 -- MODE
    { off := 0x024, rw := 0x00F0FF07, rwq := 0x00030000, w1s := 0x80 },   -- HS_CTL
    { off := 0x028 },                                                 -- HS_STAT
    { off := 0x02C },                                                 -- CADENCE
    { off := 0x030, reset := 0xFFFF },                                -- CAD_RANGE
    { off := 0x100, count := 64 } ]                                   -- DLY_RD

/-- R417. -/
def groveMap : List RegSpec :=
  (List.range 4).flatMap fun l =>
    let b := 0x100 + 0x40 * l
    [ { off := b, count := 2 },                                       -- GR_BOUNDS, GR_IOMASK
      { off := b + 0x08, rw := 0x3 },                                 -- GR_ISO_CFG
      { off := b + 0x0C, count := 3 } ]                               -- GR_STAT, GR_FAULT_FA, GR_SRC

/-- R178. -/
def edgeMap : List RegSpec :=
  [ { off := 0x020, rw := 0xF8F10000, rwq := 0x103 },                 -- CTL
    { off := 0x024 },                                                 -- STAT
    { off := 0x028, wo := all32 },                                    -- EQ_LO
    { off := 0x02C, wo := 0x80FF00FF },                               -- EQ_HI
    { off := 0x030, count := 3, rws := all32 },                       -- PER, RISE, FALL
    { off := 0x040, count := 2, rws := all32 },                       -- ANC_LO, ANC_HI
    { off := 0x048, rws := 0xFF },                                    -- ANC_FRAC
    { off := 0x050, count := 4 } ]                                    -- CAP_LO, CAP_HI, CAP_INFO, CAP_LOSTCNT

/-- R197: the eight channels of SDF page i. -/
def sdfMap : List RegSpec :=
  (List.range 8).flatMap fun j =>
    let b := 0x100 + 0x40 * j
    [ { off := b, rw := 0x101, rwq := 0x676 },                        -- CH_CTL
      { off := b + 0x04, rwq := all32 },                              -- CH_PINS
      { off := b + 0x08, reset := 0x00080004, rwq := 0x007F07FF },    -- CH_OSR
      { off := b + 0x0C, reset := 0x3200, rwq := 0xFFFF },            -- CH_CLKGEN
      { off := b + 0x10, reset := 0x7FFF8000, rw := all32 },          -- CH_THR
      { off := b + 0x14 },                                            -- CH_STAT
      { off := b + 0x18, w1c := 0xF },                                -- CH_FLAG
      { off := b + 0x1C, count := 5 } ]                               -- CH_OUT, CH_TS_LO, CH_TS_HI, CH_TS_INFO, CH_CMP

/-- R191. -/
def edgecalMap : List RegSpec :=
  [ { off := 0x020, reset := 0x04010032, rw := 0xFF01FFFF },          -- CAL_CTL
    { off := 0x024 },                                                 -- CAL_STAT
    { off := 0x030, w1s := 0xFFFFFFFE },                              -- GRP_COMMIT
    { off := 0x100, count := 64, rw := 0xFFFF },                      -- OUT_OFS
    { off := 0x200, count := 64, rw := 0xFFFF },                      -- IN_OFS
    { off := 0x300, count := 64 } ]                                   -- AGE

/-- R237. -/
def loopMap : List RegSpec :=
  [ { off := 0x020, rws := 0xFF },                                    -- LANE_CTL
    { off := 0x024, rw := 0x43FF001F, w1s := 0x80000000 },            -- CTX_COMMIT
    { off := 0x028 },                                                 -- COMMIT_STAT
    { off := 0x02C, wo := 0xE3FF001F },                               -- ABSEIL_CMD
    { off := 0x030, rw := 0x800FFFFF },                               -- HB0_CTL
    { off := 0x034, rw := 0x9FFFFFFF },                               -- HB1_CTL
    { off := 0x038, w1s := 0x1 },                                     -- HB_KICK
    { off := 0x03C },                                                 -- HB_STAT
    { off := 0x040, rw := 0x3FF },                                    -- STATE_SEL
    { off := 0x044, rw := 0x80000000, rwq := 0x1F },                  -- LOG_CTL
    { off := 0x048, rwq := 0xFFFFFFE0 },                              -- LOG_BASE_LO
    { off := 0x04C, rwq := all32 },                                   -- LOG_BASE_HI
    { off := 0x050, count := 2 },                                     -- LOG_WR, SLOT_PORT
    { off := 0x080, count := 96 },                                    -- ABS_MAP, SAFE_MAP, RUN_MAP
    -- STATE0 to STATE15 (R207, R210): low words, high words, and words 14 and 15
    { off := 0x200, count := 7, stride := 8, rwq := all32 }, { off := 0x204, count := 7, stride := 8, rwq := 0xFFFF },
    { off := 0x238, rwq := all32 }, { off := 0x23C, rwq := 0xF } ]

/-- The access mask of the writable bits of word w (16 to 59) of a context record (R208, R209). -/
def ctxMask (w : Nat) : Nat :=
  match w with
  | 16 => 0xFF1FC01F        -- CTL
  | 17 => 0x1FF             -- TRIG
  | 20 => 0xFFC003FF        -- IN_A
  | 21 => 0xFFC003FF        -- IN_B
  | 54 => 0xFE03FFFF        -- OUT_DST
  | 55 => 0x00FFFFFF        -- OUT_PAR
  | 25 => 0xFFFF | 27 => 0xFFFF | 29 => 0xFFFF | 31 => 0xFFFF       -- high words of Q16.32 values
  | 47 => 0xFFFF | 49 => 0xFFFF | 51 => 0xFFFF | 53 => 0xFFFF
  | 57 => 0xFFFF | 59 => 0xFFFF
  | _ => all32

/-- The reset value of word w of a context record: 1.0 in A_GAIN, B0 and LL_C0 (R208). -/
def ctxReset (w : Nat) : Nat :=
  if w = 22 ∨ w = 32 ∨ w = 43 then 0x40000000 else 0

/-- R208: the sixteen records of LOOPCTX page i, words 16 to 63. -/
def loopctxMap : List RegSpec :=
  (List.range 16).flatMap fun n =>
    let b := 0x100 * n
    ((List.range 44).map fun j =>
      ({ off := b + 0x40 + 4 * j, reset := ctxReset (16 + j), rws := ctxMask (16 + j) } : RegSpec)) ++
    [ { off := b + 0xF0 },                                            -- STAT
      { off := b + 0xF4, w1c := 0x803F },                             -- FLAG
      { off := b + 0xF8, count := 2 } ]                               -- OUT

/-- R336, R192: banks 8 to 19 carry IOCFG. -/
def iobMap (b : Nat) : List RegSpec :=
  [ { off := 0x020, rw := 0x3 },                                      -- BANK_CFG
    { off := 0x024 },                                                 -- BANK_STAT
    { off := 0x028 },                                                 -- IN_LVL
    { off := 0x100, count := 16, stride := 8, reset := 1, rw := 0x1F3 },   -- PAD, even pins
    { off := 0x104, count := 16, stride := 8, reset := 1, rw := 0x0F3 } ]  -- PAD, odd pins
  ++ (if 8 ≤ b then [{ off := 0x200, count := 32, rw := 0xFFFF0080, rwq := 0xF330 }] else [])

/-- R340. -/
def pselMap : List RegSpec := [ { off := 0x100, count := 640, rws := 0xFFFF0300 } ]
def pcfgMap : List RegSpec := [ { off := 0x100, count := 640, reset := 0x000F0000, rw := 0x003F0000 } ]
def plockMap : List RegSpec :=
  [ { off := 0x020, wo := all32 },                                    -- LOCK
    { off := 0x024, count := 2 },                                     -- REF_CNT, REF_LAST
    { off := 0x100, count := 20 } ]                                   -- LOCKED

/-- R272. -/
def ropeMap : List RegSpec :=
  [ { off := 0x020, rwq := 0xFEFFFFFF },                              -- CFG
    { off := 0x024, rwq := 0xFF },                                    -- ROUTE
    { off := 0x028, rw := 0x1 },                                      -- CTL
    { off := 0x02C, reset := 0x200 },                                 -- STAT
    { off := 0x030, count := 7 } ]                                    -- PRES_LO to LIMITS

/-- R274. -/
def ropePortMap : List RegSpec :=
  [ { off := 0x020, rwq := 0xF },                                     -- PCTL
    { off := 0x024, count := 4 },                                     -- PSTAT, CODE_ERR, CRC_ERR, LOSSES
    { off := 0x034, w1s := 0x1 } ]                                    -- CNT_CLR

/-- R284. -/
def ropetimeMap : List RegSpec :=
  [ { off := 0x020, reset := 0x4, rw := 0x107 },                      -- TCTL
    { off := 0x024, count := 5 },                                     -- TSTAT, ARRIVAL, FWD, HOP_E, HOP_B
    { off := 0x038, count := 2, rw := 0xFFFF },                       -- HOP_ADJ_E, HOP_ADJ_B
    { off := 0x040, rw := all32 },                                    -- PPS_DLY
    { off := 0x044, reset := 0xFFFF },                                -- BUDGET
    { off := 0x048 } ]                                                -- MEAS

/-- R291. -/
def pubMap : List RegSpec :=
  [ { off := 0x020 },                                                 -- PUB_STAT
    { off := 0x100, count := 32, rw := 0xFF1F },                      -- PUB_CFG
    { off := 0x180, count := 32, rw := all32 } ]                      -- PUB_VAL

/-- R292. -/
def subMap : List RegSpec :=
  [ { off := 0x100, count := 64, rws := 0xC0003F1F },                 -- SUB_CFG
    { off := 0x200, count := 64 },                                    -- SUB_VAL
    { off := 0x300, count := 64, reset := 0x40000000 } ]              -- SUB_INFO

/-- R303. -/
def accMap : List RegSpec :=
  [ { off := 0x020, reset := 0x74, rw := 0x1FF },                     -- ACC_CTL
    { off := 0x024, count := 6 },                                     -- ACC_STAT, ACC_ERR, ACC_ADDR, CNT_RETX, CNT_FAIL, CNT_NAK
    { off := 0x03C, aon := all32 } ]                                  -- EPOCH

/-- R353. -/
def hostMap : List RegSpec :=
  [ { off := 0x020, reset := 0x05241F4A },                            -- PCI_ID
    { off := 0x024, reset := 0x4, rw := 0x7, w1s := 0x100 },          -- LINK_CTL
    { off := 0x028, count := 2 },                                     -- LINK_STAT, RESETS
    { off := 0x030, rws := 0xF0000000 },                              -- BAR4_LO
    { off := 0x034, rws := all32 },                                   -- BAR4_HI
    { off := 0x038, rw := 0x37F, aon := 0x37F },                      -- I2C_CFG
    { off := 0x03C } ]                                                -- I2C_STAT
  ++ ((List.range 4).flatMap fun d =>
    let b := 0x040 + 0x20 * d
    [ { off := b, reset := 0x5, rw := 0x80000000, rwq := 0x4000001F },   -- CTL
      { off := b + 0x04, rw := all32 },                               -- RD_IDX
      { off := b + 0x08, rwq := 0xFFFFF000 },                         -- BASE_LO
      { off := b + 0x0C, rwq := all32 },                              -- BASE_HI
      { off := b + 0x10, rwq := 0xFFFFFFFC },                         -- WB_LO
      { off := b + 0x14, rwq := all32 },                              -- WB_HI
      { off := b + 0x18, count := 2 } ])                              -- WR_IDX, DROPS
  ++ [ { off := 0x400, count := 64, stride := 16, rw := all32 },      -- MSI-X address, low
       { off := 0x404, count := 64, stride := 16, rw := all32 },      -- MSI-X address, high
       { off := 0x408, count := 64, stride := 16, rw := all32 },      -- MSI-X data
       { off := 0x40C, count := 64, stride := 16, reset := 1, rw := 0x1 },   -- MSI-X vector control
       { off := 0x800, count := 4 } ]                                 -- PBA

/-- R380 to R384. -/
def dramCtlMap : List RegSpec :=
  [ { off := 0x020, reset := 0x100, rw := 0xF01 },                    -- CTL
    { off := 0x024 },                                                 -- STAT
    { off := 0x028, reset := 0x08000040, rw := all32 },               -- AGE01
    { off := 0x02C, reset := 0x80002000, rw := all32 },               -- AGE23
    { off := 0x030, count := 6 } ]                                    -- PROMOTED, USABLE

def dramTimingMap : List RegSpec :=
  [ { off := 0x020, rwq := 0x7F }, { off := 0x024, rwq := all32 }, { off := 0x028, rwq := all32 },
    { off := 0x02C, rwq := 0x00FFFFFF }, { off := 0x030, rwq := 0x000103FF } ]

def dramPortsMap : List RegSpec :=
  [ { off := 0x100, count := 8, reset := 2, rwq := 0xF3 },            -- PORT_CFG
    { off := 0x140, count := 8 }, { off := 0x180, count := 8 } ]      -- PORT_REQ, PORT_ERR

def dramEccMap : List RegSpec :=
  [ { off := 0x020, count := 5 },                                     -- SBE_CNT to ERR_INFO
    { off := 0x034, reset := 0x00010018, rw := 0x1FFFF },             -- SCRUB_CTL
    { off := 0x038, count := 2 } ]                                    -- SCRUB_POS, SCRUB_PASSES

def dramTrainMap : List RegSpec := [ { off := 0x100, count := 9 } ]

/-- R434. -/
def flashMap : List RegSpec := [ { off := 0x020, count := 5 } ]

/-- R449. -/
def settingsMap : List RegSpec := [ { off := 0x020, count := 5 } ]

/-- R540. -/
def heartMap : List RegSpec := [ { off := 0x020, count := 6 } ]

/-- The block registers of a page. -/
def pageMap (i : PageInfo) : List RegSpec :=
  match i.kind with
  | .none => [] | .headerOnly => []
  | .sys => sysMap | .pmu => pmuMap | .supply => supplyMap | .rtc => rtcMap | .lc => lcMap | .cfg => cfgMap
  | .scrub => scrubMap | .pitch => pitchMap | .mbx => mbxMap i.inst | .evt0 => evt0Map | .evt1 => evt1Map
  | .time => timeMap | .clkSrc => clkSrcMap | .clkRoot => clkRootMap | .clkPll => clkPllMap
  | .clkXhard => clkXhardMap | .clkBclk => clkBclkMap | .bough => boughMap | .grove => groveMap
  | .edge => edgeMap | .sdf => sdfMap | .edgecal => edgecalMap | .loop => loopMap | .loopctx => loopctxMap
  | .iob => iobMap i.inst | .psel => pselMap | .pcfg => pcfgMap | .plock => plockMap | .rope => ropeMap
  | .ropePort => ropePortMap | .ropetime => ropetimeMap | .pub => pubMap | .sub => subMap | .acc => accMap
  | .host => hostMap | .dramCtl => dramCtlMap | .dramTiming => dramTimingMap | .dramPorts => dramPortsMap
  | .dramEcc => dramEccMap | .dramTrain => dramTrainMap | .flash => flashMap | .settings => settingsMap
  | .heart => heartMap

/-- Does the map row hold the register at page offset o? -/
def RegSpec.holds (r : RegSpec) (o : Nat) : Bool :=
  r.off ≤ o && (o - r.off) % r.stride == 0 && (o - r.off) / r.stride < r.count

/-- The register at a byte offset of the region; `none` where no page lists one (R35). -/
def regSpec (a : Nat) : Option RegSpec :=
  let i := pageInfo (a / 0x1000)
  let o := a % 0x1000
  if i.kind = .none then Option.none
  else if o < 0x020 then headerMap.find? (·.holds o)
  else (pageMap i).find? (·.holds o)

/-- Pages whose block has an enable; on every other page PAGE_CTL.ENABLE reads 1 and ignores writes (R38). -/
def pageHasEnable (k : PageKind) : Bool :=
  match k with
  | .bough => true | .time => true | .edge => true | .sdf => true | .rope => true | .ropePort => true | .dramCtl => true
  | _ => false

/-- PAGE_ID (R37): TYPE, INSTANCE and REVISION 0x01. -/
def pageId (i : PageInfo) : Nat := i.ty <<< 20 ||| i.inst <<< 8 ||| 0x01

/-- The reset value of the register at a byte offset of the region. The header words that R36 calls "per page" follow
R34 and R38. -/
def regReset (a : Nat) : Word :=
  let i := pageInfo (a / 0x1000)
  match regSpec a with
  | some r =>
    BitVec.ofNat 32
      (match a % 0x1000 with
       | 0x000 => pageId i
       | 0x004 => if pageHasEnable i.kind then 0 else 1
       | 0x014 => if i.fixed then 0x80000002 else 0
       | _ => r.reset)
  | Option.none => 0

end Sys2Proof.Machine
end

