-- ==== Sys2Proof/Machine/State.lean ====
section
/-! DEFINITION. The machine state as plain data: one structure per part of the device, the whole state, and the state after reset. -/

namespace Sys2Proof.Machine

/-- Why a step could stop with a fault: no rule of the spec stops the device, so no command raises one. -/
inductive Fault where
  /-- Raised by no command. Kept so that the type is not empty; safe. -/
  | none
deriving DecidableEq, Repr

/-- Why a step could refuse a command. -/
inductive Refusal where
  /-- A command with no meaning yet, by mnemonic. Raised only by the dispatch; safe. -/
  | notModelled (mnemonic : String)
deriving DecidableEq, Repr

/-- The registers of the register region (R33), by byte offset. An offset not listed holds its reset value. -/
structure Regs where
  /-- The live and active copies: every bit but the shadow of an RWS bit. -/
  act : SMap Word := []
  /-- The shadow copies of RWS bits (R40). -/
  shd : SMap Word := []
  /-- The read latches of R47, at key requester × 2^24 + offset. -/
  snaps : SMap Word := []
  /-- Undefined behaviour in force (R56): case, page and channel of each extent. -/
  undefined : List (Nat × Nat × Nat) := []
  /-- The quiet-only registers rewritten, while their block was quiet, since case 1 or 2 arose there. -/
  requieted : List Nat := []
  /-- The boughs whose present cadence window is whole: it began after the latest release, CAD_CLR, or change of CAD_TWIG
  or CAD_CLK (R95). -/
  cadWhole : List Nat := []
deriving DecidableEq, Repr

/-- A rope-routed event record that waits for an access slot (R311). -/
structure RopeEvent where
  event : Nat
  target : Nat
  words : List Word
deriving DecidableEq, Repr

/-- The event controller beyond its registers. -/
structure Events where
  /-- Occurrences of each event since device reset, modulo 2^32 (R310). -/
  counts : SMap Word := []
  /-- Fabric event lines with an event launched and not yet delivered (R308, R157). -/
  lines : SMap Bool := []
  /-- Fabric events launched into their crossing and not yet delivered (R307). -/
  launched : SMap Bool := []
  /-- Rope-routed records that wait, oldest first (R311). -/
  ropeWait : List RopeEvent := []
deriving DecidableEq, Repr

/-- One message held in a mailbox (R317). -/
structure Msg where
  src : ReqId
  tag : BitVec 16
  epoch : BitVec 16
  words : List Word
  /-- Its place in the order of acceptance over all mailboxes. -/
  seq : Nat
deriving DecidableEq, Repr

/-- A mailbox beyond MB_CFG, MB_FLAG and MB_CTL. -/
structure Mailbox where
  msgs : List Msg := []
  lock : ReqId := 0
  tag : BitVec 16 := 0
  txEpoch : BitVec 16 := 0
  rxEpoch : BitVec 16 := 0
  /-- Staged words, at key requester × 8 + w (R317). -/
  staged : SMap Word := []
  /-- TX_RESULT of each requester. -/
  result : SMap Word := []
  /-- The message each requester has taken (R318): RX_INFO1, then words 0 to 7. -/
  taken : SMap (List Word) := []
  /-- The timer of R323 has run out on the present head. -/
  timedOut : Bool := false
deriving DecidableEq, Repr

/-- What the device sends to the host: posted memory writes, in order (R347, R351, R352). -/
inductive HostTlp where
  /-- A 32-byte event record, as eight words. -/
  | record (address : BitVec 64) (words : List Word)
  /-- The 4-byte write-back of WR_IDX. -/
  | writeBack (address : BitVec 64) (data : Word)
  /-- An MSI-X message. -/
  | msix (vector : Nat) (address : BitVec 64) (data : Word)
deriving DecidableEq, Repr

/-- The host port beyond its registers: the configuration-space state the host writes, and what has been sent. -/
structure HostPort where
  d3hot : Bool := false
  msixEnable : Bool := false
  functionMask : Bool := false
  /-- Link training is due or under way (R350, R353). -/
  training : Bool := false
  /-- MAX_GEN as the latest training used it (R353). -/
  trainedGen : Nat := 4
  /-- The sideband port (R356): its byte index, whether it acknowledged its address last, and the byte last read. -/
  i2cIndex : BitVec 8 := 0
  i2cAck : Bool := false
  i2cByte : Byte := 0
  sent : List HostTlp := []
deriving DecidableEq, Repr

/-- A step of device time that has been requested (R171). -/
inductive StepReq where
  /-- A STEP commit: device time becomes this value. -/
  | toValue (t : DevTime)
  /-- A servo step: device time moves by this many units of 1/256 ns. -/
  | byUnits (d : Int)
deriving DecidableEq, Repr

/-- The time base beyond its registers. -/
structure TimeBase where
  now : DevTime := 0
  /-- The TIMING PLL has locked and device time advances (R166). -/
  running : Bool := false
  /-- The frequency term f and the applied rate r of the servo, exact (R170). -/
  f : Rat := 0
  r : Rat := 0
  step : Option StepReq := none
  /-- The instant, of the old time, at which the step that is requested falls. -/
  stepAt : DevTime := 0
  /-- ADJ that waits for the next measurement, in units of 1/256 ns (R172). -/
  adj : Int := 0
  /-- A slew under REF_SRC NONE: its sign, and the device time it still takes at 400 ppm, in units (R172). -/
  slewUp : Bool := false
  slewLeft : Nat := 0
  /-- Consecutive measurements within the lock threshold (R175). -/
  good : Nat := 0
  /-- The reference has delivered no measurement for 4 intervals (R173). -/
  refLost : Bool := false
  /-- The TIMING PLL is in holdover (R174). -/
  holdover : Bool := false
  /-- REF_SRC was NONE and QUALITY LEADER at the loss of REFCLK (R174). -/
  leaderAtLoss : Bool := false
  /-- BOUND at the entry to the present QUALITY, and the device time of that entry (R175). -/
  boundAtEntry : Nat := 0xFFFFFFFF
  entryTime : DevTime := 0
  /-- DEGRADED or COARSE entered at a wake: BOUND stays at its value at entry (R175). -/
  fromWake : Bool := false
deriving DecidableEq, Repr

/-- An entry of the edge queue (R181). -/
structure QueueEntry where
  time : DevTime
  level : Bool
deriving DecidableEq, Repr

/-- An entry of the capture FIFO (R186). -/
structure Capture where
  time : DevTime
  falling : Bool
  quality : Nat
  lost : Bool
deriving DecidableEq, Repr

/-- An edge unit beyond its registers (R177 to R190). -/
structure EdgeUnit where
  queue : List QueueEntry := []
  /-- The head's time had passed when it reached the head, or a step skipped it (R182). -/
  headLate : Bool := false
  /-- EQ_LO staged by each requester (R181). -/
  stage : SMap Word := []
  level : Bool := false
  /-- The placement time of the last edge, OUT_OFS included. -/
  lastEdge : Option DevTime := none
  /-- The start of the present PWM period, and of the next (R183). -/
  pwmStart : Option DevTime := none
  pwmNext : Option DevTime := none
  riseDone : Bool := false
  fallDone : Bool := false
  captures : List Capture := []
  /-- The pad instant of the last recorded capture. -/
  lastCapture : Option DevTime := none
  captureLost : Bool := false
  /-- The latest changes of OUT_OFS and of IN_OFS, newest first: when, and the value before (R191). -/
  outWas : List (DevTime × Word) := []
  inWas : List (DevTime × Word) := []
  /-- The line in service: false A, true B. -/
  line : Bool := false
  calValid : Bool := false
  calLate : Bool := false
  /-- Device time at which the line in service was calibrated. -/
  calAt : Option DevTime := none
  /-- Background cycles since the line in service took over. -/
  calCycles : Nat := 0
  /-- The idle line is calibrated and its swap armed at this time (R189). -/
  armed : Option DevTime := none
  /-- The idle line failed calibration and stays out of service (R191). -/
  idleFailed : Bool := false
deriving DecidableEq, Repr

/-- A calibration engine (R188): a cycle is in progress, and the cycle that follows has fallen due. -/
structure CalEngine where
  active : Bool := false
  /-- Local pins whose idle line has been handled in the present cycle. -/
  handled : Nat := 0
  due : Bool := false
  /-- The start of the latest cycle. -/
  startedAt : Option DevTime := none
deriving DecidableEq, Repr

/-- A value that reaches the loop engine, a fabric sample slot among others (R214, R215): the value, its VALID indication and its arrival. -/
structure Slot where
  value : Int := 0
  valid : Bool := false
  arrival : Option DevTime := none
deriving DecidableEq, Repr

/-- An output that has been formed and reaches CH_OUT 40 ns after its last bit (R201). -/
structure SdfOutput where
  value : Word
  stamp : DevTime
  quality : Nat
  due : DevTime
deriving DecidableEq, Repr

/-- A sigma-delta channel beyond its registers (R196 to R203). -/
structure SdfChannel where
  started : Bool := false
  /-- The bits of the longest span, newest first, with their times. -/
  bits : List (Bool × DevTime) := []
  /-- Bits since the start. -/
  count : Nat := 0
  /-- Good bits since the last fault (R202). -/
  good : Nat := 0
  /-- The run of equal bits, and whether its fault has been noted (R198). -/
  run : Nat := 0
  runNoted : Bool := false
  /-- The last accepted EXT edge (R199). -/
  lastEdge : Option DevTime := none
  /-- The first rising edge of the clock that the channel generates, and the end of its last period once the channel stops (R196, R197). -/
  gen : Option DevTime := none
  stopEnd : Option DevTime := none
  /-- The start, or the clock edge of the latest bit: bits take later edges. -/
  since : DevTime := 0
  out : Option SdfOutput := none
  /-- The comparator crossed CMP_HI or CMP_LO at a bit of this time and QUALITY (R176, R203). -/
  hiTrip : Option (DevTime × Nat) := none
  loTrip : Option (DevTime × Nat) := none
  runTrip : Bool := false
  /-- Arrival time of the present CH_OUT at the loop engine, and the output before it (R214). -/
  arrival : Option DevTime := none
  before : Slot := {}
deriving DecidableEq, Repr

/-- An update whose output waits for its applied instant (R220). -/
structure LoopUpdate where
  tr : DevTime
  applyAt : DevTime
  o : Int
  y : Int
  r : Int
  quality : Nat
  /-- The update is the first in abseil, or the one that leaves it. -/
  enter : Bool
  leave : Bool
  sat : Bool
  /-- OUT_DST, OUT_PAR, SAFE and CTL.LOG of the record as read at t_r (R220). -/
  dst : Word
  par : Word
  safe : Int
  log : Bool
deriving DecidableEq, Repr

/-- A loop context beyond its record words 16 to 63: its state words 0 to 15 as numbers, and its trigger state. -/
structure LoopCtx where
  s1 : Int := 0
  s2 : Int := 0
  i : Int := 0
  d : Int := 0
  edPrev : Int := 0
  ll : Int := 0
  oPrev : Int := 0
  /-- Word 14. -/
  lastNs : Nat := 0
  clampHi : Bool := false
  clampLo : Bool := false
  first : Bool := false
  dtSat : Bool := false
  /-- Device time of the previous applied output, moved with every step, so that differences are elapsed time. -/
  lastApplied : DevTime := 0
  /-- The last values of IN_A and IN_B that were not stale (R214). -/
  goodA : Int := 0
  goodB : Int := 0
  /-- The last accepted trigger, moved with every step. -/
  lastTrigger : Option DevTime := none
  /-- Grid points and triggers before this device time are not taken. -/
  notBefore : DevTime := 0
  /-- ABSEIL_CMD RELEASE has named the context since the last cause was set (R231). -/
  released : Bool := false
  update : Option LoopUpdate := none
  /-- Arrival of OUT at its readers, and the output before it (R214). -/
  arrival : Option DevTime := none
  before : Slot := {}
  /-- A cause has been set, and the update that leaves abseil has not come yet (R227, R231). -/
  entered : Bool := false
  /-- The occurrences of TRIG, and the arrival of IN_A, that have been taken as triggers (R218). -/
  eventSeen : Word := 0
  sampleSeen : Option DevTime := none
  /-- Fabric slots the context reads that have not been written since their ports' release (R229, R234). -/
  slotsAwaited : List Nat := []
  /-- The age and VALID tests of the awaited slots stay suspended until this device time (R234). -/
  coastUntil : Option DevTime := none
  /-- LOOP:STATE has written the context since it became INVALID (R236). -/
  rewritten : Bool := false
deriving DecidableEq, Repr

/-- A heartbeat (R230): the device time of its last kick. -/
structure Heartbeat where
  lastKick : DevTime := 0
deriving DecidableEq, Repr

/-- A commit whose admission test runs (R224): the contexts it commits, the pages involved, and LANE_CTL if it
commits that. -/
structure LoopCommit where
  contexts : List Nat
  pages : List Nat
  laneCtl : Bool
  /-- The commit of the loop group: each context starts, one that runs already among them (R235). -/
  restart : Bool := false
deriving DecidableEq, Repr

/-- The loop engine beyond its registers. -/
structure LoopEngine where
  ctxs : SMap LoopCtx := []
  /-- Fabric input slots, and the word before the latest of each (R214, R215). -/
  slotsIn : SMap Slot := []
  slotsBefore : SMap Slot := []
  /-- Fabric output slots: the latest value, and those that still wait for their channel. -/
  slotsOut : SMap Slot := []
  slotsWaiting : List Nat := []
  /-- The request and the word of the outgoing channel of each slot port (R215). -/
  slotReq : SMap Bool := []
  slotWord : SMap (BitVec 64) := []
  /-- Arrival of the present value of each rope subscription entry, and the sample before it (R214). -/
  ropeArrival : SMap (Option DevTime) := []
  ropeBefore : SMap Slot := []
  /-- The slot ports held by a load (R233). -/
  held : List Nat := []
  hb0 : Heartbeat := {}
  hb1 : Heartbeat := {}
  commit : Option LoopCommit := none
deriving DecidableEq, Repr



/-- A publish sample beyond PUB_CFG and PUB_VAL: what has been written to it and when. -/
structure PubSample where
  /-- Written since SRC was last set (R287). -/
  written : Bool := false
  /-- The writes with their times, newest first, back to the one that the latest cycle sent (R286, R287). -/
  writes : List (DevTime × Word) := []
deriving DecidableEq, Repr

/-- A synchroniser of a LEVEL or EVENT crossing (R156, R157). -/
structure SyncCell where
  /-- The level taken at the latest receiving edge. -/
  sample : Bool := false
  /-- A change was not taken at the latest edge; the next edge takes it. -/
  missed : Bool := false
  /-- The level, or the pulse, that the receiver sees. -/
  out : Bool := false
  /-- An event waits; after this many receiving edges it is delivered. -/
  pend : Nat := 0
  /-- The input of an EVENT cell as last seen, and the changes launched that have not arrived (R155, R156). -/
  input : Bool := false
  flight : Nat := 0
deriving DecidableEq, Repr

/-- A block memory beyond its settings (R124 to R131). -/
structure Bram where
  rows : SMap (BitVec 72) := []
  /-- The bits of each row whose content is open (cases 3 and 4 of R56). -/
  openBits : SMap (BitVec 72) := []
  doutA : BitVec 36 := 0
  doutB : BitVec 36 := 0
  regA : BitVec 36 := 0
  regB : BitVec 36 := 0
  sbe : Bool := false
  dbe : Bool := false
  sbeReg : Bool := false
  dbeReg : Bool := false
  pitchReq : Bool := false
  pitchBusy : Bool := false
  /-- PITCH_GNT has not fallen since it granted a pitch (R131). -/
  granted : Bool := false
deriving DecidableEq, Repr

/-- The registers of a MAC block (R134, R135). -/
structure MacRegs where
  a : BitVec 27 := 0
  subA : Bool := false
  loadA : Bool := false
  b : BitVec 27 := 0
  c : BitVec 64 := 0
  m : Int := 0
  loadM : Bool := false
  p : BitVec 64 := 0
  ovf : Bool := false
deriving DecidableEq, Repr

/-- A twig controller or a wrapper (R103): its joined request after the matched delay, its joined acknowledge, and its
outputs. LE is high only inside a command (log 21). -/
structure Stage where
  rin : Bool := false
  aout : Bool := false
  rout : Bool := false
  ain : Bool := false
deriving DecidableEq, Repr

/-- The sending end of a channel (R160): the request and the acknowledge as transitions. -/
structure OutChan where
  req : Bool := false
  word : BitVec 64 := 0
  ack : SyncCell := {}
  /-- The request was held at 1 through a grove load and is still to be lowered (R116). -/
  lower : Bool := false
deriving DecidableEq, Repr

/-- The receiving end of a channel (R160). -/
structure InChan where
  /-- The request transition that has been taken. -/
  seen : Bool := false
  valid : Bool := false
  ack : Bool := false
  word : BitVec 64 := 0
  /-- The second word of the two-word stage between two handshake boughs (R161). -/
  next : Option (BitVec 64) := none
deriving DecidableEq, Repr

/-- One bough. GLOBAL_HOLD is asserted while HS_STAT.RELEASED reads 0; the timing mode is in BOUGH:MODE. -/
structure Bough where
  cfg : BoughCfg := {}
  /-- Flip-flops and latches, by leaf. -/
  q : SMap Bool := []
  bram : SMap Bram := []
  mac : SMap MacRegs := []
  /-- Controllers 0 to 255, memory wrappers 288 to 295, MAC wrappers 296 to 299. -/
  stage : SMap Stage := []
  och : SMap OutChan := []
  ich : SMap InChan := []
  /-- Down cells, and input taps at 256 + i. -/
  sync : SMap SyncCell := []
  /-- The toggles of EVENT up cells, and the level each last saw in a handshake bough. -/
  upToggle : SMap Bool := []
  upSeen : SMap Bool := []
  /-- The hold freeze of R113 is in force. -/
  holdFreeze : Bool := false
  /-- The bough is isolated (R87): its grove, and the value each up wire drives out of it. -/
  isolated : Option Nat := none
  isoVal : SMap Bool := []
  /-- The channel ends of the image before a grove load, while the bough is isolated (R116). -/
  wasOch : SMap ChanCfg := []
  wasIch : SMap ChanCfg := []
  /-- The leaves whose outputs lie on a combinational loop, and the level each has latched; none while it oscillates (R75). -/
  loop : List (Nat × Option Bool) := []
  /-- Counts of the present cadence window (R111). -/
  cadCount : Nat := 0
  /-- The end of the latest cadence window. -/
  cadEnd : DevTime := 0
  /-- Whole windows for which CAD_TWIG has had RIN = 1 without firing, and whether its request stood at the start of the
  present window (R94). -/
  stallCount : Nat := 0
  stallArmed : Bool := false
deriving DecidableEq, Repr

/-- A switch or a divider restart under way at a bough clock or a root clock (R151, R153). -/
structure ClockSwitch where
  /-- What drove the clock as it began: the root of a bough clock, the source code of a root clock. -/
  source : Nat := 0
  /-- The divider ratio that ran. -/
  ratio : Nat := 1
  /-- The input changes. -/
  moves : Bool := false
  /-- Rising edges of the old clock since the request. -/
  edges : Nat := 0
  /-- The last output period has ended: the output stays low and the old input is released. -/
  low : Bool := false
deriving DecidableEq, Repr

/-- The clock network beyond its registers. -/
structure Clocks where
  /-- The switches under way: bough clock c of bough b at 8b + c, root clock r at 1024 + r. -/
  switches : SMap (Option ClockSwitch) := []
  /-- The clocks that are high, numbered in the same way. -/
  high : List Nat := []
  /-- Rising edges of each root, and the count at which each divider without a fixed phase started (R153). -/
  ticks : SMap Nat := []
  start : SMap Nat := []
  /-- The alignment counters of the 16 roots (R153). -/
  align : SMap Nat := []
  /-- The modulus each counter runs with; a new ALIGN_MOD takes effect at the wrap. -/
  alignMod : SMap Nat := []
  /-- The falling edges that each root whose gate closes still passes, the one that stops it included (R154). -/
  stopping : SMap Nat := []
  /-- Bough clocks, numbered in the same way, that stay low until the counter of their root is 0 (R151, R153). -/
  toAlign : List Nat := []
  /-- The source the Guide clock now uses (R148), and whether it switches. -/
  guideClk : Nat := 0
  guideSw : Bool := false
  /-- The hold gate stops every bough clock (R154). -/
  holdGate : Bool := false
  /-- The crystal failed; XTAL32 is used again only after XTAL_EN has been written to 0 and then to 1 (R142). -/
  xtalFailed : Bool := false
  /-- PLLs under case 6 of R56. -/
  badPll : List Nat := []
deriving DecidableEq, Repr

/-- The fabric. -/
structure Fabric where
  /-- The configuration frames by frame index (R395); a frame not listed holds zeros. -/
  frames : SMap (BitVec 4096) := []
  boughs : SMap Bough := []
  place : Placement := {}
  clocks : Clocks := {}
  /-- Fabric events are unmasked and the slot and bus ports released, as a whole (R458). -/
  portsReleased : Bool := false
  /-- The bus ports are quiesced and fabric events masked, as in HOLD, in SERVICE and past the pin step of an entry (R26,
  R474). -/
  quiesced : Bool := false
  /-- Bits that upsets have changed in a frame's cells since it was written, and in its check cells (R413). -/
  upset : SMap (BitVec 4096) := []
  upsetCheck : SMap Word := []
deriving DecidableEq, Repr

/-- The registers of a standard pin (R193, R194). -/
structure BankReg where
  /-- Q0 sampled, and Q0 and Q1 as presented. -/
  q0s : Bool := false
  q1s : Bool := false
  q0 : Bool := false
  q1 : Bool := false
  /-- The bank word on its way to and from the fabric: three cycles, the last of them, towards the pad, in the output register. -/
  inPipe : List (Bool × Bool) := [(false, false), (false, false), (false, false)]
  outPipe : List (Bool × Bool) := [(false, false), (false, false)]
  /-- The output register at the pad. -/
  o : Bool := false
  /-- D1, which follows at the falling edge. -/
  d1 : Bool := false
  /-- D0 and D1 of a fabric clock that is not the root's at ratio 1 (R194). -/
  sync0 : SyncCell := {}
  sync1 : SyncCell := {}
deriving DecidableEq, Repr

/-- What a pad does: driven high or low, or its driver off with the pull of PAD, or with 50 kΩ down. -/
inductive Pad where
  | drive (level : Bool)
  | off
  | offDown
  | unpowered
deriving DecidableEq, Repr

/-- The row of R341 a pin follows, and the active PSEL it takes its source from in row 10. -/
structure PinRow where
  row : Nat := 2
  psel : Word := 0
  hold : Nat := 3
deriving DecidableEq, Repr

/-- A pin beyond its registers. -/
structure PinState where
  /-- The row and the source the pad now follows; while a park runs, the PARK level. -/
  now : PinRow := {}
  /-- A park runs, from e0 to e2 (R342): the level it shows. -/
  park : Option Nat := none
  /-- The level at which the board drives the ball, if it does (R337). -/
  board : Option Bool := none
  bank : BankReg := {}
deriving DecidableEq, Repr

/-- The JTAG instruction register and the boundary scan register (R522). -/
structure Scan where
  ir : Nat := 1
  /-- What the selected data register held at the last Capture-DR; `none`: the boundary scan register, whose cells stand below. -/
  dr : Option Nat := some 0x10524AF3
  /-- Each pin's boundary cell: its driver enable and its data. -/
  cell : SMap (Bool × Bool) := []
deriving DecidableEq, Repr

/-- The pins. -/
structure Pins where
  pin : SMap PinState := []
  scan : Scan := {}
  /-- The Guide has applied the pin hold table since the last device reset. -/
  tableApplied : Bool := false
  /-- A requester's arming of the lock sequence (R346): requester and pin. -/
  armed : SMap Nat := []
deriving DecidableEq, Repr

/-- A start of the device (R454, R461, R480). -/
inductive StartKind where
  | cold | reset | wakeSleep | wakeBivouac
deriving DecidableEq, Repr

/-- What follows once the power-up steps that wait have started. -/
inductive StartNext where
  /-- The domains are up: the Guide boots and applies the boot records. -/
  | boot (k : StartKind)
  /-- The fabric is up: the load of R400 begins. -/
  | load (k : StartKind)
  /-- The debit of a full load, and of a grove load, has started: hold or isolation begins. -/
  | hold
  | grove
deriving DecidableEq, Repr

/-- A power-state entry in progress (R474). -/
structure Entry where
  target : Nat
  /-- Abort points passed. -/
  passed : Nat
  /-- The mode at t0. -/
  mode : Nat
  call : Call
deriving DecidableEq, Repr

/-- Power, reset and the supply beyond their registers. -/
structure Power where
  /-- Device reset is asserted. -/
  inReset : Bool := true
  /-- The reset is a loss of VIN: a cold start follows. -/
  cold : Bool := true
  /-- A rail fault asserts the reset until the rails have started again (R468). -/
  railsDown : Bool := true
  /-- Rail faults to report at the next boot that completes. -/
  faults : Nat := 0
  entry : Option Entry := none
  /-- The call that entered the power state, whose response is due after the wake. -/
  sleeper : Option Call := none
  /-- A wake is in progress, from its latch to its release. -/
  waking : Bool := false
  /-- The retention banks whose signatures the wake finds failing, one bit each (R478). -/
  wakeFails : BitVec 16 := 0
  /-- The level of the wake budget in nJ (R482). -/
  level : Nat := 4000000
  /-- Power-up steps that wait, with their costs in µJ, and what follows the last. -/
  waiting : List Nat := []
  next : Option StartNext := none
  /-- The start that waits for the TIMING PLL and for every enabled PLL to lock (R146, R454). -/
  lockWait : Option StartKind := none
  /-- The signatures of the 16 retention banks, in the AON file (R12, R477); none formed yet is the empty list. -/
  signatures : List Word := []
  /-- T0, j0 and AON_SRC as latched at entry (R481). -/
  latched : Option (DevTime × Nat × Bool) := none
  /-- A crystal failure since the latch. -/
  xtalLapse : Bool := false
  /-- The time base is to be reconstructed at the TIMING PLL lock. -/
  rebuildTime : Bool := false
  /-- VIN has fallen below VIN_WARN and event 12 is still to come (R487). -/
  belowWarn : Bool := false
  /-- The brace write of the heartwood is due (R462), with the device time of the crossing and VIN. -/
  braceDue : Option (DevTime × Nat) := none
  /-- Junction temperature at the hottest point, in units of 1/8 °C, as last sampled. -/
  tj : Int := 200
  /-- Retention banks used for retired banks, the bank each of them replaces. -/
  bank14 : Option Nat := none
  bank15 : Option Nat := none
  /-- The loop group of the boot records is still to be written (R454). -/
  loopGroupDue : Bool := false
  /-- The commit of the loop group is to be requested when CONFIGURED becomes 1 (R459). -/
  loopCommitDue : Bool := false
  /-- A SAVE of a LOOPCTX shadow differed from its active copy at AP2 (R477). -/
  shadowDrop : Bool := false
  /-- PERST_N is asserted, as the board drives it. -/
  perst : Bool := false
deriving DecidableEq, Repr

/-- A request to the DRAM controller (R361, R362). -/
structure DramReq where
  port : Nat
  /-- Byte address of the first byte of its beat or line. -/
  addr : Nat
  write : Bool
  line : Bool
  be : BitVec 64
  data : BitVec 512
  close : Bool
  fence : Bool
  tag : BitVec 6
  cls : Nat
  promoted : Bool := false
  seq : Nat
  /-- Its read or write command has been issued. -/
  issued : Bool := false
  /-- Its data and ERR, once known; a write has its result from its acceptance on. -/
  result : Option (BitVec 512 × Bool) := none
  /-- It has been answered. -/
  answered : Bool := false
deriving DecidableEq, Repr

/-- A response: to a fabric port, or a completion to the host (R349, R362). -/
structure DramResp where
  port : Nat
  tag : BitVec 6
  write : Bool
  data : BitVec 512
  /-- ERR on a fabric port, EP on a host completion. -/
  err : Bool
deriving DecidableEq, Repr

/-- The DRAM controller and its DRAM beyond the registers and the data bytes. -/
structure Dram where
  /-- The difference between the stored check bits of a word and those its data calls for, by byte address / 8. -/
  chk : SMap (BitVec 8) := []
  queue : List DramReq := []
  /-- Requests that wait at their port for an entry, a clock or a fence. -/
  atPort : List DramReq := []
  responses : List DramResp := []
  seq : Nat := 0
  /-- Open rows: row + 1 by bank number (rank, bank, bank group). -/
  rows : SMap Nat := []
  /-- Refreshes postponed, by rank. -/
  postponed : SMap Nat := []
  /-- Ports whose clock measures above 402 MHz. -/
  fast : List Nat := []
  /-- The rank of the next re-trim, and the ranks that a wake has still to re-trim before requests resume (R373, R378). -/
  trim : Nat := 0
  wakeTrim : List Nat := []
  /-- The DRAM is in self-refresh, and so keeps its data through a reset. -/
  selfRefresh : Bool := false
  /-- The data is kept through the training that runs. -/
  keep : Bool := false
  /-- Self-refresh was entered for a brace. -/
  forBrace : Bool := false
  /-- Timings that do not match the parts have been in force (case 8 of R56): no word but those rewritten since, by byte address / 8, holds
  anything defined. -/
  lost : Option (List Nat) := none
  /-- A brace stopped the training, which starts again when the device leaves HOLD (R464). -/
  trainStopped : Bool := false
deriving DecidableEq, Repr

/-- The header fields the load keeps (R386). -/
structure Image where
  src : Nat := 0
  /-- Byte address of the image's first byte: in flash, or in DRAM. -/
  base : Nat := 0
  svn : Nat := 0
  iface : Word := 0
  streamOfs : Nat := 0
  streamLen : Nat := 0
  mapOfs : Nat := 0
  mapLen : Nat := 0
  /-- NONCE0, key 0 as WRAPPED_KEY0 gives it, and STREAM_DIGEST. -/
  nonce0 : List Byte := []
  key0 : List Byte := []
  digest : Nat := 0
deriving DecidableEq, Repr

/-- The phase of a load (R400, R407). -/
inductive LoadPhase where
  /-- The wake budget has not yet covered the load. -/
  | budget
  | wipe | stream | release
deriving DecidableEq, Repr

/-- A full or grove load. -/
structure Load where
  image : Image
  grove : Option Nat
  phase : LoadPhase := .budget
  /-- Stream bytes consumed, packets taken, and FRAME packets of the present segment. -/
  pos : Nat := 0
  pkt : Nat := 0
  seg : Nat := 0
  /-- The key and the nonce base of the present segment, and the packet it starts with (R391). -/
  key : List Byte := image.key0
  nonce : List Byte := image.nonce0
  segStart : Nat := 0
  /-- The stream bytes read, for the digest (R393). -/
  stream : List Byte := []
  /-- Frame index of the latest FRAME. -/
  last : Option Nat := none
  /-- Running CRC-32 over the checks, before the final inversion. -/
  crc : Word := 0xFFFFFFFF
  usercode : Word := 0
  /-- A KEY_ROLL is due before the next FRAME. -/
  rollDue : Bool := false
  /-- FRAME packets taken. -/
  total : Nat := 0
  /-- LOGIC frames taken, and memory frames taken by memory number. -/
  logic : Nat := 0
  mem : SMap Nat := []
  /-- Ranks released. -/
  ranks : Nat := 0
  portsDone : Bool := false
  pinsDone : Bool := false
  svnCommit : Bool := false
  setBoot : Bool := false
  /-- The load is the fallback of R401, and no further fallback follows. -/
  fallback : Bool := false
  /-- The load rewrites logic frames only, for ESS_ACTION (R414). -/
  logicOnly : Bool := false
  /-- The load leaves SERVICE: the loop group is written from its hold (R461). -/
  service : Bool := false
  /-- Device time at the hold. -/
  t0 : DevTime := 0
deriving DecidableEq, Repr

/-- A read-back in progress (R410): a grove or all boughs, the buffer, and T_CAP. -/
structure Readback where
  grove : Option Nat
  buffer : Nat
  tcap : DevTime
deriving DecidableEq, Repr

/-- The configuration engine and the scrubber beyond their registers. -/
structure CfgEngine where
  load : Option Load := none
  /-- The loaded full image, and the partial image of each grove. -/
  full : Image := {}
  groves : SMap Image := []
  readback : Option Readback := none
  /-- A failed load whose fallback is still to be tried: the bank that failed. -/
  fallbackFrom : Option Nat := none
  /-- The boot bank as the settings store has it, 0 A and 1 B. -/
  bootBank : Nat := 0
  /-- ESSENTIAL upsets whose actions wait, in the order found: the bough of each frame (R414). -/
  essBough : List Nat := []
  /-- The next frame the scrubber reads: 0 to 8,191 logic, then CLOCK MINOR 8 to 10. -/
  scrubPos : Nat := 0
  /-- A map block CRC failure has been reported in this pass. -/
  mapFault : Bool := false
deriving DecidableEq, Repr

/-- The flash operation in progress (R424, R425). -/
structure FlashOp where
  erase : Bool
  /-- The line or the sector being worked on, as a byte address. -/
  addr : Nat
  /-- Lines or sectors still to come, this one included. -/
  left : Nat
  done : Nat
  pulses : Nat := 0
  /-- The data still to be programmed, line by line. -/
  data : List Byte := []
  tempWait : Bool := false
  /-- The long call has ended: a suspended or resumed erase (R428). -/
  detached : Bool := false
  /-- A patch installation, which ends with a commit of the Guide (R432). -/
  patch : Option Nat := none
  /-- A retirement that waits until flash may be erased (R4, R430), and whether the erase that calls for it verified. -/
  retire : Option Bool := none
deriving DecidableEq, Repr

/-- The flash array and its controller. -/
structure Flash where
  /-- The content by physical byte address; a byte nothing has programmed reads 0xFF. -/
  bytes : SMap Byte := []
  /-- Status by physical sector: 0 READY, 1 ERASE_OPEN, 2 RETIRED. -/
  status : SMap Nat := []
  /-- The physical lines, by address / 32, whose program was interrupted during its pulses (R431). -/
  half : List Nat := []
  /-- Remapped sectors: the spare that serves each (R430). -/
  remap : SMap Nat := []
  op : Option FlashOp := none
  /-- The erase that SVC_FLASH_SUSPEND has suspended (R428). -/
  parked : Option FlashOp := none
  /-- The latest operation reached its pulse limit (R435). -/
  fail : Bool := false
  /-- The active patch slot: 0 none, 1 slot 0, 2 slot 1; and its version. -/
  patchSlot : Nat := 0
  patchVersion : Word := 0
  /-- A new slot takes effect at the next device reset. -/
  patchNext : Option (Nat × Word) := none
deriving DecidableEq, Repr

/-- A record of a settings transaction: its ID, or the removal of it, and its data (R440). -/
structure SetRec where
  id : Nat
  delete : Bool
  data : List Byte
deriving DecidableEq, Repr

/-- A staged record: its data, or the DRAM buffer and length from which the commit reads them (R448). -/
structure StageRec where
  id : Nat
  delete : Bool
  data : List Byte
  buffer : Option (Nat × Nat) := none
deriving DecidableEq, Repr

/-- A committed transaction in the log: its TSN, the address of its first line, and its records. -/
structure SetTx where
  tsn : Word
  addr : Nat
  recs : List SetRec
deriving DecidableEq, Repr

/-- The settings store (R439 to R449). -/
structure Settings where
  /-- The committed transactions, oldest first. -/
  txs : List SetTx := []
  /-- The next line of the log, and the written sectors, oldest first. -/
  head : Nat := 0x1C00000
  written : List Nat := []
  tsn : Word := 0
  /-- Staged transactions by caller: request mailbox, or 0x200 + node. -/
  staged : List (Nat × List StageRec) := []
  /-- Deferred commits, oldest first. -/
  deferred : List (Nat × List SetRec) := []
  /-- The clamp log of R453, 16 bytes an entry as four words. -/
  clampLog : List (List Word) := []
deriving DecidableEq, Repr

/-- A targeted check (R495). -/
structure Check where
  elem : Word
  source : Nat
  /-- NOT_RUN results so far. -/
  tries : Nat := 0
  /-- It waits for PITCH_RETRY. -/
  waits : Bool := false
  /-- A DRAM line: its word with the error. -/
  word : Nat := 0
  /-- A DRAM line: that word has been written back or rewritten, so that the next read decides (R496). -/
  ready : Bool := false
deriving DecidableEq, Repr

/-- A pitch in progress: its element, its source, and whether it is targeted. -/
structure Pitch where
  elem : Word
  source : Nat
  targeted : Bool
  tries : Nat := 0
  /-- It waits for PITCH_GNT (R131). -/
  waitGrant : Bool := false
deriving DecidableEq, Repr

/-- The BIST engine beyond its registers (R493 to R509). -/
structure Bist where
  queue : List Check := []
  running : Option Pitch := none
  /-- A requested pitch that waits for the engine (R508). -/
  request : Option Pitch := none
  /-- A holdoff runs, to this device time (R501). -/
  holdoff : Option DevTime := none
  /-- A periodic pitch has fallen due and waits, with whether its cycle is late. -/
  due : Option Bool := none
  /-- A full BIST run is in progress (R5, R136, R510), and stops at its next pitch boundary. No command starts one (log 88). -/
  full : Bool := false
  fullStops : Bool := false
deriving DecidableEq, Repr

/-- A debug session beyond DBG_STAT, and the JTAG register of DEBUG_ACCESS (R520, R523). -/
structure Debug where
  done : Bool := false
  refused : Bool := false
  data : Word := 0
deriving DecidableEq, Repr

/-- The counters of a COUNT entry (R528). -/
structure HeartCount where
  powerCycles : Nat := 0
  epochSeed : BitVec 16 := 0
  poweredS : Nat := 0
  sleptS : Nat := 0
  temp : SMap Nat := []
  tjMax : Int := 0
  tjMin : Int := 0
  /-- BRACES, UNBRACED, SLEPT_LOW, RAIL_FAULTS, OV at 0 to 4. -/
  vin : SMap Nat := []
  loadsA : Nat := 0
  loadsB : Nat := 0
  loadFails : Nat := 0
  groveLoads : Nat := 0
  commits : Nat := 0
  /-- ERR[k][r] at 8k + r. -/
  err : SMap Nat := []
deriving DecidableEq, Repr

/-- A supply-fail record (R529). -/
structure FailRec where
  calendar : Nat
  quality : Nat
  unbraced : Bool
  stale : Bool
  vin : Nat
  ns : Nat
deriving DecidableEq, Repr

/-- A repair-list entry (R529). -/
structure Repair where
  elem : Word
  calendar : Nat
  retired : Bool
  spare : Nat
  source : Nat
deriving DecidableEq, Repr

/-- What the heartwood holds: the working copy, or the copy in flash (R526, R531). -/
structure HeartCopy where
  count : HeartCount := {}
  /-- Erase counts by sector. -/
  erase : SMap Nat := []
  repairs : List Repair := []
  fails : List FailRec := []
  calendar : Nat := 0
  calState : Nat := 0
deriving DecidableEq, Repr

/-- The heartwood. -/
structure Heart where
  work : HeartCopy := {}
  flash : HeartCopy := {}
  /-- A base with a verified BASE_END is in flash. -/
  valid : Bool := false
  /-- The last flash entry is a BRACE entry, or a COUNT of a BIVOUAC or OFF entry (R533). -/
  clean : Bool := false
  /-- The heartwood sector in use, 0 to 7, and its next free line. -/
  sector : Nat := 0
  /-- SEQ of the latest flash entry. -/
  seq : Word := 0
  line : Nat := 0
  /-- The erased sectors. -/
  oldest : Nat := 0
  /-- A write is deferred (R532). -/
  deferred : Bool := false
  /-- A sector erase changed the working copy and its ERASE piece is not yet written. -/
  erasePending : Option Nat := none
deriving DecidableEq, Repr

/-- What a leader or an anchor keeps of the rope it leads (R257 to R267). -/
structure Lead where
  /-- The next CYCLE_NO. -/
  cycleNo : BitVec 32 := 0
  /-- The latest frame sent, and the latest returned frame with its SEEN bits. -/
  sent : Option CycleFrame := none
  returned : Option CycleFrame := none
  /-- Consecutive returned frames in which SEEN bit p was 1, and in which it was 0. -/
  ones : SMap Nat := []
  zeros : SMap Nat := []
  /-- The CHANGE field in progress: COUNT, RATE_CHG, NEW_RATE, HEAL. -/
  count : Nat := 0
  rateChg : Bool := false
  newRate : Bool := false
  heal : Bool := false
  /-- Stopped by R253 until ENABLE is cleared and set again. -/
  stopped : Bool := false
  /-- CYCLE_NO and time of the latest 16 frames sent: one that comes back late is known by them (R253, R260). -/
  past : List (BitVec 32 × DevTime) := []
deriving DecidableEq, Repr

/-- A request that has no response yet (R297, R298). -/
structure RopeReq where
  seq : BitVec 12
  requester : ReqId
  addr : BitVec 24
  body : AccBody
  /-- Sends made so far; 0 while the frame waits for its first slot. -/
  sends : Nat
  /-- The call that a reply of the Guide answers, and whether a mailbox has refused that reply before (R329). -/
  reply : Option (Call × Bool) := none
  /-- A host read whose completion a host-side reset discards (R350). -/
  discard : Bool := false
deriving DecidableEq, Repr

/-- An access that has no room yet: its destination node and its request, whose SEQ, SYNC and EPOCH are to come (R302). -/
structure Stalled where
  node : Nat
  req : RopeReq
deriving DecidableEq, Repr

/-- A read that waits for the snapshot that an outstanding read of the same requester latches (R296). -/
structure LatchWait where
  requester : Nat
  node : Nat
  addr : Nat
deriving DecidableEq, Repr

/-- The pair of this node as origin with one destination. -/
structure Pair where
  next : BitVec 12 := 0
  /-- The next request carries SYNC = 1; so at reset (R299). -/
  sync : Bool := true
  out : List RopeReq := []
deriving DecidableEq, Repr

/-- The pair of this node as destination with one origin. -/
structure Peer where
  epoch : BitVec 16 := 0
  expect : BitVec 12 := 0
  /-- The stored responses, by SEQ (R297). -/
  stored : SMap AccBody := []
  /-- Mailboxes that refuse this pair until SYNC = 1, with the status (R301). -/
  refused : SMap Nat := []
deriving DecidableEq, Repr

/-- The rope controller beyond its registers. -/
structure Rope where
  own : Lead := {}
  br : Lead := {}
  /-- The join checks have passed; the node opens at the next cycle boundary (R268). -/
  checked : Bool := false
  /-- ENABLE has been set, or BELAY cleared, while the node leaves: it listens once it has left. -/
  again : Bool := false
  /-- The wrapped WEST or EAST port has not yet been clean for 1 ms (R264). -/
  nrWest : Bool := false
  nrEast : Bool := false
  /-- The active cycle code of the own rope as last seen at 5 Gbaud, to which a rate switch returns (R257, R265). -/
  code5 : Option Nat := none
  /-- The access slots filled in the present cycle, on the own rope and on the branch rope (R261). -/
  filled : Nat := 0
  brFilled : Nat := 0
  /-- HEAL has counted down: the node unwraps at this boundary. -/
  healNow : Bool := false
  /-- RATE_CHG has counted down: the rate to switch to. -/
  rateTo : Option Bool := none
  brRateTo : Option Bool := none
  /-- CYCLE_NO[11:0] and arrival of the CSTART last received on WEST_RX, and the same of the CSTART last sent (R276). -/
  westIn : Option (BitVec 12 × DevTime) := none
  eastOut : Option (BitVec 12 × DevTime) := none
  branchOut : Option (BitVec 12 × DevTime) := none
  /-- The latest hop measurements, doubled, newest first: EAST at keys 0 (5 Gbaud) and 1, BRANCH at 2 and 3 (R276). -/
  hop : SMap (List Int) := []
  /-- The own rope, or the branch rope, runs at a rate for which it had no measurement as that rate began (R276). -/
  oldHop : Bool := false
  oldHopBr : Bool := false
  /-- The HOP frame last sent: SEQ and TURN. -/
  hopSent : Option (BitVec 12 × Word) := none
  pairs : SMap Pair := []
  peers : SMap Peer := []
  /-- The latest EPOCH seen in a response or NAK of each node (R299). -/
  seenEpoch : SMap (BitVec 16) := []
  /-- The latest EPOCH that any frame of each node carried (R321). -/
  lastEpoch : SMap (BitVec 16) := []
  /-- Frames that wait for an access slot, with the branch flag; and frames sent, in order. -/
  waiting : List (Bool × AccFrame) := []
  sent : List (Bool × AccFrame) := []
  /-- Accesses that stall, oldest first, and reads that wait for a snapshot (R296, R302). -/
  stalled : List Stalled := []
  latchWait : List LatchWait := []
  /-- TX_W words staged for remote mailboxes, and EQ_LO words for remote EDGE pages (R296, R326). -/
  stagedTx : SMap Word := []
  stagedEq : SMap Word := []
deriving DecidableEq, Repr

/-- A response that has been formed: the call it answers and its eight words. -/
structure Reply where
  call : Call
  words : List Word
deriving DecidableEq, Repr

/-- A long call in progress (R329). -/
structure LongCall where
  svc : Nat
  call : Call
deriving DecidableEq, Repr

/-- The Guide beyond its blocks. -/
structure Guide where
  /-- The request taken and not yet carried out: its SVC number and its call. -/
  taken : Option (Nat × Call) := none
  long : Option LongCall := none
  /-- Responses that their reply mailbox has refused (R329). -/
  held : List Reply := []
  /-- Rope replies refused with FULL or NOT_SENDER, to be sent again. -/
  ropeHeld : List Reply := []
  /-- The request posted through GUIDE_CALL, with its place in the order of posts, and the latest response (R523). -/
  jtagReq : Option (Nat × List Word) := none
  jtagResp : List Word := []
  jtagRespValid : Bool := false
deriving DecidableEq, Repr

/-- The OTP of a device: the variant, which fixes what it is shipped with (R2, R5), the words that differ from that, and those of the
AON shadow, which every use reads (R437). -/
structure Otp where
  variant : Variant := .i
  words : SMap (BitVec 64) := []
  shadow : SMap (BitVec 64) := []
  deriving DecidableEq, Repr

/-- The machine state: everything the spec gives the device, as plain data. -/
structure State where
  /-- The commands that wait, oldest first. -/
  pending : List Instr
  /-- The model's own counter: how many free values have been drawn (log 1). -/
  freeIx : Nat
  /-- The register pages. -/
  regs : Regs
  /-- The data the latest register read returned to its requester. -/
  lastRead : Word
  /-- The event controller. -/
  evt : Events
  /-- The 32 mailboxes (R315); one not listed is as after device reset. -/
  mbx : SMap Mailbox
  /-- Posts accepted so far, over all mailboxes: the order of R329. -/
  mbSeq : Nat
  /-- The host port. -/
  host : HostPort
  /-- The boughs whose present cadence window contains a step or the wrap of device time (R111). -/
  cadenceStep : List Nat
  /-- The time base and its servo (R164 to R175). -/
  time : TimeBase
  /-- The 256 edge units, by precision pin (R177); one not listed is as after device reset. -/
  edge : SMap EdgeUnit
  /-- The four calibration engines (R188), by EDGECAL instance. -/
  cal : SMap CalEngine
  /-- The 64 sigma-delta channels (R196); one not listed is as after device reset. -/
  sdf : SMap SdfChannel
  /-- The loop engine (R204 to R242). -/
  loop : LoopEngine
  /-- The content of the DRAM, by byte address; a byte nothing has written reads 0 (log 6). -/
  dramMem : SMap Byte
  /-- The 32 publish samples of the node (R286). -/
  pub : SMap PubSample
  /-- The fabric (R58 to R163) and its configuration cells (R394 to R399). -/
  fabric : Fabric
  /-- The pins (R333 to R346). -/
  pins : Pins
  /-- Power states, resets and the supply (R454 to R487). -/
  power : Power
  /-- The DRAM controller (R357 to R384). -/
  dram : Dram
  /-- The configuration engine (R385 to R419). -/
  cfg : CfgEngine
  /-- The embedded flash (R420 to R436). -/
  flash : Flash
  /-- The OTP, and with it the variant that was shipped (R2, R437). -/
  otp : Otp
  /-- The settings store and the clamp log (R439 to R453). -/
  settings : Settings
  /-- The BIST engine and its checks (R493 to R509). -/
  bist : Bist
  /-- The DEBUG_ACCESS register of the JTAG port (R523). -/
  debug : Debug
  /-- OTP words whose programming began and has not verified (R438). -/
  otpOpen : List Nat
  /-- The heartwood (R526 to R533). -/
  heart : Heart
  /-- The rope controller (R243 to R303). -/
  rope : Rope
  /-- The latest failed host read over the rope completed with Unsupported Request status (R302). -/
  lastUr : Bool
  /-- The Guide as a server of calls (R328 to R332). -/
  guide : Guide
deriving DecidableEq, Repr

/-- The machine right after reset: the power-on reset state, with an empty queue. -/
def State.reset : State :=
  { pending := [],
    freeIx := 0,
    regs := {},
    lastRead := 0,
    evt := {},
    mbx := [],
    mbSeq := 0,
    host := {},
    cadenceStep := [],
    time := {},
    edge := [],
    cal := [],
    sdf := [],
    loop := {},
    dramMem := [],
    pub := [],
    fabric := {},
    pins := {},
    power := {},
    dram := {},
    cfg := {},
    flash := {},
    otp := {},
    settings := {},
    bist := {},
    debug := {},
    otpOpen := [],
    heart := {},
    rope := {},
    lastUr := false,
    guide := {} }

end Sys2Proof.Machine
end

