-- ==== Sys2Proof/Machine/Ops.lean ====
section
/-! DEFINITION. The shared operations: sparse stores, bit fields, free values, the register file, device time. -/

namespace Sys2Proof.Machine

/-- The IDCODE (R522, R565). -/
def idcode : Nat := 0x10524AF3

/-! ### Sparse stores -/

/-- The value at key k; a key not listed reads as its default. -/
def SMap.get {α : Type} (d : Nat → α) (m : SMap α) (k : Nat) : α :=
  match m with
  | [] => d k
  | (j, v) :: t => if j = k then v else SMap.get d t k

/-- The store with key k removed. -/
def SMap.erase {α : Type} (m : SMap α) (k : Nat) : SMap α :=
  match m with
  | [] => []
  | (j, v) :: t => if j = k then SMap.erase t k else (j, v) :: SMap.erase t k

/-- The store with key k listed with value v, in key order. -/
def SMap.insert {α : Type} (m : SMap α) (k : Nat) (v : α) : SMap α :=
  match m with
  | [] => [(k, v)]
  | (j, w) :: t => if k < j then (k, v) :: (j, w) :: t else if j = k then (k, v) :: t else (j, w) :: SMap.insert t k v

/-- Write v at key k. Writing the default removes the entry, so equal stores are equal lists. -/
def SMap.set {α : Type} [DecidableEq α] (d : Nat → α) (m : SMap α) (k : Nat) (v : α) : SMap α :=
  if v = d k then SMap.erase m k else SMap.insert m k v

/-- Every key is above k. -/
def SMap.above {α : Type} (m : SMap α) (k : Nat) : Bool := m.all fun e => k < e.1

/-- The canonical form: keys strictly rising, and no entry equal to its default. -/
def SMap.wf {α : Type} [DecidableEq α] (d : Nat → α) (m : SMap α) : Bool :=
  match m with
  | [] => true
  | (j, v) :: t => SMap.above t j && decide (v ≠ d j) && SMap.wf d t

/-- Apply f to every listed value. -/
def SMap.mapVals {α : Type} [DecidableEq α] (d : Nat → α) (f : α → α) (m : SMap α) : SMap α :=
  m.foldl (fun acc e => SMap.set d acc e.1 (f e.2)) []

/-- Keep only the keys that satisfy p. -/
def SMap.keep {α : Type} (p : Nat → Bool) (m : SMap α) : SMap α := m.filter fun e => p e.1

/-! ### Bit fields -/

/-- Bits hi:lo of a register word. -/
def fld (w : Word) (hi lo : Nat) : Nat := (w.toNat >>> lo) % 2 ^ (hi - lo + 1)

/-- The word with bits hi:lo replaced by v. -/
def setFld (w : Word) (hi lo v : Nat) : Word :=
  let m := (2 ^ (hi - lo + 1) - 1) <<< lo
  (w &&& ~~~(BitVec.ofNat 32 m)) ||| BitVec.ofNat 32 ((v % 2 ^ (hi - lo + 1)) <<< lo)

/-- Bit i of a word. -/
def bit (w : Word) (i : Nat) : Bool := w.getLsbD i

/-- The word with bit i set to b. -/
def setBit (w : Word) (i : Nat) (b : Bool) : Word := setFld w i i b.toNat

/-- A signed value of w bits from its two's-complement code. -/
def sext (w v : Nat) : Int := if v % 2 ^ w < 2 ^ (w - 1) then (v % 2 ^ w : Nat) else (v % 2 ^ w : Nat) - (2 ^ w : Nat)

/-- The two's-complement code of w bits of an integer. -/
def scode (w : Nat) (i : Int) : Nat := (i % (2 ^ w : Nat)).toNat

/-- An integer held to the range lo to hi. -/
def clampInt (lo hi i : Int) : Int := if i < lo then lo else if hi < i then hi else i

/-! ### The queue -/

/-- The state with q as its queue. -/
def State.withPending (s : State) (q : List Instr) : State := { s with pending := q }

/-! ### Free values -/

/-- Draw the next free value of w bits (log 1). -/
def State.free (s : State) (w : Nat) : BitVec w × State :=
  (Config.freeBits w s.freeIx, { s with freeIx := s.freeIx + 1 })

/-- Draw n free words. -/
def State.freeWords (s : State) (n : Nat) : List Word × State :=
  match n with
  | 0 => ([], s)
  | k + 1 =>
    let (w, s1) := s.free 32
    let (l, s2) := State.freeWords s1 k
    (w :: l, s2)

/-- Draw a free Boolean. -/
def State.freeBool (s : State) : Bool × State :=
  ((Config.freeBits 1 s.freeIx).getLsbD 0, { s with freeIx := s.freeIx + 1 })

/-! ### The register file -/

/-- The live or active copy of the register at byte offset a. -/
def State.reg (s : State) (a : Nat) : Word := SMap.get regReset s.regs.act a

/-- The shadow copy (R40). -/
def State.shadow (s : State) (a : Nat) : Word := SMap.get regReset s.regs.shd a

/-- Set the live or active copy. -/
def State.setReg (s : State) (a : Nat) (v : Word) : State :=
  { s with regs := { s.regs with act := SMap.set regReset s.regs.act a v } }

/-- Set the shadow copy. -/
def State.setShadow (s : State) (a : Nat) (v : Word) : State :=
  { s with regs := { s.regs with shd := SMap.set regReset s.regs.shd a v } }

/-- Bits hi:lo of the register at a. -/
def State.rf (s : State) (a hi lo : Nat) : Nat := fld (s.reg a) hi lo

/-- Bit i of the register at a. -/
def State.rb (s : State) (a i : Nat) : Bool := bit (s.reg a) i

/-- Set bits hi:lo of the register at a. -/
def State.setF (s : State) (a hi lo v : Nat) : State := s.setReg a (setFld (s.reg a) hi lo v)

/-- Set bit i of the register at a. -/
def State.setB (s : State) (a i : Nat) (b : Bool) : State := s.setReg a (setBit (s.reg a) i b)

/-- Add n to the counter in bits hi:lo, which saturates. -/
def State.satAdd (s : State) (a hi lo n : Nat) : State :=
  s.setF a hi lo (min (s.rf a hi lo + n) (2 ^ (hi - lo + 1) - 1))

/-- Add n to the counter in bits hi:lo, which wraps. -/
def State.wrapAdd (s : State) (a hi lo n : Nat) : State :=
  s.setF a hi lo (s.rf a hi lo + n)

/-- The byte offset of offset o of page p (R33). -/
def pg (p o : Nat) : Nat := p * 0x1000 + o

/-! ### The page header (R36 to R39) -/

def State.pageEnable (s : State) (p : Nat) : Bool := s.rb (pg p 0x004) 0
def State.pageLocked (s : State) (p : Nat) : Bool := s.rb (pg p 0x004) 2
def State.pageBusy (s : State) (p : Nat) : Bool := s.rb (pg p 0x008) 0
def State.commitPending (s : State) (p : Nat) : Bool := s.rb (pg p 0x008) 1
def State.pageOwner (s : State) (p : Nat) : Nat := s.rf (pg p 0x014) 9 0
def State.setBusy (s : State) (p : Nat) (b : Bool) : State := s.setB (pg p 0x008) 0 b
def State.setPending (s : State) (p : Nat) (b : Bool) : State := s.setB (pg p 0x008) 1 b

/-- The block is quiet (R40): ENABLE and BUSY read 0. -/
def State.pageQuiet (s : State) (p : Nat) : Bool := !s.pageEnable p && !s.pageBusy p

/-! ### Undefined behaviour (R56) -/

/-- Case c of R56 arises in channel ch of page p. -/
def State.markUndefined (s : State) (c p ch : Nat) : State :=
  if s.regs.undefined.contains (c, p, ch) then s
  else { s with regs := { s.regs with undefined := (c, p, ch) :: s.regs.undefined } }

/-- Case c of R56 ends in channel ch of page p. -/
def State.clearUndefined (s : State) (c p ch : Nat) : State :=
  { s with regs := { s.regs with undefined := s.regs.undefined.filter (· != (c, p, ch)) } }

/-- Case 1 or 2 is in force in channel ch of page p, or in the whole page (channel 0xFFFF). -/
def State.isUndefined (s : State) (p ch : Nat) : Bool :=
  s.regs.undefined.any fun u => u.2.1 == p && (u.2.2 == ch || u.2.2 == 0xFFFF) && (u.1 == 1 || u.1 == 2)

/-! ### Register addresses used by more than one family -/

def aMODE : Nat := 0x000020
def aTIME_STAT : Nat := 0x018024
def aLINK_STAT : Nat := 0x600028
def aROPE_CFG : Nat := 0x540020

/-- QUALITY of TIME:STAT (R175). -/
def State.quality (s : State) : Nat := s.rf aTIME_STAT 3 0

/-- The own node ID (R252, R293): rope and position of a NODE; 0 for a LEADER and with role NONE. -/
def State.nodeId (s : State) : Nat := if s.rf aROPE_CFG 1 0 = 1 then s.rf aROPE_CFG 31 29 * 64 + s.rf aROPE_CFG 23 18 else 0

/-- The PCI Express link is up (LINK_STAT.UP). -/
def State.linkUp (s : State) : Bool := s.rb aLINK_STAT 8

/-- SYS:MODE.CURRENT and TARGET (R18). -/
def State.mode (s : State) : Nat := s.rf aMODE 3 0
def State.modeTarget (s : State) : Nat := s.rf aMODE 15 12
def State.holdCause (s : State) : Nat := s.rf aMODE 23 16

/-- The codes of the operating modes (R17). -/
def mOFF : Nat := 0
def mBIVOUAC : Nat := 1
def mSLEEP : Nat := 2
def mIDLE : Nat := 3
def mRUN : Nat := 4
def mLOAD : Nat := 5
def mHOLD : Nat := 6
def mSERVICE : Nat := 7

/-! ### Device time (R164) -/

/-- NS of device time. -/
def nsOf (t : DevTime) : Nat := t.toNat / 256

/-- FRAC of device time. -/
def fracOf (t : DevTime) : Nat := t.toNat % 256

/-- Device time from NS and FRAC. -/
def mkTime (ns frac : Nat) : DevTime := BitVec.ofNat 72 (ns * 256 + frac % 256)

/-- n whole nanoseconds as a difference of device times. -/
def ns (n : Nat) : DevTime := BitVec.ofNat 72 (n * 256)

/-- a is later than b under the comparison of R165, on all 72 bits. -/
def laterThan (a b : DevTime) : Bool := a != b && (a - b).toNat < 2 ^ 71

/-- The TIMING PLL cycle of the present instant: device time with FRAC = 0 (R307). -/
def State.cycleTime (s : State) : DevTime := mkTime (nsOf s.time.now) 0


end Sys2Proof.Machine
end

