-- ==== Sys2Proof/Machine/Flags.lean ====
section
/-! DEFINITION. Events and page errors: an occurrence and its routes (R307 to R311), the PAGE_ERR bits and the page event (R39), the commit transfer (R41). -/

namespace Sys2Proof.Machine

/-! ### Register addresses of the event controller and of the host port -/

def aSW_RAISE : Nat := pg 0x010 0x020
def aCNT_MERGE : Nat := pg 0x010 0x024
def aCNT_DMA_DROP : Nat := pg 0x010 0x028
def aPEND (k : Nat) : Nat := pg 0x010 (0x040 + 4 * k)
def aRTGT (k : Nat) : Nat := pg 0x010 (0x080 + 4 * k)
def aMSIX_PEND (k : Nat) : Nat := pg 0x010 (0x0A0 + 4 * k)
def aROUTE (e : Nat) : Nat := pg 0x010 (0x100 + 4 * e)
def aTS_LO (e : Nat) : Nat := pg 0x011 (0x100 + 8 * e)
def aTS_HI (e : Nat) : Nat := pg 0x011 (0x104 + 8 * e)
def aTS_INFO (e : Nat) : Nat := pg 0x011 (0xB00 + 4 * e)
def aFLN_MERGE (k : Nat) : Nat := pg 0x026 (0x028 + 4 * k)
def aFEV_MERGE (k : Nat) : Nat := pg 0x026 (0x020 + 4 * k)
def aXH_COUNT : Nat := pg 0x026 0x030
def aDMA (d o : Nat) : Nat := pg 0x600 (0x040 + 0x20 * d + o)
def aMSIX (v o : Nat) : Nat := pg 0x600 (0x400 + 16 * v + o)
def aPBA (k : Nat) : Nat := pg 0x600 (0x800 + 4 * k)

/-- The 64-bit value of two registers. -/
def State.reg64 (s : State) (lo hi : Nat) : BitVec 64 := (s.reg hi) ++ (s.reg lo)

/-- The host port sends a posted write. -/
def State.sendHost (s : State) (m : HostTlp) : State := { s with host := { s.host with sent := s.host.sent ++ [m] } }

/-! ### Routes of one occurrence -/

/-- The eight words of the event record of R310. -/
def eventRecord (e : Nat) (t : DevTime) (q count node : Nat) : List Word :=
  [ BitVec.ofNat 32 (nsOf t), BitVec.ofNat 32 (nsOf t / 2 ^ 32),
    BitVec.ofNat 32 (fracOf t + (q % 16) * 2 ^ 8 + (e % 512) * 2 ^ 16), BitVec.ofNat 32 count,
    BitVec.ofNat 32 (node % 512), 0, 0, 0 ]

/-- The ring size exponent of DMA channel d (R353). -/
def State.dmaSize (s : State) (d : Nat) : Nat := min 20 (max 5 (s.rf (aDMA d 0) 4 0))

/-- The ring of channel d is full (R352). -/
def State.dmaFull (s : State) (d : Nat) : Bool :=
  (s.reg (aDMA d 0x18) - s.reg (aDMA d 0x04)).toNat == 2 ^ s.dmaSize d

/-- Channel d takes a record now: enabled, link up, ring not full (R352). -/
def State.dmaTakes (s : State) (d : Nat) : Bool := s.rb (aDMA d 0) 31 && s.linkUp && !s.dmaFull d

/-- Write one record into the ring of channel d, with its write-back (R352). -/
def State.dmaWrite (s : State) (d : Nat) (r : List Word) : State :=
  let wr := s.reg (aDMA d 0x18)
  let base := s.reg64 (aDMA d 0x08) (aDMA d 0x0C)
  let s1 := (s.sendHost (.record (base + BitVec.ofNat 64 (32 * (wr.toNat % 2 ^ s.dmaSize d))) r)).setReg (aDMA d 0x18) (wr + 1)
  if s.rb (aDMA d 0) 30 then s1.sendHost (.writeBack (s.reg64 (aDMA d 0x10) (aDMA d 0x14)) (wr + 1)) else s1

/-- One of the conditions of R351 keeps the message of vector v back. -/
def State.msixHeld (s : State) (v : Nat) : Bool :=
  s.rb (aMSIX v 0xC) 0 || s.host.functionMask || !s.host.msixEnable || s.host.d3hot || !s.linkUp

/-- Send the message of vector v, or set its PBA bit (R351). -/
def State.msixMessage (s : State) (v : Nat) : State :=
  if s.msixHeld v then s.setB (aPBA (v / 32)) (v % 32) true
  else s.sendHost (.msix v (s.reg64 (aMSIX v 0) (aMSIX v 4)) (s.reg (aMSIX v 8)))

/-- An occurrence routed to vector v (R309). -/
def State.msixRoute (s : State) (v : Nat) : State :=
  if s.rb (aMSIX_PEND (v / 32)) (v % 32) then s.satAdd aCNT_MERGE 31 0 1
  else (s.setB (aMSIX_PEND (v / 32)) (v % 32) true).msixMessage v

/-- An occurrence routed to a fabric event line: launched into its crossing, or merged with the one in flight (R157). -/
def State.lineRoute (s : State) (j : Nat) : State :=
  if SMap.get (fun _ => false) s.evt.lines j then
    (s.setB (aFLN_MERGE (j / 32)) (j % 32) true).satAdd aXH_COUNT 15 0 1
  else { s with evt := { s.evt with lines := SMap.set (fun _ => false) s.evt.lines j true } }

/-- The message of event e for mailbox m that a request of the rope controller itself carries, and that waits for its first slot. -/
def RopeReq.carries (q : RopeReq) (e m : Nat) : Bool :=
  q.requester == 0 && q.sends == 0 && (match q.body with | .mbx k _ _ words => k.toNat == m && fld (words.getD 2 0) 31 16 == e | _ => false)

/-- A message with other words. -/
def bodyWords (b : AccBody) (r : List Word) : AccBody := match b with | .mbx m sync e _ => .mbx m sync e r | b => b

/-- The message of event e for mailbox m of node n that waits for a slot, or for room, takes the content r; the Boolean says that there is one (R311). -/
def Rope.renew (x : Rope) (n m e : Nat) (r : List Word) : Bool × Rope :=
  let p := SMap.get (fun _ => {}) x.pairs n
  match p.out.find? (·.carries e m) with
  | some q =>
    (true, { x with
      pairs := SMap.set (fun _ => {}) x.pairs n { p with out := p.out.map fun y => if y.seq = q.seq then { y with body := bodyWords y.body r } else y }
      waiting := x.waiting.map fun w => if w.2.dst.toNat = n ∧ w.2.ack = 0 ∧ w.2.seq = q.seq then (w.1, { w.2 with body := bodyWords w.2.body r }) else w })
  | none =>
    let mine (y : Stalled) : Bool := y.node == n && y.req.carries e m
    (x.stalled.any mine, { x with stalled := x.stalled.map fun y => if mine y then { y with req := { y.req with body := bodyWords y.req.body r } } else y })

/-- An occurrence routed to rope target k: queued, or merged with the record that waits (R311). -/
def State.ropeRoute (s : State) (e k : Nat) (r : List Word) : State :=
  if s.rf (aRTGT k) 13 9 < 16 then s
  else if s.evt.ropeWait.any (fun w => w.event == e && w.target == k) then
    let s1 := s.satAdd aCNT_MERGE 31 0 1
    { s1 with evt := { s1.evt with
        ropeWait := s.evt.ropeWait.map fun w => if w.event == e && w.target == k then { w with words := r } else w } }
  else
    let (found, x) := s.rope.renew (s.rf (aRTGT k) 8 0) (s.rf (aRTGT k) 13 9) e r
    if found then { s.satAdd aCNT_MERGE 31 0 1 with rope := x }
    else { s with evt := { s.evt with ropeWait := s.evt.ropeWait ++ [{ event := e, target := k, words := r }] } }

/-- Record and route one occurrence of event e at time t and QUALITY q (R176). The Boolean says that its DMA record was dropped. -/
def State.occur (s : State) (e : Nat) (t : DevTime) (q : Nat) : Bool × State :=
  let n := SMap.get (fun _ => 0) s.evt.counts e + 1
  let s1 := { s with evt := { s.evt with counts := SMap.set (fun _ => 0) s.evt.counts e n } }
  let s2 := (s1.setReg (aTS_LO e) (BitVec.ofNat 32 (nsOf t))).setReg (aTS_HI e) (BitVec.ofNat 32 (nsOf t / 2 ^ 32))
  let s3 := s2.setReg (aTS_INFO e) (BitVec.ofNat 32 ((n.toNat % 2 ^ 16) * 2 ^ 16 + (q % 16) * 2 ^ 8 + fracOf t))
  let s4 := s3.setB (aPEND (e / 32)) (e % 32) true
  let route := s.reg (aROUTE e)
  let rec_ := eventRecord e t q n.toNat s.nodeId
  let d := fld route 13 12
  let dma := bit route 15
  let drop := dma && !s4.dmaTakes d
  let s5 := if drop then (s4.satAdd (aDMA d 0x1C) 31 0 1).satAdd aCNT_DMA_DROP 31 0 1
            else if dma then s4.dmaWrite d rec_ else s4
  let s6 := if bit route 31 then s5.msixRoute (fld route 29 24) else s5
  let s7 := if bit route 23 then s6.lineRoute (fld route 21 16) else s6
  let s8 := if bit route 11 then s7.ropeRoute e (fld route 10 8) rec_ else s7
  (drop, s8)

/-- Raise event e with time t and QUALITY q. A dropped DMA record sets HOST PAGE_ERR bit 17 (R352), whose rise may itself raise the
HOST page event, event 104, whose record may be dropped in turn. -/
def State.raiseWith (s : State) (e : Nat) (t : DevTime) (q : Nat) : State :=
  let (drop, s1) := s.occur e t q
  let aErr := pg 0x600 0x00C
  if drop && !s1.rb aErr 17 then
    let s2 := s1.setB aErr 17 true
    if s2.rb (pg 0x600 0x010) 17 then (s2.occur 104 s2.cycleTime s2.quality).2 else s2
  else s1

/-- Raise event e at time t, with the present QUALITY. -/
def State.raiseAt (s : State) (e : Nat) (t : DevTime) : State := s.raiseWith e t s.quality

/-- Raise event e from a hardened source that supplies no time of its own (R307). -/
def State.raise (s : State) (e : Nat) : State := s.raiseAt e s.cycleTime

/-! ### Page errors -/

/-- The page event that PAGE_ERR bit b of page p raises, or that a commit raises (b = 8). -/
def pageEvent (p b : Nat) : Option Nat :=
  let i := pageInfo p
  match i.kind with
  | .none => Option.none
  | .sys => some 1 | .pmu => some 4 | .supply => some 10 | .rtc => some 117 | .lc => some 112 | .cfg => some 16
  | .scrub => some 22 | .pitch => some 24
  | .mbx => some (if 16 ≤ b ∧ b < 20 then 32 + 4 * i.inst + (b - 16) else 32 + 4 * i.inst)
  | .evt0 => some 251 | .evt1 => some 251 | .time => some 84
  | .clkSrc => some 242 | .clkRoot => some 242 | .clkPll => some 242 | .clkXhard => some 243 | .clkBclk => some 243
  | .bough => some 253 | .grove => some 20 | .edge => some (128 + i.inst / 4)
  | .sdf => some (if 16 ≤ b ∧ b < 24 then 224 + (8 * i.inst + (b - 16)) / 4 else 224 + 2 * i.inst)
  | .edgecal => some (88 + i.inst) | .loop => some 244 | .loopctx => some 245
  | .iob => some 248 | .psel => some 248 | .pcfg => some 248 | .plock => some 248
  | .rope => some 64 | .ropePort => some (65 + i.inst) | .ropetime => some 68
  | .pub => some 71 | .sub => some 71 | .acc => some 71
  | .host => some 104
  | .dramCtl => some 96 | .dramTiming => some 96 | .dramPorts => some 96 | .dramEcc => some 96 | .dramTrain => some 96
  | .flash => some 108 | .settings => some 110 | .heart => some 116
  | .headerOnly => if 0x640 ≤ p ∧ p ≤ 0x64F then some 96 else if 0x550 ≤ p ∧ p ≤ 0x557 then some 71 else Option.none

/-- PAGE_ERR bits that are levels (R39): the mailbox bits of R316 and the channel bits of R197. -/
def levelMask (k : PageKind) : Nat :=
  match k with
  | .mbx => 0x000F0000
  | .sdf => 0x00FF0000
  | _ => 0

/-- Set PAGE_ERR bit b of page p. Its rise raises the page event while its enable is 1 (R39). -/
def State.setErr (s : State) (p b : Nat) : State :=
  if s.rb (pg p 0x00C) b then s
  else
    let s1 := s.setB (pg p 0x00C) b true
    if s1.rb (pg p 0x010) b then
      match pageEvent p b with
      | some e => s1.raise e
      | Option.none => s1
    else s1

/-- Make the level bit b of PAGE_ERR of page p follow its condition (R39). -/
def State.setErrLevel (s : State) (p b : Nat) (on : Bool) : State :=
  if on then s.setErr p b else s.setB (pg p 0x00C) b false

/-- Record a refused write of requester r on page p in PAGE_OWNER and PAGE_SEQ (R50, R53). -/
def State.recordRefusal (s : State) (p r : Nat) : State :=
  (s.setF (pg p 0x014) 25 16 r).satAdd (pg p 0x018) 31 24 1

/-! ### The commit (R41) -/

/-- The RWS bits of the register at byte offset a. -/
def rwsMask (a : Nat) : Word :=
  match regSpec a with
  | some r => BitVec.ofNat 32 r.rws
  | Option.none => 0

/-- Pass the RWS bits of the register at a from shadow to active. -/
def State.transferReg (s : State) (a : Nat) : State :=
  let m := rwsMask a
  s.setReg a ((s.reg a &&& ~~~m) ||| (s.shadow a &&& m))

/-- The listed register addresses of page p, in either copy. -/
def State.listedRegs (s : State) (p : Nat) : List Nat :=
  ((s.regs.act.map (·.1)) ++ (s.regs.shd.map (·.1))).filter fun a => a / 0x1000 == p

/-- Every RWS bit of page p passes from shadow to active together. -/
def State.transferPage (s : State) (p : Nat) : State := (s.listedRegs p).foldl State.transferReg s

/-- The commit transfer of page p: the fields pass, COMMITS increments, COMMIT_PENDING clears, and COMMIT_DONE raises
the page event. -/
def State.commitTransfer (s : State) (p : Nat) : State :=
  let s1 := ((s.transferPage p).wrapAdd (pg p 0x018) 23 0 1).setPending p false
  if s1.rb (pg p 0x010) 8 then
    match pageEvent p 8 with
    | some e => s1.raise e
    | Option.none => s1
  else s1

/-- Request a commit of page p (R41). -/
def State.requestCommit (s : State) (p : Nat) : State := if s.commitPending p then s else s.setPending p true

end Sys2Proof.Machine
end

