-- ==== Sys2Proof/Machine/Time.lean ====
section
/-! DEFINITION. Device time: how it advances, steps and wraps (R164 to R166, R171, R185, R219), the servo (R169, R170), the quality and its bound (R175). -/

namespace Sys2Proof.Machine

/-! ### Addresses -/

def aTIME (o : Nat) : Nat := pg 0x018 o
def aEDGE (p o : Nat) : Nat := pg (0x100 + p) o
def aCTX (n o : Nat) : Nat := pg (0x400 + n / 16) (0x100 * (n % 16) + o)
def aBOUGH (b o : Nat) : Nat := pg (0x040 + b) o

/-! ### The units that keep instants of device time -/

def State.edgeUnit (s : State) (p : Nat) : EdgeUnit := SMap.get (fun _ => {}) s.edge p
def State.setEdge (s : State) (p : Nat) (u : EdgeUnit) : State := { s with edge := SMap.set (fun _ => {}) s.edge p u }
def State.sdfChan (s : State) (c : Nat) : SdfChannel := SMap.get (fun _ => {}) s.sdf c
def State.setSdf (s : State) (c : Nat) (u : SdfChannel) : State := { s with sdf := SMap.set (fun _ => {}) s.sdf c u }
def State.ctx (s : State) (n : Nat) : LoopCtx := SMap.get (fun _ => {}) s.loop.ctxs n
def State.setCtx (s : State) (n : Nat) (c : LoopCtx) : State :=
  { s with loop := { s.loop with ctxs := SMap.set (fun _ => {}) s.loop.ctxs n c } }

/-- The running contexts: STAT.RUNNING of R209, in rising order. -/
def State.runningCtxs (s : State) : List Nat :=
  (s.regs.act.filter fun e =>
    0x400 ≤ e.1 / 0x1000 && e.1 / 0x1000 ≤ 0x43F && e.1 % 0x100 == 0xF0 && bit e.2 30).map
    fun e => 16 * (e.1 / 0x1000 - 0x400) + (e.1 % 0x1000) / 0x100

/-! ### Loop grid points (R218, R219) -/

/-- The first grid point of period p ns and phase ph ns at or after device time t. NS wraps at 2^64. -/
def gridAt (p ph : Nat) (t : DevTime) : DevTime :=
  let q := max p 1
  let n := (t.toNat + 255) / 256
  let m := n + (ph % q + q - n % q) % q
  mkTime (if m < 2 ^ 64 then m else ph % q) 0

/-- Raise event 192 + (n >> 5) of context n with the time of the change (R240). -/
def State.loopEvent (s : State) (n : Nat) : State := s.raiseAt (192 + n / 32) s.time.now

/-- Set a FLAG bit of context n, and raise the context's event when it is EARLY, SKIPPED or DROP (R240). -/
def State.ctxFlag (s : State) (n b : Nat) : State :=
  let s1 := s.setB (aCTX n 0xF4) b true
  if (b = 1 ∨ b = 2 ∨ b = 5) ∧ !s.rb (aCTX n 0xF4) b then s1.loopEvent n else s1

/-- Count missed triggers of context n (R209). -/
def State.ctxMissed (s : State) (n : Nat) : State := s.satAdd (aCTX n 0xF4) 31 16 1

/-- Re-plan the grid of PERIODIC context n when device time goes from old to new (R219), the context's instants having moved with it. A point that a forward step
passes over, or that falls less than 400 ns after the step, is skipped. -/
def State.regrid (s : State) (n : Nat) (old new : DevTime) (step : Bool) : State :=
  if s.rf (aCTX n 0x40) 15 14 ≠ 0 then s
  else
    let c := s.ctx n
    let p := (s.reg (aCTX n 0x48)).toNat
    let ph := (s.reg (aCTX n 0x4C)).toNat
    let nb := c.notBefore
    let nb0 := nb - (new - old)
    let passed := step && laterThan new old && laterThan new (gridAt p ph (if laterThan nb0 old then nb0 else old))
    -- what a point taken at the old instant leaves says nothing of the new one
    let from_ := if laterThan nb (new + ns 1) then nb else new
    let early := laterThan (new + ns 400) (gridAt p ph from_)
    let s1 := s.setCtx n { c with notBefore := if laterThan nb (new + ns 400) then nb else new + ns 400 }
    if passed || early then (s1.ctxMissed n).ctxFlag n 1 else s1

/-! ### The advance of device time -/

/-- The RATE register: the applied rate in units of 2^-32, rounded to the nearest (R168, R170). -/
def rateCode (r : Rat) : Word := BitVec.ofNat 32 (scode 32 ((r * 4294967296 + 1 / 2).floor))

/-- The largest rate correction, 400 ppm. -/
def maxRate : Rat := 400 / 1000000

/-- The rate now applied: the servo's r, or the 400 ppm of a slew under REF_SRC NONE (R170, R172). -/
def State.appliedRate (s : State) : Rat :=
  if s.time.slewLeft = 0 then s.time.r else if s.time.slewUp then maxRate else -maxRate

def State.showRate (s : State) : State := s.setReg (aTIME 0x48) (rateCode s.appliedRate)

/-- A cadence window that contains a step or the wrap is marked (R111, R165, R171). -/
def State.markCadence (s : State) : State := { s with cadenceStep := List.range 128 }

/-- The effects of the wrap of NS from 2^64 - 1 to 0 (R165). -/
def State.wrapEffects (s : State) (new : DevTime) : State :=
  let s1 := (s.raiseAt 82 new).markCadence
  s1.runningCtxs.foldl (fun t n => t.regrid n 0 0 false) s1

/-- Device time moves on to t, if t lies ahead: a command that names an instant is taken at that instant (log 4). -/
def State.reach (s : State) (t : DevTime) : State :=
  if !laterThan t s.time.now then s
  else
    let old := s.time.now
    let left := s.time.slewLeft - (t - old).toNat
    let s1 := { s with time := { s.time with now := t, slewLeft := left } }
    let s2 := if s.time.slewLeft ≠ 0 ∧ left = 0 then s1.showRate else s1
    if t.toNat < old.toNat then s2.wrapEffects t else s2

/-- One cycle of the TIMING PLL: 256 fraction units (R164). Device time stands still until the PLL has locked (R166). -/
def State.tick (s : State) : State := if s.time.running then s.reach (s.time.now + ns 1) else s

/-! ### Quality and bound (R175) -/

def qUNSET : Nat := 0
def qLEADER : Nat := 1
def qTRACKING : Nat := 2
def qLOCKED : Nat := 3
def qHOLDOVER : Nat := 4
def qCOARSE : Nat := 5
def qDEGRADED : Nat := 6

def State.refSrc (s : State) : Nat := s.rf (aTIME 0x20) 2 0

/-- A node of a branch rope takes the code of its anchor, which is neither LOCKED nor LEADER (R281). -/
def State.upstream (s : State) : Bool :=
  s.refSrc == 2 && s.rf (pg 0x540 0x20) 31 29 != 0 && s.rf (pg 0x548 0x24) 31 28 != 1 && s.rf (pg 0x548 0x24) 31 28 != 3

/-- The value of BOUND for the present QUALITY. -/
def State.boundNow (s : State) : Nat :=
  let since := (s.time.now - s.time.entryTime).toNat
  let cap (n : Nat) := min n 0xFFFFFFFF
  if s.upstream then 0xFFFFFFFF
  else match s.quality with
  | 1 => 0
  | 2 => cap (((sext 32 (s.reg (aTIME 0x4C)).toNat).natAbs + 255) / 256)
  | 3 => if s.refSrc = 2 then cap ((s.rf (pg 0x548 0x044) 15 0 + 999) / 1000) else 2 ^ s.rf (aTIME 0x20) 19 16
  | 4 => cap (s.time.boundAtEntry + since * 10 / (256 * 1000000))
  | 5 => cap s.time.boundAtEntry
  | 6 => if s.time.fromWake then cap s.time.boundAtEntry else cap (s.time.boundAtEntry + since * 100 / (256 * 1000000))
  | _ => 0xFFFFFFFF

/-- Recompute BOUND (every 1 µs, R175). -/
def State.updateBound (s : State) : State := s.setReg (aTIME 0x2C) (BitVec.ofNat 32 s.boundNow)

/-- QUALITY becomes q; a change raises event 80. -/
def State.setQuality (s : State) (q : Nat) : State :=
  if s.quality = q then s
  else
    let b := s.boundNow
    let s1 := s.setF aTIME_STAT 3 0 q
    ({ s1 with time := { s1.time with boundAtEntry := b, entryTime := s1.time.now, fromWake := false } }).raise 80

/-! ### Steps (R171) -/

/-- The next whole multiple of 1,000 ns after device time t; past the wrap it is 0 (R165). -/
def nextMicro (t : DevTime) : DevTime :=
  let m := (nsOf t / 1000 + 1) * 1000
  mkTime (if m < 2 ^ 64 then m else 0) 0

/-- Move an instant of elapsed time with a step. -/
def shiftOpt (d : DevTime) (t : Option DevTime) : Option DevTime := t.map (· + d)

/-- An EDGE unit runs PWM: it has a period, or a first period start to come (R183, R185). -/
def EdgeUnit.runsPwm (u : EdgeUnit) : Bool := u.pwmStart.isSome || u.pwmNext.isSome

/-- A step leaves PWM and every elapsed interval of an edge unit in place, and makes late what it skips (R182, R185). -/
def EdgeUnit.step (u : EdgeUnit) (d new : DevTime) : EdgeUnit :=
  { u with
    headLate := u.headLate || (match u.queue with | q :: _ => laterThan new q.time | [] => false)
    lastEdge := shiftOpt d u.lastEdge, pwmStart := shiftOpt d u.pwmStart, pwmNext := shiftOpt d u.pwmNext
    lastCapture := shiftOpt d u.lastCapture, outWas := u.outWas.map fun e => (e.1 + d, e.2), inWas := u.inWas.map fun e => (e.1 + d, e.2)
    calAt := shiftOpt d u.calAt, armed := shiftOpt d u.armed }

def Slot.step (c : Slot) (d : DevTime) : Slot := { c with arrival := shiftOpt d c.arrival }

def SdfChannel.step (u : SdfChannel) (d : DevTime) : SdfChannel :=
  { u with
    lastEdge := shiftOpt d u.lastEdge, gen := shiftOpt d u.gen, stopEnd := shiftOpt d u.stopEnd, since := u.since + d, arrival := shiftOpt d u.arrival, before := u.before.step d
    out := u.out.map fun o => { o with due := o.due + d } }

def LoopCtx.step (c : LoopCtx) (d : DevTime) : LoopCtx :=
  { c with
    lastApplied := c.lastApplied + d, lastTrigger := shiftOpt d c.lastTrigger, notBefore := c.notBefore + d
    arrival := shiftOpt d c.arrival, before := c.before.step d, sampleSeen := shiftOpt d c.sampleSeen, coastUntil := shiftOpt d c.coastUntil
    update := c.update.map fun u => { u with applyAt := u.applyAt + d } }

/-- Everything that is kept in device time and runs in elapsed time moves with a step of size d. -/
def State.shiftInstants (s : State) (d new : DevTime) : State :=
  { s with
    edge := SMap.mapVals (fun _ => {}) (fun u => u.step d new) s.edge
    sdf := SMap.mapVals (fun _ => {}) (fun u => u.step d) s.sdf
    cal := SMap.mapVals (fun _ => {}) (fun c => { c with startedAt := shiftOpt d c.startedAt }) s.cal
    time := { s.time with entryTime := s.time.entryTime + d }
    cfg := { s.cfg with load := s.cfg.load.map fun l => { l with t0 := l.t0 + d } }
    loop := { s.loop with
      ctxs := SMap.mapVals (fun _ => {}) (fun c => c.step d) s.loop.ctxs
      slotsIn := SMap.mapVals (fun _ => {}) (fun c => c.step d) s.loop.slotsIn
      slotsBefore := SMap.mapVals (fun _ => {}) (fun c => c.step d) s.loop.slotsBefore
      ropeArrival := SMap.mapVals (fun _ => none) (shiftOpt d) s.loop.ropeArrival
      ropeBefore := SMap.mapVals (fun _ => {}) (fun c => c.step d) s.loop.ropeBefore
      hb0 := { lastKick := s.loop.hb0.lastKick + d }
      hb1 := { lastKick := s.loop.hb1.lastKick + d } } }

/-- The precision pins whose unit runs PWM. -/
def State.pwmPins (s : State) : List Nat := (s.edge.filter fun e => e.2.runsPwm).map (·.1)

/-- Device time steps from its present value to new (R171, R185, R219). -/
def State.stepTo (s : State) (new : DevTime) : State :=
  let old := s.time.now
  let s1 := s.shiftInstants (new - old) new
  let s2 := { s1 with time := { s1.time with now := new, step := none } }
  let s3 := ((s2.satAdd (aTIME 0x5C) 31 0 1).setB aTIME_STAT 8 true).raise 81
  let s4 := s3.markCadence
  let s5 := s4.pwmPins.foldl (fun t p => t.setErr (0x100 + p) 20) s4
  s5.runningCtxs.foldl (fun t n => t.regrid n old new true) s5

/-- The servo runs: ENABLE = 1, a reference is named, and the TIMING PLL is locked (R167, R174). -/
def State.servoRuns (s : State) : Bool :=
  s.pageEnable 0x018 && s.refSrc != 0 && s.time.running && !s.time.holdover

/-- Apply the step that has been requested, at the next whole µs of the old time (R171). Where that instant is past, device time becomes what it would
read had it stepped then. A STEP under REF_SRC NONE makes
the node LEADER; any other first step ends UNSET in TRACKING, and a step of the servo goes to TRACKING while the servo runs (R175, log 12). -/
def State.applyStep (s : State) : State :=
  match s.time.step with
  | none => s
  | some q =>
    let s1 := s.reach s.time.stepAt
    let past := s1.time.now - s.time.stepAt
    match q with
    | .toValue t =>
      let s2 := s1.stepTo (t + past)
      if s2.refSrc = 0 then s2.setQuality qLEADER
      else if s2.quality = qUNSET then s2.setQuality qTRACKING else s2
    | .byUnits d =>
      let s2 := s1.stepTo (BitVec.ofInt 72 ((s1.time.now.toNat : Int) + d))
      let s3 := { s2 with time := { s2.time with good := 0 } }
      if s2.servoRuns || s2.quality == qUNSET then s3.setQuality qTRACKING else s3

/-- Request a step; it replaces one not yet applied, at whose instant it is applied (R171). -/
def State.requestStep (s : State) (q : StepReq) : State :=
  { s with time := { s.time with step := some q, stepAt := if s.time.step.isSome then s.time.stepAt else nextMicro s.time.now } }

/-! ### The TIME commit (R172) -/

/-- The signed ADJ of the shadow, in ns. -/
def State.adjShadow (s : State) : Int := sext 32 (s.shadow (aTIME 0x44)).toNat

/-- The commit transfer of the TIME page with its operation; OP returns to 0 in both copies (R168, R172). A SLEW under REF_SRC NONE
while another is under way replaces what is left of it (DESIGN CHOICE, log 97: R172 states no sum). -/
def State.timeTransfer (s : State) : State :=
  let op := fld (s.shadow (aTIME 0x40)) 1 0
  let target := BitVec.ofNat 72
    (((s.shadow (aTIME 0x3C)).toNat * 2 ^ 32 + (s.shadow (aTIME 0x38)).toNat) * 256 + fld (s.shadow (aTIME 0x40)) 15 8)
  let adj := s.adjShadow
  let s1 := s.commitTransfer 0x018
  let s2 := (s1.setF (aTIME 0x40) 1 0 0).setShadow (aTIME 0x40) (setFld (s1.shadow (aTIME 0x40)) 1 0 0)
  match op with
  | 1 => s2.requestStep (.toValue target)
  | 2 =>
    if s2.refSrc ≠ 0 then { s2 with time := { s2.time with adj := s2.time.adj + adj * 256 } }
    else if adj = 0 then s2
    else ({ s2 with time := { s2.time with slewUp := adj < 0, slewLeft := adj.natAbs * 256 * 2500 } }).showRate
  | _ => s2

/-! ### The servo (R169, R170, R173) -/

/-- A commit of the TIME page waits for no measurement (R167). -/
def State.timeAtOnce (s : State) : Bool :=
  s.refSrc == 0 || s.rb (pg 0x018 0x00C) 16 || s.quality == qHOLDOVER || !s.pageEnable 0x018 || s.time.holdover

/-- TIME CTL has been written: with REF_SRC NONE the time runs at the rate of REFCLK, and with a reference no slew of NONE goes on (R169, R170). -/
def State.timeCtlWritten (s : State) : State :=
  (if s.refSrc = 0 then { s with time := { s.time with r := 0 } } else { s with time := { s.time with slewLeft := 0 } }).showRate

/-- The interval Tm in ns: 1 s, or one rope cycle (R169). -/
def State.servoInterval (s : State) : Nat :=
  if s.refSrc = 1 then 1000000000 else 2500 * 2 ^ s.rf (pg 0x540 0x02C) 15 14

def clampRat (lo hi x : Rat) : Rat := if x < lo then lo else if hi < x then hi else x

/-- The time at which the edge of PPS_IN that TCTL.PPS_EDGE names came, in units of 1/256 ns (R283). The rising edges are recorded; when a
falling one came is the board's, so that time is free (log 132). -/
def State.ppsAt (s : State) : Nat × State :=
  if s.rb (pg 0x548 0x020) 8 then
    let (v, t) := s.free 72
    (v.toNat, t)
  else (((s.reg (aTIME 0x54)).toNat * 2 ^ 32 + (s.reg (aTIME 0x50)).toNat) * 256 + s.rf (aTIME 0x58) 7 0, s)

/-- The offset of a PPS_IN edge at u, in units of 1/256 ns: its device time less the nearest multiple of 10^9 ns,
less PPS_DLY (R169). -/
def State.ppsOffset (s : State) (u : Nat) : Int :=
  let sec : Nat := 1000000000 * 256
  (u : Int) - ((u + sec / 2) / sec * sec : Nat) - sext 32 (s.reg (pg 0x548 0x040)).toNat

/-- A measurement of offset e in units of 1/256 ns (R170, R175). OFFSET and the lock threshold take the offset with ADJ of a SLEW added
(DESIGN CHOICE, log 97: R172 says only that the servo adds ADJ to it). -/
def State.measure (s : State) (e0 : Int) : State :=
  let s0 := if s.commitPending 0x018 then s.timeTransfer else s
  let e := e0 + s0.time.adj
  let s1 := { s0 with time := { s0.time with adj := 0, refLost := false } }
  let s2 := s1.setReg (aTIME 0x4C) (BitVec.ofNat 32 (scode 32 (clampInt (-2147483648) 2147483647 e)))
  let lim : Nat := 2 ^ s2.rf (aTIME 0x20) 11 8 * 1000 * 256
  if lim < e.natAbs then
    let s3 := { s2 with time := { s2.time with good := 0 } }
    (if s3.quality = qUNSET ∨ s3.upstream then s3 else s3.setQuality qTRACKING).requestStep (.byUnits (-e))
  else
    let tm : Rat := (s2.servoInterval : Rat)
    let x : Rat := (e : Rat) / 256
    let f := clampRat (-maxRate) maxRate (s2.time.f - x / (256 * tm))
    let r := clampRat (-maxRate) maxRate (f - x / (16 * tm))
    let good := if e.natAbs ≤ 2 ^ s2.rf (aTIME 0x20) 19 16 * 256 then s2.time.good + 1 else 0
    let s3 := ({ s2 with time := { s2.time with f := f, r := r, good := good } }).showRate
    if s3.upstream then s3 else s3.setQuality (if 16 ≤ good then qLOCKED else qTRACKING)

/-- The reference is lost: f is held, r = f, HOLDOVER, and a waiting commit transfers (R167, R173). -/
def State.loseReference (s : State) : State :=
  let s1 := ({ s with time := { s.time with refLost := true, good := 0, r := s.time.f } }).showRate
  let s2 := (s1.setErr 0x018 16).setQuality qHOLDOVER
  if s2.commitPending 0x018 then s2.timeTransfer else s2

end Sys2Proof.Machine
end

