-- ==== Sys2Proof/Machine/ClockSites.lean ====
section
/-! DEFINITION. The registers of the clock sites, the switches under way at them, and the root and ratio that now drive a bough clock (R148, R150 to R153). -/

namespace Sys2Proof.Machine

def aBCLK (b c : Nat) : Nat := pg (0x028 + b / 16) (0x100 + 0x20 * (b % 16) + 4 * c)
def aROOT (r : Nat) : Nat := pg 0x021 (0x020 + 4 * r)
def aALIGN (r : Nat) : Nat := pg 0x021 (0x060 + 4 * r)
def aPLL (p o : Nat) : Nat := pg (0x022 + p / 2) (0x020 + 0x20 * (p % 2) + o)
def aSRC_CTL : Nat := pg 0x020 0x020
def aSRC_STAT : Nat := pg 0x020 0x024

def State.updClocks (s : State) (f : Clocks → Clocks) : State :=
  { s with fabric := { s.fabric with clocks := f s.fabric.clocks } }

/-- The number of a clock among the switches: bough clock c of bough b, and root clock r. -/
def bclkKey (b c : Nat) : Nat := 8 * b + c
def rootKey (r : Nat) : Nat := 1024 + r

/-- The switch or restart under way at a clock. -/
def State.clockSwitch (s : State) (k : Nat) : Option ClockSwitch := SMap.get (fun _ => none) s.fabric.clocks.switches k
def State.setSwitch (s : State) (k : Nat) (x : Option ClockSwitch) : State :=
  s.updClocks fun c => { c with switches := SMap.set (fun _ => none) c.switches k x }

/-- A switch at the clock has released its old input: the clock stays low until the switch ends (R151). -/
def State.released (s : State) (k : Nat) : Bool := (s.clockSwitch k).any (·.low)

/-- The root that CUR_SEL of a BCLK word names. -/
def bclkIn (w : Word) : Nat := fld w (4 * fld w 29 28 + 3) (4 * fld w 29 28)

/-- The root now driving bough clock c, and its divider ratio: while a switch is under way, those with which it began. -/
def State.bclkRoot (s : State) (b c : Nat) : Nat := ((s.clockSwitch (bclkKey b c)).map (·.source)).getD (bclkIn (s.reg (aBCLK b c)))
def State.bclkRatio (s : State) (b c : Nat) : Nat := ((s.clockSwitch (bclkKey b c)).map (·.ratio)).getD (s.rf (aBCLK b c) 23 16 + 1)

end Sys2Proof.Machine
end

