-- ==== Sys2Proof/Machine/FabricEval.lean ====
section
/-! DEFINITION. The values on the wires of the fabric: look-up tables and carry (R60 to R63), crossbars (R70, R71), boundary cells and taps (R155, R338), grove isolation (R87). -/

namespace Sys2Proof.Machine

/-! ### Access to the parts of a bough -/

def State.bough (s : State) (b : Nat) : Bough := SMap.get (fun _ => {}) s.fabric.boughs b
def State.setBough (s : State) (b : Nat) (x : Bough) : State :=
  { s with fabric := { s.fabric with boughs := SMap.set (fun _ => {}) s.fabric.boughs b x } }
def State.updBough (s : State) (b : Nat) (f : Bough → Bough) : State := s.setBough b (f (s.bough b))

/-- BOUGH:MODE.TMODE (R93): 0 unconfigured, 1 clocked, 2 handshake. -/
def State.tmode (s : State) (b : Nat) : Nat := s.rf (aBOUGH b 0x20) 1 0
def State.handshake (s : State) (b : Nat) : Bool := s.tmode b == 2
/-- GLOBAL_HOLD is asserted on bough b (R68, R95). -/
def State.held (s : State) (b : Nat) : Bool := !s.rb (aBOUGH b 0x28) 0

def BoughCfg.leafAt (c : BoughCfg) (l : Nat) : LeafCfg := SMap.get (fun _ => {}) c.leaf l
def BoughCfg.twigAt (c : BoughCfg) (t : Nat) : TwigCfg := SMap.get (fun _ => {}) c.twig t
def BoughCfg.bramAt (c : BoughCfg) (n : Nat) : BramCfg := SMap.get (fun _ => {}) c.bram n
def BoughCfg.macAt (c : BoughCfg) (m : Nat) : MacCfg := SMap.get (fun _ => {}) c.mac m
def BoughCfg.ochAt (c : BoughCfg) (n : Nat) : ChanCfg := SMap.get (fun _ => {}) c.och n
def BoughCfg.ichAt (c : BoughCfg) (n : Nat) : ChanCfg := SMap.get (fun _ => {}) c.ich n
def Bough.qAt (x : Bough) (l : Nat) : Bool := SMap.get (fun _ => false) x.q l
def Bough.bramAt (x : Bough) (n : Nat) : Bram := SMap.get (fun _ => {}) x.bram n
def Bough.macAt (x : Bough) (m : Nat) : MacRegs := SMap.get (fun _ => {}) x.mac m
def Bough.stageAt (x : Bough) (j : Nat) : Stage := SMap.get (fun _ => {}) x.stage j
def Bough.ochAt (x : Bough) (c : Nat) : OutChan := SMap.get (fun _ => {}) x.och c
def Bough.ichAt (x : Bough) (c : Nat) : InChan := SMap.get (fun _ => {}) x.ich c
def Bough.syncAt (x : Bough) (u : Nat) : SyncCell := SMap.get (fun _ => {}) x.sync u
def Bough.setQ (x : Bough) (l : Nat) (v : Bool) : Bough := { x with q := SMap.set (fun _ => false) x.q l v }
def Bough.setBram (x : Bough) (n : Nat) (v : Bram) : Bough := { x with bram := SMap.set (fun _ => {}) x.bram n v }
def Bough.setMac (x : Bough) (n : Nat) (v : MacRegs) : Bough := { x with mac := SMap.set (fun _ => {}) x.mac n v }
def Bough.setStage (x : Bough) (n : Nat) (v : Stage) : Bough := { x with stage := SMap.set (fun _ => {}) x.stage n v }
def Bough.setOch (x : Bough) (n : Nat) (v : OutChan) : Bough := { x with och := SMap.set (fun _ => {}) x.och n v }
def Bough.setIch (x : Bough) (n : Nat) (v : InChan) : Bough := { x with ich := SMap.set (fun _ => {}) x.ich n v }
def Bough.setSync (x : Bough) (n : Nat) (v : SyncCell) : Bough := { x with sync := SMap.set (fun _ => {}) x.sync n v }

def State.pinState (s : State) (n : Nat) : PinState := SMap.get (fun _ => {}) s.pins.pin n
def State.setPin (s : State) (n : Nat) (p : PinState) : State :=
  { s with pins := { s.pins with pin := SMap.set (fun _ => {}) s.pins.pin n p } }

/-! ### Groves -/

def aGR (g o : Nat) : Nat := pg (0x0C0 + g / 4) (0x100 + 0x40 * (g % 4) + o)

/-- Grove g is defined (GR_BOUNDS.DEFINED, R417). -/
def State.groveDefined (s : State) (g : Nat) : Bool := s.rb (aGR g 0) 31

/-- Bough b lies in grove g (R398). -/
def State.inGrove (s : State) (g b : Nat) : Bool :=
  let w := s.reg (aGR g 0)
  s.groveDefined g && fld w 3 0 ≤ b / 8 && b / 8 ≤ fld w 7 4 && fld w 10 8 ≤ b % 8 && b % 8 ≤ fld w 14 12

/-- The grove of bough b, if any. -/
def State.groveOf (s : State) (b : Nat) : Option Nat := (List.range 16).find? fun g => s.inGrove g b

/-- The boughs of grove g. -/
def State.groveBoughs (s : State) (g : Nat) : List Nat := (List.range 128).filter fun b => s.inGrove g b

/-! ### Three-valued logic: `none` is a level that nothing fixes -/

/-- The LUT output (R60). An input that the table ignores does not matter. -/
def lutVal (tt : BitVec 16) (a b c d : Option Bool) : Option Bool :=
  let fits (i : Nat) : Bool := a != some (!Nat.testBit i 0) && b != some (!Nat.testBit i 1) &&
    c != some (!Nat.testBit i 2) && d != some (!Nat.testBit i 3)
  let idx := (List.range 16).filter fits
  if idx.all (fun i => tt.getLsbD i) then some true
  else if idx.all (fun i => !tt.getLsbD i) then some false else none

def xor3 (a b : Option Bool) : Option Bool :=
  match a, b with
  | some x, some y => some (x != y)
  | _, _ => none

/-- COUT = CIN when P = 1, and G when P = 0 (R61). -/
def carryOut (p g c : Option Bool) : Option Bool :=
  match p with
  | some true => c
  | some false => g
  | none => if g = c then g else none

/-! ### MAC output (R134) -/

/-- The value of P read as signed. -/
def sgn64 (p : BitVec 64) : Int := sext 64 p.toNat

/-- r = P rounded by s bits. -/
def macRound (mode sh : Nat) (p : Int) : Int :=
  if sh = 0 then p
  else
    let h : Int := 2 ^ (sh - 1)
    let d : Int := 2 ^ sh
    match mode with
    | 1 => (p + h) / d
    | 2 => let q := p / d
           let r := p % d
           if r < h then q else if h < r then q + 1 else if q % 2 = 0 then q else q + 1
    | _ => p / d

/-- OUT and SAT. -/
def macOut (c : MacCfg) (p : BitVec 64) : BitVec 64 × Bool :=
  let r := macRound c.roundMode.toNat c.roundShift.toNat (sgn64 p)
  let w := c.satW.toNat
  let o := clampInt (-(2 ^ w)) (2 ^ w - 1) r
  (BitVec.ofInt 64 o, o != r)

/-! ### Channels: which wires an enabled channel names (R159) -/

/-- Up wire u (out = true) or down wire u of the bough is data bit j of outgoing or incoming channel c. -/
def ChanCfg.dataBit (c : ChanCfg) (u : Nat) : Option Nat :=
  let j := (u + 256 - c.dbase.toNat) % 256
  if c.en && j ≤ c.w.toNat then some j else none

/-- What a wire serves in the channel that has it. -/
inductive ChanWire where
  | req (c : Nat) | ack (c : Nat) | bit (c j : Nat)
deriving DecidableEq, Repr

/-- The request or the data bit that wire u is of channel c, if it is one. -/
def ChanCfg.forward (k : ChanCfg) (c u : Nat) : Option ChanWire :=
  if k.en && k.req.toNat == u then some (.req c) else (k.dataBit u).map fun j => .bit c j

/-- Wire u is the acknowledge of channel c. -/
def ChanCfg.back (k : ChanCfg) (c u : Nat) : Option ChanWire := if k.en && k.ack.toNat == u then some (.ack c) else none

/-- The channel that up wire u serves: the first that names it, outgoing 0 to 31 and then incoming 0 to 31 (R159). -/
def BoughCfg.upOwner (c : BoughCfg) (u : Nat) : Option ChanWire :=
  ((List.range 32).findSome? fun n => (c.ochAt n).forward n u).or ((List.range 32).findSome? fun n => (c.ichAt n).back n u)

/-- The channel that down wire u serves, in the same order. -/
def BoughCfg.downOwner (c : BoughCfg) (u : Nat) : Option ChanWire :=
  ((List.range 32).findSome? fun n => (c.ochAt n).back n u).or ((List.range 32).findSome? fun n => (c.ichAt n).forward n u)

/-- The source that trunk up wire u selects. The bough up crossbar has no trunk down wires among its sources, so a code that
names one selects constant 0 (R70, R71). -/
def BoughCfg.upSel (c : BoughCfg) (u : Nat) : Nat :=
  let n := (SMap.get (fun _ => 0) c.boughUp u).toNat
  if 1024 ≤ n ∧ n < 1280 then 4095 else n

/-! ### The wires -/

/-- A wire of the fabric. -/
inductive Node where
  | q (b l : Nat) | f (b l : Nat) | cin (b l : Nat) | cout (b l : Nat) | o (b l : Nat) | d (b l : Nat)
  | twig (b t src : Nat) | twigUp (b t u : Nat) | branch (b r src : Nat) | bough (b src : Nat) | dest (b n : Nat)
  | up (b u : Nat) | down (b u : Nat)
deriving DecidableEq, Repr

/-- A wire outside the crossbars of its level is constant 0 (R70). -/
def zero3 : Option Bool := some false

/-- The value of a leaf's asynchronous SR line, if it has one. -/
def asyncSr (c : BoughCfg) (b l : Nat) (ev : Node → Option Bool) : Option Bool :=
  let t := c.twigAt (l / 16)
  match (c.leafAt l).srSel.toNat with
  | 1 => if t.sr0Async then ev (.twig b (l / 16) t.selSr0.toNat) else zero3
  | 2 => if t.sr1Async then ev (.twig b (l / 16) t.selSr1.toNat) else zero3
  | _ => zero3

/-- The value of a leaf's synchronous SR line, if it has one. -/
def syncSr (c : BoughCfg) (b l : Nat) (ev : Node → Option Bool) : Option Bool :=
  let t := c.twigAt (l / 16)
  match (c.leafAt l).srSel.toNat with
  | 1 => if t.sr0Async then zero3 else ev (.twig b (l / 16) t.selSr0.toNat)
  | 2 => if t.sr1Async then zero3 else ev (.twig b (l / 16) t.selSr1.toNat)
  | _ => zero3

/-- The enable of CE_SEL (R63). -/
def enable3 (c : BoughCfg) (b l : Nat) (ev : Node → Option Bool) : Option Bool :=
  let t := c.twigAt (l / 16)
  match (c.leafAt l).ceSel.toNat with
  | 0 => some true
  | 1 => ev (.twig b (l / 16) t.selCe0.toNat)
  | 2 => ev (.twig b (l / 16) t.selCe1.toNat)
  | _ => some false

/-- A level that two cases agree on, or that neither fixes. -/
def agree (a b : Option Bool) : Option Bool := if a = b then a else none

/-- The level a select line chooses: `t` where it reads 1, `f` where it reads 0. -/
def pick (c t f : Option Bool) : Option Bool :=
  match c with
  | some true => t
  | some false => f
  | none => agree t f

/-- What an open latch passes: an asynchronous SR line acts whatever its enable, and a synchronous one while the latch is
transparent (R101, R102). -/
def latchNext (c : BoughCfg) (b l : Nat) (q : Bool) (ev : Node → Option Bool) : Option Bool :=
  let v := some (c.leafAt l).srVal
  pick (asyncSr c b l ev) v (pick (enable3 c b l ev) (pick (syncSr c b l ev) v (ev (.d b l))) (some q))

/-- The next value of a flip-flop at an active edge (R65). -/
def leafNext (c : BoughCfg) (b l : Nat) (q : Bool) (ev : Node → Option Bool) : Option Bool :=
  let v := some (c.leafAt l).srVal
  pick (asyncSr c b l ev) v (pick (syncSr c b l ev) v (pick (enable3 c b l ev) (ev (.d b l)) (some q)))

/-- RDY: the channel holds no word (R160), and its request has been lowered (R116). -/
def OutChan.ready (o : OutChan) : Bool := o.req == o.ack.out && !o.lower

/-! ### Registers of standard pins, at the input taps (R192 to R194, R338) -/

def aIOB (b o : Nat) : Nat := pg (0x500 + b) o

/-- Banks 0 to 7 hold the 256 precision pins; banks 8 to 19 hold the standard pins 256 to 639 (R333, R336). -/
def aIOCFG (n : Nat) : Nat := aIOB (n / 32) (0x200 + 4 * (n % 32))

/-- The input register of pin n: 0 none, in which case the pin passes its level; 1 SDR; 2 DDR. -/
def State.inputReg (s : State) (n : Nat) : Nat :=
  let c := s.reg (aIOCFG n)
  if n < 640 && bit c 7 then fld c 5 4 % 3 else 0

/-- Bough clock c of bough b is taken from the root of the registers of pin n at ratio 1 (R194). -/
def State.inStep (s : State) (b c n : Nat) : Bool := s.bclkRoot b c == s.rf (aIOCFG n) 15 12 && s.bclkRatio b c == 1

/-- The register output that input tap t of bough b takes, where it crosses in step with its root: Q0 or Q1 after three cycles. Any other tap is a
LEVEL crossing. An SDR pin has no Q1, and nothing fixes it. -/
def State.tapWord (s : State) (b : Nat) (t : TapCfg) : Option (Option Bool) :=
  let n := t.pin.toNat
  let q := (s.pinState n).bank.inPipe.getLastD (false, false)
  match t.mode.toNat, s.inputReg n with
  | 1, 0 => none
  | 2, 0 => none
  | 1, _ => if s.inStep b t.clk.toNat n then some (some q.1) else none
  | 2, 2 => if s.inStep b t.clk.toNat n then some (some q.2) else none
  | 2, _ => some none
  | _, _ => none

/-- The hard-block source i of bough b (R137, R160, R338). R130 names DOUT, SBE and DBE of a held bough; PITCH_REQ and PITCH_BUSY read 0 there too
(DESIGN CHOICE, log 117). -/
def hardSource (s : State) (b i : Nat) : Option Bool :=
  let x := s.bough b
  let hold := s.held b
  if i < 1280 then zero3
  else if i < 1920 then
    let n := (i - 1280) / 80
    let k := (i - 1280) % 80
    let m := x.bramAt n
    some (if hold then false
      else if k < 36 then m.doutA.getLsbD k else if k < 72 then m.doutB.getLsbD (k - 36)
      else if k = 72 then m.sbe else if k = 73 then m.dbe else if k = 74 then m.pitchReq
      else if k = 75 then m.pitchBusy else false)
  else if i < 2208 then
    let n := (i - 1920) / 72
    let k := (i - 1920) % 72
    let r := x.macAt n
    let o := macOut (x.cfg.macAt n) r.p
    some (if k < 64 then o.1.getLsbD k else if k = 64 then r.ovf else if k = 65 then o.2 else false)
  else if i < 2240 then some (!s.handshake b && (x.cfg.ichAt (i - 2208)).en && (x.ichAt (i - 2208)).valid)
  else if i < 2272 then some (!s.handshake b && (x.cfg.ochAt (i - 2240)).en && (x.ochAt (i - 2240)).ready)
  else if 2304 ≤ i ∧ i < 2368 then
    let t := SMap.get (fun _ => {}) x.cfg.itap (i - 2304)
    if s.handshake b || 640 ≤ t.pin.toNat || t.mode == 3 then zero3
    else (s.tapWord b t).getD (some (x.syncAt (256 + (i - 2304))).out)
  else zero3

/-- What an up cell drives toward the trunk (R155, R117, R160). -/
def upValue (s : State) (b u : Nat) (ev : Node → Option Bool) : Option Bool :=
  let x := s.bough b
  let c : CellCfg := SMap.get (fun _ => {}) x.cfg.up u
  match x.cfg.upOwner u with
  | some (.req n) => some (x.ochAt n).req
  | some (.bit n j) => some ((x.ochAt n).word.getLsbD j)
  | some (.ack n) => some (x.ichAt n).ack
  | none => if c.mode = 2 then some (SMap.get (fun _ => false) x.upToggle u) else ev (.bough b (x.cfg.upSel u))

/-- What down wire u of bough b receives from the trunk, isolation included (R74, R87). -/
def trunkValue (s : State) (b u : Nat) (ev : Node → Option Bool) : Option Bool :=
  let src := (SMap.get (fun _ => 0) (s.bough b).cfg.trunk u).toNat
  let sb := src / 256
  match (s.bough sb).isolated with
  | some g => if s.inGrove g b then ev (.up sb (src % 256))
              else some (SMap.get (fun _ => false) (s.bough sb).isoVal (src % 256))
  | none => ev (.up sb (src % 256))

/-- The mode of down cell u of bough b. THROUGH out of a handshake bough acts as LEVEL (R117). -/
def State.downMode (s : State) (b u : Nat) : Nat :=
  let x := s.bough b
  let m := (SMap.get (fun _ => {}) x.cfg.down u : CellCfg).mode.toNat
  if m = 0 ∧ s.handshake ((SMap.get (fun _ => 0) x.cfg.trunk u).toNat / 256) then 1 else m

/-- What the receiver sees on down wire u (R156, R159, R117). -/
def downValue (s : State) (b u : Nat) (ev : Node → Option Bool) : Option Bool :=
  let x := s.bough b
  match x.cfg.downOwner u with
  | some (.bit n j) => some ((x.ichAt n).word.getLsbD j)
  | some _ => none
  | none =>
    if s.handshake b then zero3
    else match s.downMode b u with
      | 0 => trunkValue s b u ev
      | 1 => some (x.syncAt u).out
      | 2 => some (x.syncAt u).out
      | _ => zero3

/-- The output O of a leaf from the wires that feed it (R62). -/
def outputO (s : State) (b l : Nat) (ev : Node → Option Bool) : Option Bool :=
  match ((s.bough b).cfg.leafAt l).osel.toNat with
  | 1 => xor3 (ev (.f b l)) (ev (.cin b l))
  | 2 => ev (.cout b l)
  | _ => ev (.f b l)

/-- The value of one wire from those of the wires that feed it. The output of a leaf on a combinational loop is the level the loop has
latched (R75). -/
def nodeStep (s : State) (ev : Node → Option Bool) (n : Node) : Option Bool :=
  match n with
  | .q b l => some ((s.bough b).qAt l)
  | .f b l =>
    let c := (s.bough b).cfg.leafAt l
    let t := l / 16
    lutVal c.tt (ev (.twig b t c.selA.toNat)) (ev (.twig b t c.selB.toNat)) (ev (.twig b t c.selC.toNat))
      (ev (.twig b t c.selD.toNat))
  | .cin b l =>
    if l % 16 ≠ 0 then ev (.cout b (l - 1))
    else
      let t := (s.bough b).cfg.twigAt (l / 16)
      match t.cinSrc.toNat with
      | 0 => zero3
      | 1 => some true
      | 2 => if (l / 16) % 16 = 0 then zero3 else ev (.cout b (l - 1))
      | _ => ev (.twig b (l / 16) t.selCin.toNat)
  | .cout b l =>
    carryOut (ev (.f b l)) (ev (.twig b (l / 16) ((s.bough b).cfg.leafAt l).selA.toNat)) (ev (.cin b l))
  | .o b l =>
    match (s.bough b).loop.find? (·.1 == l) with
    | some e => e.2
    | none => outputO s b l ev
  | .d b l => if ((s.bough b).cfg.leafAt l).dsel then xor3 (ev (.f b l)) (ev (.cin b l)) else ev (.f b l)
  | .twig b t src =>
    if src < 16 then ev (.o b (16 * t + src))
    else if src < 32 then ev (.q b (16 * t + (src - 16)))
    else ev (.branch b (t / 16) (SMap.get (fun _ => 0) (s.bough b).cfg.twigDown (32 * t + (src - 32))).toNat)
  | .twigUp b t u => ev (.twig b t (SMap.get (fun _ => 0) (s.bough b).cfg.twigUp (16 * t + u)).toNat)
  | .branch b r src =>
    if src < 256 then ev (.twigUp b (16 * r + src / 16) (src % 16))
    else if src < 320 then
      ev (.bough b (SMap.get (fun _ => 0) (s.bough b).cfg.boughDest (64 * r + (src - 256))).toNat)
    else zero3
  | .bough b src =>
    if src < 1024 then ev (.branch b (src / 64) (SMap.get (fun _ => 0) (s.bough b).cfg.branchUp src).toNat)
    else if src < 1280 then ev (.down b (src - 1024))
    else hardSource s b src
  | .dest b i => ev (.bough b (SMap.get (fun _ => 0) (s.bough b).cfg.boughDest i).toNat)
  | .up b u => upValue s b u ev
  | .down b u => downValue s b u ev

/-- The value of a wire, followed back through at most `fuel` wires. -/
def nodeVal (s : State) (fuel : Nat) (n : Node) : Option Bool :=
  match fuel with
  | 0 => none
  | k + 1 => nodeStep s (nodeVal s k) n

/-- No path without a loop passes as many wires as this. -/
def fuelMax : Nat := 0x1000000

/-- The value of a wire. -/
def State.wire (s : State) (n : Node) : Option Bool := nodeVal s fuelMax n

/-- The value of a wire, a free value where nothing fixes it. -/
def State.wireBit (s0 : State) (n : Node) (s : State) : Bool × State :=
  match s0.wire n with
  | some v => (v, s)
  | none => s.freeBool

/-! ### Combinational loops (R75) -/

/-- The inputs a table depends on. -/
def lutUses (tt : BitVec 16) : List Nat :=
  (List.range 4).filter fun i => (List.range 16).any fun k => tt.getLsbD k != tt.getLsbD (k ^^^ 2 ^ i)

/-- The wires that feed a wire within the logic, by the configuration alone. -/
def nodeIns (s : State) (n : Node) : List Node :=
  match n with
  | .q _ _ => []
  | .f b l =>
    let c := (s.bough b).cfg.leafAt l
    (lutUses c.tt).map fun i => .twig b (l / 16) (([c.selA, c.selB, c.selC, c.selD] : List (BitVec 6)).getD i 0).toNat
  | .cin b l =>
    if l % 16 ≠ 0 then [.cout b (l - 1)]
    else
      let t := (s.bough b).cfg.twigAt (l / 16)
      match t.cinSrc.toNat with
      | 0 => []
      | 1 => []
      | 2 => if (l / 16) % 16 = 0 then [] else [.cout b (l - 1)]
      | _ => [.twig b (l / 16) t.selCin.toNat]
  | .cout b l => [.f b l, .twig b (l / 16) ((s.bough b).cfg.leafAt l).selA.toNat, .cin b l]
  | .o b l =>
    match ((s.bough b).cfg.leafAt l).osel.toNat with
    | 1 => [.f b l, .cin b l]
    | 2 => [.cout b l]
    | _ => [.f b l]
  | .d b l => [.f b l, .cin b l]
  | .twig b t src =>
    if src < 16 then [.o b (16 * t + src)]
    else if src < 32 then [.q b (16 * t + (src - 16))]
    else [.branch b (t / 16) (SMap.get (fun _ => 0) (s.bough b).cfg.twigDown (32 * t + (src - 32))).toNat]
  | .twigUp b t u => [.twig b t (SMap.get (fun _ => 0) (s.bough b).cfg.twigUp (16 * t + u)).toNat]
  | .branch b r src =>
    if src < 256 then [.twigUp b (16 * r + src / 16) (src % 16)]
    else if src < 320 then [.bough b (SMap.get (fun _ => 0) (s.bough b).cfg.boughDest (64 * r + (src - 256))).toNat]
    else []
  | .bough b src =>
    if src < 1024 then [.branch b (src / 64) (SMap.get (fun _ => 0) (s.bough b).cfg.branchUp src).toNat]
    else if src < 1280 then [.down b (src - 1024)]
    else []
  | .dest b i => [.bough b (SMap.get (fun _ => 0) (s.bough b).cfg.boughDest i).toNat]
  | .up b u =>
    let x := s.bough b
    if (x.cfg.upOwner u).isSome || (SMap.get (fun _ => {}) x.cfg.up u : CellCfg).mode == 2 then [] else [.bough b (x.cfg.upSel u)]
  | .down b u =>
    let x := s.bough b
    let src := (SMap.get (fun _ => 0) x.cfg.trunk u).toNat
    if (x.cfg.downOwner u).isSome || s.handshake b || s.downMode b u != 0 then []
    else [.up (src / 256) (src % 256)]

/-- The wires found from those of `todo`, each followed once. -/
def reachFrom (s : State) (fuel : Nat) (todo seen : List Node) : List Node :=
  match fuel, todo with
  | 0, _ => seen
  | _, [] => seen
  | k + 1, n :: l => if seen.contains n then reachFrom s k l seen else reachFrom s k (nodeIns s n ++ l) (n :: seen)

/-- The output of leaf l of bough b lies on a loop that contains no flip-flop. -/
def State.onLoop (s : State) (b l : Nat) : Bool := (reachFrom s fuelMax (nodeIns s (.o b l)) []).contains (.o b l)

/-- The leaves whose outputs lie on a loop, with a level that nothing fixes yet. -/
def State.loopsOf (s : State) (b : Nat) : List (Nat × Option Bool) :=
  (((s.bough b).cfg.leaf.map (·.1)).filter fun l => s.onLoop b l).map fun l => (l, none)

/-- The levels of the loops. -/
def State.loopLevels (s : State) : List (Nat × List (Nat × Option Bool)) := (s.fabric.boughs.map fun e => (e.1, e.2.loop)).filter fun e => !e.2.isEmpty

/-- The outputs on loops, by bough and leaf, with their levels. -/
def State.loopOuts (s : State) : List ((Nat × Nat) × Option Bool) := s.loopLevels.flatMap fun e => e.2.map fun p => ((e.1, p.1), p.2)

/-- The output of leaf l of bough b, which lies on a loop, takes level v. -/
def State.setLoop (s : State) (b l : Nat) (v : Option Bool) : State :=
  s.updBough b fun x => { x with loop := x.loop.map fun q => if q.1 = l then (l, v) else q }

/-- Every loop output takes the level its LUT gives it from the present levels: delays equal for every LUT. -/
def State.loopPass (s : State) : State :=
  s.loopOuts.foldl (fun t p => t.setLoop p.1.1 p.1.2 (outputO s p.1.1 p.1.2 s.wire)) s

/-- The loop outputs take their levels one after another, each from those before it. -/
def State.loopSweep (s : State) : State :=
  s.loopOuts.foldl (fun t p => t.setLoop p.1.1 p.1.2 (outputO t p.1.1 p.1.2 t.wire)) s

/-- Passes until no level changes, at most `fuel`. -/
def State.loopSettle (pass : State → State) (fuel : Nat) (s : State) : State :=
  match fuel with
  | 0 => s
  | k + 1 =>
    let t := pass s
    if t.loopLevels == s.loopLevels then s else State.loopSettle pass k t

/-- The loop outputs that `fuel` passes change. -/
def State.loopMoves (pass : State → State) (fuel : Nat) (s : State) : List (Nat × Nat) :=
  match fuel with
  | 0 => []
  | k + 1 =>
    let t := pass s
    if t.loopLevels == s.loopLevels then []
    else (s.loopOuts.filter fun p => !t.loopOuts.contains p).map (·.1) ++ State.loopMoves pass k t

/-- The loops settle from their present levels (R75), each by itself: what one does leaves another alone unless a wire joins them. The outputs that no
delay equal for every LUT settles start from levels that are open, as the delays of their routes decide them, and move one after another;
those that still change oscillate, and have no fixed level. -/
def State.settleLoops (s : State) : State :=
  if s.loopLevels.isEmpty then s
  else
    let n := 2 + 2 * s.loopOuts.length
    let t := s.loopSettle State.loopPass n
    let bad := (State.loopMoves State.loopPass n t ++ (t.loopOuts.filter (·.2.isNone)).map (·.1)).eraseDups
    if bad.isEmpty then t
    else
      let u := bad.foldl (fun (u : State) p => let (v, w) := u.freeBool
                                               w.setLoop p.1 p.2 (some v)) t
      let v := u.loopSettle State.loopSweep n
      ((State.loopMoves State.loopSweep n v).eraseDups.foldl (fun (w : State) p => w.setLoop p.1 p.2 none) v).loopSettle State.loopSweep n

/-- The outputs on loops that oscillate. -/
def State.oscillators (s : State) : List Node := (s.loopOuts.filter (·.2.isNone)).map fun p => .o p.1.1 p.1.2

/-- n wires of the hard-block inputs of bough b from destination d, as a number, least significant bit first. -/
def State.wireBits (s0 : State) (b d n : Nat) (s : State) : Nat × State :=
  (List.range n).foldl (fun (acc : Nat × State) i =>
    let (v, t) := s0.wireBit (.dest b (d + i)) acc.2
    (acc.1 + (if v then 2 ^ i else 0), t)) (0, s)

end Sys2Proof.Machine
end

