-- ==== Sys2Proof/Machine/FlashArray.lean ====
section
/-! DEFINITION. The flash array (R420 to R426, R430): bytes, sector status, remapping, retirement; CRC-32; OTP words (R437, R438). -/

namespace Sys2Proof.Machine

def State.updFlash (s : State) (f : Flash → Flash) : State := { s with flash := f s.flash }

/-! ### CRC-32 (IEEE 802.3) -/

/-- One byte into the running CRC-32. -/
def crcByte (c : Nat) (b : Byte) : Nat :=
  let step (x : Nat) : Nat := if x % 2 = 1 then (x >>> 1) ^^^ 0xEDB88320 else x >>> 1
  step (step (step (step (step (step (step (step (c ^^^ b.toNat))))))))

/-- The running CRC-32 over bytes. -/
def crcRun (c : Nat) (bytes : List Byte) : Nat := bytes.foldl crcByte c

/-- The CRC-32 of a string of bytes. -/
def crc32 (bytes : List Byte) : Nat := crcRun 0xFFFFFFFF bytes ^^^ 0xFFFFFFFF

/-- Little-endian bytes of a number, and back. -/
def bytesOf (n v : Nat) : List Byte := (List.range n).map fun k => BitVec.ofNat 8 (v / 2 ^ (8 * k))
def ofBytes (l : List Byte) : Nat := l.foldr (fun b acc => b.toNat + 256 * acc) 0

/-- Bytes padded with 0xFF to whole lines (R440, R526). -/
def padLines (l : List Byte) : List Byte := l ++ List.replicate ((32 - l.length % 32) % 32) 0xFF

/-! ### Registers -/

def aFLASH (o : Nat) : Nat := pg 0x700 o

/-! ### Sectors -/

/-- The partition of a sector: 0 bank A, 1 bank B, 2 user data, 3 system area (R420). -/
def partOf (sec : Nat) : Nat := if sec < 160 then 0 else if sec < 320 then 1 else if sec < 448 then 2 else 3

/-- The endurance of a partition (R420). -/
def endurance (part : Nat) : Nat := if part < 2 then 10000 else 100000

/-- The spare sectors of a partition (R421). -/
def sparesOf (part : Nat) : List Nat :=
  match part with
  | 0 => (List.range 8).map (152 + ·)
  | 1 => (List.range 8).map (312 + ·)
  | 3 => (List.range 24).map (488 + ·)
  | _ => []

/-- The physical sector that serves a sector. -/
def State.physSector (s : State) (sec : Nat) : Nat := SMap.get id s.flash.remap sec

/-- The physical address of a byte address. -/
def State.physAddr (s : State) (a : Nat) : Nat := s.physSector (a / 0x10000) * 0x10000 + a % 0x10000

/-- Status of the sector that serves sec: 0 READY, 1 ERASE_OPEN, 2 RETIRED. -/
def State.sectorStatus (s : State) (sec : Nat) : Nat := SMap.get (fun _ => 0) s.flash.status (s.physSector sec)

/-- Set the status; OPEN counts the sectors that are ERASE_OPEN (R434). -/
def State.setStatus (s : State) (sec v : Nat) : State :=
  let s1 := s.updFlash fun f => { f with status := SMap.set (fun _ => 0) f.status (s.physSector sec) v }
  s1.setF (aFLASH 0x30) 9 0 (s1.flash.status.filter fun e => e.2 == 1).length

/-- What the array holds at a byte address. -/
def State.flashCell (s : State) (a : Nat) : Byte := SMap.get (fun _ => 0xFF) s.flash.bytes (s.physAddr a)

/-- The line at address a was interrupted during its pulses (R431). -/
def State.lineHalf (s : State) (a : Nat) : Bool := s.flash.half.contains (s.physAddr a / 32)

/-- A byte of the flash. The bits that are 0 in the data of a half-programmed line read 0 or 1. -/
def State.flashByte (s : State) (a : Nat) : Byte :=
  if s.lineHalf a then s.flashCell a ||| Config.weakByte (s.physAddr a) s.freeIx s.time.now.toNat else s.flashCell a

/-- n bytes of the flash. -/
def State.flashRead (s : State) (a n : Nat) : List Byte := (List.range n).map fun k => s.flashByte (a + k)

/-- Programming changes bits only from 1 to 0 (R424). -/
def State.flashWrite (s : State) (a : Nat) (bytes : List Byte) : State :=
  match bytes with
  | [] => s
  | b :: t =>
    State.flashWrite (s.updFlash fun f =>
      { f with bytes := SMap.set (fun _ => 0xFF) f.bytes (s.physAddr a) (s.flashCell a &&& b) }) (a + 1) t

/-- The line at address a is blank, which a half-programmed one never is (R424, R431). -/
def State.lineBlank (s : State) (a : Nat) : Bool := !s.lineHalf a && (s.flashRead a 32).all (· == 0xFF)

/-- Every byte of a sector reads 1s. -/
def State.sectorBlank (s : State) (sec : Nat) : Bool :=
  let p := s.physSector sec
  !(s.flash.bytes.any (fun e => e.1 / 0x10000 == p) || s.flash.half.any (fun l => l / 0x800 == p))

/-- The bytes of a sector all read 1. -/
def State.wipeSector (s : State) (sec : Nat) : State :=
  let p := s.physSector sec
  s.updFlash fun f => { f with bytes := f.bytes.filter fun e => e.1 / 0x10000 ≠ p, half := f.half.filter fun l => l / 0x800 ≠ p }

/-- A read that returns data of an ERASE_OPEN sector (R422): SUSPECT of RD_STAT, its count and its PAGE_ERR bit. -/
def State.suspectRead (s : State) (suspect : Bool) : State :=
  if suspect then ((s.setB (aFLASH 0x28) 0 true).satAdd (aFLASH 0x28) 31 16 1).setErr 0x700 19
  else s.setB (aFLASH 0x28) 0 false

/-- A byte range touches a sector whose status is ERASE_OPEN. -/
def State.rangeOpen (s : State) (a n : Nat) : Bool :=
  (List.range ((a + n - 1) / 0x10000 - a / 0x10000 + 1)).any fun k => s.sectorStatus (a / 0x10000 + k) == 1

/-- The erase count of the sector that serves sec, in the heartwood's working copy (R425). A retired sector keeps its own (R430). -/
def State.eraseCount (s : State) (sec : Nat) : Nat := SMap.get (fun _ => 0) s.heart.work.erase (s.physSector sec)

/-- One more erase of the physical sector p. -/
def State.countErase (s : State) (p : Nat) : State :=
  { s with heart := { s.heart with
    work := { s.heart.work with
      erase := SMap.set (fun _ => 0) s.heart.work.erase p (min (SMap.get (fun _ => 0) s.heart.work.erase p + 1) 0xFFFFFFFF) }
    erasePending := some p } }

/-- A free spare for a partition: one that serves no sector and is not retired. -/
def State.freeSpare (s : State) (part : Nat) : Option Nat :=
  (sparesOf part).find? fun q => !(s.flash.remap.any fun e => e.2 == q) && SMap.get (fun _ => 0) s.flash.status q != 2

/-- The bytes of physical sector q are replaced by those of physical sector p. -/
def copySector (m : SMap Byte) (p q : Nat) : SMap Byte :=
  let rest := m.filter fun (e : Nat × Byte) => e.1 / 0x10000 ≠ q
  (m.filter fun (e : Nat × Byte) => e.1 / 0x10000 = p).foldl
    (fun acc (e : Nat × Byte) => SMap.set (fun _ => 0xFF) acc (q * 0x10000 + e.1 % 0x10000) e.2) rest

/-- A sector is retired (R430): remapped to a spare where there is one, which is erased first and takes live system content; else
RETIRED. -/
def State.retireSector (s : State) (sec : Nat) : State :=
  let part := partOf sec
  let old := s.physSector sec
  let s1 := match s.freeSpare part with
    | some q => (s.countErase q).updFlash fun f => { f with
        remap := SMap.set id f.remap sec q
        status := SMap.set (fun _ => 0) (SMap.set (fun _ => 0) f.status old 2) q 0
        bytes := if part = 3 then copySector f.bytes old q else f.bytes.filter fun (e : Nat × Byte) => e.1 / 0x10000 ≠ q
        half := f.half.filter fun l => l / 0x800 ≠ q }
    | none => s.setStatus sec 2
  ((s1.setStatus sec (s1.sectorStatus sec)).satAdd (aFLASH 0x2C) (8 * part + 7) (8 * part) 1).setErr 0x700 18

/-- The erase of a sector completes (R425 steps 4 and 5, R430): its count increments, and a count at the endurance figure
retires it. -/
def State.eraseSector (s : State) (sec : Nat) : State :=
  let s1 := ((s.wipeSector sec).countErase (s.physSector sec)).setStatus sec 0
  if endurance (partOf sec) ≤ s1.eraseCount sec then s1.retireSector sec else s1

/-! ### OTP (R437, R438) -/

/-- A word of the OTP itself. -/
def State.otpCell (s : State) (w : Nat) : BitVec 64 := SMap.get (Config.otpShipped s.otp.variant) s.otp.words w

/-- A word of the AON shadow, which every use of the OTP reads. -/
def State.otpWord (s : State) (w : Nat) : BitVec 64 := SMap.get (Config.otpShipped s.otp.variant) s.otp.shadow w

/-- Programming sets bits to 1. -/
def State.otpProgram (s : State) (w : Nat) (v : BitVec 64) : State :=
  { s with otp.words := SMap.set (Config.otpShipped s.otp.variant) s.otp.words w (s.otpCell w ||| v) }

/-- The Guide loads the OTP into the shadow. -/
def State.otpReload (s : State) : State := { s with otp.shadow := s.otp.words }

/-- The shadow of one word follows the OTP. -/
def State.otpFollow (s : State) (w : Nat) : State :=
  { s with otp.shadow := SMap.set (Config.otpShipped s.otp.variant) s.otp.shadow w (s.otpCell w) }

/-- A slot of OTP words reads all 0 (R437). -/
def State.otpEmpty (s : State) (w n : Nat) : Bool := (List.range n).all fun k => s.otpWord (w + k) == 0

/-- The bits of a slot, first word lowest: the digest bytes in order, little-endian (R514). -/
def State.otpBits (s : State) (w n : Nat) : Nat := (List.range n).foldr (fun k acc => (s.otpWord (w + k)).toNat + 2 ^ 64 * acc) 0

/-- The anti-rollback count: consecutive 1 bits from bit 0 of word 92 (R438). -/
def State.rollback (s : State) : Nat :=
  let bits := (List.range 256).takeWhile fun i => (s.otpWord (92 + i / 64)).getLsbD (i % 64)
  bits.length

end Sys2Proof.Machine
end

