-- ==== Sys2Proof/Machine/Heart.lean ====
section
/-! DEFINITION. The heartwood (R526 to R533): counters, the layouts of its entries, and when they reach flash. -/

namespace Sys2Proof.Machine

def aHEART (o : Nat) : Nat := pg 0x720 o
def aRTC (o : Nat) : Nat := pg 0x003 o

def State.updHeart (s : State) (f : HeartCopy → HeartCopy) : State := { s with heart := { s.heart with work := f s.heart.work } }
def State.updCount (s : State) (f : HeartCount → HeartCount) : State := s.updHeart fun h => { h with count := f h.count }

/-- 125 °C and 120 °C in units of 1/8 °C. -/
def hot : Int := 1000
def cool : Int := 960

/-- TJ above 125 °C, as last sampled. -/
def State.isHot (s : State) : Bool := decide (hot < s.power.tj)

/-- TJ is sampled at the hottest point (R427, R533): THERMAL, and the highest and lowest sampled. -/
def State.sampleTj (s : State) (tj : Int) : State :=
  let bin : Int := clampInt 0 15 ((tj + 320) / 100)
  let s1 := { s with power := { s.power with tj := tj } }
  let s2 := s1.setReg (aHEART 0x34) (BitVec.ofNat 32 (scode 16 tj * 2 ^ 16 + bin.toNat))
  s2.updCount fun c => { c with tjMax := max c.tjMax tj, tjMin := min c.tjMin tj }

/-! ### The calendar (R534) -/

/-- Calendar seconds. -/
def State.calendar (s : State) : Nat := (s.reg (aRTC 0x28)).toNat + s.rf (aRTC 0x2C) 7 0 * 2 ^ 32
def State.setCalendar (s : State) (c : Nat) : State :=
  (s.setReg (aRTC 0x28) (BitVec.ofNat 32 c)).setReg (aRTC 0x2C) (BitVec.ofNat 32 (c / 2 ^ 32 % 256))
def State.calState (s : State) : Nat := s.rf (aRTC 0x24) 1 0

/-- The alarm's calendar value. -/
def State.alarmAt (s : State) : Nat := (s.reg (aRTC 0x40)).toNat + s.rf (aRTC 0x44) 7 0 * 2 ^ 32

/-- A commit or a calendar set that finds the calendar at the alarm already fires it at once (R537). -/
def State.alarmNow (s : State) : State :=
  if s.rb (aRTC 0x20) 0 ∧ s.alarmAt ≤ s.calendar then ((s.setB (aRTC 0x20) 0 false).setErr 0x003 16).raise 118 else s

/-- The free-running tick count (R481). -/
def State.ticks (s : State) : Nat := (s.reg (aRTC 0x38)).toNat + s.rf (aRTC 0x3C) 15 0 * 2 ^ 32
def State.setTicks (s : State) (n : Nat) : State :=
  (s.setReg (aRTC 0x38) (BitVec.ofNat 32 n)).setReg (aRTC 0x3C) (BitVec.ofNat 32 (n / 2 ^ 32 % 2 ^ 16))

/-- The tick count moves on to `sub` ticks of the present second. -/
def State.rtcAdvance (s : State) (sub : Nat) : State :=
  let c := s.rf (aRTC 0x30) 14 0
  if sub < c ∨ 32768 ≤ sub then s
  else (s.setTicks ((s.ticks + (sub - c)) % 2 ^ 48)).setReg (aRTC 0x30) (BitVec.ofNat 32 sub)

/-- The RTC is read: the ticks of the present second have moved on by a number that no command gives (log 59). -/
def State.rtcNow (s : State) : State :=
  let (v, s1) := s.free 15
  s1.rtcAdvance v.toNat

/-! ### Counters that saturate (R533) -/

/-- A counter that was `old` reaches its maximum: PAGE_ERR bit 16 and event 121, once. -/
def State.heartLimit (s : State) (old max : Nat) : State := if old + 1 = max then (s.setErr 0x720 16).raise 121 else s

def max32 : Nat := 0xFFFFFFFF
def max40 : Nat := 0xFFFFFFFFFF

/-- VIN event counter i: BRACES, UNBRACED, SLEPT_LOW, RAIL_FAULTS, OV. -/
def State.heartVin (s : State) (i : Nat) : State :=
  let n := SMap.get (fun _ => 0) s.heart.work.count.vin i
  (s.updCount fun c => { c with vin := SMap.set (fun _ => 0) c.vin i (min (n + 1) max32) }).heartLimit n max32

/-- Error class ERR[k][r]. -/
def State.heartErr (s : State) (k r : Nat) : State :=
  if k = 0 ∨ 7 ≤ k then s
  else
    let n := SMap.get (fun _ => 0) s.heart.work.count.err (8 * k + r)
    (s.updCount fun c => { c with err := SMap.set (fun _ => 0) c.err (8 * k + r) (min (n + 1) max32) }).heartLimit n max32

/-- A load counter: 0 LOADS_A, 1 LOADS_B, 2 LOAD_FAILS, 3 GROVE_LOADS. -/
def State.heartLoad (s : State) (i : Nat) : State :=
  let c := s.heart.work.count
  let o := match i with | 0 => c.loadsA | 1 => c.loadsB | 2 => c.loadFails | _ => c.groveLoads
  let n := min (o + 1) max32
  (s.updCount fun c => match i with
    | 0 => { c with loadsA := n } | 1 => { c with loadsB := n } | 2 => { c with loadFails := n }
    | _ => { c with groveLoads := n }).heartLimit o max32

def State.heartCommit (s : State) : State :=
  let n := s.heart.work.count.commits
  (s.updCount fun c => { c with commits := min (n + 1) max32 }).heartLimit n max32

/-- POWER_CYCLES and EPOCH_SEED advance (R533). -/
def State.heartCycle (s : State) : State :=
  let o := s.heart.work.count.powerCycles
  let n := min (o + 1) max32
  let s1 := (s.updCount fun c => { c with powerCycles := n, epochSeed := c.epochSeed + 1 }).heartLimit o max32
  s1.setReg (aHEART 0x30) (BitVec.ofNat 32 n)

/-- One second of power at the present temperature (R533). -/
def State.heartSecond (s : State) : State :=
  let o := s.heart.work.count.poweredS
  let n := min (o + 1) max40
  let i := s.rf (aHEART 0x34) 3 0
  let t := SMap.get (fun _ => 0) s.heart.work.count.temp i
  let s1 := (s.updCount fun c => { c with poweredS := n, temp := SMap.set (fun _ => 0) c.temp i (min (t + 1) max32) }).heartLimit o max40
  let s2 := s1.heartLimit t max32
  (s2.setReg (aHEART 0x28) (BitVec.ofNat 32 n)).setReg (aHEART 0x2C) (BitVec.ofNat 32 (n / 2 ^ 32))

/-- SLEPT_S takes the whole seconds of a number of ticks. -/
def State.heartSlept (s : State) (ticks : Nat) : State :=
  let o := s.heart.work.count.sleptS
  let n := min (o + ticks / 32768) max40
  (s.updCount fun c => { c with sleptS := n }).heartLimit (if o < max40 then n - 1 else o) max40

/-! ### Layouts (R527 to R529) -/

/-- COUNT data, 304 bytes (R528). -/
def countData (c : HeartCount) (cal calState : Nat) : List Byte :=
  bytesOf 4 c.powerCycles ++ bytesOf 2 c.epochSeed.toNat ++ bytesOf 2 0 ++ bytesOf 5 c.poweredS ++ bytesOf 5 c.sleptS ++
  bytesOf 5 cal ++ bytesOf 1 calState ++
  (List.range 16).flatMap (fun i => bytesOf 4 (SMap.get (fun _ => 0) c.temp i)) ++
  bytesOf 2 (scode 16 c.tjMax) ++ bytesOf 2 (scode 16 c.tjMin) ++
  (List.range 5).flatMap (fun i => bytesOf 4 (SMap.get (fun _ => 0) c.vin i)) ++
  bytesOf 4 c.loadsA ++ bytesOf 4 c.loadsB ++ bytesOf 4 c.loadFails ++ bytesOf 4 c.groveLoads ++
  bytesOf 4 c.commits ++ bytesOf 4 0 ++
  (List.range 6).flatMap (fun k => (List.range 7).flatMap fun r =>
    bytesOf 4 (SMap.get (fun _ => 0) c.err (8 * (k + 1) + r + 1)))

/-- A supply-fail record, 16 bytes (R529). -/
def failData (f : FailRec) : List Byte :=
  bytesOf 5 f.calendar ++ bytesOf 1 (f.quality % 16 + f.unbraced.toNat * 16 + f.stale.toNat * 32) ++ bytesOf 2 f.vin ++ bytesOf 8 f.ns

/-- A repair-list entry, 12 bytes (R529). -/
def repairData (r : Repair) : List Byte :=
  bytesOf 4 r.elem.toNat ++ bytesOf 5 r.calendar ++ bytesOf 1 (if r.retired then 2 else 1) ++ bytesOf 1 r.spare ++ bytesOf 1 r.source

/-- The erase counts of piece p (R527). -/
def pieceData (h : HeartCopy) (p : Nat) : List Byte :=
  (List.range 32).flatMap fun i => bytesOf 4 (SMap.get (fun _ => 0) h.erase (32 * p + i))

/-- All 256 entries of the repair list. -/
def repairsData (h : HeartCopy) : List Byte :=
  (h.repairs.flatMap repairData ++ List.replicate (12 * 256) 0).take (12 * 256)

/-- All 16 records of the supply-fail ring. -/
def failsData (h : HeartCopy) : List Byte := (h.fails.flatMap failData ++ List.replicate 256 0).take 256

/-- An entry: header, data and padding (R526). -/
def heartEntry (ty seq arg : Nat) (data : List Byte) : List Byte :=
  let head := bytesOf 2 ty ++ bytesOf 2 data.length ++ bytesOf 4 seq ++ bytesOf 4 arg
  padLines (head ++ bytesOf 4 (crc32 (head ++ data)) ++ data)

/-! ### Writing (R530, R531) -/

/-- The next line of the heartwood. -/
def State.heartLine (s : State) : Nat := (464 + s.heart.sector) * 0x10000 + 32 * s.heart.line

/-- Write one entry at the head of the log: SEQ rises by 1 and event 120 is raised. -/
def State.heartPut (s : State) (ty arg : Nat) (data : List Byte) : State :=
  let seq := s.heart.seq + 1
  let e := heartEntry ty seq.toNat arg data
  let s1 := s.flashWrite s.heartLine e
  let s2 := { s1 with heart := { s1.heart with seq := seq, line := s.heart.line + e.length / 32 } }
  (s2.setReg (aHEART 0x24) seq).raise 120

/-- The ERASE pieces whose counts flash does not hold, and that of physical sector p (R531). -/
def State.stalePieces (s : State) (p : Nat) : List Nat :=
  (List.range 16).filter fun k => k == p / 32 || pieceData s.heart.work k != pieceData s.heart.flash k

/-- They are written. -/
def State.heartPieces (s : State) (p : Nat) : State :=
  let s1 := (s.stalePieces p).foldl (fun t k => t.heartPut 3 k (pieceData s.heart.work k)) s
  { s1 with heart := { s1.heart with
    clean := false, erasePending := none, flash := { s1.heart.flash with erase := s.heart.work.erase } } }

/-- Write a new base in the next sector, and erase the oldest one, whose ERASE piece follows (R530, R531). -/
def State.heartRebase (s : State) : State :=
  let first := !s.heart.valid
  let h := s.heart.work
  let s0 := { s with heart := { s.heart with sector := if first then 0 else (s.heart.sector + 1) % 8, line := 0 } }
  let seq0 := s0.heart.seq + 1
  let s1 := s0.heartPut 1 0 (countData h.count s.calendar s.calState)
  let s2 := (List.range 16).foldl (fun t p => t.heartPut 3 p (pieceData h p)) s1
  let s3 := s2.heartPut 5 h.repairs.length (repairsData h)
  let s4 := s3.heartPut 6 h.fails.length (failsData h)
  let s5 := s4.heartPut 7 seq0.toNat []
  let s6 := { s5 with heart := { s5.heart with
    valid := true, clean := false, erasePending := none, flash := { h with calendar := s.calendar, calState := s.calState }
    oldest := if first then 0 else s.heart.oldest } }
  let s7 := s6.setF (aHEART 0x20) 10 8 s6.heart.sector
  let used : Nat := (s7.heart.sector + 8 - s7.heart.oldest) % 8 + 1
  if first then s7
  else if 6 < used then
    let t := (s7.eraseSector (464 + s7.heart.oldest)).heartPieces (s7.physSector (464 + s7.heart.oldest))
    { t with heart := { t.heart with oldest := (s7.heart.oldest + 1) % 8 } }
  else s7

/-- Free lines of the current sector (2,048 lines a sector). -/
def State.heartFree (s : State) : Nat := if s.heart.valid then 2048 - s.heart.line else 0

/-- Make room for n lines. -/
def State.heartRoom (s : State) (n : Nat) : State := if s.heartFree < n then s.heartRebase else s

/-- A write above TJ 125 °C is deferred (R532). -/
def State.heartDefer (s : State) : State :=
  (({ s with heart := { s.heart with deferred := true } }).setF (aHEART 0x20) 2 0 3).setErr 0x720 17

/-- Carry out a heartwood write, or defer it. -/
def State.heartWrite (s : State) (f : State → State) : State := if s.isHot then s.heartDefer else f s

/-- A COUNT entry. `clean` marks the COUNT of a BIVOUAC or OFF entry (R533). -/
def State.heartCount (s : State) (clean : Bool) : State :=
  s.heartWrite fun t =>
    let t0 := t.heartRoom 10
    let t1 := t0.heartPut 1 0 (countData t.heart.work.count t.calendar t.calState)
    { t1 with heart := { t1.heart with
      clean := clean
      flash := { t1.heart.flash with count := t.heart.work.count, calendar := t.calendar, calState := t.calState } } }

/-- After an erase of sec: the ERASE piece of the sector that serves it, and of one that it has just been moved from (R430, R531). -/
def State.heartErase (s : State) (sec : Nat) : State :=
  s.heartWrite fun t =>
    let p := t.physSector sec
    (t.heartRoom (5 * (t.stalePieces p).length)).heartPieces p

/-- A repair or a retirement is entered in the list, which holds 256 entries, and reaches flash (R497, R531). -/
def State.heartRepair (s : State) (r : Repair) : State :=
  let s1 := s.updHeart fun h => { h with repairs := h.repairs ++ [r] }
  s1.heartWrite fun t =>
    let t1 := (t.heartRoom 1).heartPut 4 0 (repairData r)
    { t1 with heart := { t1.heart with clean := false, flash := { t1.heart.flash with repairs := t1.heart.flash.repairs ++ [r] } } }

/-- Add a supply-fail record to the ring of 16 (R529). -/
def addFail (l : List FailRec) (r : FailRec) : List FailRec := (l ++ [r]).drop (l.length + 1 - 16)
def State.heartFail (s : State) (r : FailRec) : State := s.updHeart fun h => { h with fails := addFail h.fails r }

/-- The BRACE entry (R531): not written above 125 °C, where a loss of supply counts as unbraced (R532). It carries an erase count not
yet written. -/
def State.heartBrace (s : State) (t0 : DevTime) (vin : Nat) : State :=
  let r : FailRec := { calendar := s.calendar, quality := s.quality, unbraced := false, stale := s.calState == 2, vin := vin, ns := nsOf t0 }
  let s1 := s.heartFail r
  if s1.isHot then { s1 with heart := { s1.heart with clean := false } }
  else
    let w := s1.heart.work
    let n (p : Nat) : Nat := SMap.get (fun _ => 0) w.erase p
    let data := countData w.count s1.calendar s1.calState ++ failData r ++ (match s1.heart.erasePending with
      | some p => bytesOf 2 p ++ bytesOf 2 0 ++ bytesOf 4 (n p)
      | none => bytesOf 2 0xFFFF ++ bytesOf 2 0 ++ bytesOf 4 0)
    let s2 := (s1.heartRoom 11).heartPut 2 0 data
    let f := s2.heart.flash
    { s2 with heart := { s2.heart with
      clean := true, erasePending := none
      flash := { f with
        count := w.count, fails := if f.fails = w.fails then f.fails else addFail f.fails r
        erase := match s1.heart.erasePending with | some p => SMap.set (fun _ => 0) f.erase p (n p) | none => f.erase
        calendar := s1.calendar, calState := s1.calState } } }

/-- The deferred write is made: the latest working copy (R532). -/
def State.heartLate (s : State) : State :=
  if s.heart.deferred ∧ s.power.tj ≤ cool then
    let s1 := ({ s with heart := { s.heart with deferred := false } }).setF (aHEART 0x20) 2 0 0
    if s1.heart.work.repairs = s1.heart.flash.repairs ∧ s1.heart.work.erase = s1.heart.flash.erase then s1.heartCount false
    else s1.heartRebase
  else s

/-- The record of the latest repair or retirement of a row, and the lists they make. -/
def State.listedRetired (s : State) (elem : Word) : Bool := s.heart.work.repairs.any fun r => r.elem == elem && r.retired

/-- At boot the working copy is what flash holds (R530): with no valid base it starts from zero. -/
def State.heartBoot (s : State) : State :=
  if s.heart.valid then { s with heart := { s.heart with work := s.heart.flash, deferred := false } }
  else
    let s1 := { s with heart := { s.heart with work := {}, flash := {}, deferred := false } }
    s1.setErr 0x720 18

end Sys2Proof.Machine
end

