-- ==== Sys2Proof/Machine/Checks.lean ====
section
/-! DEFINITION. Targeted checks, classification, repair and retirement (R493 to R498, R503 to R507). -/

namespace Sys2Proof.Machine

def aPITCH (o : Nat) : Nat := pg 0x007 o
def State.updBist (s : State) (f : Bist → Bist) : State := { s with bist := f s.bist }

/-! ### Element codes (R503) -/

def elemKind (e : Word) : Nat := fld e 31 29
def elemOf (kind index : Nat) : Word := BitVec.ofNat 32 (kind * 2 ^ 29 + index)

/-- The element's row among those that share its spares, and the key of those that do: memory, context memory, bank. -/
def elemPool (e : Word) : Nat :=
  match elemKind e with
  | 1 => fld e 18 9
  | 3 => fld e 13 10
  | _ => 0

/-- Spares of the element's pool (R497). -/
def poolSize (kind : Nat) : Nat := match kind with | 1 => 2 | 2 => 8 | 3 => 2 | _ => 0

/-- The group that a pitch takes with an element (R500). -/
def sameGroup (a b : Word) : Bool :=
  elemKind a == elemKind b &&
    (match elemKind a with
     | 1 => fld a 18 6 == fld b 18 6
     | 3 => fld a 13 7 == fld b 13 7
     | 4 => fld a 14 5 == fld b 14 5
     | _ => a == b)

/-! ### Results (R496, R507) -/

def rPASS : Nat := 1
def rTRANSIENT : Nat := 2
def rREPAIRED : Nat := 3
def rRETIRED : Nat := 4
def rNOT_RUN : Nat := 5
def rUNTESTED : Nat := 6
def rLASTING : Nat := 7

/-- A result is written to LAST_*, counted, added to the heartwood and reported, in the order of R507. -/
def State.checkResult (s : State) (elem : Word) (src res : Nat) (targeted : Bool) (misr exp : Word) : State :=
  let t := s.time.now
  let s1 := ((s.setReg (aPITCH 0x4C) elem).setReg (aPITCH 0x50) (BitVec.ofNat 32 (nsOf t))).setReg (aPITCH 0x54)
    (BitVec.ofNat 32 (nsOf t / 2 ^ 32))
  let s2 := ((s1.setReg (aPITCH 0x58) (BitVec.ofNat 32 (s.quality * 2 ^ 12 + targeted.toNat * 2 ^ 8 + src * 2 ^ 4 + res))).setReg
    (aPITCH 0x5C) misr).setReg (aPITCH 0x60) exp
  let s3 := match res with
    | 6 => s2.satAdd (aPITCH 0x44) 15 0 1
    | 7 => s2.satAdd (aPITCH 0x44) 31 16 1
    | _ => s2.satAdd (aPITCH (0x2C + 4 * res)) 31 0 1
  let s4 := s3.heartErr (elemKind elem) res
  let s5 := if res = 3 ∨ res = 4 ∨ res = 7 then s4.setErr 0x007 16 else if res = 5 then s4.setErr 0x007 19 else s4
  let s6 := if res = 3 then s5.setErr 0x007 17 else if res = 4 then s5.setErr 0x007 18 else s5
  let s7 := match res with
    | 2 => s6.raise 25
    | 3 => s6.raise 26 | 4 => s6.raise 26 | 7 => s6.raise 26
    | 5 => s6.raise 30 | 6 => s6.raise 30
    | _ => s6
  if res = 3 then s7.raise 27 else if res = 4 then s7.raise 28 else s7

/-! ### The queue (R495) -/

/-- The repair list retires an element of the group (R498). -/
def State.groupRetired (s : State) (e : Word) : Bool := s.heart.work.repairs.any fun r => r.retired && sameGroup r.elem e

/-- An error on an element queues one targeted check, merges into the one it has, or counts as UNTESTED. A retired frame or
line gets no further check, nor does a memory row whose group is retired (R498). -/
def State.queueCheck (s : State) (elem : Word) (src : Nat) (word : Nat := 0) : State :=
  if (elemKind elem = 4 ∨ elemKind elem = 5) ∧ s.listedRetired elem then s
  else if elemKind elem = 1 ∧ s.groupRetired elem then s
  else if s.bist.queue.any (fun c => c.elem == elem) then s
  else if (match s.bist.running with | some p => p.targeted && p.elem == elem | none => false) then s
  else if 32 ≤ s.bist.queue.length then (s.setErr 0x007 22).checkResult elem src rUNTESTED true 0 0
  else s.updBist fun b => { b with queue := b.queue ++ [{ elem := elem, source := src, word := word }] }

/-- STAT of the PITCH page: STATE, QUEUED and CYCLES (R505). -/
def State.pitchStat (s : State) : Word :=
  let q := s.bist.queue.filter fun c => !c.waits
  let st : Nat := match s.bist.running with
    | some p => if p.waitGrant then 2 else 1
    | none =>
      if s.bist.holdoff.isSome then 4
      else if q.any (fun c => elemKind c.elem < 5) || s.bist.request.isSome || s.bist.due.isSome then 3 else 0
  setFld (setFld (s.reg (aPITCH 0x24)) 15 8 q.length) 2 0 st

/-- HOLDOFF: the microseconds that remain, the one under way included (log 53). -/
def State.holdoffLeft (s : State) : Word :=
  match s.bist.holdoff with
  | some t => if laterThan t s.time.now then BitVec.ofNat 32 (((t - s.time.now).toNat + 255999) / 256000) else 0
  | none => 0

/-- The check of an element leaves the queue. -/
def State.dropCheck (s : State) (elem : Word) : State :=
  s.updBist fun b => { b with queue := b.queue.filter fun c => c.elem != elem }

/-! ### Repair and retirement (R497, R498) -/

/-- The fuse repairs in force, which the Guide applies at boot before those of the heartwood (R497). -/
def State.fuseRepairs (s : State) : List (Word × Nat) :=
  if s.otpEmpty 96 24 then [] else Config.fuseRepairs ((List.range 24).map fun k => s.otpWord (96 + k))

/-- Spares of a pool that the repair list and the fuse repairs have used. -/
def State.sparesUsed (s : State) (kind pool : Nat) : List Nat :=
  (s.heart.work.repairs.filter fun r => !r.retired && elemKind r.elem == kind && elemPool r.elem == pool).map (·.spare) ++
    (s.fuseRepairs.filter fun e => elemKind e.1 == kind && elemPool e.1 == pool).map (·.2)

def State.freeRow (s : State) (e : Word) : Option Nat :=
  (List.range (poolSize (elemKind e))).find? fun k => !(s.sparesUsed (elemKind e) (elemPool e)).contains k

/-- REPAIRS (R505). -/
def State.showRepairs (s : State) : State :=
  let used (k : Nat) : Nat := (s.heart.work.repairs.filter fun r => !r.retired && elemKind r.elem == k).length +
    (s.fuseRepairs.filter fun e => elemKind e.1 == k).length
  let banks := s.power.bank14.isSome.toNat + s.power.bank15.isSome.toNat
  s.setReg (aPITCH 0x48) (BitVec.ofNat 32 (banks * 2 ^ 24 + (32 - used 3) * 2 ^ 16 + (8 - used 2) * 2 ^ 12 + s.heart.work.repairs.length))

/-- What the retirement of an element does (R498). The group of a memory row is not pitched any more, so the checks that wait for it leave the
queue (DEDUCED, log 53). -/
def State.retireElem (s : State) (e : Word) : State :=
  match elemKind e with
  | 1 => s.updBist fun b => { b with queue := b.queue.filter fun c => !sameGroup c.elem e }
  | 2 =>
    let n := fld e 9 0
    let a := pg (0x400 + n / 16) (0x100 * (n % 16) + 0xF0)
    if s.rb a 31 then s else ((s.setB a 31 true).setB a 30 false).loopEvent n
  | 3 =>
    let b := elemPool e
    if s.power.bank14 = some b ∨ s.power.bank15 = some b then s
    else if s.power.bank14.isNone then { s with power := { s.power with bank14 := some b } }
    else if s.power.bank15.isNone then { s with power := { s.power with bank15 := some b } }
    else s
  | _ => s

/-- A failed row, frame or line takes a spare, or is retired: the result and the state. -/
def State.failElem (s : State) (e : Word) (src : Nat) : Nat × State :=
  let full := 256 ≤ s.heart.work.repairs.length
  match (if full then none else s.freeRow e) with
  | some k => (rREPAIRED, (s.heartRepair { elem := e, calendar := s.calendar, retired := false, spare := k, source := src }).showRepairs)
  | none =>
    let s1 := if full then s.setErr 0x007 21
      else s.heartRepair { elem := e, calendar := s.calendar, retired := true, spare := 0xFF, source := src }
    (rRETIRED, (s1.retireElem e).showRepairs)

/-- A targeted check of an element that has no pitch ends: clean, or with an error (R496). -/
def State.endCheck (s : State) (e : Word) (src : Nat) (bad : Bool) : State :=
  let s0 := s.dropCheck e
  if !bad then s0.checkResult e src rTRANSIENT true 0 0
  else if elemKind e = 6 then s0.checkResult e src rLASTING true 0 0
  else
    let (r, s1) := s0.failElem e src
    s1.checkResult e src r true 0 0

end Sys2Proof.Machine
end

