-- ==== Sys2Proof/Machine/HardBlocks.lean ====
section
/-! DEFINITION. Block memories (R122 to R130) and multiply-accumulate blocks (R133 to R136): one port operation, one MAC step. -/

namespace Sys2Proof.Machine

/-! ### The physical array (R124) -/

/-- The word width of a port: WIDTH 0b111 acts as ×36; ×72 is selected by WIDTH_A alone (R122). -/
def portWidth (c : BramCfg) (portB : Bool) : Nat :=
  if c.a.width = 6 then 72
  else match (if portB then c.b.width else c.a.width).toNat with
    | 0 => 1 | 1 => 2 | 2 => 4 | 3 => 9 | 4 => 18 | _ => 36

/-- Words of width w in the array (R123). -/
def portDepth (w : Nat) : Nat := if w ≤ 4 then 512 * (64 / w) else 512 * (8 / (w / 9))

/-- The row of word a. -/
def wordRow (w a : Nat) : Nat := if w ≤ 4 then a / (64 / w) else a / (8 / (w / 9))

/-- The place in its row of bit j of word a; row bit 64 + i is bit i of lane 8. -/
def wordBit (w a j : Nat) : Nat :=
  if w ≤ 4 then w * (a % (64 / w)) + j
  else
    let nb := w / 9
    let h := a % (8 / nb)
    if j < 8 * nb then 8 * (nb * h + j / 8) + j % 8 else 64 + nb * h + (j - 8 * nb)

/-- The 9-bit lane of bit j of a word. -/
def wordLane (w j : Nat) : Nat := if w ≤ 4 then 0 else if j < 8 * (w / 9) then j / 8 else j - 8 * (w / 9)

def rowAt (rows : SMap (BitVec 72)) (r : Nat) : BitVec 72 := SMap.get (fun _ => 0) rows r

/-- Word a of width w. -/
def readWord (rows : SMap (BitVec 72)) (w a : Nat) : BitVec 72 :=
  let r := rowAt rows (wordRow w a)
  (List.range w).foldl (fun acc j => if r.getLsbD (wordBit w a j) then acc ||| BitVec.ofNat 72 (2 ^ j) else acc) 0

/-- The row with the enabled lanes of word a replaced by the bits of d. -/
def mergeRow (r : BitVec 72) (w a we : Nat) (d : BitVec 72) : BitVec 72 :=
  (List.range w).foldl (fun acc j =>
    if Nat.testBit we (wordLane w j) then
      let m := BitVec.ofNat 72 (2 ^ wordBit w a j)
      if d.getLsbD j then acc ||| m else acc &&& ~~~m
    else acc) r

/-- The row bits that a write touches. -/
def touched (w a we : Nat) : List Nat :=
  ((List.range w).filter fun j => Nat.testBit we (wordLane w j)).map (wordBit w a)

/-! ### ECC (R127, R128) -/

/-- The codeword positions of data bits 0 to 63: the integers from 3 that are not powers of two. -/
def eccPositions : List Nat := (List.range 72).filter fun p => 3 ≤ p && !([4, 8, 16, 32, 64].contains p)

/-- Check bits c0 to c6 of 64 data bits: each the XOR of the data bits at positions with that bit set. -/
def eccLow (d : BitVec 64) : Nat :=
  (eccPositions.zipIdx).foldl (fun acc e => if d.getLsbD e.2 then acc ^^^ e.1 else acc) 0

def parityOf (n w : Nat) : Bool := (List.range w).foldl (fun p i => p != Nat.testBit n i) false

/-- The 72-bit row of a data word in ECC mode. -/
def eccRow (d : BitVec 64) : BitVec 72 :=
  let c := eccLow d
  let c7 := parityOf d.toNat 64 != parityOf c 7
  BitVec.ofNat 72 (d.toNat + c * 2 ^ 64 + (if c7 then 2 ^ 71 else 0))

/-- The word on DOUT, SBE and DBE of a read in ECC mode. -/
def eccRead (r : BitVec 72) : BitVec 72 × Bool × Bool :=
  let d := BitVec.ofNat 64 r.toNat
  let s := eccLow d ^^^ (r.toNat / 2 ^ 64) % 128
  let p := parityOf r.toNat 72
  if !p then if s = 0 then (r, false, false) else (r, false, true)
  else if s = 0 then (r, true, false)
  else if 72 ≤ s then (r, false, true)
  else match eccPositions.idxOf? s with
    | some j => (r ^^^ BitVec.ofNat 72 (2 ^ j), true, false)
    | none => (r, true, false)

/-! ### A port operation (R125) -/

/-- The bits of a row that a list of places names. -/
def bitsOf (l : List Nat) : BitVec 72 := l.foldl (fun acc i => acc ||| BitVec.ofNat 72 (2 ^ i)) 0

/-- The inputs of one port at an edge. -/
structure PortIn where
  addr : Nat
  din : BitVec 36
  we : Nat
  en : Bool
  rst : Bool
  sel : Nat
deriving DecidableEq, Repr

/-- Read the inputs of a port from its crossbar destinations (R137), free where a wire has no fixed value. -/
def portIn (s0 : State) (b n : Nat) (portB : Bool) (s : State) : PortIn × State :=
  let d := 1024 + 128 * n + (if portB then 64 else 0)
  let (addr, s1) := s0.wireBits b d 15 s
  let (din, s2) := s0.wireBits b (d + 15) 36 s1
  let (we, s3) := s0.wireBits b (d + 51) 4 s2
  let (en, s4) := s0.wireBits b (d + 55) 1 s3
  let (rst, s5) := s0.wireBits b (d + 56) 1 s4
  let (sel, s6) := s0.wireBits b (d + 57) 3 s5
  ({ addr, din := BitVec.ofNat 36 din, we, en := en == 1, rst := rst == 1, sel }, s6)

/-- The lane enables a port of width w uses. -/
def usedWe (w we : Nat) : Nat := if w ≤ 9 then we % 2 else if w = 18 then we % 4 else we % 16

/-- The lead and the length of the cascade of memory n (R129). -/
def cascade (c : BoughCfg) (n : Nat) : Nat × Nat :=
  let x := c.bramAt n
  let len := 2 ^ x.cascLen.toNat
  let lead := n / len * len
  let same := (List.range len).all fun i =>
    let y := c.bramAt (lead + i)
    y.cascLen = x.cascLen && y.a.width = x.a.width && y.b.width = x.b.width && y.ecc = x.ecc
  if x.cascLen ≠ 0 ∧ same then (lead, len) else (n, 1)

/-- The memory whose settings and grant lines serve the cascade of memory n (R129). -/
def State.cascadeLead (s : State) (b n : Nat) : Nat := (cascade (s.bough b).cfg n).1

/-- A pitch of any member keeps the ports of the whole cascade from their inputs (R129, R131). -/
def State.portsLocked (s : State) (b n : Nat) : Bool :=
  let c := cascade (s.bough b).cfg n
  (List.range c.2).any fun i => ((s.bough b).bramAt (c.1 + i)).pitchBusy

/-- The DOUT word of a ×n port: 36 bits. In ×72 mode the port-B read is split over both DOUTs (R123). -/
def lowHalf (w : BitVec 72) : BitVec 36 := BitVec.ofNat 36 (w.toNat % 2 ^ 32 + (w.toNat / 2 ^ 64 % 16) * 2 ^ 32)
def highHalf (w : BitVec 72) : BitVec 36 := BitVec.ofNat 36 (w.toNat / 2 ^ 32 % 2 ^ 32 + (w.toNat / 2 ^ 68 % 16) * 2 ^ 32)

/-- Show a new value on a port's DOUT, through the output register when there is one. -/
def throughReg (outReg : Bool) (reg new : BitVec 36) : BitVec 36 × BitVec 36 := if outReg then (reg, new) else (new, reg)

/-- What one port does to the array: the row it writes with the bits, the word before and the word after. -/
structure PortOp where
  member : Nat
  row : Nat
  write : Bool
  bits : List Nat
  newRow : BitVec 72
  before : BitVec 72
  after : BitVec 72
deriving DecidableEq, Repr

/-- The operation of a port of width w ≤ 36 on member m. `after` is the word that this write alone makes of the row before:
what the port shows under WRITE_FIRST, also where the other port writes other bits of the word at the same edge
(DESIGN CHOICE, log 96). -/
def portOp (rows : SMap (BitVec 72)) (w member : Nat) (p : PortIn) : PortOp :=
  let a := p.addr % portDepth w
  let we := usedWe w p.we
  let d := BitVec.ofNat 72 p.din.toNat
  let old := rowAt rows (wordRow w a)
  let new := mergeRow old w a we d
  { member, row := wordRow w a, write := we ≠ 0, bits := if we = 0 then [] else touched w a we, newRow := new,
    before := readWord rows w a, after := readWord (SMap.insert rows (wordRow w a) new) w a }

/-- The DOUT value of a port after an operation, or none where it keeps its value (R125). -/
def portValue (rdw : Nat) (o : PortOp) : Option (BitVec 72) :=
  if !o.write then some o.before else match rdw with | 0 => some o.after | 1 => some o.before | _ => none

/-- Draw free bits for the listed bits of a word. -/
def freeAt (s : State) (bits : List Nat) (r : BitVec 72) : BitVec 72 × State :=
  bits.foldl (fun (acc : BitVec 72 × State) i =>
    let (v, t) := acc.2.freeBool
    let m := BitVec.ofNat 72 (2 ^ i)
    (if v then acc.1 ||| m else acc.1 &&& ~~~m, t)) (r, s)

/-- The bits of a row that are open take free values (cases 3 and 4 of R56): what a port finds there. -/
def State.drawRow (s : State) (b n r : Nat) : State :=
  let m := (s.bough b).bramAt n
  let open_ := rowAt m.openBits r
  let (v, t) := freeAt s ((List.range 72).filter fun i => open_.getLsbD i) (rowAt m.rows r)
  if open_ = 0 then s else t.updBough b fun x => x.setBram n { x.bramAt n with rows := SMap.set (fun _ => 0) (x.bramAt n).rows r v }

/-- Row r takes bits `mask` of v, and what they hold is no longer open. -/
def Bram.put (m : Bram) (r : Nat) (mask v : BitVec 72) : Bram :=
  { m with
    rows := SMap.set (fun _ => 0) m.rows r ((rowAt m.rows r &&& ~~~mask) ||| (v &&& mask))
    openBits := SMap.set (fun _ => 0) m.openBits r (rowAt m.openBits r &&& ~~~mask) }

/-- What bits `mask` of row r hold becomes open until they are rewritten (case 3 of R56). -/
def Bram.lose (m : Bram) (r : Nat) (mask : BitVec 72) : Bram :=
  { m with openBits := SMap.set (fun _ => 0) m.openBits r (rowAt m.openBits r ||| mask) }

/-- A read of row `row` of memory n of bough b flags an error: the event, and the check that the error queues (R128, R493). -/
def State.eccReport (s : State) (b n row : Nat) (dbe : Bool) : State :=
  (s.raise (if dbe then 241 else 240)).queueCheck (elemOf 1 ((8 * b + n) * 512 + row)) (if dbe then 2 else 1)

/-- The ports of memory n of bough b that act at one instant. `actA` and `actB` say which ports have an active edge;
`same` says that they share a clock and an edge, or a token. The spec leaves three points of RST open, and the model's
choices are: RST acts only at an edge with EN = 1; with OUT_REG = 1 it clears the output register and DOUT at that edge; and in
×72 mode RST_B clears both DOUTs and the flags and RST_A does nothing (DESIGN CHOICE, log 95). In ×72 mode the read that meets a
write of its row at one edge shows the word before, as R126 states it: the read-during-write setting of port B finds no write of its
own port (DEDUCED, log 95). A read with RST_B = 1 that finds an error raises the event and queues the check, although SBE and DBE show 0
(DESIGN CHOICE, log 116). -/
def State.bramEdge (s0 : State) (b n : Nat) (actA actB same : Bool) (s : State) : State :=
  let cfg := (s0.bough b).cfg
  let c := cfg.bramAt n
  let (lead, len) := cascade cfg n
  if lead ≠ n then s
  else
    if s0.portsLocked b n then s
    else
    let (pa, s1) := if actA then portIn s0 b n false s else ({ addr := 0, din := 0, we := 0, en := false, rst := false, sel := 0 }, s)
    let (pb, s2) := if actB then portIn s0 b n true s1 else ({ addr := 0, din := 0, we := 0, en := false, rst := false, sel := 0 }, s1)
    let ma := n + pa.sel % len
    let mb := n + pb.sel % len
    let rowOf (portB : Bool) (p : PortIn) : Nat :=
      if c.a.width = 6 then p.addr % 512 else wordRow (portWidth c portB) (p.addr % portDepth (portWidth c portB))
    let s2 := if actA && pa.en then s2.drawRow b ma (rowOf false pa) else s2
    let s2 := if actB && pb.en then s2.drawRow b mb (rowOf true pb) else s2
    let bq := s2.bough b
    let hs := s0.handshake b
    let regB := c.b.outReg && !hs
    let regA := c.a.outReg && !hs
    if c.a.width = 6 then
      -- ×72: port A writes, port B reads.
      let aRow := pa.addr % 512
      let bRow := pb.addr % 512
      let we := pa.we % 16 + (pb.we % 16) * 16
      -- DIN_B and WE_B belong to the write; they are read at the edge of port A.
      let (wb, s3) := if actA && !actB then portIn s0 b n true s2 else (pb, s2)
      let weAll := if actA && !actB then pa.we % 16 + (wb.we % 16) * 16 else we
      let dn := pa.din.toNat % 2 ^ 32 + (wb.din.toNat % 2 ^ 32) * 2 ^ 32 + (pa.din.toNat / 2 ^ 32) * 2 ^ 64 + (wb.din.toNat / 2 ^ 32) * 2 ^ 68
      let doWrite := actA && pa.en && weAll != 0
      let oldRow := rowAt (bq.bramAt ma).rows aRow
      let newRow := if c.ecc then eccRow (BitVec.ofNat 64 dn) else mergeRow oldRow 72 0 weAll (BitVec.ofNat 72 dn)
      let mask : BitVec 72 := if c.ecc then BitVec.allOnes 72 else bitsOf (touched 72 0 weAll)
      let s4 := if doWrite then s3.updBough b fun x => x.setBram ma ((x.bramAt ma).put aRow mask newRow) else s3
      if !(actB && pb.en) then s4
      else
        let old := rowAt (bq.bramAt mb).rows bRow
        let clash := doWrite && ma == mb && aRow == bRow && !same
        let diff := (List.range 72).filter fun i => old.getLsbD i != newRow.getLsbD i
        let (seen, s5) := if clash then freeAt s4 diff old else (old, s4)
        let (w, sbe, dbe) := if c.ecc then eccRead seen else (seen, false, false)
        let (w1, sbe1, dbe1) := if pb.rst then (0, false, false) else (w, sbe, dbe)
        let s6 := if sbe then s5.eccReport b mb bRow false else if dbe then s5.eccReport b mb bRow true else s5
        s6.updBough b fun x =>
          let m := x.bramAt n
          let da := throughReg regB m.regA (lowHalf w1)
          let db := throughReg regB m.regB (highHalf w1)
          x.setBram n { m with
            doutA := if pb.rst then 0 else da.1
            regA := da.2
            doutB := if pb.rst then 0 else db.1
            regB := db.2
            sbe := if pb.rst then false else if regB then m.sbeReg else sbe1
            dbe := if pb.rst then false else if regB then m.dbeReg else dbe1
            sbeReg := sbe1
            dbeReg := dbe1 }
    else
      let wA := portWidth c false
      let wB := portWidth c true
      let oa := portOp (bq.bramAt ma).rows wA ma pa
      let ob := portOp (bq.bramAt mb).rows wB mb pb
      let onA := actA && pa.en
      let onB := actB && pb.en
      let wrA := onA && oa.write
      let wrB := onB && ob.write
      let sameRow := onA && onB && ma == mb && oa.row == ob.row
      -- The rows after the writes; different data in a common bit is case 3 of R56 for both words, whole.
      let conflict := sameRow && wrA && wrB && oa.bits.any fun i => ob.bits.contains i && oa.newRow.getLsbD i != ob.newRow.getLsbD i
      let s3 := if wrA then s2.updBough b fun x => x.setBram ma ((x.bramAt ma).put oa.row (bitsOf oa.bits) oa.newRow) else s2
      let s4 := if wrB then s3.updBough b fun x => x.setBram mb ((x.bramAt mb).put ob.row (bitsOf ob.bits) ob.newRow) else s3
      let s5 := if !conflict then s4
        else
          let words := bitsOf (touched wA (pa.addr % portDepth wA) 15) ||| bitsOf (touched wB (pb.addr % portDepth wB) 15)
          s4.updBough b fun x => x.setBram mb ((x.bramAt mb).lose ob.row words)
      -- What each port reads: the row before, with free bits where the other port writes it at another edge.
      let readFix (t : State) (on : Bool) (o other : PortOp) (otherWr : Bool) (w a : Nat) : Option (BitVec 72) × State :=
        if !on then (none, t)
        else if sameRow && otherWr && !o.write && !same then
          let old := rowAt (bq.bramAt o.member).rows o.row
          let diff := other.bits.filter fun i => old.getLsbD i != other.newRow.getLsbD i
          let (r, u) := freeAt t diff old
          (some (readWord (SMap.insert (bq.bramAt o.member).rows o.row r) w a), u)
        else (some 0, t)
      let (fa, s6) := readFix s5 onA oa ob wrB wA (pa.addr % portDepth wA)
      let (fb, s7) := readFix s6 onB ob oa wrA wB (pb.addr % portDepth wB)
      let clashA := sameRow && wrB && !oa.write && !same
      let clashB := sameRow && wrA && !ob.write && !same
      let va := if clashA then fa else portValue c.a.rdw.toNat oa
      let vb := if clashB then fb else portValue c.b.rdw.toNat ob
      s7.updBough b fun x =>
        let m := x.bramAt n
        let m1 := if onA then
            let nv := match va with | some v => BitVec.ofNat 36 v.toNat | none => if regA then m.regA else m.doutA
            let nv1 : BitVec 36 := if pa.rst then 0 else nv
            let da := throughReg regA m.regA nv1
            { m with doutA := if pa.rst then 0 else da.1, regA := da.2 }
          else m
        let m2 := if onB then
            let nv := match vb with | some v => BitVec.ofNat 36 v.toNat | none => if regB then m1.regB else m1.doutB
            let nv1 : BitVec 36 := if pb.rst then 0 else nv
            let db := throughReg regB m1.regB nv1
            { m1 with doutB := if pb.rst then 0 else db.1, regB := db.2 }
          else m1
        x.setBram n m2

/-- A memory that an undefined clock or token works: free values on every output, and open bits in every row (cases 4, 5 and 6 of R56). -/
def State.spoilBram (s : State) (b n : Nat) : State :=
  let (v, s1) := s.free 64
  let (w, s2) := s1.free 64
  let (r, s3) := s2.free 64
  let (q, s4) := s3.free 64
  s4.updBough b fun y => y.setBram n { y.bramAt n with
    openBits := (List.range 512).map fun r => (r, BitVec.allOnes 72)
    doutA := BitVec.ofNat 36 v.toNat, doutB := BitVec.ofNat 36 w.toNat, regA := BitVec.ofNat 36 r.toNat, regB := BitVec.ofNat 36 q.toNat
    sbe := v.getLsbD 36, dbe := v.getLsbD 37, sbeReg := v.getLsbD 38, dbeReg := v.getLsbD 39 }

/-! ### A MAC step (R134, R135) -/

/-- The inputs of a MAC at an edge. -/
structure MacIn where
  a : BitVec 27
  b : BitVec 27
  c : BitVec 64
  ce : Bool
  rst : Bool
  sub : Bool
  load : Bool
deriving DecidableEq, Repr

def macIn (s0 : State) (b m : Nat) (s : State) : MacIn × State :=
  let d := 2048 + 128 * m
  let (a, s1) := s0.wireBits b d 27 s
  let (bb, s2) := s0.wireBits b (d + 27) 27 s1
  let (c, s3) := s0.wireBits b (d + 54) 64 s2
  let (ce, s4) := s0.wireBits b (d + 118) 1 s3
  let (rst, s5) := s0.wireBits b (d + 119) 1 s4
  let (sub, s6) := s0.wireBits b (d + 120) 1 s5
  let (ld, s7) := s0.wireBits b (d + 121) 1 s6
  ({ a := BitVec.ofNat 27 a, b := BitVec.ofNat 27 bb, c := BitVec.ofNat 64 c, ce := ce == 1, rst := rst == 1,
     sub := sub == 1, load := ld == 1 }, s7)

/-- The product, negated by SUB. -/
def macProduct (c : MacCfg) (a b : BitVec 27) (sub : Bool) : Int :=
  let x : Int := if c.aSigned then sext 27 a.toNat else a.toNat
  let y : Int := if c.bSigned then sext 27 b.toNat else b.toNat
  if sub then -(x * y) else x * y

/-- P and OVF from the addend and the product. -/
def macSum (c : MacCfg) (add m : Int) : BitVec 64 × Bool :=
  let sum := add + m
  let p : BitVec 64 := if c.accSat then BitVec.ofInt 64 (clampInt (-(2 ^ 63)) (2 ^ 63 - 1) sum) else BitVec.ofInt 64 sum
  (p, sgn64 p != sum)

/-- The registers of a MAC after an active edge. `regs` is false in a handshake bough, where a token is one step and the
register fields have no effect (R139). -/
def macStep (c : MacCfg) (regs : Bool) (r : MacRegs) (pcin : BitVec 64) (i : MacIn) : MacRegs :=
  if i.rst then {}
  else if !i.ce then r
  else
    let ra := regs && c.areg
    let a := if ra then r.a else i.a
    let sub := if ra then r.subA else i.sub
    let ld := if ra then r.loadA else i.load
    let b := if regs && c.breg then r.b else i.b
    let cc := if regs && c.creg then r.c else i.c
    let prod := macProduct c a b sub
    let rm := regs && c.mreg
    let m := if rm then r.m else prod
    let ldm := if rm then r.loadM else ld
    let add : Int := if ldm then sgn64 cc
      else match c.addSrc.toNat with | 0 => 0 | 1 => sgn64 r.p | 2 => sgn64 cc | _ => sgn64 pcin
    let (p, ovf) := macSum c add m
    { a := i.a, subA := i.sub, loadA := i.load, b := i.b, c := i.c, m := prod, loadM := ld, p, ovf }

/-- MAC m takes PCIN from a block on another clock or edge (R136). -/
def BoughCfg.pcinCrosses (c : BoughCfg) (m : Nat) : Bool :=
  m != 0 && (c.macAt m).addSrc == 3 && ((c.macAt m).clkSel != (c.macAt (m - 1)).clkSel || (c.macAt m).falling != (c.macAt (m - 1)).falling)

/-- Every register of a MAC takes a free value. -/
def State.drawMac (s : State) (b m : Nat) : State :=
  let (p, s1) := s.free 64
  let (r, s2) := s1.free 64
  let (q, s3) := s2.free 64
  let (f, s4) := s3.free 64
  let (c, s5) := s4.free 64
  s5.updBough b fun y => y.setMac m
    { a := BitVec.ofNat 27 r.toNat, b := BitVec.ofNat 27 (r.toNat / 2 ^ 27), c, p
      m := sext 56 (q.toNat % 2 ^ 56)
      subA := f.getLsbD 0, loadA := f.getLsbD 1, loadM := f.getLsbD 2, ovf := f.getLsbD 3 }

/-- A step of MAC m of bough b. -/
def State.macEdge (s0 : State) (b m : Nat) (s : State) : State :=
  let x := s0.bough b
  let (i, s1) := macIn s0 b m s
  let pcin : BitVec 64 := if m = 0 then 0 else (x.macAt (m - 1)).p
  s1.updBough b fun y => y.setMac m (macStep (x.cfg.macAt m) (!s0.handshake b) (x.macAt m) pcin i)

end Sys2Proof.Machine
end

