-- ==== Sys2Proof/Machine/Mailbox.lean ====
section
/-! DEFINITION. Mailboxes (R315 to R325): posts, takes, the lock, side resets and the timeout. -/

namespace Sys2Proof.Machine

/-- The register at offset o of mailbox m (R316). -/
def aMB (m o : Nat) : Nat := pg (0x008 + m / 4) (0x100 + 0x100 * (m % 4) + o)

def State.mb (s : State) (m : Nat) : Mailbox := SMap.get (fun _ => {}) s.mbx m
def State.setMb (s : State) (m : Nat) (x : Mailbox) : State := { s with mbx := SMap.set (fun _ => {}) s.mbx m x }

def State.mbTx (s : State) (m : Nat) : Nat := s.rf (aMB m 0) 21 12
def State.mbRx (s : State) (m : Nat) : Nat := s.rf (aMB m 0) 31 22
def State.mbLockReq (s : State) (m : Nat) : Bool := s.rb (aMB m 0) 11

/-- The requester IDs of the host, the Guide and the debug port (R30). -/
def rHost : Nat := 1
def rGuide : Nat := 2
def rDebug : Nat := 3

/-- The PAGE_ERR bit of mailbox m follows its MB_FLAG (R316). -/
def State.mbLevel (s : State) (m : Nat) : State := s.setErrLevel (0x008 + m / 4) (16 + m % 4) (s.reg (aMB m 8) != 0)

/-- The MB_CTL enable of an MB_FLAG bit: NOT_EMPTY, EMPTY, TIMEOUT, FULL, NOT_SENDER. -/
def mbEnableBit (b : Nat) : Nat := match b with | 0 => 31 | 1 => 30 | 2 => 29 | _ => 28

/-- Set MB_FLAG bit b of mailbox m, with its event (R316, R325). -/
def State.mbFlag (s : State) (m b : Nat) : State :=
  let s1 := (s.setB (aMB m 8) b true).mbLevel m
  if s1.rb (aMB m 0x10) (mbEnableBit b) then s1.raise (32 + m) else s1

/-- The result of a post: the RES code of TX_RESULT. -/
def resOk : Nat := 1
def resFull : Nat := 2
def resNotSender : Nat := 3

/-- Append a message (R317, R320). -/
def State.mbAppend (s : State) (m r : Nat) (epoch : BitVec 16) (words : List Word) : State :=
  let x := s.mb m
  let s1 := { s with mbSeq := s.mbSeq + 1 }
  let msg : Msg := { src := BitVec.ofNat 10 r, tag := x.tag, epoch, words, seq := s.mbSeq }
  (s1.setMb m { x with
    msgs := x.msgs ++ [msg], tag := x.tag + 1
    timedOut := if x.msgs.isEmpty then false else x.timedOut }).mbFlag m 0

/-- TX_RESULT of requester r for mailbox m shows the result of its latest post, with the TAG of one accepted. -/
def State.postResult (s : State) (m r res : Nat) (tag : BitVec 16) : State :=
  let y := s.mb m
  s.setMb m { y with result := SMap.set (fun _ => 0) y.result r (BitVec.ofNat 32 (res + (if res = resOk then tag.toNat * 2 ^ 16 else 0))) }

/-- The outcome of a post by requester r, and the state after it, TX_RESULT included (R317). The lock is handled by the caller. -/
def State.mbTryPost (s : State) (m r : Nat) (epoch : BitVec 16) (words : List Word) : Nat × State :=
  let x := s.mb m
  let sender := (s.mbTx m = r || (16 ≤ m && s.mbTx m = 0)) && (!s.mbLockReq m || x.lock.toNat = r)
  if !sender then (resNotSender, (s.mbFlag m 4).postResult m r resNotSender x.tag)
  else if 8 ≤ x.msgs.length then (resFull, (s.mbFlag m 3).postResult m r resFull x.tag)
  else (resOk, (s.mbAppend m r epoch words).postResult m r resOk x.tag)

/-- The staged words of requester r. -/
def Mailbox.stagedWords (x : Mailbox) (r : Nat) : List Word :=
  (List.range 8).map fun w => SMap.get (fun _ => 0) x.staged (r * 8 + w)

/-- A write of TX_Ww stages word w for the requester. -/
def State.txWord (s : State) (m r w : Nat) (v : Word) : State :=
  let x := s.mb m
  s.setMb m { x with staged := SMap.set (fun _ => 0) x.staged (r * 8 + w) v }

/-- A write of TX_POST by local requester r (R317, R319). A local post to mailboxes 16 to 31 is refused. -/
def State.txPost (s : State) (m r : Nat) (release : Bool) : State :=
  let x := s.mb m
  let (res, s1) := if 16 ≤ m then (resNotSender, (s.mbFlag m 4).postResult m r resNotSender x.tag)
    else s.mbTryPost m r x.txEpoch (x.stagedWords r)
  let y := s1.mb m
  s1.setMb m { y with
    lock := if res = resOk && release && y.lock.toNat = r then 0 else y.lock }

/-- STALE of a message: its epoch differs from the sender's present epoch (R321). `seen` is the latest epoch seen of the
remote node that sent it. -/
def State.msgStale (s : State) (m : Nat) (epoch seen : BitVec 16) : Bool :=
  if 16 ≤ m then epoch != seen else epoch != (s.mb m).txEpoch

/-- A read of RX_INFO0 by requester r: the word read, and the state (R318). -/
def State.rxTake (s : State) (m r : Nat) : Word × State :=
  let x := s.mb m
  let drop := SMap.erase x.taken r
  match x.msgs with
  | msg :: rest =>
    if s.mbRx m = r then
      let s1 := s.setMb m { x with
        msgs := rest, timedOut := false
        taken := SMap.insert drop r ((BitVec.ofNat 32 msg.epoch.toNat) :: BitVec.ofNat 32 msg.src.toNat :: msg.words) }
      (BitVec.ofNat 32 (2 ^ 31 + msg.src.toNat * 2 ^ 16 + msg.tag.toNat),
       if rest.isEmpty then s1.mbFlag m 1 else s1)
    else (0, s.setMb m { x with taken := drop })
  | [] => (0, s.setMb m { x with taken := drop })

/-- A read of MB_LOCK by requester r (R319). -/
def State.mbLockRead (s : State) (m r : Nat) : Word × State :=
  let x := s.mb m
  if x.lock = 0 then (0, s.setMb m { x with lock := BitVec.ofNat 10 r })
  else if x.lock.toNat = r then (0, s) else (BitVec.ofNat 32 x.lock.toNat, s)

/-- A write of MB_LOCK by requester r (R319). -/
def State.mbLockWrite (s : State) (m r : Nat) : State :=
  let x := s.mb m
  if x.lock.toNat = r then s.setMb m { x with lock := 0 } else s

/-- The head message of mailbox m has stayed unread for TMO µs (R323). -/
def State.mbTimeout (s : State) (m : Nat) : State :=
  let x := s.mb m
  if s.rf (aMB m 0x10) 19 0 ≠ 0 && !x.msgs.isEmpty && !x.timedOut then (s.setMb m { x with timedOut := true }).mbFlag m 2 else s

/-- MB_STAT, MB_TAG and MB_EPOCH as they read. -/
def Mailbox.stat (x : Mailbox) : Word := BitVec.ofNat 32 (x.lock.toNat * 2 ^ 10 + x.msgs.length)
def Mailbox.epochs (x : Mailbox) : Word := BitVec.ofNat 32 (x.txEpoch.toNat * 2 ^ 16 + x.rxEpoch.toNat)

/-- A reset of a caller's side discards its staged settings transaction (R444): a local caller stages through the mailboxes
it sends on, a remote node under its own requester ID. -/
def State.dropStaged (s : State) (r : Nat) : State :=
  let mine (k : Nat) : Bool := if 0x200 ≤ k then k == r else s.mbTx k == r
  let left := s.settings.staged.filter fun (e : Nat × List StageRec) => !mine e.1
  ({ s with settings := { s.settings with staged := left } }).setF (pg 0x710 0x20) 11 8 left.length

/-- The key of staged word w of mailbox m of node n for requester r. -/
def txStageKey (r n m w : Nat) : Nat := ((r * 1024 + n) * 32 + m) * 8 + w

/-- The side with requester ID r is reset (R319, R321): its words staged for local and for remote mailboxes return to 0. -/
def State.mbSideReset (s0 : State) (r : Nat) : State :=
  let s1 := s0.dropStaged r
  let s := { s1 with rope := { s1.rope with stagedTx := s1.rope.stagedTx.filter fun e => e.1 / (1024 * 32 * 8) ≠ r } }
  (List.range 32).foldl (fun t m =>
    let x := t.mb m
    t.setMb m { x with
      rxEpoch := if t.mbRx m = r then x.rxEpoch + 1 else x.rxEpoch
      txEpoch := if t.mbTx m = r then x.txEpoch + 1 else x.txEpoch
      lock := if x.lock.toNat = r then 0 else x.lock
      staged := x.staged.filter fun e => e.1 / 8 ≠ r
      taken := SMap.erase x.taken r }) s

/-- A write of MB_CFG keeps an end that names a value R315 does not allow. -/
def mbEndOk (m : Nat) (rx : Bool) (v : Nat) : Bool :=
  let fab := 0x008 ≤ v && v ≤ 0x00F
  if 16 ≤ m then (if rx then v = 1 || v = 2 || fab else v = 0 || (0x200 ≤ v && v ≤ 0x3FF)) else fab

end Sys2Proof.Machine
end

