-- ==== Sys2Proof/Machine/HostPort.lean ====
section
/-! DEFINITION. The host port: link, host-side resets, MSI-X, DMA and the sideband I²C port (R347 to R356). -/

namespace Sys2Proof.Machine

def State.updHost (s : State) (f : HostPort → HostPort) : State := { s with host := f s.host }

def aLINK_CTL : Nat := pg 0x600 0x024
def aRESETS : Nat := pg 0x600 0x02C
def aI2C_CFG : Nat := pg 0x600 0x038
def aI2C_STAT : Nat := pg 0x600 0x03C
def aBAR4_LO : Nat := pg 0x600 0x030
def aBAR4_HI : Nat := pg 0x600 0x034

/-- MAX_GEN of LINK_CTL: other values act as 4 (R353). -/
def State.maxGen (s : State) : Nat :=
  let g := s.rf aLINK_CTL 2 0
  if 1 ≤ g ∧ g ≤ 4 then g else 4

/-- LINK_STAT takes UP, GEN, WIDTH and L1; a change of the first three raises event 105 (R354). -/
def State.linkSet (s : State) (up : Bool) (gen width : Nat) (l1 : Bool) : State :=
  let changed := s.rb aLINK_STAT 8 != up || s.rf aLINK_STAT 2 0 != gen || s.rf aLINK_STAT 6 4 != width
  let s1 := (((s.setF aLINK_STAT 2 0 gen).setF aLINK_STAT 6 4 width).setB aLINK_STAT 8 up).setB aLINK_STAT 9 l1
  if changed then s1.raise 105 else s1

/-- The link is taken down by a reset or a power-state entry: no loss is counted (R353). -/
def State.linkDown (s : State) : State := if s.linkUp then s.linkSet false 0 0 false else s

/-- The link changes by itself (R354). It comes up only by training, while PERST_N is released, at a rate that MAX_GEN allows. A
fall that nothing here took down is a loss. A link that is up stays within the MAX_GEN of its training (R353). -/
def State.linkChange (s : State) (up : Bool) (gen width : Nat) (l1 : Bool) : State :=
  if up then
    if s.power.perst ∨ (!s.linkUp ∧ !s.host.training) ∨ gen = 0 ∨ (if s.linkUp then s.host.trainedGen else s.maxGen) < gen ∨ !(width = 1 ∨ width = 2 ∨ width = 4) then s
    else (s.linkSet true gen width l1).updHost fun h => { h with training := false, trainedGen := if s.linkUp then h.trainedGen else s.maxGen }
  else if s.linkUp then
    (((s.linkSet false 0 0 false).satAdd aLINK_STAT 31 16 1).setErr 0x600 18).updHost fun h => { h with training := true }
  else s

/-- The registers of the HOST page that a host-side reset returns to their reset values (R350). -/
def hostResets (a : Nat) : Bool :=
  a / 0x1000 == 0x600 && (a % 0x1000 == 0x024 || a % 0x1000 == 0x030 || a % 0x1000 == 0x034 ||
    (0x040 ≤ a % 0x1000 && a % 0x1000 < 0x0C0) || (0x400 ≤ a % 0x1000 && a % 0x1000 < 0x810))

/-- The host reads under way through BAR0, BAR2 and BAR4 are carried out, and their completions discarded (R350). -/
def State.hostReadsDiscarded (s : State) : State :=
  let gone (q : RopeReq) : RopeReq := if q.requester.toNat = rHost then { q with discard := true } else q
  let done (q : DramReq) : DramReq := if q.port = 8 && !q.write then { q with answered := true } else q
  { s with
    rope := { s.rope with
      pairs := SMap.mapVals (fun _ => {}) (fun (p : Pair) => { p with out := p.out.map gone }) s.rope.pairs
      stalled := s.rope.stalled.map fun x => { x with req := gone x.req }
      latchWait := s.rope.latchWait.filter fun w => w.requester ≠ rHost }
    dram := { s.dram with
      atPort := s.dram.atPort.map done
      queue := (s.dram.queue.map done).filter fun q => !(q.answered && q.issued && q.result.isSome) } }

/-- A host-side reset (R350). It ends the undefined behaviour of a DMA channel (R56). -/
def State.hostSideReset (s : State) (link : Bool) : State :=
  let s0 := if link then s.linkDown else s
  let s1 := { s0.hostReadsDiscarded with regs := { s0.regs with
      act := SMap.keep (fun a => !hostResets a) s0.regs.act
      shd := SMap.keep (fun a => !hostResets a) s0.regs.shd
      undefined := s0.regs.undefined.filter fun u => u.2.1 != 0x600 } }
  let s2 := (s1.setPending 0x600 false).updHost fun h =>
    { h with d3hot := false, msixEnable := false, functionMask := false, training := h.training || link }
  let s3 := (s2.mbSideReset rHost).satAdd aRESETS 31 0 1
  let s4 := { s3 with settings := { s3.settings with staged := s3.settings.staged.filter fun e => e.1 ≠ 0 ∧ e.1 ≠ 2 } }
  s4.raise 106

/-- A host write of configuration space (R347). -/
def State.configWrite (s : State) (d3hot en mask : Bool) : State :=
  if s.linkUp then s.updHost fun h => { h with d3hot := d3hot, msixEnable := en, functionMask := mask } else s

/-- The message of vector v waits in its PBA bit and nothing keeps it back any longer: it is sent (R351). -/
def State.msixSend (s : State) (v : Nat) : State :=
  if v < 64 ∧ s.rb (aPBA (v / 32)) (v % 32) ∧ !s.msixHeld v then
    (s.setB (aPBA (v / 32)) (v % 32) false).sendHost (.msix v (s.reg64 (aMSIX v 0) (aMSIX v 4)) (s.reg (aMSIX v 8)))
  else s

/-- Bits written 1 to MSIX_PENDk clear, and with them the PBA bits (R309, R351). -/
def State.msixPendClear (s : State) (k : Nat) (w : Word) : State :=
  (s.setReg (aMSIX_PEND k) (s.reg (aMSIX_PEND k) &&& ~~~w)).setReg (aPBA k) (s.reg (aPBA k) &&& ~~~w)

/-- BAR4_BASE (R349). -/
def State.bar4Base (s : State) : Nat := (s.reg aBAR4_HI).toNat * 2 ^ 32 + (s.rf aBAR4_LO 31 28) * 2 ^ 28

/-! ### Sideband I²C (R355, R356) -/

/-- The byte at a byte index. -/
def State.i2cAt (s : State) (i : Nat) : Byte :=
  match i with
  | 0 => BitVec.ofNat 8 idcode
  | 1 => BitVec.ofNat 8 (idcode / 2 ^ 8)
  | 2 => BitVec.ofNat 8 (idcode / 2 ^ 16)
  | 3 => BitVec.ofNat 8 (idcode / 2 ^ 24)
  | 4 => BitVec.ofNat 8 s.mode
  | 5 => BitVec.ofNat 8 s.holdCause
  | 6 => BitVec.ofNat 8 s.quality
  | _ => 0

/-- The port sees its address in a mode in which it answers: it acknowledges. -/
def State.i2cAck (s : State) : State :=
  ((s.satAdd aI2C_STAT 15 0 1).setB aI2C_STAT 16 false).updHost fun h => { h with i2cAck := true }

/-- The bytes of a write: the index first; 0xA5 after index 0x10 is the doorbell; every other byte is ignored. -/
def State.i2cWrite (s : State) (bytes : List Byte) : State :=
  if !s.host.i2cAck then s
  else match bytes with
    | [] => s
    | [i] => s.updHost fun h => { h with i2cIndex := i }
    | i :: d :: _ =>
      let s1 := s.updHost fun h => { h with i2cIndex := i }
      if i = 0x10 ∧ d = 0xA5 then s1.raise 107 else s1

/-- A read of one byte. -/
def State.i2cRead (s : State) : State :=
  if s.host.i2cAck then
    s.updHost fun h => { h with i2cByte := s.i2cAt h.i2cIndex.toNat, i2cIndex := h.i2cIndex + 1 }
  else s

end Sys2Proof.Machine
end

