-- ==== Sys2Proof/Machine/Dram.lean ====
section
/-! DEFINITION. The DDR4 controller (R357 to R384): address map, queue, scheduling, ECC, training, self-refresh. -/

namespace Sys2Proof.Machine

def State.updDram (s : State) (f : Dram → Dram) : State := { s with dram := f s.dram }

def aDRAM (o : Nat) : Nat := pg 0x640 o
def aTIMING (o : Nat) : Nat := pg 0x641 o
def aPORTS (o : Nat) : Nat := pg 0x642 o
def aECC (o : Nat) : Nat := pg 0x643 o
def aLANE (r l : Nat) : Nat := pg (0x644 + r) (0x100 + 4 * l)

/-! ### Bytes of the DRAM -/

/-- Write bytes at rising DRAM addresses. -/
def State.dramPut (s : State) (a : Nat) (bytes : List Byte) : State :=
  match bytes with
  | [] => s
  | b :: t => State.dramPut { s with dramMem := SMap.set (fun _ => 0) s.dramMem a b } (a + 1) t

/-- Read n bytes at rising DRAM addresses. -/
def State.dramGet (s : State) (a n : Nat) : List Byte := (List.range n).map fun k => SMap.get (fun _ => 0) s.dramMem (a + k)

/-- The n little-endian bytes of a number. -/
def leBytes (n v : Nat) : List Byte := (List.range n).map fun k => BitVec.ofNat 8 (v / 2 ^ (8 * k))

/-! ### States (R380) -/

def dOFF : Nat := 0
def dTRAINING : Nat := 1
def dREADY : Nat := 2
def dSELF : Nat := 3
def dTRAIN_FAIL : Nat := 4
def dCFG_FAIL : Nat := 5

def State.dramState (s : State) : Nat := s.rf (aDRAM 0x24) 2 0
def State.setDramState (s : State) (v : Nat) : State := s.setF (aDRAM 0x24) 2 0 v

/-! ### Organisation and address map (R358 to R360) -/

def State.dramG (s : State) : Nat := if s.rb (aTIMING 0x20) 0 then 1 else 2
def State.dramRb (s : State) : Nat := 15 + s.rf (aTIMING 0x20) 2 1
def State.dramRanks (s : State) : Nat := if s.rb (aTIMING 0x20) 3 then 2 else 1

/-- The organisation and the data rate are among those of R357 and R358. -/
def State.dramOrgOk (s : State) : Bool :=
  s.rf (aTIMING 0x20) 2 1 != 3 && s.rf (aTIMING 0x20) 6 4 != 7 &&
    !(s.rb (aTIMING 0x20) 0 && s.rf (aTIMING 0x20) 2 1 == 0 && s.dramRanks == 1)

/-- Fitted capacity in bytes. -/
def State.dramSize (s : State) : Nat := s.dramRanks * 2 ^ (15 + s.dramG + s.dramRb)

/-- The fields of an address (R359). -/
def State.dramBank (s : State) (a : Nat) : Nat :=
  let g := s.dramG
  (a / 2 ^ 13 % 2 ^ g) + 4 * (a / 2 ^ (13 + g) % 4) + 16 * (a / 2 ^ (15 + g + s.dramRb) % 2)
def State.dramRow (s : State) (a : Nat) : Nat := a / 2 ^ (15 + s.dramG) % 2 ^ s.dramRb

/-- Out of range: beyond the capacity, or in a reserved row (R360). -/
def State.dramOut (s : State) (a : Nat) : Bool := s.dramSize ≤ a || s.dramRow a == 2 ^ s.dramRb - 1

/-- Requests complete at once as out of range (R349, R371, R377). -/
def State.dramShut (s : State) : Bool :=
  !s.pageEnable 0x640 || s.dramState == dOFF || s.dramState == dTRAIN_FAIL || s.dramState == dCFG_FAIL

/-! ### Words and their check bits (R374) -/

/-- A word of the DRAM, at a multiple of 8. -/
def State.dramWord (s : State) (a : Nat) : BitVec 64 := BitVec.ofNat 64 (ofBytes (s.dramGet a 8))

/-- The stored 72 bits of a word. -/
def State.dramStored (s : State) (a : Nat) : BitVec 72 :=
  eccRow (s.dramWord a) ^^^ BitVec.ofNat 72 ((SMap.get (fun _ => 0) s.dram.chk (a / 8)).toNat * 2 ^ 64)

/-- Nothing fixes what the DRAM answers: timings that do not match the fitted parts are in force (case 8 of R56), or the controller is under
case 1 or 2 by a field of its TIMING page. -/
def State.dramWrong (s : State) : Bool := s.regs.undefined.contains (8, 0x641, 0) || s.isUndefined 0x641 0

/-- What a read finds in the word at a: under case 8, and until the word is rewritten after it, nothing fixes it. -/
def State.dramFetch (s : State) (a : Nat) : BitVec 72 × State :=
  if s.dramWrong || s.dram.lost.any (fun l => !l.contains (a / 8)) then s.free 72 else (s.dramStored a, s)

/-- The word at a has been rewritten. -/
def State.dramRewritten (s : State) (a : Nat) : State :=
  if s.dramWrong then s else s.updDram fun m => { m with lost := m.lost.map fun l => a / 8 :: l.filter (· ≠ a / 8) }

/-- Store 72 bits. -/
def State.dramStore (s : State) (a : Nat) (r : BitVec 72) : State :=
  let d := BitVec.ofNat 64 r.toNat
  let s1 := (s.dramPut a (bytesOf 8 d.toNat)).dramRewritten a
  s1.updDram fun m => { m with chk := SMap.set (fun _ => 0) m.chk (a / 8) (BitVec.ofNat 8 ((eccRow d ^^^ r).toNat / 2 ^ 64)) }

/-- Store a word with its right check bits. -/
def State.dramStoreWord (s : State) (a : Nat) (d : BitVec 64) : State := s.dramStore a (eccRow d)

/-- The pattern of R375: the merged data with check bits c6 to c0 inverted. -/
def poisonRow (d : BitVec 64) : BitVec 72 := eccRow d ^^^ BitVec.ofNat 72 (0x7F * 2 ^ 64)

/-- Syndrome [6:0] and overall parity [7] of stored bits. -/
def rowSyndrome (r : BitVec 72) : Nat :=
  (eccLow (BitVec.ofNat 64 r.toNat) ^^^ (r.toNat / 2 ^ 64) % 128) + (if parityOf r.toNat 72 then 128 else 0)

/-! ### The queue (R362, R365) -/

/-- Requests of a port that are outstanding: accepted and not answered. -/
def State.outstandingAt (s : State) (p : Nat) : Nat := (s.dram.queue.filter fun r => r.port == p && !r.answered).length

/-- Entries the ports share, those reserved for ports 8 and 9 apart. -/
def State.sharedTaken (s : State) : Nat := (s.dram.queue.filter fun r => r.port != 8 && r.port != 9).length

/-- A request finds an entry (R362, R365). -/
def State.entryFree (s : State) (p : Nat) : Bool :=
  if p = 8 then (s.dram.queue.filter fun r => r.port == 8).length < 16
  else if p = 9 then (s.dram.queue.filter fun r => r.port == 9).length < 16
  else s.sharedTaken < 96 && s.outstandingAt p < 32

/-- The port takes no new request: its clock is fast (R362). -/
def State.portStalls (s : State) (p : Nat) : Bool := s.dram.fast.contains p || !s.entryFree p

/-- The answers of a fabric port under case 1 or 2 of R56 hold open data. -/
def State.openAnswers (s : State) (p : Nat) (l : List DramResp) : List DramResp × State :=
  if p < 8 && s.isUndefined 0x642 p then
    l.foldl (fun (acc : List DramResp × State) r =>
      let (d, t) := acc.2.free 512
      let (e, u) := t.freeBool
      (acc.1 ++ [{ r with data := d, err := e }], u)) ([], s)
  else (l, s)

/-- The responses a port is due, in issue order (R363): the oldest unanswered request with a result, and so on. Entries that
are answered and have come back leave the queue. -/
def State.answerPort (s0 : State) (p : Nat) : State :=
  let mine := s0.dram.queue.filter fun r => r.port == p && !r.answered
  let due := mine.takeWhile fun r => r.result.isSome
  let answers := due.map fun r =>
    ({ port := p, tag := r.tag, write := r.write, data := (r.result.getD (0, false)).1, err := (r.result.getD (0, false)).2 } : DramResp)
  let (resp, s) := s0.openAnswers p answers
  let s1 := s.updDram fun m => { m with
    responses := m.responses ++ resp
    queue := (m.queue.map fun r => if due.any (fun d => d.seq == r.seq) then { r with answered := true } else r).filter
      fun r => !(r.answered && r.issued && r.result.isSome) }
  if p < 8 then s1.satAdd (aPORTS (0x180 + 4 * p)) 31 0 (resp.filter (·.err)).length else s1

/-- All ones: what a read out of range returns (R360). -/
def allOnes512 : BitVec 512 := BitVec.allOnes 512

/-- A write r is accepted: a corrected word that still waits at port 11 to be written back gives way to it (R374). -/
def State.dropBacks (s : State) (r : DramReq) : State :=
  if r.write && r.port != 11 then s.updDram fun m => { m with
    atPort := m.atPort.filter fun q => !(q.port == 11 && q.write && q.addr / 64 == r.addr / 64 && q.be &&& r.be != 0) }
  else s

/-- What a request out of range answers: no data is written, and a read returns all ones, with ERR on a fabric port. EP of a host
completion marks an uncorrectable word alone (R349, R360). -/
def DramReq.refusedWith (r : DramReq) : BitVec 512 × Bool := if r.write then (0, false) else (allOnes512, r.port != 8)

/-- A request has been found out of range: RANGE, and BAR4_RANGE for an access of the host (R349, R360). -/
def State.rangeErr (s : State) (port : Nat) : State := (if port = 8 then s.setErr 0x600 16 else s).setErr 0x640 16

/-- A request enters the queue. One out of range is answered without the DRAM, in the port's order. -/
def State.enqueue (s : State) (r : DramReq) (bad : Bool) : State :=
  let bad := bad || s.dramOut r.addr || s.dramShut
  let r1 := { r with
    seq := s.dram.seq, issued := bad, answered := r.answered || r.port == 11
    result := if bad then some r.refusedWith else if r.write then some (0, false) else none }
  let s1 := (if bad then s else s.dropBacks r).updDram fun m => { m with seq := m.seq + 1, queue := m.queue ++ [r1] }
  let s2 := if r.port < 8 then s1.wrapAdd (aPORTS (0x140 + 4 * r.port)) 31 0 1 else s1
  let s3 := if bad then s2.rangeErr r.port else s2
  s3.answerPort r.port

/-- A request reaches the controller: it enters the queue, or waits at its port behind those before it. -/
def State.dramRequest (s : State) (r : DramReq) : State :=
  if s.dram.atPort.any (fun q => q.port == r.port) || s.portStalls r.port then
    s.updDram fun m => { m with atPort := m.atPort ++ [r] }
  else s.enqueue r false

/-! ### Errors (R374, R496) -/

/-- The element of a line (R503). -/
def lineElem (a : Nat) : Word := elemOf 5 (a / 64)

/-- A write to the word at a is queued. -/
def State.newerWrite (s : State) (a : Nat) : Bool :=
  s.dram.queue.any fun r => r.write && !r.issued && r.addr / 64 == a / 64 && r.be.toNat / 2 ^ (a % 64) % 256 != 0

/-- A request of the controller's own, on port 11 (R361). Nobody waits for its answer. -/
def State.ownRequest (s : State) (a : Nat) (write : Bool) (be : BitVec 64) (data : BitVec 512) : State :=
  s.dramRequest { port := 11, addr := a / 64 * 64, write := write, line := true, be := be, data := data, close := true,
                  fence := false, tag := 0, cls := 3, seq := 0 }

/-- The error registers take an error of the word at a. -/
def State.eccRecord (s : State) (a : Nat) (r : BitVec 72) (dbe : Bool) (req : Nat) : State :=
  let poisoned := dbe && r == poisonRow (BitVec.ofNat 64 r.toNat)
  ((s.setReg (aECC 0x28) (BitVec.ofNat 32 a)).setReg (aECC 0x2C) (BitVec.ofNat 32 (a / 2 ^ 32))).setReg (aECC 0x30)
    (BitVec.ofNat 32 (rowSyndrome r + dbe.toNat * 2 ^ 8 + poisoned.toNat * 2 ^ 9 + req * 2 ^ 16))

/-- The requester a port stands for (R361). -/
def portRequester (p : Nat) : Nat := if p < 8 then 0x008 + p else if p = 8 then rHost else if p = 9 then 4 else if p = 10 then 6 else 0

/-- A check of this line waits for the read that decides it (R496). -/
def State.decides (s : State) (line : Nat) : Option Check := s.bist.queue.find? fun c => c.elem == lineElem line && c.ready

/-- One word is read for requester req and decoded: its data, whether it is uncorrectable, whether it showed an error, and
the state. `queue` says that an error queues a check, and `back` that a corrected word is written back: the write of a
read-modify-write is itself the newer one (R364, R374). -/
def State.readWord (s : State) (a req : Nat) (queue back : Bool) : BitVec 64 × Bool × Bool × State :=
  let (r, s0) := s.dramFetch a
  let (w, sbe, dbe) := eccRead r
  let d : BitVec 64 := BitVec.ofNat 64 w.toNat
  if !sbe && !dbe then (d, false, false, s0)
  else
    let s1 := s0.eccRecord a r dbe req
    let s2 := if sbe then (s1.satAdd (aECC 0x20) 31 0 1).raise 97
      else if r = poisonRow (BitVec.ofNat 64 r.toNat) then s1.raise 98 else (s1.satAdd (aECC 0x24) 31 0 1).raise 98
    let s3 := if back && sbe && !s2.newerWrite a then
        s2.ownRequest a true (BitVec.ofNat 64 (0xFF * 2 ^ (a % 64))) (BitVec.ofNat 512 (d.toNat * 2 ^ (8 * (a % 64))))
      else s2
    (d, dbe, true, if queue then s3.queueCheck (lineElem a) (if sbe then 7 else 8) (a / 8 % 8) else s3)

/-- A word is read on its own. -/
def State.readChecked (s : State) (a req : Nat) (queue : Bool) : BitVec 64 × Bool × Bool × State := s.readWord a req queue true

/-- The bits that upsets have changed in the words of a line. -/
def State.upsetWords (s : State) (line : Nat) (ups : List (BitVec 3 × BitVec 72)) : State :=
  ups.foldl (fun t u => let a := line + 8 * u.1.toNat
                        t.dramStore a (t.dramStored a ^^^ u.2)) s

/-- Word k of a line is read behind those before it: the bits so far, whether a word is uncorrectable, whether one showed an error, and the
state. -/
def lineWord (line req : Nat) (queue : Bool) (acc : BitVec 512 × Bool × Bool × State) (k : Nat) : BitVec 512 × Bool × Bool × State :=
  let (d, dbe, err, t) := acc.2.2.2.readChecked (line + 8 * k) req queue
  (acc.1 ||| BitVec.ofNat 512 (d.toNat * 2 ^ (64 * k)), acc.2.1 || dbe, acc.2.2.1 || err, t)

/-- A line is read: its 512 bits, ERR, and the state. A check of the line that is due takes the read as its result. -/
def State.readLine (s : State) (line req : Nat) : BitVec 512 × Bool × State :=
  let due := s.decides line
  let (d, bad, err, t) := (List.range 8).foldl (lineWord line req due.isNone) (0, false, false, s)
  match due with
  | some c => (d, bad, t.endCheck c.elem c.source err)
  | none => (d, bad, t)

/-! ### Fabric ports (R362, R363) -/

/-- Fabric bus port p is open: released, and its bough neither held nor isolated (R28). -/
def State.busPortOpen (s : State) (p : Nat) : Bool :=
  let b := SMap.get (fun _ => 0) s.fabric.place.busPort p
  s.fabric.portsReleased && !s.fabric.quiesced && !s.held b && (s.bough b).isolated.isNone

/-- A beat at an address whose ADDR[5] is 1 cannot be a line: out of range (R362). -/
def State.fabricRequest (s : State) (r : DramReq) : State :=
  if r.port < 8 && !s.busPortOpen r.port then s
  else if r.line && r.addr % 64 ≠ 0 then
    if s.dram.atPort.any (fun q => q.port == r.port) || s.portStalls r.port then
      s.updDram fun m => { m with atPort := m.atPort ++ [{ r with addr := 2 ^ 40 + r.addr }] }
    else s.enqueue r true
  else s.dramRequest r

/-- Requests that wait at their ports enter as entries allow, oldest first. -/
def State.admitWaiting (s : State) : State :=
  s.dram.atPort.foldl (fun t r =>
    let before := t.dram.atPort.takeWhile fun q => q != r
    if before.any (fun q => q.port == r.port) || t.portStalls r.port then t
    else (t.updDram fun m => { m with atPort := m.atPort.erase r }).enqueue r false) s

/-! ### Scheduling (R365 to R368) -/

/-- A request may go now as far as order is concerned: no older request to its line is still to be done where either writes,
and with FENCE every earlier request of its port has completed (R362, R363, log 33). -/
def State.mayGo (s : State) (r : DramReq) : Bool :=
  !r.issued && s.dram.queue.all fun q =>
    r.seq ≤ q.seq ||
      ((!(q.addr / 64 == r.addr / 64 && (q.write || r.write)) || (q.issued && q.result.isSome)) &&
       (!(r.fence && q.port == r.port) || (q.issued && q.result.isSome)))

def State.rowOpen (s : State) (r : DramReq) : Bool :=
  SMap.get (fun _ => 0) s.dram.rows (s.dramBank r.addr) == s.dramRow r.addr + 1

/-- The rank of a request in the order of R365: class, open row, age. -/
def State.dramBefore (s : State) (a b : DramReq) : Bool :=
  let ca := if a.promoted then 0 else a.cls
  let cb := if b.promoted then 0 else b.cls
  if ca ≠ cb then ca < cb
  else if s.rowOpen a ≠ s.rowOpen b then s.rowOpen a else a.seq < b.seq

/-- The request whose command is issued in a cycle, of those whose next command the DRAM timing permits. -/
def State.dramPick (s : State) (ready : List Nat) : Option DramReq :=
  (s.dram.queue.filter fun r => ready.contains r.seq && s.mayGo r).foldl (fun best r => match best with
    | none => some r
    | some b => if s.dramBefore r b then some r else some b) none

def State.setRow (s : State) (bank : Nat) (v : Nat) : State := s.updDram fun m => { m with rows := SMap.set (fun _ => 0) m.rows bank v }

/-- Hints set the page policy (R368). -/
def State.hintPolicy (s : State) : Bool := s.mode == mLOAD || s.mode == mSERVICE || s.rb (aDRAM 0x20) 0

/-- The byte mask of eight byte enables. -/
def byteMask (be : Nat) : BitVec 64 :=
  BitVec.ofNat 64 ((List.range 8).foldl (fun acc j => if be.testBit j then acc + 0xFF * 2 ^ (8 * j) else acc) 0)

/-- Requester req writes the bytes `be` of the word at a: a word in part is read, merged and written back (R364, R375). -/
def State.dramWriteWord (s : State) (a be req : Nat) (new : BitVec 64) : State :=
  if be = 255 then s.dramStoreWord a new
  else
    let (d, dbe, _, u) := s.readWord a req true false
    let merged := (d &&& ~~~byteMask be) ||| (new &&& byteMask be)
    if dbe then u.dramStore a (poisonRow merged) else u.dramStoreWord a merged

/-- A write reaches the DRAM, word by word. -/
def State.dramWrite (s : State) (r : DramReq) : State :=
  let line := r.addr / 64 * 64
  (List.range 8).foldl (fun t k =>
    let be := r.be.toNat / 2 ^ (8 * k) % 256
    if be = 0 then t
    else
      let t1 := t.dramWriteWord (line + 8 * k) be (portRequester r.port) (BitVec.ofNat 64 (r.data.toNat / 2 ^ (64 * k)))
      let e := lineElem line
      let full := be == 255
      t1.updBist fun b => { b with queue := b.queue.map fun c =>
        if c.elem == e && (full || c.source == 7) && c.word == k then { c with ready := true } else c }) s

/-- Queued writes to the n bytes at a are carried out, oldest first. -/
def State.drainRange (s : State) (a n : Nat) : State :=
  let hit (r : DramReq) : Bool := r.write && !r.issued && decide (a / 64 ≤ r.addr / 64) && decide (r.addr / 64 ≤ (a + n - 1) / 64)
  let s1 := (s.dram.queue.filter hit).foldl (fun t r => t.dramWrite r) s
  s1.updDram fun m => { m with
    queue := (m.queue.map fun r => if hit r then { r with issued := true } else r).filter fun r => !(r.answered && r.issued && r.result.isSome) }

/-- A corrected word has been written back, alone or within a write to it: the re-read that decides its check is queued (R374). -/
def State.afterWriteBack (s : State) (r : DramReq) : State :=
  if r.write ∧ !((s.dram.queue ++ s.dram.atPort).any fun q => q.port == 11 && !q.write && q.addr / 64 == r.addr / 64) ∧ s.bist.queue.any (fun c => c.elem == lineElem r.addr && c.source == 7 && c.ready) then
    s.ownRequest r.addr false 0 0
  else s

/-- The command of a request is issued: precharge, activate, or the access. -/
def State.dramCommand (s : State) (r : DramReq) : State :=
  let bank := s.dramBank r.addr
  let row := s.dramRow r.addr + 1
  let now := SMap.get (fun _ => 0) s.dram.rows bank
  if now ≠ row then s.setRow bank (if now = 0 then row else 0)
  else
    let s1 := if r.write then s.dramWrite r else s
    let s2 := s1.updDram fun m => { m with
      queue := (m.queue.map fun q => if q.seq == r.seq then { q with issued := true } else q).filter
        fun q => !(q.answered && q.issued && q.result.isSome) }
    let s3 := if s.hintPolicy && (r.close || 8 ≤ r.port) then s2.setRow bank 0 else s2
    (s3.afterWriteBack r).admitWaiting

/-- One controller cycle (R365). After a wake requests resume only once both ranks have been re-trimmed (R378). -/
def State.dramIssue (s : State) (ready : List Nat) : State :=
  if s.dramState ≠ dREADY ∨ s.dram.wakeTrim ≠ [] then s
  else match s.dramPick ready with
    | none => s
    | some r => s.dramCommand r

/-- The data of an issued read return (R374). -/
def State.dramReadDone (s : State) (seq : Nat) (ups : List (BitVec 3 × BitVec 72)) : State :=
  match s.dram.queue.find? fun r => r.seq == seq && r.issued && !r.write && r.result.isNone with
  | none => s
  | some r =>
    let line := r.addr / 64 * 64
    let (d, bad, s1) := (s.upsetWords line ups).readLine line (portRequester r.port)
    let beat : BitVec 512 := if r.line then d else BitVec.ofNat 512 (d.toNat / 2 ^ (8 * (r.addr % 64)) % 2 ^ 256)
    let s2 := s1.updDram fun m => { m with
      queue := (m.queue.map fun q => if q.seq == seq then { q with result := some (beat, bad) } else q).filter
        fun q => !(q.answered && q.issued && q.result.isSome) }
    (s2.answerPort r.port).admitWaiting

/-- A request has waited longer than AGE_c (R366). -/
def State.agePromote (s : State) (seq : Nat) : State :=
  match s.dram.queue.find? fun r => r.seq == seq && !r.issued && !r.promoted with
  | none => s
  | some r =>
    let age := s.rf (aDRAM (0x28 + 4 * (r.cls / 2))) (16 * (r.cls % 2) + 15) (16 * (r.cls % 2))
    if age = 0 then s
    else (s.updDram fun m => { m with
      queue := m.queue.map fun q => if q.seq == seq then { q with promoted := true } else q }).satAdd (aDRAM (0x30 + 4 * r.cls)) 31 0 1

/-- A bank has been idle for IDLE_TMR cycles: its row closes under open-page policy (R367). -/
def State.rowIdle (s : State) (bank : Nat) : State := if s.hintPolicy then s else s.setRow bank 0

/-- Close every row of a rank. -/
def State.closeRank (s : State) (rank : Nat) : State :=
  s.updDram fun m => { m with rows := SMap.keep (fun b => b / 16 ≠ rank) m.rows }

/-- tREFI has passed for a rank: REF is issued with those postponed, or, while TIMED or HOST requests wait and fewer than 8
are postponed, postponed (R370). -/
def State.refresh (s : State) (rank : Nat) (postpone : Bool) : State :=
  if s.dramState ≠ dREADY ∨ s.dramRanks ≤ rank then s
  else
    let n := SMap.get (fun _ => 0) s.dram.postponed rank
    let urgent := s.dram.queue.any fun r => !r.issued && (r.promoted || r.cls < 2)
    if postpone && urgent && n < 8 then s.updDram fun m => { m with postponed := SMap.set (fun _ => 0) m.postponed rank (n + 1) }
    else (s.closeRank rank).updDram fun m => { m with postponed := SMap.set (fun _ => 0) m.postponed rank 0 }

/-! ### Training and re-trim (R371 to R373) -/

/-- The widest run of passing steps in a sweep of 128: its first step and its width; the first of equals (log 34). -/
def widest (pass : BitVec 128) : Nat × Nat :=
  let (best, _) := (List.range 128).foldl (fun (acc : (Nat × Nat) × Nat) i =>
    if pass.getLsbD i then
      let n := acc.2 + 1
      (if acc.1.2 < n then (i + 1 - n, n) else acc.1, n)
    else (acc.1, 0)) ((0, 0), 0)
  best

/-- The centre of a window; odd widths round down. -/
def centre (w : Nat × Nat) : Nat := w.1 + w.2 / 2

/-- Training of lane l of rank r ends with these sweeps for reads and writes: the lane passed (R372). -/
def State.trainLane (s : State) (r l : Nat) (rd wr : BitVec 128) : Bool × State :=
  let a := widest rd
  let b := widest wr
  let ok := 16 ≤ a.2 && 16 ≤ b.2
  (ok, s.setReg (aLANE r l) (BitVec.ofNat 32
    ((if ok then 0 else 2 ^ 31) + min b.2 127 * 2 ^ 23 + centre b % 128 * 2 ^ 16 + min a.2 127 * 2 ^ 8 + centre a % 128)))

/-- Every request completes as out of range (R372). -/
def State.failAllRequests (s : State) : State :=
  let s1 := s.updDram fun m => { m with
    queue := m.queue.map fun r => if r.issued then r else
      { r with issued := true, result := some r.refusedWith } }
  let s2 := (s.dram.queue.filter fun r => !r.issued).foldl (fun (t : State) r => t.rangeErr r.port) s1
  ((List.range 12).foldl (fun (t : State) p => t.answerPort p) s2).admitWaiting

/-- Requests that wait at their ports are refused (R377). -/
def State.refuseWaiting (s : State) : State :=
  s.dram.atPort.foldl (fun (t : State) r => t.enqueue r true) (s.updDram fun m => { m with atPort := [] })

/-- Accepted writes are carried out, oldest first. -/
def State.drainWrites (s : State) : State :=
  let s1 := (s.dram.queue.filter fun r => r.write && !r.issued).foldl (fun t r => t.dramWrite r) s
  s1.updDram fun m => { m with
    queue := (m.queue.map fun r => if r.write then { r with issued := true } else r).filter fun r => !(r.answered && r.issued && r.result.isSome) }

/-- A training leaves the DRAM as it found it where the data is kept, and else without content. -/
def State.trainedContent (s : State) : State :=
  if s.dram.keep then s else { s with dramMem := [], dram := { s.dram with chk := [], lost := none } }

/-- The controller enters self-refresh: accepted writes complete, rows close, SRE, event 100 (R378). A training that runs ends there, and
what it keeps is kept. -/
def State.selfRefresh (s : State) (brace : Bool) : State :=
  if s.dramState ≠ dREADY ∧ s.dramState ≠ dTRAINING then s
  else
    let s0 := if s.dramState = dTRAINING then s.trainedContent.setBusy 0x640 false else s
    let s1 := s0.drainWrites
    let s2 := s1.updDram fun m => { m with
      rows := [], selfRefresh := true, keep := false, trainStopped := false, forBrace := brace, postponed := [], wakeTrim := [] }
    (s2.setDramState dSELF).raise 100

/-- Training ends (R371, R372). Sweeps are by rank and lane, read and write. Where ENABLE has been written 0 meanwhile, accepted writes
complete and the DRAM enters self-refresh (R377). -/
def State.trainingDone (s : State) (sweeps : List (BitVec 128 × BitVec 128)) : State :=
  if s.dramState ≠ dTRAINING ∨ s.dram.trainStopped then s
  else
    let (ok, s1) := (List.range (9 * s.dramRanks)).foldl (fun (acc : Bool × State) i =>
      let w := sweeps.getD i (0, 0)
      let (g, t) := acc.2.trainLane (i / 9) (i % 9) w.1 w.2
      (acc.1 && g, t)) (true, s)
    let s2 := s1.trainedContent.setBusy 0x640 false
    let s3 := s2.updDram fun m => { m with selfRefresh := false, keep := false, forBrace := false, rows := [], postponed := [], wakeTrim := [] }
    if ok then
      let s4 := (s3.setDramState dREADY).raise 99
      if s4.pageEnable 0x640 then s4.admitWaiting else (s4.selfRefresh false).refuseWaiting
    else (((s3.setDramState dTRAIN_FAIL).setErr 0x640 17).raise 99).failAllRequests

/-- A lane at its re-trim: the passing points at −4, 0 and +4 for reads and for writes, and the windows left. -/
def State.retrimLane (s : State) (r l : Nat) (rdStep wrStep : Int) (rdEye wrEye : Nat) : State :=
  let w := s.reg (aLANE r l)
  let one (i : Int) : Int := clampInt (-1) 1 i
  let rd := (fld w 6 0 : Int) + one rdStep
  let wr := (fld w 22 16 : Int) + one wrStep
  let low := rdEye < 8 || wrEye < 8
  let v := BitVec.ofNat 32 ((fld w 31 31) * 2 ^ 31 + low.toNat * 2 ^ 30 + min wrEye 127 * 2 ^ 23 + (clampInt 0 127 wr).toNat * 2 ^ 16 +
    min rdEye 127 * 2 ^ 8 + (clampInt 0 127 rd).toNat)
  let s1 := s.setReg (aLANE r l) v
  if low then (s1.setErr 0x640 18).raise 99 else s1

/-- Every 100 ms one rank is re-trimmed after a REF (R373), and each rank once after a wake (R378). -/
def State.retrim (s : State) (lanes : List (Int × Int × Nat × Nat)) : State :=
  if s.dramState ≠ dREADY then s
  else
    let r := s.dram.wakeTrim.headD (s.dram.trim % s.dramRanks)
    let s1 := s.refresh r false
    let s2 := (lanes.take 9).zipIdx.foldl (fun t e => t.retrimLane r e.2 e.1.1 e.1.2.1 e.1.2.2.1 e.1.2.2.2) s1
    s2.updDram fun m => { m with trim := r + 1, wakeTrim := m.wakeTrim.drop 1 }

/-! ### Enable, self-refresh (R377, R378) -/

/-- The DRAM leaves the self-refresh of a brace, with its clocks running (R378). -/
def State.selfRefreshExit (s : State) : State :=
  if s.dramState = dSELF ∧ s.pageEnable 0x640 then
    (((s.updDram fun m => { m with selfRefresh := false, forBrace := false }).setDramState dREADY).raise 100).admitWaiting
  else s

/-- The DRAM leaves self-refresh at the wake from SLEEP: a re-trim of both ranks comes before requests resume (R378). -/
def State.selfRefreshWake (s : State) : State :=
  s.selfRefreshExit.updDram fun m => { m with wakeTrim := if s.dramState = dSELF ∧ s.pageEnable 0x640 then List.range s.dramRanks else m.wakeTrim }

/-- USABLE (R380). -/
def State.showUsable (s : State) : State :=
  (s.setReg (aDRAM 0x40) (BitVec.ofNat 32 s.dramSize)).setReg (aDRAM 0x44) (BitVec.ofNat 32 (s.dramSize / 2 ^ 32))

/-- Timings that do not match the fitted parts are case 8 of R56 from the training on, and what the DRAM holds is lost with it. -/
def State.tryTimings (s : State) : State :=
  if Config.dramTimingFits ((List.range 16).map fun k => s.reg (aTIMING (0x020 + 4 * k))) then s.clearUndefined 8 0x641 0
  else (s.markUndefined 8 0x641 0).updDram fun m => { m with lost := some [] }

/-- ENABLE of DRAM page 0 has changed from 0 to 1: training starts; from self-refresh it keeps the data (R371, R377). An
organisation that R358 does not allow is case 2 of R56: what training finds is then open, as its sweeps are. -/
def State.dramEnable (s : State) : State :=
  let s0 := (if s.dramOrgOk then s.clearUndefined 2 0x641 0 else s.markUndefined 2 0x641 0).tryTimings
  let s1 := s0.updDram fun m => { m with
    keep := m.selfRefresh || (m.keep && s.dramState == dTRAINING), selfRefresh := false, forBrace := false, trainStopped := false
    lost := if s0.dramWrong then some [] else m.lost }
  let s2 := if s.dram.selfRefresh then s1.raise 100 else s1
  ((s2.setDramState dTRAINING).setBusy 0x640 true).showUsable

/-- ENABLE of DRAM page 0 has changed from 1 to 0 (R377): new requests are refused, accepted writes complete, and the DRAM enters
self-refresh. A training that runs ends first: the accepted writes need it. -/
def State.dramDisable (s : State) : State := (if s.dramState = dREADY then s.selfRefresh false else s).refuseWaiting

/-- The line that the scrubber reads after line n: the reserved row at the top of each rank is skipped (R360, R383). -/
def State.scrubAfter (s : State) (n : Nat) : Nat :=
  let k := n + 1
  if k < s.dramSize / 64 && s.dramOut (64 * k) then k + 2 ^ (15 + s.dramG) / 64 else k

/-- The scrubber reads its next line (R376): class BACKGROUND, reserved rows skipped. -/
def State.dramScrub (s : State) : State :=
  if s.dramState ≠ dREADY ∨ !s.rb (aECC 0x34) 16 then s
  else
    let n := (s.reg (aECC 0x38)).toNat
    let lines := s.dramSize / 64
    let s1 := if s.dramOut (64 * n) then s else s.ownRequest (64 * n) false 0 0
    let next := s.scrubAfter n
    if lines ≤ next then (s1.setReg (aECC 0x38) 0).wrapAdd (aECC 0x3C) 31 0 1 else s1.setReg (aECC 0x38) (BitVec.ofNat 32 next)

/-- A fabric port measures its clock (R362). -/
def State.portClock (s : State) (p : Nat) (fast : Bool) : State :=
  let s1 := s.updDram fun m => { m with fast := if fast then (if m.fast.contains p then m.fast else p :: m.fast) else m.fast.filter (· ≠ p) }
  if fast then s1.setErr 0x640 20 else s1.admitWaiting

/-! ### BAR4 and the Guide's buffers (R328, R349) -/

/-- A BAR4 TLP within one line: out of range it returns all ones or is dropped, with BAR4_RANGE; a poisoned write is dropped (R353). -/
def State.bar4 (s : State) (ofs : Nat) (write : Bool) (be : BitVec 64) (data : BitVec 512) (tag : BitVec 6) (poisoned : Bool) : State :=
  if !s.linkUp ∨ s.host.d3hot then s
  else if write && poisoned then s.setErr 0x600 19
  else
    let a := s.bar4Base + ofs % 2 ^ 28
    let r : DramReq := { port := 8, addr := a / 64 * 64, write := write, line := true, be := be, data := data, close := true,
                         fence := false, tag := tag, cls := 1, seq := 0 }
    s.dramRequest r

/-- The Guide can reach a buffer of n bytes: the DRAM answers, and every byte is in range. -/
def State.bufferOk (s : State) (a n : Nat) : Bool :=
  a % 8 == 0 && !s.dramShut && (n == 0 || (!s.dramOut a && !s.dramOut (a + n - 1) && (a + n - 1) / 2 ^ (15 + s.dramG) ≤ a / 2 ^ (15 + s.dramG) + 1))

/-- A buffer request of the Guide waits, as every request does: the DRAM trains, is in the self-refresh of a brace, or has ranks to re-trim
after a wake (R371, R378). -/
def State.dramWaits (s : State) : Bool := !s.dramShut && (s.dramState != dREADY || !s.dram.wakeTrim.isEmpty)

/-- The requests that port p has been given so far are carried out, in order, before the next one of the port (R363). -/
def State.servePort (s : State) (p : Nat) : State :=
  let s0 := (s.dram.atPort.filter fun r => r.port == p).foldl (fun (t : State) r => t.enqueue r false)
    (s.updDram fun m => { m with atPort := m.atPort.filter fun r => r.port != p })
  let s1 := (s0.dram.queue.filter fun r => r.port == p && (!r.issued || r.result.isNone)).foldl (fun (t : State) r =>
    let line := r.addr / 64 * 64
    if r.write then (t.dramWrite r).updDram fun m => { m with queue := m.queue.map fun q => if q.seq == r.seq then { q with issued := true } else q }
    else
      let (d, bad, u) := t.readLine line (portRequester p)
      let beat : BitVec 512 := if r.line then d else BitVec.ofNat 512 (d.toNat / 2 ^ (8 * (r.addr % 64)) % 2 ^ 256)
      u.updDram fun m => { m with
        queue := m.queue.map fun q => if q.seq == r.seq then { q with issued := true, result := some (beat, bad) } else q }) s0
  s1.answerPort p

/-- The Guide reads n bytes at a, word by word, on port 8, after the writes queued before; nothing is returned when a word is uncorrectable (R328,
R362). -/
def State.bufferGet (s : State) (a n : Nat) : Option (List Byte) × State :=
  if n = 0 then (some [], s)
  else
    let first := a / 8
    let words := (a + n - 1) / 8 - first + 1
    let (l, bad, s1) := (List.range words).foldl (fun (acc : List Byte × Bool × State) k =>
      let (d, dbe, _, t) := acc.2.2.readChecked (8 * (first + k)) 2 true
      (acc.1 ++ leBytes 8 d.toNat, acc.2.1 || dbe, t)) ([], false, (s.servePort 8).drainRange a n)
    (if bad then none else some ((l.drop (a % 8)).take n), s1)

/-- A buffer, which begins at a multiple of 8, is written on port `port` for requester `req`, word by word, after the requests of the port and
the writes queued before. The port's requests are carried out within the command that makes them (DESIGN CHOICE, log 125). -/
def State.bufferWrite (s : State) (port req a : Nat) (bytes : List Byte) : State :=
  let n := bytes.length
  (List.range ((n + 7) / 8)).foldl (fun (t : State) k =>
    let w := a + 8 * k
    let be := 2 ^ min 8 (n - 8 * k) - 1
    (t.dropBacks { port, addr := w, write := true, line := false, be := BitVec.ofNat 64 (be * 2 ^ (w % 64)), data := 0, close := true
                   fence := false, tag := 0, cls := 1, seq := 0 }).dramWriteWord w be req
      (BitVec.ofNat 64 (ofBytes ((bytes.drop (8 * k)).take 8)))) ((s.servePort port).drainRange a n)

/-- The Guide writes a buffer, on port 8. -/
def State.bufferPut (s : State) (a : Nat) (bytes : List Byte) : State := s.bufferWrite 8 2 a bytes

/-- A read-back writes its frames, on port 10 (R361). -/
def State.bufferFrames (s : State) (a : Nat) (bytes : List Byte) : State := s.bufferWrite 10 6 a bytes

/-- A buffer of the Guide is out of reach: RANGE is set, as by any request (R360). A misaligned one makes no request. -/
def State.bufferRange (s : State) (a n : Nat) : State := if a % 8 = 0 ∧ !s.bufferOk a n then s.setErr 0x640 16 else s

end Sys2Proof.Machine
end

