-- ==== Sys2Proof/Machine/RopeFrame.lean ====
section
/-! DEFINITION. Frames of the rope as symbols carry them (R255, R256, R258, R259, R261, R276, R294): headers, payloads, checks, slots. -/

namespace Sys2Proof.Machine

/-! ### Headers and checks (R255, R256) -/

/-- One bit into the CRC-8 of a header, polynomial x^8 + x^2 + x + 1. -/
def crc8Bit (c : Nat) (b : Bool) : Nat :=
  let x := 2 * c % 256
  if (c.testBit 7) != b then x ^^^ 0x07 else x

/-- HCRC of a header: the CRC-8 over H[63:8], initial 0xFF, bit 63 first (DESIGN CHOICE, log 104: R255 names no bit order). -/
def hcrc (h : Nat) : Nat := (List.range 56).foldl (fun c i => crc8Bit c (h.testBit (63 - i))) 0xFF

/-- H with its HCRC. -/
def packHeader (type dst src seq ack len : Nat) (passed : Bool) : BitVec 64 :=
  let h := type * 2 ^ 60 + dst % 512 * 2 ^ 51 + src % 512 * 2 ^ 42 + seq % 4096 * 2 ^ 30 + ack % 4096 * 2 ^ 18 +
    passed.toNat * 2 ^ 17 + len % 64 * 2 ^ 8
  BitVec.ofNat 64 (h + hcrc h)

/-- The CRC-32 over a header and a payload. -/
def frameFcs (head : BitVec 64) (payload : List Byte) : Word := BitVec.ofNat 32 (crc32 (bytesOf 8 head.toNat ++ payload))

/-- A header with a bad HCRC, a reserved TYPE, or a LEN above 40, which CYCLE ignores (R255, R256). -/
def badHead (h : BitVec 64) : Bool :=
  let type := h.toNat / 2 ^ 60
  hcrc h.toNat != h.toNat % 256 || type == 0 || 9 < type || (type != 1 && 40 < h.toNat / 2 ^ 8 % 64)

/-- What a node finds of a frame that comes in: it is whole; its header is bad; its CRC-32 is bad; or the header is that of another frame. -/
inductive FrameCheck where
  | whole | head | body | other
deriving DecidableEq, Repr

/-- The check of a frame whose header ought to be `head` and which carries `payload`, as it came in with w. -/
def checkFrame (w : Wire) (head : BitVec 64) (payload : List Byte) : FrameCheck :=
  if badHead w.head then .head else if w.head != head then .other else if w.fcs != frameFcs head payload then .body else .whole

/-! ### Access and HOP frames (R256, R276, R294) -/

/-- TYPE of an access frame. -/
def accType (b : AccBody) : Nat :=
  match b with
  | .rdReq _ _ _ => 2 | .rdRsp _ _ _ _ => 3 | .wrReq _ _ _ _ _ => 4 | .wrAck _ _ => 5 | .mbx _ _ _ _ => 6 | .mbxAck _ _ => 7 | .nak _ _ => 9

/-- The payload of an access frame. A mailbox of the destination is named by its number, 16 to 31. -/
def accPayload (b : AccBody) : List Byte :=
  match b with
  | .rdReq a sync e => bytesOf 4 a.toNat ++ [BitVec.ofNat 8 sync.toNat, 0] ++ bytesOf 2 e.toNat
  | .rdRsp d st l e => bytesOf 4 d.toNat ++ [st, BitVec.ofNat 8 (l.take 4).length] ++ bytesOf 2 e.toNat ++
      (l.take 4).flatMap fun w => bytesOf 4 w.toNat
  | .wrReq a d sync pair e => bytesOf 4 a.toNat ++ bytesOf 4 d.toNat ++ [BitVec.ofNat 8 (sync.toNat + 2 * pair.isSome.toNat), 0] ++
      bytesOf 2 e.toNat ++ (match pair with | some lo => bytesOf 4 lo.toNat | none => [])
  | .wrAck st e => [st, 0] ++ bytesOf 2 e.toNat
  | .mbx m sync e words => [BitVec.ofNat 8 m.toNat, BitVec.ofNat 8 sync.toNat] ++ bytesOf 2 e.toNat ++
      (List.range 8).flatMap fun k => bytesOf 4 (words.getD k 0).toNat
  | .mbxAck st e => [st, 0] ++ bytesOf 2 e.toNat
  | .nak code e => [code, 0] ++ bytesOf 2 e.toNat

/-- H of an access frame; LEN counts its payload. -/
def accHead (f : AccFrame) : BitVec 64 :=
  packHeader (accType f.body) f.dst.toNat f.src.toNat f.seq.toNat f.ack.toNat (accPayload f.body).length f.passed

/-- How an access frame goes out, and the check of one that comes in. -/
def accWire (f : AccFrame) : Wire := { head := accHead f, fcs := frameFcs (accHead f) (accPayload f.body) }
def accCheck (f : AccFrame) (w : Wire) : FrameCheck := checkFrame w (accHead f) (accPayload f.body)

/-- H of the HOP frame of node src, and how it goes out. -/
def hopHead (src : BitVec 9) (seq : BitVec 12) : BitVec 64 := packHeader 8 src.toNat src.toNat seq.toNat 0 4 false
/-- SRC of a header (R255). -/
def headSrc (w : Wire) : BitVec 9 := w.head.extractLsb' 42 9
def hopWire (src : BitVec 9) (seq : BitVec 12) (turn : Word) : Wire :=
  { head := hopHead src seq, fcs := frameFcs (hopHead src seq) (bytesOf 4 turn.toNat) }

/-! ### Cycle frames (R257 to R261) -/

/-- K by line rate and active cycle code (R257). -/
def ropeK (rate : Bool) (cyc : Nat) : Nat :=
  if rate then (match cyc with | 2 => 4 | 3 => 8 | _ => 1) else 4 * 2 ^ cyc

/-- The active cycle length in ns. -/
def cycleNs (cyc : Nat) : Nat := 2500 * 2 ^ cyc

/-- The symbol time in ns, and the symbols of a cycle (R243, R257). -/
def symbolNs (rate : Bool) : Nat := if rate then 8 else 2
def cycleSymbols (rate : Bool) (cyc : Nat) : Nat := cycleNs cyc / symbolNs rate

/-- V, S and E of a frame for `size` positions (R258). -/
def frameV (size k : Nat) : Nat := 4 * ((size * k + 31) / 32)
def frameS (size k : Nat) : Nat := 4 * size * k
def frameEnd (size k : Nat) : Nat := 54 + frameV size k + frameS size k

/-- N_SLOT, the access slots of a cycle (R261). -/
def slotsOf (rate : Bool) (cyc size : Nat) : Nat := (cycleSymbols rate cyc - frameEnd size (ropeK rate cyc) - 16) / 56

/-- The instant in a cycle, in ns after its CSTART, at which slot j begins (R261). -/
def slotAtNs (rate : Bool) (cyc size j : Nat) : Nat := (frameEnd size (ropeK rate cyc) + 56 * j) * symbolNs rate

def cycleSize (f : CycleFrame) : Nat := f.sizeM1.toNat + 1
def cycleK (f : CycleFrame) : Nat := ropeK f.rate f.cyc.toNat

/-- Header of a cycle frame: TYPE 1, SRC = DST = rope × 64, SEQ of CYCLE_NO; LEN is ignored and stands at 0. -/
def cycleHead (f : CycleFrame) : BitVec 64 :=
  packHeader 1 (64 * f.rope.toNat) (64 * f.rope.toNat) (f.cycleNo.toNat % 4096) 0 0 false

/-- The 40 bytes of the sync area (R259). -/
def cycleSync (f : CycleFrame) : List Byte :=
  bytesOf 4 f.cycleNo.toNat ++ bytesOf 8 (nsOf f.t) ++ bytesOf 1 (fracOf f.t) ++
    bytesOf 1 (f.cyc.toNat + 4 * f.rate.toNat + 8 * f.wrapNr.toNat + 16 * f.wrapAny.toNat) ++
    bytesOf 1 (f.rope.toNat + 16 * f.quality.toNat) ++ bytesOf 1 f.sizeM1.toNat ++ bytesOf 8 f.present.toNat ++ bytesOf 8 f.seen.toNat ++
    bytesOf 4 (f.count.toNat + 2 ^ 8 * f.rateChg.toNat + 2 ^ 9 * f.newRate.toNat + 2 ^ 10 * f.heal.toNat) ++ bytesOf 4 f.tword.toNat

/-- The valid map, bit p × K + s, and the sample sections (R258). -/
def cycleValidMap (f : CycleFrame) : List Byte :=
  (List.range (frameV (cycleSize f) (cycleK f))).map fun b => BitVec.ofNat 8 ((List.range 8).foldl (fun (acc : Nat) i =>
    let n := 8 * b + i
    acc + if n < (cycleSize f) * (cycleK f) ∧ SMap.get (fun _ => false) f.valid (32 * (n / (cycleK f)) + n % (cycleK f)) then 2 ^ i else 0) 0)
def cycleSections (f : CycleFrame) : List Byte :=
  (List.range ((cycleSize f) * (cycleK f))).flatMap fun n => bytesOf 4 (SMap.get (fun _ => 0) f.data (32 * (n / (cycleK f)) + n % (cycleK f))).toNat

/-- What stands between header and CRC-32 of a cycle frame. -/
def cyclePayload (f : CycleFrame) : List Byte := (cycleSync f) ++ (cycleValidMap f) ++ (cycleSections f)

/-- How a cycle frame goes out, and the check of one that comes in, whatever its LEN reads. -/
def cycleWire (f : CycleFrame) : Wire := { head := cycleHead f, fcs := frameFcs (cycleHead f) (cyclePayload f) }
def cycleCheck (f : CycleFrame) (w : Wire) : FrameCheck :=
  if badHead w.head then .head
  else if (w.head ^^^ cycleHead f) >>> 14 != 0 then .other
  else if w.fcs != frameFcs w.head (cyclePayload f) then .body else .whole

end Sys2Proof.Machine
end

