-- ==== Sys2Proof/Machine/Rope.lean ====
section
/-! DEFINITION. The rope link and the rope cycle (R252 to R274), path delay and servo measurement (R275 to R281), cyclic samples (R286 to R289). -/

namespace Sys2Proof.Machine

def aROPE (o : Nat) : Nat := pg 0x540 o
def aRT (o : Nat) : Nat := pg 0x548 o
def aPUB (o : Nat) : Nat := pg 0x550 o
def aSUB (e o : Nat) : Nat := pg (0x551 + e / 64) (o + 4 * (e % 64))

/-- The page of a rope port (R274). -/
def portPage (p : RopePort) : Nat := match p with | .west => 0x541 | .east => 0x542 | .branch => 0x543

def State.updRope (s : State) (f : Rope → Rope) : State := { s with rope := f s.rope }

/-! ### Settings (R273) -/

def State.ropeRole (s : State) : Nat := s.rf (aROPE 0x20) 1 0
def State.ropeNo (s : State) : Nat := s.rf (aROPE 0x20) 31 29
def State.brEn (s : State) : Bool := s.rb (aROPE 0x20) 28
def State.brRope (s : State) : Nat := s.rf (aROPE 0x20) 27 25

/-- The own position: a LEADER is position 0 whatever POS holds. -/
def State.ropePos (s : State) : Nat := if s.ropeRole = 2 then 0 else s.rf (aROPE 0x20) 23 18

/-- The own node ID (R252, R293). -/
def State.ownId (s : State) : Nat := s.nodeId

/-- A NODE or LEADER with BR_EN = 1 is an anchor (R252). -/
def State.isAnchor (s : State) : Bool := s.brEn && (s.ropeRole == 1 || s.ropeRole == 2)

/-- N is the own ID, or the alias of an anchor (R293). -/
def State.isOwnId (s : State) (n : Nat) : Bool :=
  n == s.ownId || (s.isAnchor && n == s.brRope * 64)

/-- STAT.STATE codes. -/
def rsOFF : Nat := 0
def rsLISTEN : Nat := 1
def rsJOINING : Nat := 2
def rsJOINED : Nat := 3
def rsLEAVING : Nat := 4
def rsBELAYED : Nat := 5
def rsREFUSED : Nat := 6
def rsLEADING : Nat := 7

def State.ropeState (s : State) : Nat := s.rf (aROPE 0x2C) 3 0
def State.setRopeState (s : State) (v : Nat) : State := s.setF (aROPE 0x2C) 3 0 v
def State.bypassClosed (s : State) : Bool := s.rb (aROPE 0x2C) 9
def State.setBypass (s : State) (b : Bool) : State := s.setB (aROPE 0x2C) 9 b

/-- The branch rope runs. -/
def State.branchActive (s : State) : Bool := s.rb (aROPE 0x44) 0
def State.ropeRate (s : State) : Bool := s.rb (aROPE 0x2C) 13

/-- The active cycle code: 2.5 µs becomes 5 µs at 1.25 Gbaud (R257). -/
def activeCyc (rate : Bool) (cyc : Nat) : Nat := if rate && cyc = 0 then 1 else cyc

def State.cycleLen (s : State) : Nat := cycleNs (s.rf (aROPE 0x2C) 15 14)

/-- The line rate of the own or the branch rope, its active cycle code and its number of positions. -/
def State.lineRate (s : State) (br : Bool) : Bool := if br then s.rb (aROPE 0x44) 13 else s.ropeRate
def State.lineCyc (s : State) (br : Bool) : Nat :=
  if br then activeCyc (s.rb (aROPE 0x44) 13) (s.rf (aROPE 0x20) 11 10) else s.rf (aROPE 0x2C) 15 14
def State.lineSize (s : State) (br : Bool) : Nat := (if br then s.rf (aROPE 0x20) 7 2 else s.rf (aROPE 0x2C) 21 16) + 1

/-- The key of a hop list: port and line rate. -/
def hopKey (br rate : Bool) : Nat := (if br then 2 else 0) + (if rate then 1 else 0)

/-- A rate begins: whether no hop measurement for it is stored (R276). -/
def State.noteHop (s : State) (br v : Bool) : State :=
  if s.lineRate br = v then s
  else
    let bare := (SMap.get (fun _ => []) s.rope.hop (hopKey br v)).isEmpty
    s.updRope fun r => if br then { r with oldHopBr := bare } else { r with oldHop := bare }

/-- The rate of the own or the branch rope, which its ports run at and show (R243). -/
def State.setRate (s0 : State) (br v : Bool) : State :=
  let s := s0.noteHop br v
  if br then (s.setB (aROPE 0x44) 13 v).setB (pg 0x543 0x24) 2 v
  else ((s.setB (aROPE 0x2C) 13 v).setB (pg 0x541 0x24) 2 v).setB (pg 0x542 0x24) 2 v

/-- LIMITS follows the rate and the cycle of both ropes. -/
def State.showLimits (s : State) : State :=
  let k := ropeK s.ropeRate (s.rf (aROPE 0x2C) 15 14)
  let kb := if s.rb (aROPE 0x44) 0 then
      ropeK (s.rb (aROPE 0x44) 13) (activeCyc (s.rb (aROPE 0x44) 13) (s.rf (aROPE 0x20) 11 10)) else 0
  (s.setF (aROPE 0x48) 5 0 k).setF (aROPE 0x48) 13 8 kb

/-! ### Presence (R249, R267, R281) -/

def State.present (s : State) (br : Bool) : BitVec 64 :=
  if br then s.reg64 (aROPE 0x38) (aROPE 0x3C) else s.reg64 (aROPE 0x30) (aROPE 0x34)

/-- The longest run of positions without an active node, in the list of presence bits; runs above `lim` do not count. -/
def longestRun (lim : Nat) (l : List Bool) : Nat :=
  let step (acc : Nat × Nat) (b : Bool) : Nat × Nat :=
    if b then (if acc.2 ≤ lim then max acc.1 acc.2 else acc.1, 0) else (acc.1, acc.2 + 1)
  (l.foldl step (0, 0)).1

/-- GAP and SPLIT of a rope of `size` positions. A ring closes through position 0; the far end of a line is not counted. -/
def gapOf (present : BitVec 64) (size : Nat) (ring : Bool) : Nat × Bool :=
  let bits := (List.range size).map fun p => present.getLsbD p || p == 0
  let l := if ring then bits ++ [true] else bits
  (longestRun 8 l, 9 ≤ longestRun 64 l)

/-- H and Y of R281: hops from position 0, and bypasses in them. -/
def hopsTo (present : BitVec 64) (pos : Nat) : Nat × Nat :=
  let between := (List.range pos).filter fun p => p ≠ 0
  let act := (between.filter fun p => present.getLsbD p).length
  (if pos = 0 then 0 else act + 1, between.length - act)

/-- BUDGET and the path counts of TSTAT follow PRESENT and POS (R281). An anchor on a branch that is not LOCKED or LEADER
passes its own code on. -/
def State.showBudget (s : State) : State :=
  let (h, y) := hopsTo (s.present false) s.ropePos
  let s1 := (s.setF (aRT 0x24) 27 22 h).setF (aRT 0x24) 21 16 y
  if s.refSrc ≠ 2 then s1
  else
    let base := (7 * h + y + 51) / 2
    if s.upstream then
      (((s1.setF (aRT 0x44) 15 0 0xFFFF).setErr 0x548 17).setQuality (s.rf (aRT 0x24) 31 28)).setReg (aTIME 0x2C) 0xFFFFFFFF
    else s1.setF (aRT 0x44) 15 0 (if s.ropeNo = 0 then base else 246 + base)

/-- Put a new PRESENT into the registers; a change sets PRES_CHANGE on a leader and on a node that is joined (R267). -/
def State.setPresent (s : State) (br : Bool) (p : BitVec 64) : State :=
  if s.present br = p then s
  else
    let lo := if br then aROPE 0x38 else aROPE 0x30
    let hi := if br then aROPE 0x3C else aROPE 0x34
    let s1 := (s.setReg lo (p.truncate 32)).setReg hi ((p >>> 32).truncate 32)
    (if br || s.ropeState == rsJOINED || s.ropeState == rsLEADING then s1.setErr 0x540 21 else s1).showBudget

/-- The access slots that the node may fill in a cycle (R261). -/
def State.slotShare (s : State) (br : Bool) : Nat :=
  let n := slotsOf (s.lineRate br) (s.lineCyc br) (s.lineSize br)
  max 1 (n / max 1 ((List.range 64).filter fun p => (s.present br).getLsbD p || p == 0).length)

/-- The node sends on the own or the branch rope: the bypass is open, or BRANCH runs, and a port's transmitter is on (R248, R253, R274). -/
def State.transmits (s : State) (br : Bool) : Bool :=
  if br then s.branchActive && s.pageEnable 0x543 else !s.bypassClosed && (s.pageEnable 0x541 || s.pageEnable 0x542)

/-- Port p receives symbols: a signal is there, and the receiver is locked (R274). -/
def State.heard (s : State) (p : RopePort) : State :=
  let a := pg (portPage p) 0x24
  if s.pageEnable (portPage p) then (s.setB a 0 true).setB a 1 true else s

/-! ### Joining and leaving (R266 to R270) -/

/-- The bypass closes: the node is wrapped at no port. -/
def State.closeBypass (s : State) : State :=
  let s1 := (s.setBypass true).setF (aROPE 0x2C) 11 10 0
  ((s1.setB (pg 0x541 0x24) 3 false).setB (pg 0x542 0x24) 3 false).updRope fun r =>
    { r with nrWest := false, nrEast := false, healNow := false }

/-- The node listens on its tap, or stays belayed (R268, R269). A leave under way comes to its end first. A leader that R253 has
stopped stays so. -/
def State.ropeListen (s : State) : State :=
  if s.ropeRole = 0 then s
  else if s.ropeState = rsLEAVING then s.updRope fun r => { r with again := true }
  else
    let s1 := s.updRope fun r => { r with checked := false, again := false }
    if s.rope.own.stopped then s1.setRopeState rsREFUSED
    else if s.rb (aROPE 0x28) 0 then s1.setRopeState rsBELAYED
    else ((s1.setRopeState rsLISTEN).setF (aROPE 0x2C) 31 28 0).closeBypass

/-- ENABLE has been set: what R253 stopped may start again (R268). -/
def State.ropeEnabled (s : State) : State :=
  (s.updRope fun r => { r with own := { r.own with stopped := false }, br := { r.br with stopped := false } }).ropeListen

/-- The receivers lock at the rope's rate. A port that locks here is faulty no more (DEDUCED, log 105). -/
def State.ropeLock (s : State) (rate : Bool) : State :=
  if s.ropeState ≠ rsLISTEN then s
  else
    let one (t : State) (p : RopePort) : State :=
      let a := pg (portPage p) 0x24
      if t.pageEnable (portPage p) then ((t.setB a 0 true).setB a 1 true).setB a 4 false else t
    (one (one (s.setRate false rate) .west) .east).showLimits

/-- The first failing check of R269 on a cycle frame, in the order of its table (DESIGN CHOICE, log 129), 0 when all pass. -/
def State.joinRefusal (s : State) (f : CycleFrame) (west : Bool) : Nat :=
  let pos := s.ropePos
  if f.present.getLsbD pos then 1
  else if f.sizeM1.toNat < pos then 2
  else if f.rope.toNat ≠ s.ropeNo then 3
  else if !f.wrapAny && west && (f.seen.toNat >>> (pos + 1)) ≠ 0 then 4
  else 0

/-- What every received cycle frame shows: size, cycle, rate, limits, PRESENT, the leader's quality. -/
def State.takeSync (s : State) (f : CycleFrame) : State :=
  let s1 := (((s.setF (aROPE 0x2C) 21 16 f.sizeM1.toNat).setF (aROPE 0x2C) 15 14 f.cyc.toNat).setRate false f.rate).setReg (aROPE 0x40) f.cycleNo
  let s2 := s1.updRope fun r => { r with code5 := if f.rate then r.code5 else some f.cyc.toNat }
  (((s2.showLimits).setF (aRT 0x24) 31 28 f.quality.toNat).setPresent false f.present).showBudget

/-- The join checks after 4 good cycle frames. -/
def State.joinCheck (s : State) (f : CycleFrame) (west : Bool) : State :=
  if s.ropeState ≠ rsLISTEN ∨ s.ropeRole ≠ 1 ∨ !s.pageEnable 0x540 then s
  else
    let c := s.joinRefusal f west
    let s1 := s.takeSync f
    if c ≠ 0 then (((s1.setF (aROPE 0x2C) 31 28 c).setRopeState rsREFUSED).closeBypass).setErr 0x540 16
    else s1.updRope fun r => { r with checked := true }

/-- The node wraps at port p, WEST or EAST, and sends WRAP_NR for it until it is clean (R263, R264). A port where it is wrapped already
only starts its 1 ms anew. -/
def State.wrapAt (s : State) (p : RopePort) : State :=
  if p = .branch ∨ s.bypassClosed then s
  else
    let a := pg (portPage p) 0x24
    let s1 := if s.rb a 3 then s else
      ((s.setB a 3 true).satAdd (pg (portPage p) 0x30) 15 0 1).setB (aROPE 0x2C) (if p = .west then 10 else 11) true
    s1.updRope fun r =>
      { r with nrWest := r.nrWest || p = .west, nrEast := r.nrEast || p = .east, healNow := false }

/-- The bypass opens: the node wraps at a port that is disabled or faulty (R263, R274). -/
def State.openBypass (s : State) : State :=
  let one (t : State) (p : RopePort) : State := if !t.pageEnable (portPage p) || t.rb (pg (portPage p) 0x24) 4 then t.wrapAt p else t
  one (one (s.setBypass false) .west) .east

/-- The next cycle boundary: the bypass opens inside the guard. -/
def State.joinOpen (s : State) : State :=
  if s.rope.checked && s.ropeState = rsLISTEN then
    ((s.setRopeState rsJOINING).openBypass).updRope fun r => { r with checked := false }
  else s

/-- PRESENT shows the node's position. -/
def State.joined (s : State) : State :=
  if s.ropeState = rsJOINING && (s.present false).getLsbD s.ropePos then s.setRopeState rsJOINED else s

/-- No PRESENT within 16 cycles. -/
def State.joinTimeout (s : State) : State :=
  if s.ropeState = rsJOINING then (s.setRopeState rsLISTEN).closeBypass else s

/-- The rate a leader starts with (R265). -/
def State.startRate (s : State) : Bool := s.rf (aROPE 0x20) 9 8 = 2

/-- A leader, or an anchor on its branch, hears no cycle frame and begins to send cycles. A node that leaves, has left or is belayed leads
no branch (R270). -/
def State.leadingStart (s : State) (br : Bool) : State :=
  if !s.pageEnable 0x540 then s
  else if br then
    if s.isAnchor && s.pageEnable 0x543 && !s.rope.br.stopped && !s.branchActive && !([rsOFF, rsLEAVING, rsBELAYED] : List Nat).contains s.ropeState then
      ((s.setB (aROPE 0x44) 0 true).setRate true s.startRate).showLimits
    else s
  else if s.ropeRole = 2 && s.ropeState = rsLISTEN && !s.rope.own.stopped then
    let r := s.startRate
    let s1 := ((s.setRopeState rsLEADING).setRate false r).openBypass
    let s2 := (s1.setF (aROPE 0x2C) 15 14 (activeCyc r (s.rf (aROPE 0x20) 11 10))).setF (aROPE 0x2C) 21 16 (s.rf (aROPE 0x20) 17 12)
    s2.showLimits
  else s

/-- The state in which a leave ends: BELAYED under BELAY, else OFF; with ENABLE = 0 the controller is stopped (R270, R272). -/
def State.leftState (s : State) : Nat := if s.pageEnable 0x540 && s.rb (aROPE 0x28) 0 then rsBELAYED else rsOFF

/-- An orderly leave begins (R270), by BELAY, by ENABLE = 0 or by a power-state entry. With ENABLE = 0 BRANCH sends nothing (R272). -/
def State.ropeLeave (s0 : State) : State :=
  let s := if s0.pageEnable 0x540 then s0 else s0.setB (aROPE 0x44) 0 false
  let st := s.ropeState
  if st = rsJOINING ∨ st = rsJOINED ∨ st = rsLEADING then (s.setRopeState rsLEAVING).setBusy 0x540 true
  else if st = rsLEAVING then s.updRope fun r => { r with again := false }
  else ((s.setRopeState s.leftState).closeBypass).setB (aROPE 0x44) 0 false

/-- BELAY has been written to 1. A REFUSED node stays refused until BELAY is written to 0 again (R269). -/
def State.belay (s : State) : State := if s.ropeState = rsREFUSED then s else s.ropeLeave

/-- PRESENT has cleared the node, or 16 cycles have passed. The end of any leave stops the branch rope too: without its own rope an anchor has no
time to lead it by (DESIGN CHOICE, log 131). -/
def State.leaveDone (s : State) : State :=
  if s.ropeState ≠ rsLEAVING then s
  else
    let s1 := (((s.closeBypass).setRopeState s.leftState).setBusy 0x540 false).setB (aROPE 0x44) 0 false
    if s.rope.again && s.pageEnable 0x540 then s1.ropeListen else s1

/-- BELAY written to 0 after having been 1: a belayed or refused node listens again, and so does one that leaves once it has left
(R269, R270). -/
def State.unbelay (s : State) : State :=
  if s.pageEnable 0x540 && (s.ropeState = rsBELAYED || s.ropeState = rsREFUSED || s.ropeState = rsLEAVING) then s.ropeListen else s

/-- A sudden leave: loss of supply or reset (R248, R270). -/
def State.ropeSudden (s : State) : State :=
  let s1 := ((s.closeBypass).setRopeState rsOFF).setBusy 0x540 false
  s1.setB (aROPE 0x44) 0 false

/-- A leader or an anchor hears a cycle frame of the rope it leads from another source: it stops, closes its bypass or silences BRANCH
(R253, R269). -/
def State.dupLeader (s : State) (br : Bool) : State :=
  let s1 := (s.setF (aROPE 0x2C) 31 28 5).setErr 0x540 16
  if br then (s1.setB (aROPE 0x44) 0 false).updRope fun r => { r with br := { r.br with stopped := true } }
  else (s1.closeBypass.setRopeState rsREFUSED).updRope fun r => { r with own := { r.own with stopped := true } }

/-- No valid cycle frame for 8 cycle lengths (R266). -/
def State.syncLost (s : State) : State :=
  if s.ropeState = rsJOINED ∨ s.ropeState = rsJOINING then (s.setRopeState rsLISTEN).setErr 0x540 17 else s

/-- Sync has not returned for 16 further cycle lengths. -/
def State.listenTimeout (s : State) : State :=
  if s.ropeState = rsLISTEN && !s.bypassClosed then s.closeBypass else s

/-! ### Wrap and heal (R263, R264), rate (R265) -/

/-- A port becomes faulty; a node that is active wraps at WEST or EAST. Code errors count though they are too few for a fault (R274). CSTART is missed in the clockwise direction alone, on WEST. -/
def State.portFault (s : State) (p : RopePort) (c : PortCause) : State :=
  let fires : Bool := match c with | .errBurst n => decide (16 < n.toNat) | .noCstart => p == .west | _ => true
  let g := portPage p
  if !fires then (match c with | .errBurst n => s.satAdd (pg g 0x28) 31 0 n.toNat | _ => s)
  else
  let a := pg g 0x24
  let s0 := match c with
    | .noSignal => (s.setB a 0 false).setB a 1 false
    | .lossOfLock => (s.setB a 1 false).satAdd (pg g 0x30) 31 16 1
    | .noCstart => s
    | .errBurst n => (s.satAdd (pg g 0x28) 31 0 n.toNat).setErr g 18
  ((s0.setB a 4 true).setErr g 16).wrapAt p

def State.wrapped (s : State) : Bool := s.rb (aROPE 0x2C) 10 || s.rb (aROPE 0x2C) 11

/-- The ports that may come to be clean: a wrapped one that has not been so since its fault, and a faulty one at which the node is not
wrapped. -/
def State.unclean (s : State) : List RopePort :=
  [RopePort.west, .east, .branch].filter fun p =>
    let a := pg (portPage p) 0x24
    s.pageEnable (portPage p) && (if s.rb a 3 then (p == .west && s.rope.nrWest) || (p == .east && s.rope.nrEast) else s.rb a 4)

/-- The faulty port p has received clean symbols for 1 ms. Where the node is not wrapped at it the port is faulty no more (DEDUCED,
log 105). -/
def State.portClean (s : State) (p : RopePort) : State :=
  let a := pg (portPage p) 0x24
  if !s.pageEnable (portPage p) then s
  else if s.rb a 3 then (s.heard p).updRope fun r => { r with nrWest := r.nrWest && p != .west, nrEast := r.nrEast && p != .east }
  else (s.heard p).setB a 4 false

/-- A faulty port has been clean for 1 ms (R264). The row names no port: of several that may be the one, which it is is free (log 114). -/
def State.wrapNrClear (s : State) : State :=
  match s.unclean with
  | [] => s
  | [p] => s.portClean p
  | l => let (v, t) := s.free 2
         t.portClean (l.getD (v.toNat % l.length) .west)

/-- Every wrapped node unwraps in the guard of the boundary at which the HEAL count reaches 0. It stays wrapped at a port that is disabled, or has
not been clean since a fault (R263). -/
def State.unwrap (s : State) : State :=
  if !s.rope.healNow then s
  else
    let one (t : State) (p : RopePort) (b : Nat) (nr : Bool) : State :=
      if t.rb (aROPE 0x2C) b && !nr && t.pageEnable (portPage p) then
        let g := portPage p
        ((((t.setB (aROPE 0x2C) b false).setB (pg g 0x24) 3 false).setB (pg g 0x24) 4 false).setErr g 17)
      else t
    (one (one s .west 10 s.rope.nrWest) .east 11 s.rope.nrEast).updRope fun r => { r with healNow := false }

/-- A change of rate, or a heal, is under way: announced, or counted down and not yet made. -/
def State.changing (s : State) (br : Bool) : Bool :=
  if br then s.rope.br.rateChg || s.rope.br.heal || s.rope.brRateTo.isSome else s.rope.own.rateChg || s.rope.own.heal || s.rope.rateTo.isSome

/-- The leader decides to change the rate. -/
def Lead.startChange (l : Lead) (rate : Bool) : Lead := { l with count := 8, rateChg := true, newRate := rate, heal := false }

/-- GAP ≤ 3 has held for 1 s: the leader returns the rope to 5 Gbaud. -/
def State.rateReturn (s : State) (br : Bool) : State :=
  if s.rf (aROPE 0x20) 9 8 ≠ 0 ∨ s.changing br then s
  else if br then
    if s.rb (aROPE 0x44) 0 && s.rb (aROPE 0x44) 13 && s.rf (aROPE 0x44) 11 6 ≤ 3 then
      s.updRope fun r => { r with br := r.br.startChange false } else s
  else if s.ropeState = rsLEADING && s.ropeRate && s.rf (aROPE 0x2C) 27 22 ≤ 3 then
    s.updRope fun r => { r with own := r.own.startChange false } else s

/-! ### Hop delays (R276) -/

/-- The stored measurements for the present rate. Where there were none as the rate began, those of the other rate stand until enough have been
taken (R276). -/
def State.hopList (s : State) (br : Bool) : List Int :=
  let rate := if br then s.rb (aROPE 0x44) 13 else s.ropeRate
  let n := 2 ^ min 4 (s.rf (aRT 0x20) 2 0)
  let mine := SMap.get (fun _ => []) s.rope.hop (hopKey br rate)
  let other := SMap.get (fun _ => []) s.rope.hop (hopKey br (!rate))
  if (if br then s.rope.oldHopBr else s.rope.oldHop) && mine.length < n && !other.isEmpty then other else mine

/-- d_E or d_B doubled and summed, with the count: the mean is the sum over twice the count. -/
def State.hopMean (s : State) (br : Bool) : Option Rat :=
  let n := 2 ^ min 4 (s.rf (aRT 0x20) 2 0)
  let l := (s.hopList br).take n
  if l.isEmpty then none else some (((l.foldl (· + ·) 0 : Int) : Rat) / (2 * l.length : Nat))

/-- A rational in units of 1/256 ns as a register shows it; the spec does not say how it rounds, so the direction is free. -/
def State.roundFree (s : State) (x : Rat) : Int × State :=
  if x.floor = x.ceil then (x.floor, s)
  else
    let (up, t) := s.freeBool
    (if up then x.ceil else x.floor, t)

/-- HOP_E and HOP_B as they read. -/
def State.showHop (s : State) (br : Bool) : State :=
  match s.hopMean br with
  | none => s
  | some x =>
    let (v, t) := s.roundFree x
    t.setReg (aRT (if br then 0x34 else 0x30)) (BitVec.ofInt 32 v)

/-- A node switches its transmit rate at the 20 µs boundary after the count has reached 0. The active cycle follows: a leader has its CYC,
a node the code it last saw at 5 Gbaud, and one that has seen none keeps its code until the next frame (DEDUCED, log 106). -/
def State.rateSwitch (s : State) (br : Bool) : State :=
  if br then
    match s.rope.brRateTo with
    | none => s
    | some v => ((((s.setRate true v).setErr 0x540 18).updRope fun r => { r with brRateTo := none }).showLimits).showHop true
  else
    match s.rope.rateTo with
    | none => s
    | some v =>
      let now := s.rf (aROPE 0x2C) 15 14
      let base := if s.ropeRole = 2 then s.rf (aROPE 0x20) 11 10 else if v then now else s.rope.code5.getD now
      let s1 := (s.setRate false v).setF (aROPE 0x2C) 15 14 (activeCyc v base)
      (((s1.setErr 0x540 18).updRope fun r => { r with rateTo := none }).showLimits).showHop false

/-- A HOP frame arrives at an active node on EAST_RX, or at an anchor on BRANCH_RX, and gives a measurement d = ((t4 - t1) - TURN) / 2, when
the CSTART it names was sent here. -/
def State.hopRx (s : State) (br : Bool) (seq : BitVec 12) (turn : Word) (t4 : DevTime) : State :=
  if (if br then !s.branchActive else s.bypassClosed) || !s.pageEnable (if br then 0x543 else 0x542) then s else
  match (if br then s.rope.branchOut else s.rope.eastOut) with
  | none => s
  | some (n, t1) =>
    if n ≠ seq then s
    else
      let d2 : Int := ((t4 - t1).toNat : Int) - turn.toNat
      let rate := if br then s.rb (aROPE 0x44) 13 else s.ropeRate
      let k := hopKey br rate
      let l := (d2 :: SMap.get (fun _ => []) s.rope.hop k).take 16
      let few := decide (l.length < 2 ^ min 4 (s.rf (aRT 0x20) 2 0))
      let s1 := s.updRope fun r => { r with
        hop := SMap.set (fun _ => []) r.hop k l
        oldHop := if br then r.oldHop else r.oldHop && few
        oldHopBr := if br then r.oldHopBr && few else r.oldHopBr }
      ((s1.wrapAdd (aRT 0x48) 31 16 1).setB (aRT 0x24) (if br then 12 else 13) false).showHop br

/-- 16 cycles pass without a hop measurement. -/
def State.hopHold (s : State) (br : Bool) : State := (s.setB (aRT 0x24) (if br then 12 else 13) true).setErr 0x548 16

/-- The node sends its HOP frame, one for each CSTART, at t3 with TURN = t3 - t2. Where WEST_TX carries cycle frames it takes an access slot. -/
def State.hopSend (s : State) (t3 : DevTime) : State :=
  match s.rope.westIn with
  | none => s
  | some (n, t2) =>
    let slot := (s.rope.own.sent.map (·.wrapAny)).getD false
    if s.bypassClosed || !s.pageEnable 0x541 || s.rope.hopSent.any (·.1 == n) || (slot && s.slotShare false ≤ s.rope.filled) then s
    else s.updRope fun r => { r with
      hopSent := some (n, BitVec.ofNat 32 (t3 - t2).toNat), filled := r.filled + slot.toNat }

/-- HOP_ADJ, signed. -/
def State.hopAdj (s : State) (br : Bool) : Int := sext 16 (s.rf (aRT (if br then 0x3C else 0x38)) 15 0)

/-- The delay word of a sum; without a stored hop delay the spec gives no value. -/
def State.tword (s : State) (x : Option Rat) : Word × State :=
  match x with
  | some v => let (i, t) := s.roundFree v
              (BitVec.ofInt 32 i, t)
  | none => s.free 32

/-! ### Samples published (R286, R287) -/

/-- The own section of a cycle that starts at leader time tc and is `len` ns long: which samples are valid, and their words. The last FRESH cycles
are those before tc, whether or not their frames came (R287; DEDUCED, log 133). -/
def State.ownSection (s : State) (tc : DevTime) (len pos k : Nat) (leaving : Bool) : SMap Bool × SMap Word × Word :=
  (List.range 32).foldl (fun (acc : SMap Bool × SMap Word × Word) i =>
    let cfg := s.reg (aPUB (0x100 + 4 * i))
    let u := SMap.get (fun _ => ({} : PubSample)) s.pub i
    let last := u.writes.find? fun x => !laterThan (x.1 + ns 100) tc
    let written := u.written && last.isSome
    let v := match last with | some x => x.2 | none => s.reg (aPUB (0x180 + 4 * i))
    let fresh := fld cfg 15 8
    let recent := (u.writes.head?).any fun x => !laterThan tc (x.1 + ns (fresh * len))
    let src := fld cfg 1 0
    let port := fld cfg 4 2
    let live := src ≠ 3 || (s.fabric.portsReleased && !s.held (SMap.get (fun _ => 0) s.fabric.place.busPort port))
    let ok := i < k && src ≠ 0 && written && (fresh = 0 || recent) && live && !leaving
    (SMap.set (fun _ => false) acc.1 (32 * pos + i) ok,
     if i < k && src ≠ 0 then SMap.set (fun _ => 0) acc.2.1 (32 * pos + i) v else acc.2.1,
     setBit acc.2.2 i ok)) ([], [], 0)

/-- The frame with the own section in place of what it held. -/
def frameWithSection (f : CycleFrame) (pos : Nat) (v : SMap Bool) (d : SMap Word) : CycleFrame :=
  { f with
    valid := v.foldl (fun m e => SMap.set (fun _ => false) m e.1 e.2) (f.valid.filter fun e => e.1 / 32 ≠ pos)
    data := d.foldl (fun m e => SMap.set (fun _ => 0) m e.1 e.2) (f.data.filter fun e => e.1 / 32 ≠ pos) }

/-- The own-rope cycle that starts at tc has taken its samples: later cycles need no write older than the one it sent. -/
def State.pubCycle (s : State) (tc : DevTime) : State :=
  { s with pub := SMap.mapVals (fun _ => {}) (fun u =>
      let recent := u.writes.takeWhile fun x => laterThan (x.1 + ns 100) tc
      { u with writes := recent ++ (u.writes.drop recent.length).take 1 }) s.pub }

/-! ### Samples received (R288, R289) -/

/-- Entry e becomes stale. -/
def State.subStale (s : State) (e : Nat) : State :=
  if s.rb (aSUB e 0x300) 30 || !s.rb (aSUB e 0x100) 31 then s
  else ((s.setB (aSUB e 0x300) 30 true).setErr (0x551 + e / 64) 16).raise 72

/-- Entry e of the named rope takes the value that the frame carries for it. Position 0 writes its section as it sends, so its value is of
the present cycle, though SEEN bit 0 is sent as 0 (R259). In the frame that comes back to position 0, a section without its SEEN bit
holds no value of this cycle. In a frame on its way, one not yet written holds the value of the cycle before; where its valid bit is 0 the frame does not
tell a value published invalid from none, the frame of that cycle having been lost, so whether one arrives is free (R288; log 134). -/
def State.subTake (s : State) (f : CycleFrame) (br ret : Bool) (e : Nat) : State :=
  let cfg := s.reg (aSUB e 0x100)
  if !bit cfg 31 || bit cfg 30 ≠ br then s
  else
    let p := fld cfg 13 8
    let i := fld cfg 4 0
    let k := ropeK f.rate f.cyc.toNat
    let own := p == 0 || f.seen.getLsbD p
    let ok := SMap.get (fun _ => false) f.valid (32 * p + i)
    let (lost, s) := if !own && !ret && !ok then s.freeBool else (!own && ret, s)
    if k ≤ i || !f.present.getLsbD p || lost then s.subStale e
    else
      let c := if own then f.cycleNo else f.cycleNo - 1
      let s1 := (s.setReg (aSUB e 0x200) (SMap.get (fun _ => 0) f.data (32 * p + i))).setF (aSUB e 0x300) 15 0 c.toNat
      let s2 := s1.setB (aSUB e 0x300) 31 ok
      let was : Slot := { value := sext 32 (s.reg (aSUB e 0x200)).toNat, valid := s.rb (aSUB e 0x300) 31 && !s.rb (aSUB e 0x300) 30
                          arrival := SMap.get (fun _ => none) s.loop.ropeArrival e }
      let s3 := { s2 with loop := { s2.loop with
        ropeArrival := SMap.set (fun _ => none) s2.loop.ropeArrival e (some s2.time.now)
        ropeBefore := SMap.set (fun _ => {}) s2.loop.ropeBefore e was } }
      if ok then s3.setB (aSUB e 0x300) 30 false else s3.subStale e

/-- Every enabled entry takes its value at the end of the frame. -/
def State.subTakeAll (s : State) (f : CycleFrame) (br ret : Bool) : State :=
  (List.range 256).foldl (fun t e => t.subTake f br ret e) s

/-! ### The cycle (R257, R260, R275, R277) -/

/-- A wrapped node sets WRAP_ANY in the cycle frames of its own rope, and WRAP_NR until its ports are clean (R264). -/
def State.markWrap (s : State) (f : CycleFrame) : CycleFrame :=
  { f with wrapAny := f.wrapAny || s.wrapped, wrapNr := f.wrapNr || (s.wrapped && (s.rope.nrWest || s.rope.nrEast)) }

/-- A time at which a cycle of the own or the branch rope may start: a whole multiple of the active cycle length (R257). -/
def State.cycleInstant (s : State) (br : Bool) (tc : DevTime) : Bool :=
  tc.toNat % (256 * cycleNs (activeCyc (s.lineRate br) (s.rf (aROPE 0x20) 11 10))) == 0

/-- The leader, or an anchor on its branch, sends the next cycle frame at device time tc. A leader that leaves sends none from the instant STATE
reads LEAVING (DESIGN CHOICE, log 130). -/
def State.cycleStart (s0 : State) (br : Bool) (tc : DevTime) : State :=
  let s := s0.reach tc
  let on := if br then s.branchActive && !s.rope.br.stopped else s.ropeState == rsLEADING && !s.rope.own.stopped
  if !on || !s.transmits br || !s0.cycleInstant br tc then s0
  else
    let l := if br then s.rope.br else s.rope.own
    let rate := s.lineRate br
    let cyc := activeCyc rate (s.rf (aROPE 0x20) 11 10)
    let size := (if br then s.rf (aROPE 0x20) 7 2 else s.rf (aROPE 0x20) 17 12)
    let k := ropeK rate cyc
    let (v, d, stat) := s.ownSection tc (cycleNs cyc) 0 k false
    let adj : Rat := s.hopAdj br
    let (tw, s1) := s.tword ((s.hopMean br).map (· + adj))
    let prev : CycleFrame := match l.returned with
      | some r =>
        let kept (n : Nat) : Bool := decide (n % 32 < k ∧ n / 32 ≤ size)
        { r with valid := r.valid.filter fun e => kept e.1 && r.seen.getLsbD (e.1 / 32), data := r.data.filter fun e => kept e.1 }
      | none => {}
    let present := s.present br ||| 1
    let count := l.count - 1
    let f0 : CycleFrame :=
      { cycleNo := l.cycleNo, t := tc, cyc := BitVec.ofNat 2 cyc, rate, rope := BitVec.ofNat 3 (if br then s.brRope else s.ropeNo),
        quality := BitVec.ofNat 4 s.quality, sizeM1 := BitVec.ofNat 6 size, present, seen := 0, count := BitVec.ofNat 8 l.count,
        rateChg := l.rateChg, newRate := l.newRate, heal := l.heal, tword := tw, valid := prev.valid, data := prev.data }
    let f := if br then frameWithSection f0 0 v d else s.markWrap (frameWithSection f0 0 v d)
    let l1 : Lead := { l with
      cycleNo := l.cycleNo + 1, sent := some f, returned := none, count := count, past := ((l.cycleNo, tc) :: l.past).take 16
      rateChg := l.rateChg && l.count ≠ 0, heal := l.heal && l.count ≠ 0 }
    let s2 := s1.updRope fun r =>
      if br then { r with br := l1, brFilled := 0, branchOut := some (f.cycleNo.truncate 12, tc), brRateTo := if l.rateChg && l.count = 0 then some l.newRate else r.brRateTo }
      else { r with own := l1, filled := 0, eastOut := some (f.cycleNo.truncate 12, tc), rateTo := if l.rateChg && l.count = 0 then some l.newRate else r.rateTo
                    healNow := r.healNow || (l.heal && l.count = 0) }
    let s3 := if br then s2 else (s2.setReg (aROPE 0x40) f.cycleNo).setReg (aPUB 0x20) stat
    (if br then s3 else s3.pubCycle tc).setPresent br present

/-- A node receives a cycle frame of its own rope on WEST_RX or EAST_RX at device time ta; `fwd` is the forward latency F
it measures (R260, R275, R277). -/
def State.cycleFrameRx (s00 : State) (f : CycleFrame) (west : Bool) (ta : DevTime) (fwd : Nat) (w : Wire) : State :=
  let port : RopePort := if west then .west else .east
  let s0 := (s00.reach ta).heard port
  if !(s0.pageEnable 0x540 || s0.ropeState == rsLEAVING) || !s0.pageEnable (portPage port) || cycleCheck f w == .other then s0
  else if cycleCheck f w ≠ .whole then s0.satAdd (pg (portPage port) 0x2C) 31 0 1
  else if s0.ropeRole = 2 && (s0.ropeState = rsLEADING || s0.ropeState = rsLISTEN) then
    if f.rope.toNat = s0.ropeNo then s0.dupLeader false else s0
  else if s0.ropeState ≠ rsJOINING ∧ s0.ropeState ≠ rsJOINED ∧ s0.ropeState ≠ rsLEAVING then
    s0.updRope fun r => if west then { r with westIn := some (f.cycleNo.truncate 12, ta) } else r
  else
    let pos := s0.ropePos
    let first := !f.seen.getLsbD pos && !(s0.reg (aROPE 0x40) == f.cycleNo && s0.rope.own.sent.isSome)
    let s1 := if west then s0.updRope fun r => { r with westIn := some (f.cycleNo.truncate 12, ta) } else s0
    let east := if west then !s1.rb (aROPE 0x2C) 11 else s1.rb (aROPE 0x2C) 10
    let tOut := ta + BitVec.ofNat 72 fwd
    if !first then
      (s1.setReg (aRT 0x2C) (BitVec.ofNat 32 fwd)).updRope fun r => { r with
        eastOut := if east then some (f.cycleNo.truncate 12, tOut) else r.eastOut }
    else
      -- The delay A from the leader's ball to this node's.
      let a : Option Rat := if west then some (f.tword.toNat : Rat)
        else (s1.hopMean false).map fun d => (f.tword.toNat : Rat) + d - s1.hopAdj false
      let outDelay : Option Rat := if east then
          (match a, s1.hopMean false with
           | some x, some d => some (x + fwd + d + s1.hopAdj false)
           | _, _ => none)
        else a.map (· + fwd)
      let (tw, s2) := s1.tword outDelay
      let leaving := s1.ropeState = rsLEAVING
      let k := ropeK f.rate f.cyc.toNat
      let (v, d, stat) := s2.ownSection f.t (cycleNs f.cyc.toNat) pos k leaving
      let g := s2.markWrap (frameWithSection { f with tword := tw, seen := if leaving then f.seen else f.seen ||| BitVec.ofNat 64 (2 ^ pos) } pos v d)
      let s3 := s2.updRope fun r => { r with
        own := { r.own with sent := some g }
        filled := 0
        eastOut := if east then some (f.cycleNo.truncate 12, tOut) else r.eastOut
        healNow := r.healNow || (f.heal && f.count = 0)
        rateTo := if f.rateChg && f.count = 0 then some f.newRate else r.rateTo }
      let s4 := ((s3.setReg (aPUB 0x20) stat).pubCycle f.t).takeSync f
      let s5 := (s4.setF (aRT 0x24) 15 14 (if west then 1 else 2)).setReg (aRT 0x2C) (BitVec.ofNat 32 fwd)
      let s6 := match a with
        | none => s5
        | some x =>
          let (ai, t) := s5.roundFree x
          let t1 := t.setReg (aRT 0x28) (BitVec.ofInt 32 ai)
          if t1.refSrc = 2 && t1.servoRuns then
            (t1.measure ((ta - f.t).toInt - ai)).wrapAdd (aRT 0x48) 15 0 1 |>.showBudget
          else t1
      let s7 := s6.reach (ta + ns (frameEnd (cycleSize f) k * symbolNs f.rate + 16))
      (s7.subTakeAll f false false).raise 69

/-- A frame sent for an older cycle than the present one, and the frame of the present cycle. A frame comes back with the CYCLE_NO and the time it
was sent with, so one that names a cycle and a time of no frame sent is from another source (R253, R260). -/
def Lead.oldFrame (l : Lead) (f : CycleFrame) : Bool := (l.past.drop 1).contains (f.cycleNo, f.t)
def Lead.ownFrame (l : Lead) (f : CycleFrame) : Bool := match l.sent with | some g => f.cycleNo == g.cycleNo && f.t == g.t | none => false

/-- A cycle frame arrives with its CSTART at ta at the leader, or at an anchor from its branch: the returning frame of the present cycle
(R260, R264, R265, R267), an older one, which is discarded, or one from another source (R253). -/
def State.cycleReturn (s00 : State) (br west : Bool) (f : CycleFrame) (ta : DevTime) : State :=
  let s0 := s00.reach ta
  let on := if br then s0.branchActive else s0.ropeState == rsLEADING
  let l := if br then s0.rope.br else s0.rope.own
  let mine := f.rope.toNat == (if br then s0.brRope else s0.ropeNo)
  let listens := if br then s0.isAnchor && !s0.rope.br.stopped && s0.pageEnable 0x540 else s0.ropeRole == 2 && s0.ropeState == rsLISTEN
  if !(on || listens) || !mine || (on && l.oldFrame f) then s0
  else if !(on && l.ownFrame f) then s0.dupLeader br
  else
    let s := (if west then s0.updRope fun r => { r with westIn := some (f.cycleNo.truncate 12, ta) } else s0).reach
      (ta + ns (frameEnd (cycleSize f) (cycleK f) * symbolNs f.rate + 16))
    let size := cycleSize f
    let ones := (List.range size).foldl (fun m p => SMap.set (fun _ => 0) m p (if f.seen.getLsbD p then SMap.get (fun _ => 0) l.ones p + 1 else 0)) []
    let zeros := (List.range size).foldl (fun m p => SMap.set (fun _ => 0) m p (if f.seen.getLsbD p then 0 else SMap.get (fun _ => 0) l.zeros p + 1)) []
    let present := (List.range size).foldl (fun (w : BitVec 64) p =>
      let b := if p = 0 then true else if 4 ≤ SMap.get (fun _ => 0) ones p then true
        else if 4 ≤ SMap.get (fun _ => 0) zeros p then false else (s.present br).getLsbD p
      if b then w ||| BitVec.ofNat 64 (2 ^ p) else w) 0
    let (gap, split) := gapOf present size (!br && s.ropeNo == 0)
    let s1 := s.setPresent br present
    let aS := if br then aROPE 0x44 else aROPE 0x2C
    let s2 := if br then s1.setF aS 11 6 gap else s1.setF aS 27 22 gap
    let s3 := (if split && !s.rb aS 12 then s2.setErr 0x540 (if br then 20 else 19) else s2).setB aS 12 split
    let rate := s.rb aS 13
    let auto := s.rf (aROPE 0x20) 9 8 = 0
    let busy := s.changing br
    let l1 : Lead := { l with returned := some f, ones, zeros }
    let l2 : Lead := if auto && 4 ≤ gap && !rate && !busy then l1.startChange true
      else if f.wrapAny && !f.wrapNr && !busy then { l1 with count := 4, heal := true } else l1
    let s4 := s3.updRope fun r => if br then { r with br := l2 } else { r with own := l2 }
    let s5 := s4.subTakeAll f br true
    s5.raise (if br then 70 else 69)

end Sys2Proof.Machine
end

