-- ==== Sys2Proof/Machine/RopeAccess.lean ====
section
/-! DEFINITION. The read latches of R47, and remote access over the rope as its origin and its transit nodes see it (R293 to R303). -/

namespace Sys2Proof.Machine

/-! ### Read latches (R47) -/

/-- The registers that a read of the register at a latches, in rising order: the high word of a 64-bit pair, and the
latches that field tables name. -/
def companions (a : Nat) : List Nat :=
  let p := a / 0x1000
  let o := a % 0x1000
  let at_ (l : List Nat) : List Nat := l.map (pg p)
  match (pageInfo p).kind with
  | .time => if o = 0x30 then at_ [0x28, 0x34] else if o = 0x38 then at_ [0x3C] else if o = 0x50 then at_ [0x54, 0x58] else []
  | .edge => if o = 0x40 then at_ [0x44] else if o = 0x50 then at_ [0x54, 0x58] else []
  | .sdf =>
    if 0x100 ≤ o ∧ o < 0x300 ∧ o % 0x40 = 0x1C then at_ [o + 4, o + 8, o + 12]
    else if 0x100 ≤ o ∧ o < 0x300 ∧ o % 0x40 = 0x20 then at_ [o + 4] else []
  | .loop => if o = 0x48 then at_ [0x4C] else if 0x200 ≤ o ∧ o < 0x238 ∧ o % 8 = 0 then at_ [o + 4] else []
  | .loopctx => if [0x60, 0x68, 0x70, 0x78, 0xB8, 0xC0, 0xC8, 0xD0, 0xE0, 0xE8, 0xF8].contains (o % 0x100) then at_ [o + 4] else []
  | .rope => if o = 0x30 then at_ [0x34] else if o = 0x38 then at_ [0x3C] else []
  | .sub => if 0x200 ≤ o ∧ o < 0x300 then at_ [o + 0x100] else []
  | .evt1 => if 0x100 ≤ o ∧ o < 0xB00 ∧ o % 8 = 0 then at_ [o + 4, 0xB00 + (o - 0x100) / 2] else []
  | .host => if o = 0x30 then at_ [0x34]
      else if 0x40 ≤ o ∧ o < 0xC0 ∧ (o % 0x20 = 0x08 ∨ o % 0x20 = 0x10) then at_ [o + 4]
      else if 0x400 ≤ o ∧ o < 0x800 ∧ o % 16 = 0 then at_ [o + 4] else []
  | .dramCtl => if o = 0x40 then at_ [0x44] else []
  | .dramEcc => if o = 0x28 then at_ [0x2C, 0x30] else []
  | .pmu => if o = 0x30 then at_ [0x34] else []
  | .pitch => if o = 0x50 then at_ [0x54, 0x58, 0x5C, 0x60] else []
  | .lc => if o = 0x30 then at_ [0x34] else []
  | .rtc => if o = 0x28 then at_ [0x2C, 0x30] else if o = 0x38 then at_ [0x3C] else if o = 0x40 then at_ [0x44] else []
  | .heart => if o = 0x28 then at_ [0x2C] else []
  | _ => []

/-- A latched register whose snapshot serves every read until the next latching read, and reads its reset value before
the first one (R186, R292). -/
def stickyLatch (a : Nat) : Bool :=
  let o := a % 0x1000
  match (pageInfo (a / 0x1000)).kind with
  | .edge => o == 0x54 || o == 0x58
  | .sub => 0x300 ≤ o && o < 0x400
  | _ => false

/-- The key of a snapshot of local requester r at offset a. -/
def localSnap (r a : Nat) : Nat := r * 2 ^ 24 + a

/-- The key of a snapshot that the origin holds for requester r and node n. -/
def remoteSnap (r n a : Nat) : Nat := (1024 + n * 1024 + r) * 2 ^ 24 + a

def State.setSnap (s : State) (k : Nat) (v : Word) : State :=
  { s with regs := { s.regs with snaps := SMap.insert s.regs.snaps k v } }
def State.dropSnap (s : State) (k : Nat) : State := { s with regs := { s.regs with snaps := SMap.erase s.regs.snaps k } }
def State.snap (s : State) (k : Nat) : Option Word := (s.regs.snaps.find? fun e => e.1 == k).map (·.2)

/-! ### Counters and failures (R302, R303) -/

def aACC (o : Nat) : Nat := pg 0x555 o

def State.pair (s : State) (n : Nat) : Pair := SMap.get (fun _ => {}) s.rope.pairs n
def State.setPair (s : State) (n : Nat) (p : Pair) : State :=
  s.updRope fun r => { r with pairs := SMap.set (fun _ => {}) r.pairs n p }
def State.ownEpoch (s : State) : BitVec 16 := BitVec.ofNat 16 (s.rf (aACC 0x3C) 15 0)

/-- Requests outstanding over all pairs. -/
def State.outstanding (s : State) : Nat := s.rope.pairs.foldl (fun n e => n + e.2.out.length) 0

/-- The data a failed read returns. -/
def State.readFails (s : State) (r : Nat) : State :=
  { s with lastRead := 0xFFFFFFFF, lastUr := r == rHost && s.rb (aACC 0x20) 8 }

/-- ACC_ERR codes. -/
def acTIMEOUT : Nat := 1
def acPOISONED : Nat := 2
def acNOT_PRESENT : Nat := 3
def acNO_ROUTE : Nat := 4
def acPEER_RESET : Nat := 5
def acREFUSED : Nat := 6
def acFULL : Nat := 7
def acNOT_SENDER : Nat := 8

/-- Record a failed or refused access. -/
def State.accErr (s : State) (code status r n addr : Nat) : State :=
  (s.setReg (aACC 0x28) (BitVec.ofNat 32 (code * 2 ^ 28 + (status % 256) * 2 ^ 20 + (r % 1024) * 2 ^ 10 + n % 512))).setReg
    (aACC 0x2C) (BitVec.ofNat 32 (addr % 2 ^ 24))

/-- A request fails (R302). -/
def State.accFail (s : State) (code r n addr : Nat) (read : Bool) : State :=
  let s1 := ((s.accErr code 0 r n addr).satAdd (aACC 0x34) 31 0 1).setErr 0x555 16
  let s2 := s1.raise 73
  if read then s2.readFails r else s2

def bodyIsRead (b : AccBody) : Bool := match b with | .rdReq _ _ _ => true | _ => false

/-- Every request of the list fails with a code. -/
def State.failAll (s : State) (n code : Nat) (l : List RopeReq) : State :=
  l.foldl (fun t q => t.accFail code q.requester.toNat n q.addr.toNat (bodyIsRead q.body && !q.discard)) s

/-! ### Sending -/

/-- A frame for node n leaves through BRANCH (R262). -/
def State.viaBranch (s : State) (n : Nat) : Bool :=
  s.brEn && (n / 64 == s.brRope || s.rb (aROPE 0x24) (n / 64))

/-- Queue a frame for an access slot. -/
def State.queueFrame (s : State) (f : AccFrame) : State :=
  s.updRope fun r => { r with waiting := r.waiting ++ [(s.viaBranch f.dst.toNat, f)] }

/-- The frame of a request. -/
def State.reqFrame (s : State) (n : Nat) (q : RopeReq) : AccFrame :=
  { dst := BitVec.ofNat 9 n, src := BitVec.ofNat 9 s.ownId, seq := q.seq, ack := 0, passed := false, body := q.body }

/-- Room for one more request to node n (R297, R302). -/
def State.ropeRoom (s : State) (n : Nat) : Bool := (s.pair n).out.length < 64 && s.outstanding < 256

/-- A request with SYNC and EPOCH in place. -/
def bodyStamp (b : AccBody) (sync : Bool) (e : BitVec 16) : AccBody :=
  match b with
  | .rdReq a _ _ => .rdReq a sync e
  | .wrReq a v _ pair _ => .wrReq a v sync pair e
  | .mbx m _ _ words => .mbx m sync e words
  | b => b

/-- A request for node n is accepted: it takes its SEQ, and its frame waits for a slot. -/
def State.ropeAccept (s : State) (n : Nat) (q0 : RopeReq) : State :=
  let p := s.pair n
  let q := { q0 with seq := p.next, body := bodyStamp q0.body p.sync s.ownEpoch }
  (s.setPair n { next := p.next + 1, sync := false, out := p.out ++ [q] }).queueFrame (s.reqFrame n q)

/-- An earlier stalled access goes first: one of the same requester, or to the same node. -/
def stalledBefore (l : List Stalled) (n : Nat) (r : ReqId) : Bool := l.any fun x => x.node == n || x.req.requester == r

/-- A request of requester r for node n. While there is no room for it, it stalls (R302). -/
def State.ropeIssue (s : State) (n r addr : Nat) (body : AccBody) (reply : Option (Call × Bool) := none) : State :=
  let q : RopeReq := { seq := 0, requester := BitVec.ofNat 10 r, addr := BitVec.ofNat 24 addr, body, sends := 0, reply }
  if s.ropeRoom n && !stalledBefore s.rope.stalled n q.requester then s.ropeAccept n q
  else s.updRope fun x => { x with stalled := x.stalled ++ [{ node := n, req := q }] }

/-- The rope carries no frame of this node: role NONE, or the controller is stopped (R293). -/
def State.ropeOff (s : State) : Bool := s.ropeRole == 0 || !s.pageEnable 0x540

/-- Stalled accesses go on in order, each as soon as there is room for it and no earlier one of its requester or its node waits. On a node that has no
rope any more they fail with NO_ROUTE. -/
def State.unstall (s : State) : State :=
  let (t, left) := s.rope.stalled.foldl (fun (acc : State × List Stalled) x =>
    if acc.1.ropeOff then (acc.1.accFail acNO_ROUTE x.req.requester.toNat x.node x.req.addr.toNat (bodyIsRead x.req.body && !x.req.discard), acc.2)
    else if acc.1.ropeRoom x.node && !stalledBefore acc.2 x.node x.req.requester then (acc.1.ropeAccept x.node x.req, acc.2)
    else (acc.1, acc.2 ++ [x])) (s.updRope fun r => { r with stalled := [] }, [])
  t.updRope fun r => { r with stalled := left }

/-- A message for mailbox m of node n, as one MBX frame (R326). A node without a rope fails it with NO_ROUTE. -/
def State.ropeMessage (s : State) (n m r : Nat) (words : List Word) (reply : Option (Call × Bool) := none) : State :=
  if s.ropeOff then s.accFail acNO_ROUTE r n (aMB m 0x40) false
  else s.ropeIssue n r (aMB m 0x40) (.mbx (BitVec.ofNat 5 m) false 0 words) reply

/-- The read of requester r of node n latches a: an outstanding or stalled one brings the snapshot (R296). -/
def State.latchComes (s : State) (r n a : Nat) : Bool :=
  ((s.pair n).out ++ (s.rope.stalled.filter fun x => x.node == n).map (·.req)).any fun q =>
    q.requester.toNat == r && bodyIsRead q.body && (companions q.addr.toNat).contains a

/-- A remote read by requester r: from the snapshot the origin holds, or, where an earlier read is to bring it, once it is there; else by a frame. -/
def State.remoteRead (s : State) (r n a : Nat) : State :=
  match s.snap (remoteSnap r n a) with
  | some v =>
    let s1 := { s with lastRead := v, lastUr := false }
    if stickyLatch a then s1 else s1.dropSnap (remoteSnap r n a)
  | none =>
    if s.latchComes r n a then s.updRope fun x => { x with latchWait := x.latchWait ++ [{ requester := r, node := n, addr := a }] }
    else s.ropeIssue n r a (.rdReq (BitVec.ofNat 24 a) false 0)

/-- Requests have left the pair with node n: the reads that waited for a snapshot go on, and stalled accesses find room. -/
def State.ropeFreed (s : State) (n : Nat) : State :=
  let (go, wait) := s.rope.latchWait.partition fun w => w.node == n && !s.latchComes w.requester n w.addr
  (go.foldl (fun t w => t.remoteRead w.requester w.node w.addr) (s.updRope fun r => { r with latchWait := wait })).unstall

/-- An access slot of a rope can take a frame of this node: the transmitter is connected, and its share of the cycle is not used up
(R248, R261). -/
def State.slotOpen (s : State) (br : Bool) : Bool :=
  s.transmits br && (if br then s.rope.brFilled else s.rope.filled) < s.slotShare br

/-- The first waiting frame that an access slot can take goes out (R261). -/
def State.frameSend (s : State) : State :=
  let held := s.rope.waiting.takeWhile fun w => !s.slotOpen w.1
  match s.rope.waiting.drop held.length with
  | [] => s
  | (br, f) :: rest =>
    let s1 := s.updRope fun r => { r with
      waiting := held ++ rest, sent := r.sent ++ [(br, f)]
      filled := r.filled + (!br).toNat, brFilled := r.brFilled + br.toNat }
    let n := f.dst.toNat
    let p := s1.pair n
    if f.src.toNat = s.ownId then
      s1.setPair n { p with out := p.out.map fun q => if q.seq = f.seq && f.ack = 0 then { q with sends := q.sends + 1 } else q }
    else s1

/-! ### Responses (R297 to R299) -/

/-- A frame of node n carries EPOCH e: the first that shows a change resets that node's side (R321). -/
def State.noteEpoch (s : State) (n : Nat) (e : BitVec 16) : State :=
  let changed := s.rope.lastEpoch.any fun x => x.1 == n && x.2 != e
  (if changed then s.mbSideReset (0x200 + n) else s).updRope fun r => { r with lastEpoch := SMap.insert r.lastEpoch n e }

/-- EPOCH of a frame from node n: a change fails every outstanding request and makes the next one carry SYNC (R299). -/
def State.checkEpoch (s : State) (n : Nat) (e : BitVec 16) : Bool × State :=
  let known := s.rope.seenEpoch.find? fun x => x.1 == n
  let put (t : State) : State := (t.noteEpoch n e).updRope fun r => { r with seenEpoch := SMap.insert r.seenEpoch n e }
  match known with
  | some (_, old) =>
    if old = e then (true, s)
    else
      let p := s.pair n
      let s1 := ((put s).updRope fun r => { r with peers := SMap.erase r.peers n }).setPair n { p with out := [], sync := true }
      (false, (((s1.updRope fun r => { r with waiting := r.waiting.filter fun w => w.2.dst.toNat ≠ n || w.2.ack ≠ 0 }).failAll n acPEER_RESET p.out).raise 74).ropeFreed n)
  | none => (true, put s)

/-- Take the request with SEQ a out of the pair with node n. Responses complete requests in issue order (R300): one that comes while an earlier
request of the pair has none is discarded, and comes again when both are sent again (DEDUCED, log 123). -/
def State.takeReq (s : State) (n : Nat) (a : BitVec 12) : Option RopeReq × State :=
  let p := s.pair n
  match p.out with
  | q :: rest => if q.seq = a then (some q, s.setPair n { p with out := rest }) else (none, s)
  | [] => (none, s)

/-- The origin receives RD_RSP. -/
def State.rdRspRx (s : State) (n : Nat) (ack : BitVec 12) (data : Word) (latched : List Word) (e : BitVec 16) : State :=
  let (ok, s1) := s.checkEpoch n e
  if !ok then s1
  else match s1.takeReq n ack with
    | (some q, s2) =>
      if q.discard then s2.ropeFreed n
      else
      let s3 := { s2 with lastRead := data, lastUr := false }
      (((companions q.addr.toNat).zip latched).foldl (fun t x => t.setSnap (remoteSnap q.requester.toNat n x.1) x.2) s3).ropeFreed n
    | (none, s2) => s2

/-- The origin receives WR_ACK; a refusal is recorded (R302). -/
def State.wrAckRx (s : State) (n : Nat) (ack : BitVec 12) (status : Nat) (e : BitVec 16) : State :=
  let (ok, s1) := s.checkEpoch n e
  if !ok then s1
  else match s1.takeReq n ack with
    | (some q, s0) =>
      let s2 := s0.ropeFreed n
      if status = 0 then s2
      else
        let s3 := s2.accErr acREFUSED status q.requester.toNat n q.addr.toNat
        (((s3.satAdd (aACC 0x34) 31 0 1).setErr 0x555 16).setErr 0x555 17).raise 73 |>.raise 75
    | (none, s2) => s2

/-- The NAK codes. -/
def nakSEQ_GAP : Nat := 1
def nakRESYNC : Nat := 2

/-- Send every outstanding request of the pair again, in order. -/
def State.resend (s : State) (n : Nat) (l : List RopeReq) : State :=
  l.foldl (fun t q => (t.satAdd (aACC 0x30) 31 0 1).queueFrame (s.reqFrame n q)) s

/-- The request at the head of `l` fails with a code, and every later one with POISONED; the next carries SYNC. -/
def State.poison (s : State) (n code : Nat) (before l : List RopeReq) : State :=
  let p := s.pair n
  let s1 := s.setPair n { p with out := before, sync := true }
  let gone := l.map (·.seq)
  let s2 := s1.updRope fun r => { r with waiting := r.waiting.filter fun w =>
    w.2.dst.toNat ≠ n || w.2.ack ≠ 0 || !gone.contains w.2.seq }
  match l with
  | [] => s2
  | q :: rest => ((s2.failAll n code [q]).failAll n acPOISONED rest).ropeFreed n

/-- The destination of the request that a NAK of node `src` answers. NOT_PRESENT and NO_ROUTE come from a rope's position 0 (R301), whose
frame names its request by SEQ alone: a pair with another node that has it outstanding. Where several have it, which one fails is not
stated (DESIGN CHOICE, log 107: free). -/
def State.nakPair (s : State) (src : Nat) (ack : BitVec 12) (code : Nat) : Nat × State :=
  if code ≠ 3 ∧ code ≠ 4 then (src, s)
  else match (s.rope.pairs.filter fun e => e.1 != src && e.2.out.any fun q => q.seq == ack).map (·.1) with
    | [] => (src, s)
    | [n] => (n, s)
    | l => let (v, t) := s.free 9
           (l.getD (v.toNat % l.length) src, t)

/-- The origin receives a NAK (R297, R298, R301). What RESYNC makes of the request is not stated: its code is free. -/
def State.nakRx (s : State) (src : Nat) (ack : BitVec 12) (code : Nat) (e : BitVec 16) : State :=
  let (ok, s0) := (s.satAdd (aACC 0x38) 31 0 1).checkEpoch src e
  if !ok then s0
  else
    let (n, s1) := s0.nakPair src ack code
    let p := s1.pair n
    let before := p.out.takeWhile fun q => q.seq ≠ ack
    let from_ := p.out.dropWhile fun q => q.seq ≠ ack
    if from_.isEmpty then s1
    else if code = nakSEQ_GAP then s1.resend n from_
    else if code = 3 then s1.poison n acNOT_PRESENT before from_
    else if code = 4 then s1.poison n acNO_ROUTE before from_
    else
      let (v, s2) := s1.free 3
      s2.poison n (v.toNat + 1) before from_

/-- A request has had no response for RETX_CYC cycles (R298). -/
def State.retxTimeout (s : State) (n : Nat) : State :=
  let p := s.pair n
  match p.out with
  | [] => s
  | q :: _ =>
    if q.sends = 0 then s
    else if s.rf (aACC 0x20) 7 4 < q.sends then s.poison n acTIMEOUT [] p.out
    else s.resend n p.out

/-- The origin receives MBX_ACK. The Guide's own messages are handled by the Guide. -/
def State.mbxAckRx (s : State) (n : Nat) (ack : BitVec 12) (status : Nat) (e : BitVec 16) : Option RopeReq × State :=
  let (ok, s1) := s.checkEpoch n e
  if !ok then (none, s1)
  else match s1.takeReq n ack with
    | (some q, s0) =>
      let s2 := s0.ropeFreed n
      if status = 0 then (some q, s2)
      else
        let code := if status = 5 then acFULL else acNOT_SENDER
        let s3 := s2.accErr code status q.requester.toNat n q.addr.toNat
        (some q, ((s3.satAdd (aACC 0x34) 31 0 1).setErr 0x555 16).raise 73)
    | (none, s2) => (none, s2)

/-! ### Transit: position 0 and anchors (R262, R301) -/

def bodyIsRequest (b : AccBody) : Bool :=
  match b with | .rdReq _ _ _ => true | .wrReq _ _ _ _ _ => true | .mbx _ _ _ _ => true | _ => false

/-- A response to frame f from this node. -/
def State.answer (s : State) (f : AccFrame) (b : AccBody) : State :=
  s.queueFrame { dst := f.src, src := BitVec.ofNat 9 s.ownId, seq := 0, ack := f.seq, passed := false, body := b }

/-- An anchor takes a frame for another rope and queues it onto its branch rope or its own rope, where no position 0 has passed it yet
(R262). -/
def State.frameForward (s : State) (fromBranch : Bool) (f : AccFrame) : State :=
  let r := f.dst.toNat / 64
  let put (br : Bool) : State := s.updRope fun x => { x with waiting := x.waiting ++ [(br, { f with passed := false })] }
  if !s.isAnchor then s
  else if fromBranch then
    if r = s.brRope then s else put (s.rb (aROPE 0x24) r)
  else if s.rb (aROPE 0x24) r || r == s.brRope then put true
  else s

/-- A frame passes position 0 of a rope (R261, R262, R301). A frame that leaves the rope here is forwarded. A request for a position not in
PRESENT is answered NOT_PRESENT. One that has passed before is removed; when it is a request for another rope no route took it, and the
head answers NO_ROUTE. Every other frame passes on with PASSED set. -/
def State.pos0Pass (s : State) (br : Bool) (f : AccFrame) : State :=
  let lead := s.transmits br && (if br then s.isAnchor && !s.rope.br.stopped else s.ropeRole == 2 && !s.rope.own.stopped)
  let own := if br then s.brRope else s.ropeNo
  let r := f.dst.toNat / 64
  let away := if br then r != own else s.isAnchor && r != own && (s.rb (aROPE 0x24) r || r == s.brRope)
  if !lead then s
  else if away then s.frameForward br f
  else if r = own && bodyIsRequest f.body && !((s.present br ||| 1).getLsbD (f.dst.toNat % 64)) then s.answer f (.nak 3 s.ownEpoch)
  else if f.passed then
    if r ≠ own && bodyIsRequest f.body then s.answer f (.nak 4 s.ownEpoch) else s
  else s.updRope fun x => { x with sent := x.sent ++ [(br, { f with passed := true })] }

/-! ### Events over the rope (R311) -/

/-- The oldest waiting rope-routed record is sent as an MBX frame. The rope controller sends for itself. -/
def State.ropeEventSend (s : State) : State :=
  match s.evt.ropeWait with
  | [] => s
  | e :: rest =>
    let t := s.reg (aRTGT e.target)
    let s1 := { s with evt := { s.evt with ropeWait := rest } }
    s1.ropeMessage (fld t 8 0) (fld t 13 9) 0 e.words

end Sys2Proof.Machine
end

