-- ==== Sys2Proof/Machine/Guide.lean ====
section
/-! DEFINITION. The Guide: taking requests, posting responses (R328 to R331), and the mode register (R18 to R21). -/

namespace Sys2Proof.Machine

def State.updGuide (s : State) (f : Guide → Guide) : State := { s with guide := f s.guide }

/-! ### RESULT codes (R331) -/

def rcOK : Nat := 0x00
def rcPENDING : Nat := 0x01
def rcBAD_SVC : Nat := 0x02
def rcBAD_ARG : Nat := 0x03
def rcBUSY : Nat := 0x04
def rcBAD_STATE : Nat := 0x05
def rcLOOPS_ACTIVE : Nat := 0x06
def rcNOT_PERMITTED : Nat := 0x07
def rcAUTH_FAIL : Nat := 0x08
def rcBAD_TOKEN : Nat := 0x09
def rcTOKEN_LOCKOUT : Nat := 0x0A
def rcNOT_BLANK : Nat := 0x0B
def rcSECTOR_OPEN : Nat := 0x0C
def rcTEMP_INHIBIT : Nat := 0x0D
def rcFLASH_FAIL : Nat := 0x0E
def rcRETIRED : Nat := 0x0F
def rcNO_IMAGE : Nat := 0x10
def rcLOAD_FAIL : Nat := 0x11
def rcWINDOW_FAULT : Nat := 0x12
def rcNO_SPACE : Nat := 0x13
def rcFIXED : Nat := 0x14
def rcDEFERRED : Nat := 0x15
def rcABORTED : Nat := 0x16
def rcBUFFER_FAULT : Nat := 0x17

/-! ### The mode register -/

/-- A transition to mode m is complete: CURRENT and TARGET are m, PREV is the mode left, event 0 is raised (R18, R19). -/
def State.setMode (s : State) (m : Nat) : State :=
  let old := s.mode
  (((s.setF aMODE 11 8 old).setF aMODE 3 0 m).setF aMODE 15 12 m).raise 0

/-- A transition is under way: TARGET names the mode being entered. -/
def State.setTarget (s : State) (m : Nat) : State := s.setF aMODE 15 12 m

/-- A transition is in progress (R21). -/
def State.inTransition (s : State) : Bool := s.modeTarget != s.mode

/-- HOLD_CAUSE bits of MODE: 16 LOAD_FAIL, 17 NO_IMAGE, 18 BRACE, 19 COMMAND. -/
def State.cause (s : State) (b : Nat) : Bool := s.rb aMODE b
def State.setHoldCause (s : State) (b : Nat) (v : Bool) : State := s.setB aMODE b v

/-- Any request to the Guide ends IDLE (R20). -/
def State.wakeGuide (s : State) : State := if s.mode = mIDLE then s.setMode mRUN else s

/-! ### Responses -/

/-- The eight words of a response. -/
def replyWords (svc : Nat) (c : Call) (result detail : Nat) (res : List Word) : List Word :=
  ([BitVec.ofNat 32 (c.ctag.toNat * 2 ^ 16 + svc % 2 ^ 16), BitVec.ofNat 32 (result % 256 + (detail % 256) * 256)] ++ res).take 8

/-- Post a response (R328, R329): on the reply mailbox, over the rope, or to the JTAG register. A refused local post is
held. -/
def State.postReply (s : State) (r : Reply) : State :=
  let c := r.call
  if c.jtag then s.updGuide fun g => { g with jtagResp := r.words, jtagRespValid := true }
  else if 16 ≤ c.mbx.toNat then s.ropeMessage c.replyNode.toNat c.replyMbx.toNat rGuide r.words (some (c, false))
  else if s.guide.held.any (fun h => h.call.mbx == c.mbx) then s.updGuide fun g => { g with held := g.held ++ [r] }
  else
    let m := c.mbx.toNat + 1
    let (res, s1) := s.mbTryPost m rGuide (s.mb m).txEpoch r.words
    if res = resOk then s1 else s1.updGuide fun g => { g with held := g.held ++ [r] }

/-- Answer a call. Result words that the call's description does not name are open (log 42). -/
def State.answerCall (s : State) (svc : Nat) (c : Call) (result detail : Nat) (res : List Word) : State :=
  let (rest, s1) := s.freeWords (6 - res.length)
  s1.postReply { call := c, words := replyWords svc c result detail (res ++ rest) }

/-- End the long call that runs with its final response. -/
def State.endLong (s : State) (result detail : Nat) (res : List Word) : State :=
  match s.guide.long with
  | none => s
  | some l => (s.updGuide fun g => { g with long := none }).answerCall l.svc l.call result detail res

/-- The oldest response held for request mailbox m is posted, once its reply mailbox accepts it (R329). -/
def State.responsePost (s : State) (m : Nat) : State :=
  match s.guide.held.find? fun h => h.call.mbx.toNat == m with
  | none => s
  | some r =>
    let k := m + 1
    let ok := (!s.mbLockReq k || (s.mb k).lock.toNat == rGuide) && (s.mb k).msgs.length < 8
    if !ok then s
    else ((s.mbTryPost k rGuide (s.mb k).txEpoch r.words).2).updGuide fun g => { g with held := g.held.erase r }

/-- A refused rope reply is sent again with SYNC = 1 (R329). -/
def State.replyRetry (s : State) : State :=
  match s.guide.ropeHeld with
  | [] => s
  | r :: rest =>
    let n := r.call.replyNode.toNat
    let s1 := s.updGuide fun g => { g with ropeHeld := rest }
    let p := s1.pair n
    (s1.setPair n { p with sync := true }).ropeMessage n r.call.replyMbx.toNat rGuide r.words (some (r.call, true))

/-! ### Requests -/

/-- The SVC numbers of R332 and whether each call is long. -/
def svcClass (n : Nat) : Option Bool :=
  let long := [0x0002, 0x0101, 0x0102, 0x0103, 0x0104, 0x0202, 0x0203, 0x0206, 0x0301, 0x0302, 0x0303, 0x0304, 0x0305,
    0x0403, 0x0501, 0x0601, 0x0701]
  let quick := [0x0001, 0x0003, 0x0004, 0x0201, 0x0204, 0x0205, 0x0207, 0x0306, 0x0401, 0x0402, 0x0404, 0x0405, 0x0502,
    0x0602, 0x0603, 0x0702, 0x0801, 0x0802]
  if long.contains n then some true else if quick.contains n then some false else none

/-- The calls that GUIDE_CALL may make (R523). -/
def jtagCalls : List Nat := [0x0001, 0x0601, 0x0602, 0x0603]

/-- The call that eight request words spell. -/
def callOf (m : Nat) (jtag : Bool) (src : Nat) (w : List Word) : Nat × Call :=
  let g (i : Nat) : Word := w.getD i 0
  (fld (g 0) 15 0,
   { mbx := BitVec.ofNat 5 m, jtag, caller := BitVec.ofNat 10 src, ctag := BitVec.ofNat 16 (fld (g 0) 31 16), progress := bit (g 1) 31,
     replyNode := BitVec.ofNat 9 (fld (g 1) 24 16), replyMbx := BitVec.ofNat 5 (fld (g 1) 12 8),
     w2 := g 2, w3 := g 3, w4 := g 4, w5 := g 5, w6 := g 6, w7 := g 7 })

/-- A rope reply to a call of request mailbox m was refused, and has not been posted since: it waits to be sent again, or is under way (R329). -/
def State.replyHeld (s : State) (m : Nat) : Bool :=
  s.guide.ropeHeld.any (fun h => h.call.mbx.toNat == m) ||
    (s.rope.pairs.flatMap (·.2.out) ++ s.rope.stalled.map (·.req)).any fun q => q.reply.any fun x => x.2 && x.1.mbx.toNat == m

/-- Request mailbox m may be served: the Guide receives on it and holds no response of its pair (R328, R329). -/
def State.servable (s : State) (m : Nat) : Bool :=
  s.mbRx m = rGuide && !(s.mb m).msgs.isEmpty && !s.guide.held.any (fun h => h.call.mbx.toNat == m) && !s.replyHeld m

/-- The request mailbox whose head was posted first. -/
def State.nextRequest (s : State) : Option (Nat × Nat) :=
  ((List.range 32).filter s.servable).foldl (fun (best : Option (Nat × Nat)) m =>
    match (s.mb m).msgs with
    | [] => best
    | h :: _ => match best with
      | some (q, _) => if h.seq < q then some (h.seq, m) else best
      | none => some (h.seq, m)) none

/-- In life-cycle state SCRAP the Guide answers every call but these with NOT_PERMITTED (R510). -/
def State.scrapRefuses (s : State) (svc : Nat) : Bool :=
  s.rf (pg 0x004 0x20) 2 0 == 5 && !([0x0001, 0x0601, 0x0801].contains svc)

/-- A long call that runs keeps another out, but for a device reset while a transition is in progress (R21, R23, R329). -/
def State.longBusy (s : State) (svc : Nat) : Bool := s.guide.long.isSome && !(svc == 0x0002 && s.inTransition)

/-- A request that has been taken: an unknown number, a forbidden path, a rope call without a reply mailbox, and a second
long call are answered at once. Any other waits for its own command. -/
def State.admitCall (s : State) (svc : Nat) (c : Call) : State :=
  if c.jtag && !jtagCalls.contains svc then s.answerCall svc c rcNOT_PERMITTED 0 []
  else if 16 ≤ c.mbx.toNat && !c.jtag && c.replyMbx.toNat < 16 then s
  else match svcClass svc with
    | none => s.answerCall svc c rcBAD_SVC 0 []
    | some long => if s.scrapRefuses svc then s.answerCall svc c rcNOT_PERMITTED 0 []
                   else if long && s.longBusy svc then s.answerCall svc c rcBUSY 0 []
                   else s.updGuide fun g => { g with taken := some (svc, c) }

/-- Take the head of request mailbox m. -/
def State.takeFrom (s : State) (m : Nat) : State :=
  match (s.mb m).msgs with
  | [] => s
  | h :: _ =>
    let s1 := (s.wakeGuide.rxTake m rGuide).2
    let (svc, c) := callOf m false h.src.toNat h.words
    s1.admitCall svc c

/-- Take the request posted through GUIDE_CALL. -/
def State.takeJtag (s : State) (w : List Word) : State :=
  let (svc, c) := callOf 0 true rDebug w
  (s.wakeGuide.updGuide fun g => { g with jtagReq := none }).admitCall svc c

/-- The Guide takes the next request, in the order of acceptance over all its mailboxes, once it has begun to serve the one before (R329). -/
def State.takeRequest (s : State) : State :=
  if s.guide.taken.isSome then s
  else match s.nextRequest, s.guide.jtagReq with
  | none, none => s
  | some (_, m), none => s.takeFrom m
  | none, some (_, w) => s.takeJtag w
  | some (q, m), some (qj, w) => if qj < q then s.takeJtag w else s.takeFrom m

/-- Is the long call class free, and the caller's path allowed: the answer of R329 and R523 to a call that is not carried
out, or none when it is. -/
def State.callRefusal (s : State) (svc : Nat) (c : Call) : Option Nat :=
  if c.jtag && !jtagCalls.contains svc || s.scrapRefuses svc then some rcNOT_PERMITTED
  else match svcClass svc with
    | some true => if s.longBusy svc then some rcBUSY else none
    | _ => none

/-- Call `svc` reads or writes a buffer or an image in DRAM. -/
def State.callBuffer (s : State) (svc : Nat) (c : Call) : Bool :=
  let at34 := c.w3 != 0 || c.w4 != 0
  match svc with
  | 0x0201 | 0x0202 => c.w4 != 0 || c.w5 != 0
  | 0x0303 | 0x0304 => fld c.w2 1 0 == 3
  | 0x0401 | 0x0405 | 0x0801 => at34
  | 0x0403 => s.settings.staged.any fun e => e.2.any fun r => r.buffer.isSome
  | 0x0601 => fld c.w2 31 28 == 1 && at34
  | _ => false

/-- The requests that the call makes of the DRAM wait, and the call with them (R328, R371, R378). -/
def State.callWaits (s : State) (svc : Nat) (c : Call) : Bool := s.dramWaits && s.callBuffer svc c

/-- Carry out a call: the Guide is awake, the request is no longer waiting; a call that the path or a running long call
refuses is answered; a rope call without a reply mailbox is not carried out (R328). -/
def State.serve (s : State) (svc : Nat) (c : Call) (body : State → State) : State :=
  if s.callWaits svc c then s
  else
  let s1 := s.wakeGuide.updGuide fun g => { g with taken := if g.taken = some (svc, c) then none else g.taken }
  if 16 ≤ c.mbx.toNat && !c.jtag && c.replyMbx.toNat < 16 then s1
  else match s1.callRefusal svc c with
    | some r => s1.answerCall svc c r 0 []
    | none => body s1

/-- Start a long call: with PROGRESS = 1 an interim PENDING response is posted first (R329). -/
def State.startLong (s : State) (svc : Nat) (c : Call) : State :=
  let s1 := if c.progress then s.answerCall svc c rcPENDING 0 [] else s
  s1.updGuide fun g => { g with long := some { svc, call := c } }

/-- A long call that completes within its command. -/
def State.longOnce (s : State) (svc : Nat) (c : Call) (result detail : Nat) (res : List Word) : State :=
  (if c.progress then s.answerCall svc c rcPENDING 0 [] else s).answerCall svc c result detail res

/-- A request waits in a mailbox of the Guide, also one whose pair has a response held back (R17, R329). -/
def State.requestWaits (s : State) : Bool := (List.range 32).any fun m => s.mbRx m == rGuide && !(s.mb m).msgs.isEmpty

/-- The Guide has no work of any kind (R17): no call, no request, no response to post again, and no transition. -/
def State.guideIdle (s : State) : Bool :=
  s.guide.long.isNone && s.guide.taken.isNone && s.guide.jtagReq.isNone && !s.requestWaits && s.guide.held.isEmpty &&
    s.guide.ropeHeld.isEmpty && !s.inTransition

end Sys2Proof.Machine
end

