-- ==== Sys2Proof/Machine/Settings.lean ====
section
/-! DEFINITION. The settings store (R439 to R449): entries, commits, compaction, the index of present values, and its calls. -/

namespace Sys2Proof.Machine

def aSET (o : Nat) : Nat := pg 0x710 o
def State.updSettings (s : State) (f : Settings → Settings) : State := { s with settings := f s.settings }

/-! ### Entries (R440, R441) -/

/-- Lines of an entry with n data bytes. -/
def entryLines (n : Nat) : Nat := (16 + n + 31) / 32

/-- Lines of a transaction: its entries and its commit line. -/
def txLines (recs : List SetRec) : Nat := (recs.map fun r => entryLines r.data.length).sum + 1

/-- The CRC of an entry: over bytes 0 to 11 and the data. -/
def entryCrc (head data : List Byte) : Nat := crc32 (head ++ data)

/-- Bytes 0 to 11 of an entry. -/
def entryHead (r : SetRec) (tsn : Word) (index count : Nat) : List Byte :=
  bytesOf 2 r.id ++ bytesOf 2 r.data.length ++ bytesOf 4 tsn.toNat ++ bytesOf 1 index ++ bytesOf 1 count ++
    bytesOf 2 r.delete.toNat

/-- An entry, padded to its lines. -/
def entryBytes (r : SetRec) (tsn : Word) (index count : Nat) : List Byte :=
  let h := entryHead r tsn index count
  padLines (h ++ bytesOf 4 (entryCrc h r.data) ++ r.data)

/-- The commit line of a transaction. -/
def commitLine (recs : List SetRec) (tsn : Word) : List Byte :=
  let crcs := (List.range recs.length).flatMap fun i =>
    match recs[i]? with
    | some r => bytesOf 4 (entryCrc (entryHead r tsn i recs.length) r.data)
    | none => []
  let body := bytesOf 2 0xFFFE ++ bytesOf 2 0 ++ bytesOf 4 tsn.toNat ++ bytesOf 1 recs.length ++ bytesOf 3 0 ++
    bytesOf 4 (crc32 crcs) ++ bytesOf 12 0
  body ++ bytesOf 4 (crc32 body)

/-- A whole transaction as it is written. -/
def txBytes (recs : List SetRec) (tsn : Word) : List Byte :=
  ((List.range recs.length).flatMap fun i =>
    match recs[i]? with
    | some r => entryBytes r tsn i recs.length
    | none => []) ++ commitLine recs tsn

/-! ### The index (R442) -/

/-- The latest committed version of a record, with its TSN. -/
def findRec (txs : List SetTx) (id : Nat) : Option (Word × SetRec) :=
  txs.foldl (fun acc t => match t.recs.find? fun r => r.id == id with | some r => some (t.tsn, r) | none => acc) none

/-- The present value of a record; none when it is absent. -/
def State.record (s : State) (id : Nat) : Option SetRec :=
  match findRec s.settings.txs id with
  | some (_, r) => if r.delete then none else some r
  | none => none

/-- Every ID that the transactions name, in rising order. -/
def idsOf (txs : List SetTx) : List Nat :=
  (txs.flatMap fun t => t.recs.map (·.id)).foldl (fun (m : SMap Bool) i => SMap.insert m i true) [] |>.map (·.1)

/-- The live records of a list of transactions. -/
def liveRecs (txs : List SetTx) : List SetRec :=
  (idsOf txs).filterMap fun i => match findRec txs i with | some (_, r) => if r.delete then none else some r | none => none

/-- Live bytes, entry headers included. -/
def liveBytes (l : List SetRec) : Nat := (l.map fun r => 16 + r.data.length).sum

/-- Erased sectors of the store. -/
def State.storeErased (s : State) : Nat := 16 - s.settings.written.length

/-- STAT, TSN, LIVE, SPACE and CLAMPS show the store (R449). -/
def State.showSettings (s : State) : State :=
  let live := liveRecs s.settings.txs
  let s1 := ((s.setB (aSET 0x20) 16 (!s.settings.deferred.isEmpty)).setF (aSET 0x20) 11 8 s.settings.staged.length).setReg (aSET 0x24)
    s.settings.tsn
  ((s1.setReg (aSET 0x28) (BitVec.ofNat 32 (liveBytes live))).setReg (aSET 0x2C)
    (BitVec.ofNat 32 (live.length * 2 ^ 16 + s.storeErased))).setF (aSET 0x30) 23 16 s.settings.clampLog.length

/-! ### Writing (R443, R446) -/

/-- The line after a, around the ring of sectors 448 to 463. -/
def nextLine (a : Nat) : Nat := if a + 32 = 0x1D00000 then 0x1C00000 else a + 32

/-- Write lines at the head; a line at the start of a sector puts the sector among the written ones. -/
def State.putLines (s : State) (n : Nat) (bytes : List Byte) : State :=
  match n with
  | 0 => s
  | k + 1 =>
    let a := s.settings.head
    let sec := a / 0x10000
    let s1 := (s.flashWrite a (bytes.take 32)).updSettings fun t => { t with
      head := nextLine a, written := if t.written.contains sec then t.written else t.written ++ [sec] }
    State.putLines s1 k (bytes.drop 32)

/-- Write a transaction with the next TSN. -/
def State.putTx (s : State) (recs : List SetRec) : State :=
  let tsn := s.settings.tsn + 1
  let addr := s.settings.head
  let b := txBytes recs tsn
  (s.putLines (b.length / 32) b).updSettings fun t => { t with tsn := tsn, txs := t.txs ++ [{ tsn, addr, recs }] }

/-- Groups of at most 16 records. -/
def groups16 (fuel : Nat) (l : List SetRec) : List (List SetRec) :=
  match fuel with
  | 0 => []
  | n + 1 => if l.isEmpty then [] else l.take 16 :: groups16 n (l.drop 16)

/-- Compaction of the oldest written sector: its live records move to the head, and it is erased (R446). A record is live
where its present value lies in a transaction that begins in that sector. -/
def State.compact (s : State) : State :=
  match s.settings.written with
  | [] => s
  | old :: _ =>
    let mine := s.settings.txs.filter fun t => t.addr / 0x10000 == old
    let live := (liveRecs s.settings.txs).filter fun r =>
      mine.any fun t => (t.recs.any fun q => q.id == r.id) && (findRec s.settings.txs r.id).map (·.1) == some t.tsn
    let s1 := (groups16 live.length live).foldl (fun t g => t.putTx g) s
    let s2 := (s1.eraseSector old).updSettings fun t => { t with
      txs := t.txs.filter fun x => !(mine.any fun y => y.tsn == x.tsn), written := t.written.filter (· ≠ old) }
    (s2.heartErase old).showSettings

/-- COMPACTION: fewer than 3 sectors are erased, and the flash may be erased. -/
def State.compaction (s : State) : State := if s.storeErased < 3 ∧ !s.isHot then s.compact else s

/-- The store has room for a transaction and for the next compaction. -/
def State.storeRoom (s : State) (recs : List SetRec) : Bool :=
  let here := if s.settings.head % 0x10000 = 0 then 0 else 2048 - s.settings.head % 0x10000 / 32
  txLines recs ≤ here || 1 < s.storeErased

/-- A commit is written: compaction first where there is no room; event 111 (R443, R446). -/
def State.writeCommit (s : State) (recs : List SetRec) : State :=
  let s1 := if s.storeRoom recs then s else s.compact
  (((s1.putTx recs).heartCommit).showSettings).raise 111

/-- The live data after these transactions exceeds 512 KiB (R446). -/
def State.storeFull (s : State) (recs : List (List SetRec)) : Bool :=
  524288 < liveBytes (liveRecs (s.settings.txs ++ recs.map fun r => { tsn := 0, addr := 0, recs := r }))

/-- A commit of a caller at the present temperature: the RESULT, and its TSN where it is written (R443, R445, R446). -/
def State.commitRecs (s : State) (caller : Nat) (recs : List SetRec) : Nat × List Word × State :=
  if s.storeFull (s.settings.deferred.map (·.2) ++ [recs]) then (rcNO_SPACE, [], s.setErr 0x710 16)
  else if s.isHot ∨ s.settings.deferred.any (fun d => d.1 == caller) then
    (rcDEFERRED, [], (s.updSettings fun t => { t with deferred := t.deferred ++ [(caller, recs)] }).showSettings)
  else
    let s1 := s.writeCommit recs
    (rcOK, [s1.settings.tsn], s1)

/-- Every deferred commit is written, oldest first. -/
def State.flushDeferred (s : State) : State :=
  if s.settings.deferred.isEmpty then s
  else ((s.settings.deferred.foldl (fun (t : State) d => t.writeCommit d.2) s).updSettings fun t => { t with deferred := [] }).showSettings

/-- The deferred commits are written once TJ is 120 °C or below (R445). -/
def State.writeDeferred (s : State) (tj : Int) : State := if cool < tj then s.sampleTj tj else (s.sampleTj tj).flushDeferred

/-- The transactions that lie in sectors of the store that `gone` names are lost with them. -/
def State.storeLost (s : State) (gone : Nat → Bool) : State :=
  let last (x : SetTx) : Nat := x.addr + 32 * (txLines x.recs - 1)
  let wrap (a : Nat) : Nat := if a < 0x1D00000 then a else a - 0x100000
  let written := s.settings.written.filter fun k => !gone k
  (s.updSettings fun t => { t with
    txs := t.txs.filter fun x => !(gone (x.addr / 0x10000) || gone (wrap (last x) / 0x10000))
    written := written, head := if written.isEmpty then 0x1C00000 else t.head }).showSettings

/-- At boot the store completes its open erases and shows its index (R426, R447). Above 125 °C no erase takes place (R4). -/
def State.settingsBoot (s : State) : State :=
  let opened := ((List.range 16).map (448 + ·)).filter fun k => s.sectorStatus k == 1 && !s.isHot
  let s1 := opened.foldl (fun (t : State) k => (t.eraseSector k).heartErase k) s
  let s2 := if opened.isEmpty then s1 else (s1.storeLost opened.contains).setErr 0x710 18
  s2.showSettings

/-! ### Calls (R444, R448) -/

/-- The caller of a call: its request mailbox, or the remote node's requester ID. -/
def callerOf (c : Call) : Nat := if 16 ≤ c.mbx.toNat then c.caller.toNat else c.mbx.toNat

/-- IDs that staging and reading refuse (R439). -/
def badRecId (id : Nat) : Bool := (0x0C40 ≤ id && id ≤ 0x0FFF) || 0xFFF0 ≤ id

/-- The caller uses mailbox 4 or 6. -/
def fabricCaller (c : Call) : Bool := !c.jtag && (c.mbx == 4 || c.mbx == 6)

/-- A 64-bit buffer address, low word first. -/
def bufferOf (lo hi : Word) : Nat := lo.toNat + 2 ^ 32 * hi.toNat

/-- The first 16 bytes in four words; bytes past the end of the data are open (log 42). -/
def State.inlineWords (s : State) (bytes : List Byte) : List Word × State :=
  let (pad, s1) := if 16 ≤ bytes.length then ((0 : BitVec 128), s) else s.free 128
  let all := (bytes.take 16 ++ (bytesOf 16 pad.toNat).drop (min bytes.length 16)).take 16
  ((List.range 4).map fun k => BitVec.ofNat 32 (ofBytes ((all.drop (4 * k)).take 4)), s1)

/-- Hand data to a buffer, or to none when its address is 0: BAD_ARG when misaligned, BUFFER_FAULT when out of reach. -/
def State.putBuffer (s : State) (a : Nat) (bytes : List Byte) : Option Nat × State :=
  if a = 0 ∨ bytes.isEmpty then (if a % 8 = 0 then (none, s) else (some rcBAD_ARG, s))
  else if a % 8 ≠ 0 then (some rcBAD_ARG, s)
  else if !s.bufferOk a bytes.length then (some rcBUFFER_FAULT, s.bufferRange a bytes.length)
  else (none, s.bufferPut a bytes)

/-- Take data from a buffer. -/
def State.takeBuffer (s : State) (a n : Nat) : Option (List Byte) × State :=
  if !s.bufferOk a n then (none, s.bufferRange a n) else s.bufferGet a n

def State.settingsRead (s : State) (c : Call) : State :=
  let id := fld c.w2 15 0
  let reply (t : State) (res : Nat) (l : List Word) : State := t.answerCall 0x0401 c res 0 l
  if badRecId id then reply s rcBAD_ARG []
  else match findRec s.settings.txs id with
    | none => reply s rcOK [0x80000000]
    | some (tsn, r) =>
      if r.delete then reply s rcOK [0x80000000, tsn]
      else
        let (e, s1) := s.putBuffer (bufferOf c.w3 c.w4) r.data
        match e with
        | some k => reply s1 k []
        | none =>
          let (w, s2) := s1.inlineWords r.data
          reply s2 rcOK (BitVec.ofNat 32 r.data.length :: tsn :: w)

/-- The record that a stage call names. -/
def stageRec (c : Call) : StageRec :=
  let n := fld c.w2 25 16
  let buf := bufferOf c.w3 c.w4
  let inl := (bytesOf 4 c.w5.toNat ++ bytesOf 4 c.w6.toNat ++ bytesOf 4 c.w7.toNat).take n
  if bit c.w2 31 then { id := fld c.w2 15 0, delete := true, data := [] }
  else { id := fld c.w2 15 0, delete := false, data := if buf = 0 then inl else [], buffer := if buf = 0 then none else some (buf, n) }

def StageRec.size (r : StageRec) : Nat := match r.buffer with | some (_, n) => n | none => r.data.length

def State.settingsStage (s : State) (c : Call) : State :=
  let id := fld c.w2 15 0
  let n := fld c.w2 25 16
  let buf := bufferOf c.w3 c.w4
  let reply (t : State) (res : Nat) (l : List Word) : State := t.answerCall 0x0402 c res 0 l
  let del := bit c.w2 31
  if badRecId id ∨ 512 < n ∨ (!del ∧ ((12 < n ∧ buf = 0) ∨ buf % 8 ≠ 0)) then reply s rcBAD_ARG []
  else if id < 0x0C40 ∧ fabricCaller c then reply s rcNOT_PERMITTED []
  else
    let k := callerOf c
    let old := ((s.settings.staged.find? fun (e : Nat × List StageRec) => e.1 == k).map (·.2)).getD []
    if !(s.settings.staged.any fun (e : Nat × List StageRec) => e.1 == k) ∧ 8 ≤ s.settings.staged.length then reply s rcBUSY []
    else
      let r := stageRec c
      let new := if old.any (fun x => x.id == id) then old.map (fun x => if x.id == id then r else x) else old ++ [r]
      let size := (new.map StageRec.size).sum
      if 16 < new.length ∨ 2048 < size then reply s rcNO_SPACE []
      else
        let s1 := s.updSettings fun t => { t with
          staged := (t.staged.filter fun (e : Nat × List StageRec) => e.1 ≠ k) ++ [(k, new)] }
        reply s1.showSettings rcOK [BitVec.ofNat 32 new.length, BitVec.ofNat 32 size]

/-- The data of staged records, read from their buffers; none when a buffer cannot be read. -/
def State.readStaged (s : State) (l : List StageRec) : Option (List SetRec) × State :=
  match l with
  | [] => (some [], s)
  | r :: rest =>
    let (d, s1) := match r.buffer with
      | some (a, n) => s.takeBuffer a n
      | none => (some r.data, s)
    match d with
    | none => (none, s1)
    | some bytes =>
      let (m, s2) := State.readStaged s1 rest
      (m.map fun t => { id := r.id, delete := r.delete, data := bytes } :: t, s2)

/-- SVC_SETTINGS_COMMIT at junction temperature tj. A transaction that a buffer or the store's space refuses stays staged. -/
def State.settingsCommit (s : State) (c : Call) (tj : Int) : State :=
  let k := callerOf c
  let s0 := s.sampleTj tj
  match s0.settings.staged.find? fun (e : Nat × List StageRec) => e.1 == k with
  | none => s0.longOnce 0x0403 c rcOK 0 [0]
  | some (_, l) =>
    let (m, s1) := s0.readStaged l
    match m with
    | none => s1.longOnce 0x0403 c rcBUFFER_FAULT 0 []
    | some recs =>
      let (res, ws, s2) := s1.commitRecs k recs
      let s3 := if res = rcNO_SPACE then s2
        else (s2.updSettings fun t => { t with staged := t.staged.filter fun (e : Nat × List StageRec) => e.1 ≠ k }).showSettings
      s3.longOnce 0x0403 c res 0 ws

def State.settingsAbort (s : State) (c : Call) : State :=
  let s1 := s.updSettings fun t => { t with staged := t.staged.filter fun (e : Nat × List StageRec) => e.1 ≠ callerOf c }
  s1.showSettings.answerCall 0x0404 c rcOK 0 []

/-- The bytes of a clamp log entry. -/
def clampBytes (l : List Word) : List Byte := l.flatMap fun w => bytesOf 4 w.toNat

def State.clampLogCall (s : State) (c : Call) : State :=
  let i := fld c.w2 5 0
  let log := s.settings.clampLog
  let (e, s1) := s.putBuffer (bufferOf c.w3 c.w4) ((log.drop i).flatMap clampBytes)
  match e with
  | some k => s1.answerCall 0x0405 c k 0 []
  | none =>
    let (w3, s2) := s1.free 32
    s2.answerCall 0x0405 c rcOK 0 (BitVec.ofNat 32 (log.length * 2 ^ 16 + s.rf (aSET 0x30) 15 0) :: w3 :: (log[i]?).getD [])

end Sys2Proof.Machine
end

