-- ==== Sys2Proof/Machine/FlashCalls.lean ====
section
/-! DEFINITION. Flash programs and erases pulse by pulse, their calls, patches, and what cuts them short (R424 to R433). -/

namespace Sys2Proof.Machine

/-! ### OP_STAT and OP_ADDR (R435) -/

/-- The operation shown: the one that runs, else the suspended one. -/
def State.showOp (s : State) : State :=
  let f := s.flash
  let shown := match f.op with | some o => some o | none => f.parked
  let code : Nat := match f.op with
    | some o => if o.erase then 2 else 1
    | none => if f.parked.isSome then 3 else 0
  let pulses := match shown with | some o => o.pulses | none => 0
  let wait := match f.op with | some o => o.tempWait | none => false
  let w := setBit (setBit (setBit (BitVec.ofNat 32 (pulses * 2 ^ 16 + code)) 31 f.fail) 30 wait) 29 f.parked.isSome
  let s1 := s.setReg (aFLASH 0x20) w
  match shown with
  | some o => s1.setReg (aFLASH 0x24) (BitVec.ofNat 32 o.addr)
  | none => s1

def State.setOp (s : State) (o : Option FlashOp) : State := (s.updFlash fun f => { f with op := o }).showOp

/-- A new operation starts: FAIL clears. -/
def State.startOp (s : State) (o : FlashOp) : State := (s.updFlash fun f => { f with op := some o, fail := false }).showOp

/-- TEMP_INHIBIT sets PAGE_ERR bit 17 (R427). -/
def State.tempErr (s : State) : State := s.setErr 0x700 17

/-- An operation ends: event 109, and the response of its call unless it runs without one (R428, R436). -/
def State.endOp (s : State) (o : FlashOp) (res : Nat) (ws : List Word) : State :=
  let s1 := ((s.setOp none).raise 109)
  if o.detached then s1 else s1.endLong res 0 ws

/-- Results of a program call: lines programmed, and the first non-blank line. -/
def progWords (done : Nat) (first : Option Nat) : List Word :=
  [BitVec.ofNat 32 done, match first with | some a => BitVec.ofNat 32 a | none => 0xFFFFFFFF]

/-! ### Where a call may reach (R420, R421, R433) -/

/-- The bank named by CFG:BANK.ACTIVE, as a partition. -/
def State.activeBank (s : State) : Option Nat :=
  match s.rf (pg 0x005 0x24) 1 0 with | 1 => some 0 | 2 => some 1 | _ => none

/-- What forbids a program or erase of n bytes at a. -/
def State.flashRefusal (s : State) (c : Call) (a n : Nat) : Option Nat :=
  let first := a / 0x10000
  let last := (a + n - 1) / 0x10000
  let spare := (List.range (last - first + 1)).any fun k => (sparesOf (partOf (first + k))).contains (first + k)
  if 0x2000000 < a + n ∨ partOf last = 3 ∨ partOf first ≠ partOf last ∨ spare then some rcBAD_ARG
  else if fabricCaller c ∧ partOf first < 2 then some rcNOT_PERMITTED
  else if s.activeBank = some (partOf first) then some rcBAD_STATE
  else none

/-- Flash reads by call reach the banks, user data and the patch slots, within one partition. -/
def readReaches (a n : Nat) : Bool :=
  let first := a / 0x10000
  let last := (a + n - 1) / 0x10000
  a + n ≤ 0x2000000 && partOf first == partOf last && (partOf last != 3 || (472 ≤ first && last ≤ 487))

/-! ### Programs (R424) -/

/-- The checks of the ROM before it programs a line, at the sampled temperature. -/
def State.lineRefusal (s : State) (a : Nat) : Option Nat :=
  if s.isHot then some rcTEMP_INHIBIT
  else match s.sectorStatus (a / 0x10000) with
    | 2 => some rcRETIRED
    | 1 => some rcSECTOR_OPEN
    | _ => if s.lineBlank a then none else some rcNOT_BLANK

/-- The first line of a range that is not blank. -/
def State.firstNonBlank (s : State) (a n : Nat) : Option Nat :=
  ((List.range n).find? fun k => !s.lineBlank (a + 32 * k)).map fun k => a + 32 * k

/-- A pulse that does not verify leaves each bit still to be cleared at 0 or 1 (R431). -/
def State.partPulse (s : State) (a : Nat) (data : List Byte) : State :=
  let (r, s1) := s.free 256
  s1.flashWrite a ((List.range data.length).map fun k => data.getD k 0xFF ||| BitVec.ofNat 8 (r.toNat / 2 ^ (8 * k)))

/-- The line at address a is interrupted during its pulses: the bits that are 1 in the data read 1, the others 0 or 1 from then on, and
the line is not blank (R431). -/
def State.halfLine (s : State) (a : Nat) (data : List Byte) : State :=
  (s.flashWrite a data).updFlash fun f =>
    { f with half := if f.half.contains (s.physAddr a / 32) then f.half else f.half ++ [s.physAddr a / 32] }

/-- A reset cuts the program of a line: during its pulses, or before the first, which leaves it blank (R431). Which of the two, with no
pulse completed, the commands do not show, so it is open. -/
def State.halfOrBlank (s : State) (o : FlashOp) : State :=
  if o.pulses = 0 then
    let (begun, s1) := s.freeBool
    if begun then s1.halfLine o.addr (o.data.take 32) else s1
  else s.halfLine o.addr (o.data.take 32)

/-- SVC_FLASH_PROGRAM of lines, once its arguments and its buffer have been taken. -/
def State.programStart (s : State) (c : Call) (a n : Nat) (data : List Byte) : State :=
  let no (t : State) (r : Nat) (f : Option Nat) : State := t.longOnce 0x0202 c r 0 (progWords 0 f)
  if s.isHot then no s.tempErr rcTEMP_INHIBIT none
  else match (if n = 1 then none else s.firstNonBlank a n) with
    | some f => no s rcNOT_BLANK (some f)
    | none => match s.lineRefusal a with
      | some r => no s r (if r = rcNOT_BLANK then some a else none)
      | none => (s.startLong 0x0202 c).startOp { erase := false, addr := a, left := n, done := 0, data := data }

/-- The caller of the commits with which the Guide makes a patch slot active. -/
def patchCaller : Nat := 0x401

/-- The last line of a patch has verified: its slot becomes active by a commit, which heat defers and a full store refuses (R432,
R445, R446). The new patch runs from the next device reset. -/
def State.patchCommit (s : State) (slot done : Nat) : Nat × State :=
  let v := Config.patchVersion (s.flashRead (0x1D80000 + 0x80000 * slot) (32 * done))
  let (res, _, s1) := s.commitRecs patchCaller [{ id := 0xFFF0, delete := false, data := bytesOf 4 slot }]
  (res, if res = rcNO_SPACE then s1 else s1.updFlash fun f => { f with patchNext := some (slot + 1, v) })

/-- The line of operation o has verified: the next one, or the end. -/
def State.programNext (s : State) (o : FlashOp) (tj : Int) : State :=
  let data := o.data.take 32
  let s1 := s.flashWrite o.addr data
  let o1 := { o with addr := o.addr + 32, left := o.left - 1, done := o.done + 1, pulses := 0, data := o.data.drop 32 }
  if o1.left = 0 then
    match o.patch with
    | none => s1.endOp o1 rcOK (progWords o1.done none)
    | some slot =>
      let (res, s2) := (s1.sampleTj tj).patchCommit slot o1.done
      s2.endOp o1 res (progWords o1.done none)
  else
    let s2 := s1.sampleTj tj
    match s2.lineRefusal o1.addr with
    | some r => (if r = rcTEMP_INHIBIT then s2.tempErr else s2).endOp o1 r (progWords o1.done (if r = rcNOT_BLANK then some o1.addr else none))
    | none => s2.setOp (some o1)

/-- PROGRAM_PULSE_DONE. -/
def State.programPulse (s : State) (pass : Bool) (tj : Int) : State :=
  match s.flash.op with
  | none => s
  | some o =>
    if o.erase then s
    else if pass then s.programNext o tj
    else
      let s1 := s.partPulse o.addr (o.data.take 32)
      let o1 := { o with pulses := o.pulses + 1 }
      if 8 ≤ o1.pulses then
        ((s1.updFlash fun f => { f with fail := true }).setErr 0x700 16).endOp o1 rcFLASH_FAIL (progWords o.done none)
      else s1.setOp (some o1)

/-! ### Erases (R425 to R428) -/

/-- Step 1 of R425 for a sector. -/
def State.sectorRefusal (s : State) (sec : Nat) : Option Nat :=
  if s.isHot then some rcTEMP_INHIBIT
  else if s.sectorStatus sec = 2 then some rcRETIRED else none

/-- The result words of a call whose erase ends: sectors erased, or for a patch installation no line programmed. -/
def FlashOp.eraseWords (o : FlashOp) : List Word := if o.patch.isSome then progWords 0 none else [BitVec.ofNat 32 o.done]

/-- Steps 1 and 2 for the sector of operation o: its pulses begin, or the call ends. -/
def State.eraseBegin (s : State) (o : FlashOp) : State :=
  match s.sectorRefusal (o.addr / 0x10000) with
  | some r => (if r = rcTEMP_INHIBIT then s.tempErr else s).endOp o r o.eraseWords
  | none => (s.setStatus (o.addr / 0x10000) 1).setOp (some { o with pulses := 0 })

/-- SVC_FLASH_ERASE, once its arguments have been taken. -/
def State.eraseStart (s : State) (c : Call) (a n : Nat) : State :=
  match s.sectorRefusal (a / 0x10000) with
  | some r => (if r = rcTEMP_INHIBIT then s.tempErr else s).longOnce 0x0203 c r 0 [0]
  | none =>
    let s1 := s.startLong 0x0203 c
    ((s1.setStatus (a / 0x10000) 1)).startOp { erase := true, addr := a, left := n, done := 0 }

/-- An erase pulse that does not verify leaves each bit still to be set at 0 or 1. -/
def State.partErase (s : State) (sec : Nat) : State :=
  let p := s.physSector sec
  (s.flash.bytes.filter fun (e : Nat × Byte) => e.1 / 0x10000 == p).foldl (fun (t : State) (e : Nat × Byte) =>
    let (r, u) := t.free 8
    u.updFlash fun f => { f with bytes := SMap.set (fun _ => 0xFF) f.bytes e.1 (e.2 ||| r) }) s

/-- The pulse of an erase is abandoned, by a suspend, a brace or a reset; none runs while the erase waits for a lower temperature. -/
def State.abandonPulse (s : State) (o : FlashOp) : State := if o.tempWait then s else s.partErase (o.addr / 0x10000)

/-- The sectors of operation o have been erased: the call ends, or a patch installation goes on to its lines, the first after the
checks of R424 (R432). -/
def State.eraseEnd (s : State) (o : FlashOp) : State :=
  match o.patch with
  | none => s.endOp o rcOK [BitVec.ofNat 32 o.done]
  | some slot =>
    let o1 := { o with erase := false, addr := 0x1D80000 + 0x80000 * slot, left := o.data.length / 32, done := 0, pulses := 0 }
    match s.lineRefusal o1.addr with
    | some r => (if r = rcTEMP_INHIBIT then s.tempErr else s).endOp o1 r (progWords 0 (if r = rcNOT_BLANK then some o1.addr else none))
    | none => s.setOp (some o1)

/-- The erase of the present sector of o has verified: it completes, and the next one begins or the erase ends. -/
def State.eraseVerified (s : State) (o : FlashOp) : State :=
  let s1 := (s.eraseSector (o.addr / 0x10000)).heartErase (o.addr / 0x10000)
  let o1 := { o with addr := o.addr + 0x10000, left := o.left - 1, done := o.done + 1, pulses := 0 }
  if o1.left = 0 then s1.eraseEnd o1 else s1.eraseBegin o1

/-- Twenty pulses have not verified: the sector is retired, and the call ends with FLASH_FAIL (R425, R430). -/
def State.eraseFailed (s : State) (o : FlashOp) : State :=
  ((((s.updFlash fun f => { f with fail := true }).setErr 0x700 16).retireSector (o.addr / 0x10000)).heartErase
    (o.addr / 0x10000)).endOp o rcFLASH_FAIL o.eraseWords

/-- A retirement of operation o falls due. It erases and writes a spare, so above 125 °C it waits as the erase does (R4, R427, log 124). -/
def State.retireOrWait (s : State) (o : FlashOp) (pass : Bool) : State :=
  if s.isHot then s.setOp (some { o with tempWait := true, retire := some pass })
  else if pass then s.eraseVerified o else s.eraseFailed o

/-- ERASE_PULSE_DONE, with TJ sampled as the pulse ends. -/
def State.erasePulse (s : State) (pass : Bool) (tj : Int) : State :=
  match s.flash.op with
  | none => s
  | some o =>
    let sec := o.addr / 0x10000
    if !o.erase ∨ o.tempWait then s
    else if pass then
      let s1 := s.sampleTj tj
      if endurance (partOf sec) ≤ s1.eraseCount sec + 1 then s1.retireOrWait o true else s1.eraseVerified o
    else
      let s1 := (s.partErase sec).sampleTj tj
      let o1 := { o with pulses := o.pulses + 1 }
      if 20 ≤ o1.pulses then s1.retireOrWait o1 false else s1.setOp (some { o1 with tempWait := s1.isHot })

/-- The wait of operation o for a lower temperature is over: a retirement that waited is carried out, or the erase goes on. -/
def State.eraseGoesOn (s : State) (o : FlashOp) : State :=
  let o1 := { o with tempWait := false, retire := none }
  match o.retire with
  | some true => s.eraseVerified o1
  | some false => s.eraseFailed o1
  | none => s.setOp (some o1)

/-- ERASE_TEMP_RESUME: TJ is 120 °C or below. -/
def State.eraseResume (s : State) (tj : Int) : State :=
  match s.flash.op with
  | none => s
  | some o =>
    let s1 := s.sampleTj tj
    if o.tempWait ∧ tj ≤ cool then s1.eraseGoesOn o else s1

/-- ERASE_TEMP_TIMEOUT: the wait has lasted 10 s; the sector stays ERASE_OPEN. -/
def State.eraseTimeout (s : State) : State :=
  match s.flash.op with
  | none => s
  | some o => if o.tempWait then s.tempErr.endOp o rcTEMP_INHIBIT o.eraseWords else s

/-! ### Calls -/

/-- Is the flash taken by an operation, running or suspended? -/
def State.flashBusy (s : State) : Bool := s.flash.op.isSome

/-- A patch installation (R432): the package verifies, the inactive slot is erased, then written. -/
def State.patchStart (s : State) (c : Call) (n : Nat) (package : List Byte) : State :=
  if !Config.patchValid package then s.longOnce 0x0202 c rcAUTH_FAIL 0 (progWords 0 none)
  else
    let slot : Nat := if s.flash.patchSlot = 1 then 1 else 0
    let a := 0x1D80000 + 0x80000 * slot
    match s.sectorRefusal (a / 0x10000) with
    | some r => (if r = rcTEMP_INHIBIT then s.tempErr else s).longOnce 0x0202 c r 0 (progWords 0 none)
    | none =>
      let s1 := (s.startLong 0x0202 c).setStatus (a / 0x10000) 1
      s1.startOp { erase := true, addr := a, left := 8, done := 0, data := package.take (32 * n), patch := some slot }

/-- SVC_FLASH_PROGRAM at junction temperature tj. -/
def State.flashProgram (s : State) (c : Call) (tj : Int) : State :=
  let a := c.w2.toNat
  let n := fld c.w3 15 0
  let patch := bit c.w3 16
  let buf := bufferOf c.w4 c.w5
  let no (t : State) (r : Nat) : State := t.longOnce 0x0202 c r 0 (progWords 0 none)
  if n = 0 ∨ 2048 < n ∨ buf % 8 ≠ 0 ∨ (!patch ∧ a % 32 ≠ 0) then no s rcBAD_ARG
  else match (if patch then none else s.flashRefusal c a (32 * n)) with
    | some r => no s r
    | none =>
      if s.flashBusy ∨ (patch ∧ s.flash.parked.isSome) then no s rcBUSY
      else
        let (d, s1) := s.takeBuffer buf (32 * n)
        match d with
        | none => no s1 rcBUFFER_FAULT
        | some data =>
          let s2 := s1.sampleTj tj
          if patch then s2.patchStart c n data else s2.programStart c a n data

/-- SVC_FLASH_ERASE at junction temperature tj. -/
def State.flashErase (s : State) (c : Call) (tj : Int) : State :=
  let a := c.w2.toNat
  let n := c.w3.toNat
  let no (t : State) (r : Nat) : State := t.longOnce 0x0203 c r 0 [0]
  if a % 0x10000 ≠ 0 ∨ n = 0 ∨ 160 < n then no s rcBAD_ARG
  else match s.flashRefusal c a (0x10000 * n) with
    | some r => no s r
    | none => if s.flashBusy ∨ s.flash.parked.isSome then no s rcBUSY else (s.sampleTj tj).eraseStart c a n

/-- SVC_FLASH_SUSPEND. -/
def State.flashSuspend (s : State) (c : Call) : State :=
  match s.flash.op with
  | none => s.answerCall 0x0204 c rcBAD_STATE 0 []
  | some o =>
    if !o.erase then s.answerCall 0x0204 c rcBAD_STATE 0 []
    else
      let s1 := ((s.abandonPulse o).updFlash fun f => { f with op := none, parked := some { o with detached := true } }).showOp
      let s2 := if o.detached then s1 else s1.endLong rcOK 1 o.eraseWords
      s2.answerCall 0x0204 c rcOK 0 [BitVec.ofNat 32 (o.addr / 0x10000)]

/-- SVC_FLASH_RESUME at junction temperature tj: the erase goes on, or waits while it is too hot (R427, R428). -/
def State.flashResume (s0 : State) (c : Call) (tj : Int) : State :=
  let s := s0.sampleTj tj
  match s.flash.parked with
  | none => s.answerCall 0x0205 c rcBAD_STATE 0 []
  | some o =>
    if s.flashBusy then s.answerCall 0x0205 c rcBUSY 0 []
    else
      let wait := s.isHot || (o.tempWait && decide (cool < tj))
      let s1 := (s.updFlash fun f => { f with op := some { o with tempWait := wait }, parked := none }).showOp
      let s2 := s1.answerCall 0x0205 c rcOK 0 [BitVec.ofNat 32 (o.addr / 0x10000)]
      if o.retire.isSome ∧ !wait then s2.eraseGoesOn o else s2

/-- SVC_FLASH_READ. -/
def State.flashReadCall (s : State) (c : Call) : State :=
  let a := c.w2.toNat
  let n := c.w3.toNat
  let buf := bufferOf c.w4 c.w5
  let no (t : State) (r : Nat) : State := t.answerCall 0x0201 c r 0 []
  if n = 0 ∨ 4096 < n ∨ (buf = 0 ∧ 16 < n) ∨ buf % 8 ≠ 0 ∨ !readReaches a n then no s rcBAD_ARG
  else
    let open_ := s.rangeOpen a n
    let s1 := s.suspectRead open_
    let data := s1.flashRead a n
    let (e, s2) := s1.putBuffer buf data
    match e with
    | some r => no s2 r
    | none =>
      let (w, s3) := s2.inlineWords data
      let (w3, s4) := s3.free 32
      s4.answerCall 0x0201 c rcOK 0 ((if open_ then 1 else 0) :: w3 :: w)

/-- SVC_FLASH_BLANK_CHECK. -/
def State.flashBlankCheck (s : State) (c : Call) : State :=
  let a := c.w2.toNat
  let n := c.w3.toNat
  if a % 32 ≠ 0 ∨ n = 0 ∨ 65536 < n ∨ 0x2000000 < a + 32 * n ∨ partOf (a / 0x10000) ≠ partOf ((a + 32 * n - 1) / 0x10000) then s.longOnce 0x0206 c rcBAD_ARG 0 []
  else if s.flashBusy then s.longOnce 0x0206 c rcBUSY 0 []
  else s.longOnce 0x0206 c rcOK 0 [match s.firstNonBlank a n with | some f => BitVec.ofNat 32 f | none => 0xFFFFFFFF]

/-- SVC_FLASH_STATUS. -/
def State.flashStatus (s : State) (c : Call) : State :=
  let a := c.w2.toNat
  let sec := a / 0x10000
  if 0x2000000 ≤ a then s.answerCall 0x0207 c rcBAD_ARG 0 []
  else s.answerCall 0x0207 c rcOK 0
    [BitVec.ofNat 32 (s.sectorStatus sec + (if s.physSector sec ≠ sec then 4 else 0)), BitVec.ofNat 32 (s.eraseCount sec),
     s.reg (aFLASH 0x20)]

/-! ### Cut short (R426, R429, R431) -/

/-- A brace: a program finishes its pulse, an erase is abandoned, a suspended erase stays. The calls end with ABORTED. -/
def State.flashBrace (s : State) : State :=
  match s.flash.op with
  | none => s
  | some o =>
    if o.erase then (s.abandonPulse o).endOp o rcABORTED o.eraseWords
    else
      let (pass, s1) := s.freeBool
      let s2 := if pass then s1.flashWrite o.addr (o.data.take 32) else s1.halfLine o.addr (o.data.take 32)
      s2.endOp o rcABORTED (progWords (o.done + pass.toNat) none)

/-- A reset or a loss of VIN: the line being programmed has its bits still to be cleared at 0 or 1; an erase stays open; no
operation is left. -/
def State.flashCut (s : State) : State :=
  let s1 := match s.flash.op with
    | some o => if o.erase then s.abandonPulse o else s.halfOrBlank o
    | none => s
  (s1.updFlash fun f => { f with op := none, parked := none, fail := false }).showOp

/-- At a device reset a new patch runs, once its commit has been made (R432). -/
def State.patchBoot (s : State) : State :=
  match s.flash.patchNext with
  | some (k, v) =>
    if (s.record 0xFFF0).map (·.data) = some (bytesOf 4 (k - 1)) then
      s.updFlash fun f => { f with patchSlot := k, patchVersion := v, patchNext := none }
    else s
  | none => s

/-- At boot the heartwood's open erases complete, unless it is too hot (R4), and those of banks and user data are reported
(R426, R531). -/
def State.flashBoot (s : State) : State :=
  let opened := ((List.range 8).map (464 + ·)).filter fun k => s.sectorStatus k == 1 && !s.isHot
  let s2 := opened.foldl (fun (t : State) k => (t.eraseSector k).heartErase k) s
  let s3 := s2.setF (aFLASH 0x30) 9 0 (s2.flash.status.filter fun e => e.2 == 1).length
  if (List.range 448).any (fun k => s3.sectorStatus k == 1) then s3.setErr 0x700 20 else s3

end Sys2Proof.Machine
end

