-- ==== Sys2Proof/Machine/FieldRules.lean ====
section
/-! DEFINITION. The ranges and the reserved encodings that the field tables state for writable fields (R54, R56 case 2, R452). -/

namespace Sys2Proof.Machine

/-- A field with a stated range. `enc` marks a field whose other values are reserved encodings; the others are numeric. -/
structure FieldRule where
  hi : Nat
  lo : Nat
  min : Nat
  max : Nat
  enc : Bool
deriving DecidableEq, Repr

/-- Numeric field hi:lo with a range. -/
def numField (hi lo min max : Nat) : FieldRule := { hi, lo, min, max, enc := false }

/-- Field hi:lo whose codes above max, or below min, are reserved. -/
def encField (hi lo min max : Nat) : FieldRule := { hi, lo, min, max, enc := true }

/-- The rules of the fields of a loop context record, by block offset; an INDEX range follows the KIND beside it (R209). -/
def ctxRules (o : Nat) (v : Word) : List FieldRule :=
  if o = 0x40 then [encField 15 14 0 2]
  else if o = 0x48 then [numField 31 0 500 0xFFFFFFFF]
  else if o = 0x50 ∨ o = 0x54 then
    encField 31 28 0 5 :: (match fld v 31 28 with
      | 2 => [numField 9 0 0 63] | 3 => [numField 9 0 0 255] | 4 => [numField 9 0 0 255] | _ => [])
  else if o = 0xD8 then
    encField 31 28 0 4 :: (match fld v 31 28 with
      | 1 => [numField 17 8 0 255] | 2 => [numField 17 8 0 255] | 3 => [numField 17 8 0 255] | 4 => [numField 17 8 0 31] | _ => [])
  else []

/-- The rules of the register at byte offset a, when its value is v. -/
def fieldRules (a : Nat) (v : Word) : List FieldRule :=
  let i := pageInfo (a / 0x1000)
  let o := a % 0x1000
  match i.kind with
  | .supply =>
    if o = 0x020 then [numField 9 0 0 610]
    else if o = 0x028 then [numField 23 16 96 198, numField 13 8 0 36] else []
  | .scrub => if o = 0x020 then [numField 31 16 10 65535] else []
  | .mbx => if 0x100 ≤ o ∧ o < 0x500 ∧ o % 0x100 = 0x10 then [numField 19 0 0 1000000] else []
  | .time => if o = 0x020 then [encField 2 0 0 2] else []
  | .clkPll => if o = 0x020 ∨ o = 0x040 then [encField 17 16 0 2] else []
  | .edge => if o = 0x020 then [encField 1 0 0 2] else []
  | .edgecal => if o = 0x020 then [numField 15 0 26 1000] else []
  | .sdf =>
    if 0x100 ≤ o ∧ o < 0x300 then
      match o % 0x40 with
      | 0x00 => [encField 6 4 0 5]
      | 0x08 => [encField 22 16 8 64, encField 10 0 4 1024]
      | 0x0C => [encField 15 0 6400 51200]
      | _ => []
    else []
  | .loop =>
    if o = 0x030 then [numField 19 0 1 1048575]
    else if o = 0x034 then [numField 28 20 0 319, numField 19 0 1 1048575] else []
  | .loopctx => ctxRules (o % 0x100) v
  | .rope => if o = 0x020 then [encField 9 8 0 2, encField 1 0 0 2] else []
  | .ropePort => if o = 0x020 then [encField 3 2 0 2] else []
  | .ropetime => if o = 0x020 then [numField 2 0 0 4] else []
  | .acc => if o = 0x020 then [numField 3 0 2 15] else []
  | .host =>
    if o = 0x024 then [numField 2 0 1 4]
    else if 0x040 ≤ o ∧ o < 0x0C0 ∧ o % 0x20 = 0 then [numField 4 0 5 20] else []
  | .dramCtl => if o = 0x020 then [numField 11 8 0 8] else []
  | .dramTiming => if o = 0x020 then [encField 6 4 0 6] else []
  | .dramEcc => if o = 0x034 then [numField 15 0 1 65535] else []
  | _ => []

/-- A field breaks its rule. -/
def FieldRule.breaks (r : FieldRule) (v : Word) : Bool := fld v r.hi r.lo < r.min || r.max < fld v r.hi r.lo

/-- ROPE:CFG holds a setting that R273 reserves. BR_ROPE is judged while BR_EN = 1 (log 40). -/
def ropeCfgReserved (v : Word) : Bool :=
  fld v 1 0 == 3 || fld v 9 8 == 3 || (fld v 1 0 == 2 && fld v 31 29 != 0) || (fld v 1 0 == 1 && fld v 23 18 == 0) ||
    (bit v 28 && (fld v 27 25 == 0 || fld v 27 25 == fld v 31 29))

/-- DRAM ORG names an organisation that R358 does not allow: a density that its table lacks, or one rank of ×16 parts of 4 Gbit. In a boot
record that is no clamp: the controller stays disabled. -/
def dramOrgReserved (v : Word) : Bool := fld v 2 1 == 3 || (bit v 0 && fld v 2 1 == 0 && !bit v 3)

/-- The value v of the register at a holds a reserved encoding (case 2 of R56). -/
def reservedEnc (a : Nat) (v : Word) : Bool :=
  (fieldRules a v).any (fun r => r.enc && r.breaks v) || (a == 0x540020 && ropeCfgReserved v) || (a == 0x641020 && dramOrgReserved v)

/-- The writable bits of a register: those of every class but RO and RSV. -/
def RegSpec.writable (r : RegSpec) : Nat := r.rw ||| r.rws ||| r.rwq ||| r.w1c ||| r.w1s ||| r.wo

end Sys2Proof.Machine
end

