-- ==== Sys2Proof/Machine/ClockTree.lean ====
section
/-! DEFINITION. The clock tree: sources and their frequencies (R140, R143, R145), which clocks run (R151, R152, R154), dividers and alignment (R153), and whether a clocked bough meets its clock (R80 to R85, case 4 of R56). -/

namespace Sys2Proof.Machine

/-! ### Frequencies -/

/-- REFCLK in MHz, by REF_FREQ. -/
def State.refMHz (s : State) : Rat := match s.rf aSRC_STAT 9 8 with | 0 => 10 | 1 => 25 | _ => 100

/-- FIN of PLL p in MHz, by REF_SEL and REF_FREQ. -/
def State.pllFin (s : State) (p : Nat) : Rat :=
  match s.rf (aPLL p 0) 17 16 with
  | 0 => s.refMHz
  | 1 => 200
  | _ => 125

/-- PFD of PLL p in MHz (R143). -/
def State.pllPfd (s : State) (p : Nat) : Rat := s.pllFin p / (s.rf (aPLL p 0) 13 8 + 1 : Nat)

/-- The VCO frequency of PLL p in MHz. -/
def State.pllVco (s : State) (p : Nat) : Rat :=
  let fb := s.reg (aPLL p 4)
  s.pllPfd p * ((fld fb 31 24 : Rat) + (if s.rb (aPLL p 0) 1 then (fld fb 23 0 : Rat) / (2 ^ 24 : Nat) else 0))

/-- Output c of PLL p in MHz. -/
def State.pllOut (s : State) (p c : Nat) : Rat := s.pllVco p / (s.rf (aPLL p 8) (8 * c + 7) (8 * c) + 1 : Nat)

/-- The source of code c in MHz (R145). -/
def State.sourceMHz (s : State) (c : Nat) : Rat :=
  if c < 32 then s.pllOut (c / 4) (c % 4)
  else if c = 32 then s.refMHz
  else if c = 33 then 200
  else if c = 34 then 500
  else 250

/-- The uncertainty of a source, and the period in ps to close against, for a nominal frequency (R145). The jitter of REFCLK is
the board's: Config.refJitter. -/
def sourceClose (c : Nat) (mhz : Rat) : Rat × Rat :=
  if c < 32 then (50, 1000000 / mhz)
  else if c = 32 then (Config.refJitter + 30, 1000000 / mhz * (1 - 100 / 1000000))
  else if c = 33 then (150, 4808)
  else (20, 1000000 / mhz * (1 - 500 / 1000000))

/-! ### Clocks that run -/

/-- The source of code c delivers edges (R145). -/
def State.sourceRuns (s : State) (c : Nat) : Bool :=
  if c < 32 then s.rb (aPLL (c / 4) 0) 0 && s.rb (aPLL (c / 4) 0xC) 0
  else if c = 32 then s.rb aSRC_STAT 1 else if c = 33 then s.rb aSRC_STAT 0
  else if c ≤ 35 then s.time.running else false

/-- Falling edges of root r that are still to come before its closed gate stops it: the third after the write of EN = 0 is the one that lies
2 to 3 cycles after it (R154). -/
def State.rootStopping (s : State) (r : Nat) : Nat := SMap.get (fun _ => 0) s.fabric.clocks.stopping r

/-- Root clock r runs: its gate is open, or has not stopped it yet, and the source now driving it delivers edges (R148, R154). -/
def State.rootRuns (s : State) (r : Nat) : Bool :=
  (s.rb (aROOT r) 31 || s.rootStopping r != 0) && s.sourceRuns (s.rf (aROOT r) 21 16) && !s.released (rootKey r)

/-- The gates of bough clock c are open: its EN and the hold gate (R154). -/
def State.bclkOpen (s : State) (b c : Nat) : Bool := s.rb (aBCLK b c) 31 && !s.fabric.clocks.holdGate

/-- Bough clock c of bough b runs (R150, R154). -/
def State.boughClockRuns (s : State) (b c : Nat) : Bool :=
  s.bclkOpen b c && s.rootRuns (s.bclkRoot b c) && !s.released (bclkKey b c)

/-! ### Dividers (R153) -/

/-- The modulus and the value of the alignment counter of root r. -/
def State.alignMod (s : State) (r : Nat) : Nat := SMap.get (fun _ => 65536) s.fabric.clocks.alignMod r
def State.alignCount (s : State) (r : Nat) : Nat := SMap.get (fun _ => 0) s.fabric.clocks.align r

/-- The place in its output period of a divider of ratio n on root r, at the rising edge counted last. -/
def State.divPhase (s : State) (k r n : Nat) : Nat :=
  if s.alignMod r % n = 0 then s.alignCount r % n
  else (SMap.get (fun _ => 0) s.fabric.clocks.ticks r - SMap.get (fun _ => 0) s.fabric.clocks.start k) % n

/-- The bough clocks that a list of boughs has, with their roots and ratios. -/
def State.bclksOf (s : State) (l : List Nat) : List (Nat × Nat × Nat × Nat) :=
  l.flatMap fun b => (List.range 8).map fun c => (b, c, s.bclkRoot b c, s.bclkRatio b c)

/-- A divider that loses its fixed phase as the modulus of its root changes keeps the phase it has. -/
def State.keepPhase (s : State) (r old new : Nat) : State :=
  let n := SMap.get (fun _ => 0) s.fabric.clocks.ticks r
  let l := (s.bclksOf (List.range 128)).filter fun e => e.2.2.1 = r ∧ old % e.2.2.2 = 0 ∧ new % e.2.2.2 ≠ 0
  if old = new then s
  else s.updClocks fun c => { c with start := l.foldl (fun m e => SMap.set (fun _ => 0) m (bclkKey e.1 e.2.1) n) c.start }

/-- The alignment counter of root r counts a rising edge that the tree distributes; a new modulus takes effect at its wrap. -/
def State.alignEdge (s : State) (r : Nat) : State :=
  let m := s.alignMod r
  let a := s.alignCount r + 1
  let want := if s.rf (aALIGN r) 15 0 = 0 then 65536 else s.rf (aALIGN r) 15 0
  let wrap := m ≤ a
  let s1 := s.updClocks fun c => { c with
    ticks := SMap.set (fun _ => 0) c.ticks r (SMap.get (fun _ => 0) c.ticks r + 1)
    align := SMap.set (fun _ => 0) c.align r (if wrap then 0 else a)
    alignMod := if wrap then SMap.set (fun _ => 65536) c.alignMod r want else c.alignMod }
  if wrap then s1.keepPhase r m want else s1

/-- An edge of bough clock c of bough b. -/
structure BoughEdge where
  b : Nat
  c : Nat
  falling : Bool
deriving DecidableEq, Repr

/-- A rising edge still passes a switch: the third one after the request is the last (R151); a restart lets the present output period
finish and no other begin (R153). -/
def ClockSwitch.passes (x : ClockSwitch) : Bool := !x.low && decide (x.edges < 3)

/-- The edges of the bough clocks at an instant of root edges, after the alignment counters have counted it. A gate keeps rising
edges back, so that the output ends low after its high phase. -/
def State.boughEdges (s : State) (es : List ClockEdge) : List BoughEdge :=
  (s.bclksOf (s.fabric.boughs.map (·.1))).flatMap fun e =>
    let k := bclkKey e.1 e.2.1
    let up := es.contains { root := BitVec.ofNat 4 e.2.2.1, falling := false }
    let down := es.contains { root := BitVec.ofNat 4 e.2.2.1, falling := true }
    let n := e.2.2.2
    let ph := s.divPhase k e.2.2.1 n
    let rise := up && ph == 0 && !s.fabric.clocks.toAlign.contains k && s.bclkOpen e.1 e.2.1 && (s.clockSwitch k).all (·.passes)
    let fall := s.fabric.clocks.high.contains k && (if n = 1 then down else up && ph == (n + 1) / 2)
    (if rise then [{ b := e.1, c := e.2.1, falling := false }] else []) ++ (if fall then [{ b := e.1, c := e.2.1, falling := true }] else [])

/-- The clocks that wait for the alignment point of their root have reached it: SW_BUSY clears, and the output rises (R151, R153). -/
def State.alignPoints (s : State) (es : List ClockEdge) : State :=
  s.fabric.clocks.toAlign.foldl (fun t k =>
    let b := k / 8
    let c := k % 8
    let r := s.bclkRoot b c
    if !es.contains { root := BitVec.ofNat 4 r, falling := false } || s.alignCount r ≠ 0 then t
    else
      let u := t.updClocks fun x => { x with toAlign := x.toAlign.filter (· ≠ k) }
      if (s.clockSwitch k).isSome then u else u.setB (aBCLK b c) 30 false) s

/-- Falling edges bring the roots whose gates are closing nearer to their stop (R154). -/
def State.countStops (s : State) (es : List ClockEdge) : State :=
  es.foldl (fun t e => if !e.falling then t else t.updClocks fun x => { x with
    stopping := SMap.set (fun _ => 0) x.stopping e.root.toNat (SMap.get (fun _ => 0) x.stopping e.root.toNat - 1) }) s

/-- The old-side steps of the switches at an instant of root edges (R151): rising edges of the old root are counted; after the third, the
output period that runs is the last of a divider, and a root clock is released at its next falling edge. -/
def State.countSwitches (s : State) (es : List ClockEdge) : State :=
  s.fabric.clocks.switches.foldl (fun (t : State) e =>
    match e.2 with
    | none => t
    | some x =>
      let isRoot := decide (1024 ≤ e.1)
      let r := if isRoot then e.1 - 1024 else x.source
      let up := es.contains { root := BitVec.ofNat 4 r, falling := false }
      let down := es.contains { root := BitVec.ofNat 4 r, falling := true }
      let ends := if isRoot then down && decide (3 ≤ x.edges) else up && decide (3 ≤ x.edges) && s.divPhase e.1 r x.ratio == 0
      t.setSwitch e.1 (some { x with edges := if up then x.edges + 1 else x.edges, low := x.low || ends })) s

/-- The clocks that are high after an instant of edges. -/
def State.noteHigh (s : State) (es : List ClockEdge) (bs : List BoughEdge) : State :=
  let ups := (es.filter (!·.falling)).map (fun e => rootKey e.root.toNat) ++ (bs.filter (!·.falling)).map fun e => bclkKey e.b e.c
  let downs := (es.filter (·.falling)).map (fun e => rootKey e.root.toNat) ++ (bs.filter (·.falling)).map fun e => bclkKey e.b e.c
  s.updClocks fun c => { c with high := ups ++ c.high.filter fun k => !ups.contains k && !downs.contains k }

/-! ### A clocked bough and its clock (R80 to R85, case 4 of R56) -/

/-- The junction temperatures of R81 in units of 1/8 °C, and its rows: VCORE in mV and k in hundredths. -/
def kTemps : List Int := [-320, 200, 680, 1000, 1200]
def kRows : List (Nat × List Nat) :=
  [(720, [130, 136, 142, 149, 155]), (760, [110, 114, 119, 124, 128]), (800, [88, 94, 100, 104, 107]), (850, [80, 85, 90, 94, 97]),
    (900, [75, 79, 83, 87, 90])]

/-- The least and the greatest k, in hundredths, of the table points around a VCORE and a temperature: k lies between them. -/
def kRange (mv : Nat) (tj : Int) : Nat × Nat :=
  let i := (((List.range 5).filter fun i => decide ((kRows.getD i (0, [])).1 ≤ mv)).getLast?).getD 0
  let j := (((List.range 5).filter fun j => decide (kTemps.getD j 0 ≤ tj)).getLast?).getD 0
  let at_ (a b : Nat) : Nat := (kRows.getD a (0, [])).2.getD b 0
  let i2 := if (kRows.getD i (0, [])).1 = mv then i else min (i + 1) 4
  let j2 := if kTemps.getD j 0 = tj then j else min (j + 1) 4
  let l := [at_ i j, at_ i j2, at_ i2 j, at_ i2 j2]
  (l.foldl min 155, l.foldl max 75)

/-- Bough clock c of bough b meets what its design asks of it: `some true` and `some false` where R85 decides it at every k of R81, `none` where
the k of the present VCORE and TJ does. The design's longest paths stand in its cells. -/
def State.meetsClock (s : State) (b c : Nat) : Option Bool :=
  let r := s.bclkRoot b c
  let src := s.rf (aROOT r) 21 16
  let f := s.sourceMHz src
  let n := s.bclkRatio b c
  if 600 < f then some false
  else
    let (unc, period) := sourceClose src f
    let k := kRange (s.rf (pg 0x002 0x2C) 15 0) s.power.tj
    let p := SMap.get (fun _ => (0, 0)) (s.bough b).cfg.longest c
    let need (q : Nat) : Rat := 103 / 100 * ((q : Rat) / 100)
    let ok (q : Nat) : Bool :=
      (p.1 = 0 || decide (need q * p.1 + 20 + unc ≤ period * n)) && (p.2 = 0 || decide (need q * p.2 + 80 + unc ≤ period * n))
    if ok k.2 then some true else if ok k.1 then none else some false

/-- A PLL under case 6 of R56 drives bough clock c of bough b. -/
def State.pllBroken (s : State) (b c : Nat) : Bool :=
  let src := s.rf (aROOT (s.bclkRoot b c)) 21 16
  decide (src < 32) && s.fabric.clocks.badPll.contains (src / 4)

/-- Case 4 of R56 is in force on bough b, or case 6 on a PLL that clocks it: its leaves, memories and MAC blocks hold nothing defined. -/
def State.clockBroken (s : State) (b : Nat) : Bool :=
  s.regs.undefined.contains (4, 0x040 + b, 0xFFFF) || (List.range 8).any (s.pllBroken b)

/-- A clock as paths compare it: root, divider ratio and edge (R84). -/
structure PathClock where
  root : Nat
  ratio : Nat
  falling : Bool
deriving DecidableEq, Repr

def State.pathClock (s : State) (b c : Nat) (falling : Bool) : PathClock := { root := s.bclkRoot b c, ratio := s.bclkRatio b c, falling }

/-- What clocks leaf l of bough b. -/
def State.leafClock (s : State) (b l : Nat) : PathClock :=
  let t := (s.bough b).cfg.twigAt (l / 16)
  s.pathClock b t.clkSel.toNat t.falling

/-- The clock that launches what a hard block of bough b puts on source i: a memory port, a MAC block, the interface of a channel, an input
tap (R137, R160, R338). PITCH_REQ and PITCH_BUSY follow no bough clock. -/
def State.hardClock (s : State) (b i : Nat) : Option PathClock :=
  let k := (s.bough b).cfg
  let port (n : Nat) (p : BramPortCfg) : Option PathClock := if n < 74 then some (s.pathClock b p.clkSel.toNat p.falling) else none
  if i < 1280 then none
  else if i < 1920 then
    let m := k.bramAt ((i - 1280) / 80)
    port ((i - 1280) % 80) (if (i - 1280) % 80 < 36 && m.a.width ≠ 6 then m.a else m.b)
  else if i < 2208 then let m := k.macAt ((i - 1920) / 72)
                        some (s.pathClock b m.clkSel.toNat m.falling)
  else if i < 2240 then some (s.pathClock b (k.ichAt (i - 2208)).clk.toNat false)
  else if i < 2272 then some (s.pathClock b (k.ochAt (i - 2240)).clk.toNat false)
  else if 2304 ≤ i ∧ i < 2368 then some (s.pathClock b (SMap.get (fun _ => ({} : TapCfg)) k.itap (i - 2304)).clk.toNat false)
  else none

/-- The clock that launches a wire where a clocked element drives it: a flip-flop, a hard block, a receiving cell. What a handshake bough drives
has none. -/
def State.launchClock (s : State) (n : Node) : Option PathClock :=
  match n with
  | .q b l => if s.tmode b = 1 then some (s.leafClock b l) else none
  | .bough b i => if s.tmode b = 1 then s.hardClock b i else none
  | .down b u =>
    let k := (s.bough b).cfg
    if s.tmode b ≠ 1 then none
    else match k.downOwner u with
      | some (.bit c _) => some (s.pathClock b (k.ichAt c).clk.toNat false)
      | some _ => none
      | none => if s.downMode b u = 1 ∨ s.downMode b u = 2 then
          some (s.pathClock b (SMap.get (fun _ => {}) k.down u : CellCfg).clk.toNat false) else none
  | _ => none

/-- The wires that the clocked elements of bough b on one clock and edge take: flip-flops, memory ports, MAC blocks, channel interfaces, and EVENT
up cells. -/
def State.takenAt (s : State) (e : BoughEdge) : List Node :=
  let k := (s.bough e.b).cfg
  let on (c : BitVec 3) (f : Bool) : Bool := c.toNat == e.c && f == e.falling
  let dests (d n : Nat) : List Node := (List.range n).map fun i => .dest e.b (d + i)
  ((k.leaf.map (·.1)).filter fun l => on (k.twigAt (l / 16)).clkSel (k.twigAt (l / 16)).falling).flatMap (fun l =>
      let t := k.twigAt (l / 16)
      .d e.b l :: [t.selCe0, t.selCe1, t.selSr0, t.selSr1].map fun (x : BitVec 6) => .twig e.b (l / 16) x.toNat) ++
    k.bram.flatMap (fun m => (if on m.2.a.clkSel m.2.a.falling then dests (1024 + 128 * m.1) 60 else []) ++
      (if on m.2.b.clkSel m.2.b.falling then dests (1024 + 128 * m.1 + 64) 60 else [])) ++
    k.mac.flatMap (fun m => if on m.2.clkSel m.2.falling then dests (2048 + 128 * m.1) 122 else []) ++
    k.och.flatMap (fun c => if c.2.en && on c.2.clk false then
      .dest e.b (2560 + c.1) :: (List.range (c.2.w.toNat + 1)).map fun j => .bough e.b (k.upSel ((c.2.dbase.toNat + j) % 256)) else []) ++
    k.ich.flatMap (fun c => if c.2.en && on c.2.clk false then [.dest e.b (2592 + c.1)] else []) ++
    k.up.flatMap fun u => if u.2.mode.toNat = 2 && on u.2.clk false then [.bough e.b (k.upSel u.1)] else []

/-- A path from a wire crosses a down cell in THROUGH mode and is launched by another clock than `c`: it is not synchronous (R84, R155). -/
def State.crosses (s : State) (c : PathClock) (n : Node) : Bool :=
  (reachFrom s fuelMax [n] []).any fun d => match d with
    | .down b u => ((s.bough b).cfg.downOwner u).isNone && s.downMode b u == 0 && !s.handshake b &&
        (reachFrom s fuelMax [d] []).any fun x => (s.launchClock x).any (· != c)
    | _ => false

/-- Something on a clock edge of bough b samples what it cannot meet: a THROUGH path that is not synchronous (R155), the sum of a MAC block on another
clock (R136), or an oscillating loop (R75). -/
def State.samplesWrong (s : State) (e : BoughEdge) : Bool :=
  let k := (s.bough e.b).cfg
  let c := s.pathClock e.b e.c e.falling
  let osc := s.oscillators
  (s.takenAt e).any (s.crosses c) ||
    (List.range 4).any (fun m => (k.macAt m).clkSel.toNat == e.c && (k.macAt m).falling == e.falling && k.pcinCrosses m) ||
    (!osc.isEmpty && ((s.takenAt e).filter fun n => s.wire n == none).any fun n => (reachFrom s fuelMax [n] []).any osc.contains)

/-- What the memories of bough b hold is open, until it is rewritten. -/
def Bough.loseBrams (x : Bough) : Bough :=
  (List.range 8).foldl (fun y n => y.setBram n { y.bramAt n with openBits := (List.range 512).map fun r => (r, BitVec.allOnes 72) }) x

/-- The clocks with edges at an instant are tried: a bough that one of them drives too fast, or that samples there what it cannot meet, is under case 4
until it is reloaded. What its memories hold is lost with it. -/
def State.tryClocks (s : State) (bs : List BoughEdge) : State :=
  bs.foldl (fun (t : State) e =>
    if t.clockBroken e.b ∨ s.tmode e.b ≠ 1 then t
    else
      let (ok, u) : Bool × State := match s.meetsClock e.b e.c with | some v => (v, t) | none => t.freeBool
      if ok && !s.samplesWrong e then u else (u.markUndefined 4 (0x040 + e.b) 0xFFFF).updBough e.b Bough.loseBrams) s

end Sys2Proof.Machine
end

