-- ==== Sys2Proof/Machine/Edge.lean ====
section
/-! DEFINITION. The edge units: placement, queue, PWM, capture and calibration (R177 to R191). -/

namespace Sys2Proof.Machine

/-! ### Settings of the unit of pin p -/

def State.edgeMode (s : State) (p : Nat) : Nat := s.rf (aEDGE p 0x20) 1 0
def State.edgeIdle (s : State) (p : Nat) : Bool := s.rb (aEDGE p 0x20) 8
def State.edgeOn (s : State) (p : Nat) : Bool := s.pageEnable (0x100 + p)
def State.edgePer (s : State) (p : Nat) : Nat := (s.reg (aEDGE p 0x30)).toNat
def State.edgeRise (s : State) (p : Nat) : Nat := (s.reg (aEDGE p 0x34)).toNat
def State.edgeFall (s : State) (p : Nat) : Nat := (s.reg (aEDGE p 0x38)).toNat

/-- ANCHOR of the unit (R178). -/
def State.edgeAnchor (s : State) (p : Nat) : DevTime :=
  mkTime ((s.reg (aEDGE p 0x44)).toNat * 2 ^ 32 + (s.reg (aEDGE p 0x40)).toNat) (s.rf (aEDGE p 0x48) 7 0)

/-- The EDGECAL page of precision pin p, and its offsets of pin p (R191). -/
def aCAL (i o : Nat) : Nat := pg (0x210 + i) o
def aOUT_OFS (p : Nat) : Nat := aCAL (p / 64) (0x100 + 4 * (p % 64))
def aIN_OFS (p : Nat) : Nat := aCAL (p / 64) (0x200 + 4 * (p % 64))

/-- A signed 16-bit offset in units of 1/256 ns, as a difference of device times. -/
def ofsTime (w : Word) : DevTime := BitVec.ofInt 72 (sext 16 w.toNat)

/-- An offset acts from 16 ns after its write (R191): until then the one that was in force before it does. -/
def offsetInForce (was : List (DevTime × Word)) (now : DevTime) (new : Word) : Word :=
  match was with
  | (t, old) :: rest => if laterThan (t + ns 16) now then offsetInForce rest now old else new
  | [] => new

def State.outOfs (s : State) (p : Nat) : DevTime :=
  let u := s.edgeUnit p
  ofsTime (offsetInForce u.outWas s.time.now (s.reg (aOUT_OFS p)))

def State.inOfs (s : State) (p : Nat) : DevTime :=
  let u := s.edgeUnit p
  ofsTime (offsetInForce u.inWas s.time.now (s.reg (aIN_OFS p)))

/-- The units of 1/256 ns that are less than 400 ps. -/
def shortSpacing (a b : DevTime) : Bool := (a - b).toNat < 103 || (b - a).toNat < 103

/-- Set PAGE_ERR bit b of the page of pin p. -/
def State.edgeErr (s : State) (p b : Nat) : State := s.setErr (0x100 + p) b

/-! ### Generated clocks of the sigma-delta channels (R196, R197) -/

/-- The page of channel c, its register block, and a register of it (R196). -/
def sdfPage (c : Nat) : Nat := 0x200 + c / 8
def aSDF (c o : Nat) : Nat := pg (sdfPage c) (0x100 + 0x40 * (c % 8) + o)

def State.sdfEn (s : State) (c : Nat) : Bool := s.rb (aSDF c 0) 0
def State.sdfGen (s : State) (c : Nat) : Bool := s.rb (aSDF c 0) 1
def State.sdfOrder (s : State) (c : Nat) : Nat := s.rf (aSDF c 0) 6 4
def State.sdfCmpEn (s : State) (c : Nat) : Bool := s.rb (aSDF c 0) 8
def State.sdfCmpOrder (s : State) (c : Nat) : Nat := s.rf (aSDF c 0) 10 9
def State.sdfClkPin (s : State) (c : Nat) : Nat := s.rf (aSDF c 4) 15 8
def State.sdfRunLim (s : State) (c : Nat) : Nat := s.rf (aSDF c 4) 31 24
def State.sdfOsr (s : State) (c : Nat) : Nat := s.rf (aSDF c 8) 10 0
def State.sdfCmpOsr (s : State) (c : Nat) : Nat := s.rf (aSDF c 8) 22 16
def State.sdfPer (s : State) (c : Nat) : Nat := s.rf (aSDF c 0xC) 15 0

/-- The channel runs: EN = 1 and the page's ENABLE = 1 (R197). -/
def State.sdfRuns (s : State) (c : Nat) : Bool := s.sdfEn c && s.pageEnable (sdfPage c)

/-- The channel whose generated clock drives precision pin p: the lowest-numbered enabled GEN channel that names it, or one that still completes
its last period. -/
def State.genDriver (s : State) (p : Nat) : Option Nat :=
  let on (k : Nat) : Bool := (s.sdfChan k).gen.isSome && s.sdfClkPin k == p
  ((List.range 64).find? fun k => (s.sdfChan k).started && on k).orElse fun _ => (List.range 64).find? on

/-- The channel whose generated clock channel c samples on; `none` where its CLK_PIN carries an external clock. -/
def State.sdfDriver (s : State) (c : Nat) : Option Nat := s.genDriver (s.sdfClkPin c)

/-- The instant t lies before the end of the clock of channel u. -/
def SdfChannel.clockAt (u : SdfChannel) (t : DevTime) : Bool := match u.stopEnd with | some e => laterThan e t | none => true

/-- The level of the clock of channel k at instant t: low before its first rising edge, and high for half of each period. -/
def State.genLevel (s : State) (k : Nat) (t : DevTime) : Bool :=
  let per := max 1 (s.sdfPer k)
  match (s.sdfChan k).gen with
  | some g => !laterThan g t && (s.sdfChan k).clockAt t && decide ((t - g).toNat % per < per / 2)
  | none => false

/-- The first rising or falling edge of the clock of channel k after instant t. -/
def State.genEdge (s : State) (k : Nat) (falling : Bool) (t : DevTime) : Option DevTime :=
  let per := max 1 (s.sdfPer k)
  match (s.sdfChan k).gen with
  | some g =>
    let a := if falling then g + BitVec.ofNat 72 (per / 2) else g
    let e := if laterThan a t then a else a + BitVec.ofNat 72 (((t - a).toNat / per + 1) * per)
    if (s.sdfChan k).clockAt e then some e else none
  | none => none

/-! ### Placement -/

/-- Place an edge to level l at device time t. An edge to the present level places none (R181). An edge less than 400 ps
after the one before it is case 7 of R56: the level is then a free value until an edge that keeps the spacing. -/
def State.placeEdge (s : State) (p : Nat) (t : DevTime) (l : Bool) : State :=
  let u := s.edgeUnit p
  if u.level = l then s
  else
    let at_ := t + s.outOfs p
    let tooShort : Bool := match u.lastEdge with | some e => shortSpacing at_ e | none => false
    if tooShort then
      let (b, s1) := (s.markUndefined 7 (0x100 + p) 0).freeBool
      s1.setEdge p { u with level := b, lastEdge := some at_ }
    else (s.clearUndefined 7 (0x100 + p) 0).setEdge p { u with level := l, lastEdge := some at_ }

/-! ### The edge queue (R181, R182) -/

/-- The entry time nearest the present device time with the low 40 bits of NS and the FRAC given. Of two equally near, 2^39 ns before and after, it
is the one before (DESIGN CHOICE, log 135). -/
def entryTime (now : DevTime) (nsLow frac : Nat) : DevTime :=
  let d := (nsLow % 2 ^ 40 * 256 + frac % 256 + 2 ^ 48 - now.toNat % 2 ^ 48) % 2 ^ 48
  if d < 2 ^ 47 then now + BitVec.ofNat 72 d else now - BitVec.ofNat 72 (2 ^ 48 - d)

/-- Push an entry; a full queue ignores it and sets Q_OVF. -/
def State.queuePush (s : State) (p : Nat) (e : QueueEntry) : State :=
  let u := s.edgeUnit p
  if 16 ≤ u.queue.length then s.edgeErr p 17
  else s.setEdge p { u with
    queue := u.queue ++ [e]
    headLate := if u.queue.isEmpty then laterThan s.time.now e.time else u.headLate }

/-- A write of EQ_HI by requester key r pushes the entry formed with its staged EQ_LO. -/
def State.pushEntry (s : State) (p r : Nat) (w : Word) : State :=
  let lo := (SMap.get (fun _ => 0) (s.edgeUnit p).stage r).toNat
  s.queuePush p { time := entryTime s.time.now (fld w 7 0 * 2 ^ 32 + lo) (fld w 23 16), level := bit w 31 }

/-- A write of EQ_LO stages the low word for requester key r. -/
def State.stageLow (s : State) (p r : Nat) (w : Word) : State :=
  let u := s.edgeUnit p
  s.setEdge p { u with stage := SMap.set (fun _ => 0) u.stage r w }

/-- Remove the head entry; the next one is late if its time has passed when it reaches the head. -/
def State.queuePop (s : State) (p : Nat) : State :=
  let u := s.edgeUnit p
  let rest := u.queue.drop 1
  s.setEdge p { u with
    queue := rest
    headLate := match rest with | q :: _ => laterThan s.time.now q.time | [] => false }

/-- The head entry acts: at its time, or as a late entry. -/
def State.queueEdge (s : State) (p : Nat) : State :=
  let u := s.edgeUnit p
  if s.edgeMode p = 1 ∧ s.edgeOn p then
    match u.queue with
    | [] => s
    | q :: _ =>
      if u.headLate then
        let s1 := s.edgeErr p 16
        if s1.rb (aEDGE p 0x20) 16 then s1.queuePop p else (s1.placeEdge p s1.time.now q.level).queuePop p
      else
        let s1 := s.reach q.time
        (s1.placeEdge p q.time q.level).queuePop p
  else s

/-! ### PWM (R183 to R185) -/

/-- The earliest ANCHOR + n × PER at least 100 ns after the present instant. -/
def State.pwmFirst (s : State) (p : Nat) : DevTime :=
  let per := s.edgePer p
  let target := s.time.now + ns 100
  let d := ((target - s.edgeAnchor p).toNat : Nat)
  -- the anchor may lie ahead: differences are taken on the side of the anchor that is nearer
  let i : Int := if d < 2 ^ 71 then (d : Int) else (d : Int) - (2 ^ 72 : Nat)
  target + BitVec.ofInt 72 ((-i) % (per : Int))

/-- Start the period grid of an enabled PWM unit whose active PER is not 0. -/
def State.pwmArm (s : State) (p : Nat) : State :=
  if s.edgePer p = 0 then s
  else s.setEdge p { s.edgeUnit p with pwmStart := none, pwmNext := some (s.pwmFirst p) }

/-- The pad's level goes to IDLE_LVL at the first instant at least 400 ps after the last edge placed. -/
def State.edgeToIdle (s : State) (p : Nat) : State :=
  let u := s.edgeUnit p
  let at_ := match u.lastEdge with
    | some e => if laterThan (e + BitVec.ofNat 72 103) s.time.now then e + BitVec.ofNat 72 103 else s.time.now
    | none => s.time.now
  let s1 := s.reach at_
  let u1 := s1.edgeUnit p
  (s1.clearUndefined 7 (0x100 + p) 0).setEdge p
    { u1 with level := s1.edgeIdle p, lastEdge := if u1.level = s1.edgeIdle p then u1.lastEdge else some at_ }

/-- The rising edge of the present period, at start + RISE if RISE < PER. When RISE = FALL the pad goes low there. -/
def State.pwmRise (s : State) (p : Nat) : State :=
  let u := s.edgeUnit p
  match u.pwmStart with
  | some st =>
    if u.riseDone ∨ s.edgePer p ≤ s.edgeRise p then s
    else
      let t := st + BitVec.ofNat 72 (s.edgeRise p)
      let s1 := (s.reach t).setEdge p { u with riseDone := true }
      s1.placeEdge p t (s.edgeRise p != s.edgeFall p)
  | none => s

/-- The falling edge of the present period, at start + FALL if FALL < PER. -/
def State.pwmFall (s : State) (p : Nat) : State :=
  let u := s.edgeUnit p
  match u.pwmStart with
  | some st =>
    if u.fallDone ∨ s.edgePer p ≤ s.edgeFall p then s
    else
      let t := st + BitVec.ofNat 72 (s.edgeFall p)
      let s1 := (s.reach t).setEdge p { u with fallDone := true }
      s1.placeEdge p t false
  | none => s

/-- The edges of the present period that have not been placed, in time order. -/
def State.pwmFinish (s : State) (p : Nat) : State :=
  if s.edgeRise p ≤ s.edgeFall p then (s.pwmRise p).pwmFall p else (s.pwmFall p).pwmRise p

/-- The commit transfer of an EDGE page, and its effect on the period grid: a unit given a non-zero PER in place of 0 is
armed as at an enable; PER = 0 ends the periods. -/
def State.edgeTransfer (s : State) (p : Nat) : State :=
  let old := s.edgePer p
  let s1 := s.commitTransfer (0x100 + p)
  if s1.edgeOn p ∧ s1.edgeMode p = 2 then
    if s1.edgePer p = 0 then
      let s2 := s1.setEdge p { s1.edgeUnit p with pwmStart := none, pwmNext := none }
      if old = 0 then s2 else s2.edgeToIdle p
    else if old = 0 then s1.pwmArm p else s1
  else s1

/-- A PWM period boundary: the update event of the page, at which a pending commit transfers. -/
def State.pwmPeriodStart (s : State) (p : Nat) : State :=
  if s.edgeOn p ∧ s.edgeMode p = 2 then
    match (s.edgeUnit p).pwmNext with
    | none => s
    | some n =>
      let s1 := (s.pwmFinish p).reach n
      let s2 := if s1.commitPending (0x100 + p) then s1.edgeTransfer p else s1
      if s2.edgePer p = 0 then s2
      else s2.setEdge p { s2.edgeUnit p with
        pwmStart := some n, pwmNext := some (n + BitVec.ofNat 72 (s2.edgePer p)), riseDone := false, fallDone := false }
  else s

/-- A commit of an EDGE page transfers at the period end while periods run, and else at once (R184). -/
def State.edgeCommit (s : State) (p : Nat) : State :=
  if !s.commitPending (0x100 + p) then s
  else if s.edgeOn p ∧ s.edgeMode p = 2 ∧ (s.edgeUnit p).pwmNext.isSome then s.pwmPeriodStart p
  else s.edgeTransfer p

/-! ### Enable and disable (R180, R183) -/

/-- ENABLE of an EDGE page has changed from 0 to 1. -/
def State.edgeStarts (s : State) (p : Nat) : State :=
  let u := s.edgeUnit p
  let s1 := s.setEdge p { u with
    level := if s.edgeMode p = 0 then u.level else s.edgeIdle p
    headLate := match u.queue with | q :: _ => u.headLate || laterThan s.time.now q.time | [] => false }
  if s.edgeMode p = 2 then s1.pwmArm p else s1

/-- ENABLE of an EDGE page is written 0: the queue empties, though the unit was disabled before (R180). -/
def State.edgeEmpty (s : State) (p : Nat) : State := s.setEdge p { s.edgeUnit p with queue := [], headLate := false }

/-- ENABLE of an EDGE page has changed from 1 to 0: a pending commit transfers (R45), the queue empties, PWM stops and
the pad goes to IDLE_LVL. -/
def State.edgeStops (s : State) (p : Nat) : State :=
  let s0 := if s.commitPending (0x100 + p) then s.commitTransfer (0x100 + p) else s
  let s1 := s0.setEdge p { s0.edgeUnit p with
    queue := [], headLate := false, pwmStart := none, pwmNext := none, riseDone := false, fallDone := false }
  s1.edgeToIdle p

/-! ### Capture (R186) -/

/-- Does the capture unit of pin p record edges of this kind? -/
def State.capSelects (s : State) (p : Nat) (falling : Bool) : Bool :=
  s.rb (aEDGE p 0x20) 21 && s.rb (aEDGE p 0x20) (if falling then 23 else 22)

/-- An edge at the pad of pin p, at the present instant. -/
def State.captureEdge (s : State) (p : Nat) (falling : Bool) : State :=
  if s.capSelects p falling then
    let u := s.edgeUnit p
    let tooSoon : Bool := match u.lastCapture with | some e => shortSpacing s.time.now e | none => false
    if tooSoon ∨ 16 ≤ u.captures.length then
      ((s.setEdge p { u with captureLost := true }).satAdd (aEDGE p 0x5C) 31 0 1).edgeErr p 18
    else
      let c : Capture :=
        { time := s.time.now - s.inOfs p, falling := falling, quality := s.quality, lost := u.captureLost }
      let s1 := s.setEdge p { u with
        captures := u.captures ++ [c], lastCapture := some s.time.now, captureLost := false }
      if u.captures.isEmpty ∧ s.rb (aEDGE p 0x20) 20 then s1.raiseAt (128 + p / 4) s.time.now else s1
  else s

/-- The words CAP_LO, CAP_HI and CAP_INFO of a capture. -/
def Capture.words (c : Capture) : Word × Word × Word :=
  (BitVec.ofNat 32 (nsOf c.time), BitVec.ofNat 32 (nsOf c.time / 2 ^ 32),
   BitVec.ofNat 32 (2 ^ 31 + c.lost.toNat * 2 ^ 30 + (c.quality % 16) * 2 ^ 24 + c.falling.toNat * 2 ^ 16 + fracOf c.time))

/-- A read of CAP_LO takes the head capture; an empty FIFO gives zeros. -/
def State.captureTake (s : State) (p : Nat) : (Word × Word × Word) × State :=
  let u := s.edgeUnit p
  match u.captures with
  | [] => ((0, 0, 0), s)
  | c :: t => (c.words, s.setEdge p { u with captures := t })

/-- The output of unit p: a generated clock, whatever the unit's own MODE (R196); in BYPASS, while it is enabled, the output tap that PSEL names
(R177, R337); and otherwise the level of its last edge, or IDLE_LVL (R179, R180). `none` where nothing fixes the tap, or the unit is under case 1 or 2 of R56. -/
def State.edgeOut (s : State) (p : Nat) : Option Bool :=
  let w := s.reg (pg 0x520 (0x100 + 4 * p))
  match s.genDriver p with
  | some k => some (s.genLevel k (s.time.now - s.outOfs p))
  | none =>
    if s.isUndefined (0x100 + p) 0xFFFF then none
    else if s.edgeOn p && s.edgeMode p == 0 then s.wire (.dest (fld w 28 22) (2688 + fld w 21 16)) else some (s.edgeUnit p).level

/-- The STAT register of an EDGE page (R179). -/
def State.edgeStat (s : State) (p : Nat) : Word :=
  let u := s.edgeUnit p
  BitVec.ofNat 32 (u.queue.length * 2 ^ 27 + u.captures.length * 2 ^ 22 + u.line.toNat * 2 ^ 21 + u.calValid.toNat * 2 ^ 20
    + u.calLate.toNat * 2 ^ 19 + (s.edgeOut p == some true).toNat * 2 ^ 18)

/-! ### Calibration (R188 to R191) -/

def State.calEngine (s : State) (i : Nat) : CalEngine := SMap.get (fun _ => {}) s.cal i
def State.setCal (s : State) (i : Nat) (c : CalEngine) : State := { s with cal := SMap.set (fun _ => {}) s.cal i c }

/-- The AGE register of pin p (R191). -/
def State.edgeAge (s : State) (p : Nat) : Word :=
  let u := s.edgeUnit p
  let ms := match u.calAt with
    | some t => min 65535 ((s.time.now - t).toNat / (256 * 1000000))
    | none => 0
  BitVec.ofNat 32 (u.line.toNat * 2 ^ 16 + ms)

/-- Begin a background cycle of engine i. -/
def State.calBegin (s : State) (i : Nat) : State :=
  (s.setCal i { active := true, handled := 0, due := false, startedAt := some s.time.now }).setF (aCAL i 0x24) 21 16 0

/-- CYCLE_MS of engine i, within its limits. -/
def State.calPeriod (s : State) (i : Nat) : Nat := min 1000 (max 26 (s.rf (aCAL i 0x20) 15 0))

/-- A background cycle of engine i falls due, CYCLE_MS after the start of the one before, or starts if that one has finished. -/
def State.calCycleStart (s : State) (i : Nat) : State :=
  if !s.rb (aCAL i 0x20) 16 ∨ !s.rb (aCAL i 0x24) 31 then s
  else
    let s1 := match (s.calEngine i).startedAt with
      | some t => s.reach (t + ns (1000000 * s.calPeriod i))
      | none => s
    if (s1.calEngine i).active then s1.setCal i { s1.calEngine i with due := true } else s1.calBegin i

/-- The pins of engine i. -/
def calPins (i : Nat) : List Nat := (List.range 64).map (· + 64 * i)

/-- One more background cycle has passed for pin p; its line in service is overdue after CAL_LATE_N cycles. -/
def State.calAgePin (s : State) (p : Nat) : State :=
  let u := s.edgeUnit p
  let lim := max 1 (s.rf (aCAL (p / 64) 0x20) 31 24)
  let late := lim < u.calCycles + 1
  let s1 := s.setEdge p { u with calCycles := u.calCycles + 1, calLate := u.calLate || late }
  if late then s1.edgeErr p 19 else s1

/-- A background cycle of engine i ends when all 64 pins have been handled and no swap is armed. -/
def State.calFinish (s : State) (i : Nat) : State :=
  let c := s.calEngine i
  if c.active ∧ 64 ≤ c.handled ∧ (calPins i).all fun p => (s.edgeUnit p).armed.isNone then
    let s1 := (s.setCal i { c with active := false, due := false }).wrapAdd (aCAL i 0x24) 15 0 1
    let s2 := if i = 0 then s1.raise 92 else s1
    let s3 := (calPins i).foldl State.calAgePin s2
    if c.due && s.rb (aCAL i 0x20) 16 then s3.calBegin i else s3
  else s

/-- The calibration of the idle line of pin p completes, or fails. A line that has failed stays out of service. -/
def State.lineCalDone (s : State) (p : Nat) (ok : Bool) : State :=
  let i := p / 64
  let c := s.calEngine i
  if !c.active ∨ c.handled ≠ p % 64 then s
  else
    let s1 := (s.setCal i { c with handled := c.handled + 1 }).setF (aCAL i 0x24) 21 16 (min 63 (c.handled + 1))
    let u := s1.edgeUnit p
    if !ok then ((s1.setEdge p { u with idleFailed := true }).setErr (0x210 + i) 16).calFinish i
    else if u.idleFailed then s1.calFinish i
    else (s1.setEdge p { u with armed := some s1.time.now }).calFinish i

/-- The output edges of unit p about the present instant: the last one placed, those of its queue, of this PWM period and the next, and of a
generated clock. -/
def State.outEdges (s : State) (p : Nat) : List DevTime :=
  let u := s.edgeUnit p
  let period (st : Option DevTime) (v : Nat → Word) : List DevTime :=
    match st with
    | some b => ([v 0x34, v 0x38].filter fun w => w < v 0x30).map fun w => b + BitVec.ofNat 72 w.toNat
    | none => []
  let own : List DevTime := match s.genDriver p with
    | some k =>
      let t := s.time.now - s.outOfs p - ns 3
      (s.genEdge k false t).toList ++ (s.genEdge k true t).toList
    | none =>
      if !s.edgeOn p then [] else match s.edgeMode p with
        | 1 => u.queue.map (·.time)
        | 2 => period u.pwmStart (fun o => s.reg (aEDGE p o)) ++
            period u.pwmNext (fun o => if s.commitPending (0x100 + p) then s.shadow (aEDGE p o) else s.reg (aEDGE p o))
        | _ => []
  u.lastEdge.toList ++ own.map (· + s.outOfs p)

/-- The swap of pin p is abandoned: the line in service stays (R189). -/
def State.swapDrop (s : State) (p : Nat) : State := (s.setEdge p { s.edgeUnit p with armed := none }).calFinish (p / 64)

/-- The new line takes over at a boundary with no output edge within 2 ns of it; 1 ms after t0 the swap is abandoned. The present instant is taken
as the boundary (log 99). PAGE_ERR.CAL_LATE, which is sticky and cleared by writing 1 as the other bits are, clears at the swap too (log 98). -/
def State.lineSwap (s : State) (p : Nat) : State :=
  let u := s.edgeUnit p
  match u.armed with
  | none => s
  | some t =>
    if laterThan s.time.now (t + ns 1000000) then s.swapDrop p
    else if (s.outEdges p).any fun e => (e - s.time.now).toNat ≤ 512 || (s.time.now - e).toNat ≤ 512 then s
    else
      let s1 := s.setEdge p { u with
        armed := none, line := !u.line, calValid := true, calLate := false, calAt := some s.time.now, calCycles := 0 }
      (s1.setB (pg (0x100 + p) 0x00C) 19 false).calFinish (p / 64)

/-- No boundary was found within 1 ms: the swap is abandoned and the line in service stays. -/
def State.swapAbandon (s : State) (p : Nat) : State :=
  let u := s.edgeUnit p
  match u.armed with
  | none => s
  | some t => (s.reach (t + ns 1000000)).swapDrop p

/-- The boot calibration of all pins of page i completes; background cycles begin (R190). -/
def State.bootCalDone (s : State) (i : Nat) : State :=
  if s.rb (aCAL i 0x24) 31 ∨ !s.time.running then s
  else
    let s1 := (calPins i).foldl
      (fun t p => t.setEdge p { t.edgeUnit p with calAt := some t.time.now, calValid := false, calCycles := 0 }) s
    let s2 := s1.setB (aCAL i 0x24) 31 true
    if s2.rb (aCAL i 0x20) 16 then s2.calBegin i else s2

end Sys2Proof.Machine
end

