-- ==== Sys2Proof/Machine/Pads.lean ====
section
/-! DEFINITION. What each pad does, and the level at each ball (R333 to R338). -/

namespace Sys2Proof.Machine

/-! ### Registers -/

def aPSEL (n : Nat) : Nat := pg 0x520 (0x100 + 4 * n)

def aPCFG (n : Nat) : Nat := pg 0x521 (0x100 + 4 * n)
def aPAD (n : Nat) : Nat := aIOB (n / 32) (0x100 + 4 * (n % 32))

def State.pinHoldVal (s : State) (n : Nat) : Nat := s.rf (aPCFG n) 17 16

/-- Pin n is the second of a differential pair that acts (R336): the declared VCCIO is 1.8 V or 2.5 V. -/
def State.diffSecond (s : State) (n : Nat) : Bool :=
  n % 2 == 1 && s.rb (aPAD (n - 1)) 8 && (s.rf (aIOB (n / 32) 0x20) 1 0 == 1 || s.rf (aIOB (n / 32) 0x20) 1 0 == 2)

/-! ### The pad -/

/-- The pad under a PARK or HOLD code (R340): 0 HIZ, 1 LOW, 2 HIGH, 3 HIZ_PD. -/
def padHold (h : Nat) : Pad :=
  match h with
  | 1 => .drive false
  | 2 => .drive true
  | 0 => .off
  | _ => .offDown

/-- OE_MODE (R337) on data d and the OE tap. -/
def padDriver (mode : Nat) (oe d : Option Bool) : Option Pad :=
  match mode with
  | 0 => match oe with
    | some true => d.map .drive
    | some false => some .off
    | none => none
  | 1 => d.map .drive
  | 2 => d.map fun b => if b then .off else .drive false
  | _ => some .off

/-- The data of the source PSEL names (R337); `none` where nothing fixes the level. -/
def State.pinData (s : State) (n : Nat) (w : Word) : Option Bool :=
  let b := fld w 28 22
  let tap := s.wire (.dest b (2688 + fld w 21 16))
  match fld w 31 29 with
  | 2 => tap
  | 3 => s.edgeOut n
  | 4 =>
    let c := s.reg (aIOCFG n)
    if bit c 7 && (fld c 9 8 == 1 || fld c 9 8 == 2) then some (s.pinState n).bank.o else tap
  | _ => some false

/-- What the pad does in row 10. -/
def State.padSource (s : State) (n : Nat) (w : Word) : Option Pad :=
  let k := fld w 31 29
  if k = 1 then some (padHold (s.pinHoldVal n))
  else if k = 2 ∨ (k = 3 ∧ n < 256) ∨ (k = 4 ∧ 256 ≤ n) then
    padDriver (fld w 9 8) (s.wire (.dest (fld w 28 22) (2752 + fld w 21 16))) (s.pinData n w)
  else some .off

/-- What the pad of pin n does now, the second pin of a pair apart; `none` where nothing fixes it. -/
def State.padOne (s : State) (n : Nat) : Option Pad :=
  let p := s.pinState n
  match p.park with
  | some 3 => some (padHold (s.pinHoldVal n))
  | some k => some (if k = 0 then .off else padHold k)
  | none =>
    match p.now.row with
    | 1 => if s.pins.scan.ir = 5 then some .off
           else match SMap.get (fun _ => (false, false)) s.pins.scan.cell n with
             | (true, d) => some (.drive d)
             | (false, _) => some .off
    | 2 => some .offDown
    | 3 => some .unpowered
    | 4 => some .off
    | 5 => some .off
    | 10 => s.padSource n p.now.psel
    | _ => some (padHold (s.pinHoldVal n))

/-- What the pad of pin n does now. Pin j + 1 of a differential pair follows pin j as its complement (R336, log 24). -/
def State.pad (s : State) (n : Nat) : Option Pad :=
  if s.diffSecond n then
    match s.padOne (n - 1) with
    | some (.drive d) => some (.drive (!d))
    | r => r
  else s.padOne n

/-! ### The level at the ball (R334, R337) -/

/-- The level at the ball of pin n, the second pin of a pair apart, where the drivers, the board and PAD.PULL fix it. It is
open against the board's own driver, at a ball nothing drives without a pull, and under a keeper (log 57). -/
def State.ballOne (s : State) (n : Nat) : Option Bool :=
  match s.pad n, (s.pinState n).board with
  | none, _ => none
  | some (.drive d), none => some d
  | some (.drive d), some b => if b = d then some d else none
  | some _, some b => some b
  | some .offDown, none => some false
  | some _, none => match s.rf (aPAD n) 1 0 with
    | 1 => some false
    | 2 => some true
    | _ => none

/-- The input of pin n: the level at the ball, 0 in a bank without power (R334); the second pin of a pair reads the
complement of the first (R336). -/
def State.pinLevel (s : State) (n : Nat) : Option Bool :=
  if s.rf (aIOB (n / 32) 0x24) 2 0 = 0 then some false
  else if s.diffSecond n then (s.ballOne (n - 1)).map (!·) else s.ballOne n

/-- The input of pin n, drawn free where nothing fixes it. -/
def State.pinInput (s0 : State) (n : Nat) (s : State) : Bool × State :=
  match s0.pinLevel n with
  | some v => (v, s)
  | none => s.freeBool

/-- IN_LVL of bank b (R336): the bits that are fixed, and those that are open. -/
def State.inLvl (s : State) (b : Nat) : Word × Word :=
  let bits (f : Option Bool → Bool) : Word :=
    BitVec.ofNat 32 ((List.range 32).foldl (fun acc j => acc + (f (s.pinLevel (32 * b + j))).toNat * 2 ^ j) 0)
  (bits (· == some true), bits (·.isNone))

end Sys2Proof.Machine
end

