-- ==== Sys2Proof/Machine/Fabric.lean ====
section
/-! DEFINITION. What moves the fabric: clock edges (R65, R156, R193), the handshake of a bough (R97 to R114), channels (R160, R161), the cadence counter (R111), hold, release and isolation (R68, R87, R112 to R116). -/

namespace Sys2Proof.Machine

/-! ### Asynchronous set and reset -/

/-- The leaves that can differ from 0: those with a setting, and those with a 1. -/
def Bough.liveLeaves (x : Bough) : List Nat := (x.cfg.leaf.map (·.1) ++ x.q.map (·.1)).eraseDups

/-- An asynchronous SR line acts on leaf l of bough b: not under GLOBAL_HOLD (R69), nor on the closed latches of a twig without a controller
(R97). -/
def State.asyncActs (s : State) (b l : Nat) : Bool :=
  !s.held b && !(s.handshake b && !((s.bough b).cfg.twigAt (l / 16)).ctl.en)

/-- Every leaf whose asynchronous SR line reads 1 takes SR_VAL at once, whatever clock and enable (R65, R102). -/
def State.absorbAsync (s0 : State) : State :=
  s0.fabric.boughs.foldl (fun t e => e.2.liveLeaves.foldl (fun u l =>
    let v := (e.2.cfg.leafAt l).srVal
    if !s0.asyncActs e.1 l || e.2.qAt l == v then u
    else
      let (on, w) : Bool × State := match asyncSr e.2.cfg e.1 l s0.wire with | some x => (x, u) | none => u.freeBool
      if on then w.updBough e.1 fun y => y.setQ l v else w) t) s0

/-- Loops and asynchronous lines settle together. Each pass that changes a leaf ends one leaf's change, so the passes end. -/
def State.settleLevels (fuel : Nat) (s : State) : State :=
  match fuel with
  | 0 => s
  | k + 1 =>
    let t := s.settleLoops.absorbAsync
    if t.fabric.boughs = s.fabric.boughs then t else State.settleLevels k t

def State.levels (s : State) : State := s.settleLevels (2 + (s.fabric.boughs.map fun e => e.2.liveLeaves.length).sum)

/-! ### What watches the wires -/

/-- EVENT up cells of a handshake bough launch at each rising edge of their input (R156). An input that reads 1 as GLOBAL_HOLD is released counts as one:
R69 holds it at 0 until then (DESIGN CHOICE, log 120). -/
def State.upRise (s : State) (b : Nat) : State :=
  let x := s.bough b
  x.cfg.up.foldl (fun t e =>
    if e.2.mode.toNat == 2 && (x.cfg.upOwner e.1).isNone then
      let (v, t1) := s.wireBit (.bough b (x.cfg.upSel e.1)) t
      t1.updBough b fun y =>
        let was := SMap.get (fun _ => false) y.upSeen e.1
        { y with
          upSeen := SMap.set (fun _ => false) y.upSeen e.1 v
          upToggle := if v && !was then SMap.set (fun _ => false) y.upToggle e.1 (!SMap.get (fun _ => false) y.upToggle e.1) else y.upToggle }
    else t) s

/-- A fabric event line arrives at down cell u of bough b (R162). -/
def State.lineAt (s : State) (b u : Nat) : Bool :=
  s.fabric.place.lineCell.any fun e => e.2 == u + 1 && SMap.get (fun _ => 0) s.fabric.place.line e.1 == b

/-- Down cell u of bough b counts the changes of what it receives (R155). -/
def State.countsEvents (s : State) (b u : Nat) : Bool :=
  (SMap.get (fun _ => {}) (s.bough b).cfg.down u : CellCfg).mode == 2 && ((s.bough b).cfg.downOwner u).isNone && s.tmode b == 1 &&
    !s.held b && !s.lineAt b u

/-- Each EVENT down cell takes note of a change of its input: `flight` counts those that have not arrived yet. With `fresh` it takes the level
that stands there as no change. -/
def State.watchEvents (s0 : State) (fresh : Bool) (b : Nat) (s : State) : State :=
  (s0.bough b).cfg.down.foldl (fun t e =>
    if !s0.countsEvents b e.1 then t
    else
      let (v, t1) : Bool × State := match trunkValue s0 b e.1 s0.wire with | some v => (v, t) | none => t.freeBool
      t1.updBough b fun y =>
        let c := y.syncAt e.1
        y.setSync e.1 (if v = c.input then c else { c with input := v, flight := if fresh then c.flight else c.flight + 1 })) s

/-- PITCH_GNT has fallen at the lead of a cascade that was granted a pitch: it may be granted another (R131). -/
def State.watchGrants (s0 : State) (b : Nat) (s : State) : State :=
  (s0.bough b).bram.foldl (fun t e =>
    if !e.2.granted then t
    else
      let (g, t1) := s0.wireBit (.dest b (1024 + 128 * e.1 + 124)) t
      if g then t1 else t1.updBough b fun y => y.setBram e.1 { y.bramAt e.1 with granted := false }) s

/-- What follows a change of the wires at once: loops and asynchronous lines settle, and the cells that watch a wire see it. -/
def State.propagate (s : State) : State :=
  let s1 := s.levels
  let bs := s1.fabric.boughs.map (·.1)
  let s2 := bs.foldl (fun t b => if s1.handshake b && !s1.held b then t.upRise b else t) s1
  bs.foldl (fun t b => s2.watchGrants b (s2.watchEvents false b t)) s2

/-! ### One active edge -/

/-- A LEVEL synchroniser at a receiving edge: a change taken at E1 shows at E2, or at E3 when the edge E1 missed it. -/
def SyncCell.level (c : SyncCell) (input late : Bool) : SyncCell :=
  if input = c.sample then { c with out := c.sample, missed := false }
  else if late && !c.missed then { c with out := c.sample, missed := true }
  else { c with out := c.sample, sample := input, missed := false }

/-- An EVENT synchroniser at a receiving edge: a pulse of one cycle begins at E2 or E3 (R156). -/
def SyncCell.event (c : SyncCell) : SyncCell := { c with out := c.pend == 1, pend := c.pend - 1 }

/-- An arrival at an EVENT cell; the choice of E2 or E3 is free. -/
def SyncCell.arrive (c : SyncCell) (late : Bool) : SyncCell := { c with pend := if late then 3 else 2 }

/-- The flip-flops of bough b clocked by one of the edges take their next values (R65); under case 4 of R56 they take any. -/
def State.leafEdge (s0 : State) (b : Nat) (act : Nat → Bool → Bool) (s : State) : State :=
  let x := s0.bough b
  x.liveLeaves.foldl (fun t l =>
    let w := x.cfg.twigAt (l / 16)
    if !act w.clkSel.toNat w.falling then t
    else match (if s0.clockBroken b then none else leafNext x.cfg b l (x.qAt l) s0.wire) with
      | some v => t.updBough b fun y => y.setQ l v
      | none => let (v, u) := t.freeBool
                u.updBough b fun y => y.setQ l v) s

/-- The down cells of bough b that can act at an edge: those with a setting or a route; and all, where the route that none names comes from a
handshake bough. -/
def State.downCells (s : State) (b : Nat) : List Nat :=
  let k := (s.bough b).cfg
  if s.handshake 0 then List.range 256 else (k.down.map (·.1) ++ k.trunk.map (·.1)).eraseDups

/-- The receiving side of the boundary cells and input taps of bough b clocked by a rising edge (R156, R338). -/
def State.cellEdge (s0 : State) (b : Nat) (act : Nat → Bool → Bool) (s : State) : State :=
  let x := s0.bough b
  let levelAt (t : State) (k : Nat) (inp : Option Bool) : State :=
    let (v, t1) := match inp with | some v => (v, t) | none => t.freeBool
    let c := x.syncAt k
    let (late, t2) := if v = c.sample then (false, t1) else t1.freeBool
    t2.updBough b fun y => y.setSync k (c.level v late)
  let s1 := (s0.downCells b).foldl (fun t u =>
    if !act (SMap.get (fun _ => {}) x.cfg.down u : CellCfg).clk.toNat false then t
    else match s0.downMode b u with
      | 1 => levelAt t u (trunkValue s0 b u s0.wire)
      | 2 => t.updBough b fun y => y.setSync u (x.syncAt u).event
      | _ => t) s
  x.cfg.itap.foldl (fun t e =>
    let n := e.2.pin.toNat
    if act e.2.clk.toNat false && e.2.mode != 3 && n < 640 && (s0.tapWord b e.2).isNone then
      levelAt t (256 + e.1) (if e.2.mode == 0 || s0.inputReg n == 0 then s0.pinLevel n
        else some (if e.2.mode == 1 then (s0.pinState n).bank.q0 else (s0.pinState n).bank.q1))
    else t) s1

/-- EVENT up cells of bough b launch at each rising edge of UCLK at which their input reads 1 (R156). -/
def State.upEdge (s0 : State) (b : Nat) (act : Nat → Bool → Bool) (s : State) : State :=
  let x := s0.bough b
  x.cfg.up.foldl (fun t e =>
    if act e.2.clk.toNat false && e.2.mode.toNat == 2 && (x.cfg.upOwner e.1).isNone then
      let (v, t1) := s0.wireBit (.bough b (x.cfg.upSel e.1)) t
      if v then t1.updBough b fun y =>
        { y with upToggle := SMap.set (fun _ => false) y.upToggle e.1 (!SMap.get (fun _ => false) y.upToggle e.1) }
      else t1
    else t) s

/-- The acknowledge of each outgoing channel passes its synchroniser (R160): RDY rises at E2 or E3. -/
def State.ackEdge (s0 : State) (b : Nat) (act : Nat → Bool → Bool) (ackOf : Nat → Option Bool) (s : State) : State :=
  let x := s0.bough b
  x.cfg.och.foldl (fun t e =>
    if e.2.en && act e.2.clk.toNat false then
      let c := (x.ochAt e.1).ack
      let (v, t0) : Bool × State := match ackOf e.1 with | some v => (v, t) | none => t.freeBool
      let (late, t1) := if v = c.sample then (false, t0) else t0.freeBool
      t1.updBough b fun y => y.setOch e.1 { y.ochAt e.1 with ack := c.level v late }
    else t) s

/-! ### Channels: the two ends of a trunk route (R159) -/

/-- The acknowledge level that reaches outgoing channel c of bough b: constant 0 where another channel has the wire. -/
def State.ackLevel (s : State) (b c : Nat) : Option Bool :=
  let x := s.bough b
  if x.cfg.downOwner (x.cfg.ochAt c).ack.toNat = some (.ack c) then trunkValue s b (x.cfg.ochAt c).ack.toNat s.wire else zero3

/-- The slot port whose output words enter bough b by its incoming channel c (R215). -/
def State.slotAt (s : State) (b c : Nat) : Option Nat :=
  (List.range 4).find? fun q =>
    SMap.get (fun _ => 0) s.fabric.place.slotChan q == c + 1 && SMap.get (fun _ => 0) s.fabric.place.slotPort q == b

/-- The request level that reaches incoming channel c of bough b. A slot port that is held requests nothing. -/
def State.reqLevel (s : State) (b c : Nat) : Option Bool :=
  let x := s.bough b
  if let some q := s.slotAt b c then
    some (if s.loop.held.contains q then (x.ichAt c).ack else SMap.get (fun _ => false) s.loop.slotReq q)
  else if x.cfg.downOwner (x.cfg.ichAt c).req.toNat = some (.req c) then trunkValue s b (x.cfg.ichAt c).req.toNat s.wire else zero3

/-- Wire j of a channel's data. -/
def ChanCfg.dataWire (k : ChanCfg) (j : Nat) : Nat := (k.dbase.toNat + j) % 256

/-- A word whose bits are levels, a free value for each that nothing fixes. -/
def State.gather (level : Nat → Option Bool) (n : Nat) (s : State) : BitVec 64 × State :=
  let (w, t) := (List.range n).foldl (fun (acc : Nat × State) j =>
    let (v, t) : Bool × State := match level j with | some v => (v, acc.2) | none => acc.2.freeBool
    (acc.1 + (if v then 2 ^ j else 0), t)) (0, s)
  (BitVec.ofNat 64 w, t)

/-- The word on the up wires of outgoing channel c. -/
def State.upWord (s0 : State) (b c : Nat) (s : State) : BitVec 64 × State :=
  let k := (s0.bough b).cfg
  let o := k.ochAt c
  State.gather (fun j => if k.upOwner (o.dataWire j) = some (.bit c j) then s0.wire (.bough b (k.upSel (o.dataWire j))) else zero3)
    (o.w.toNat + 1) s

/-- The word that reaches incoming channel c over the trunk routes of its data wires. -/
def State.downWord (s0 : State) (b c : Nat) (s : State) : BitVec 64 × State :=
  let k := (s0.bough b).cfg
  let i := k.ichAt c
  State.gather (fun j => if let some q := s0.slotAt b c then some ((SMap.get (fun _ => 0) s0.loop.slotWord q).getLsbD j)
    else if k.downOwner (i.dataWire j) = some (.bit c j) then trunkValue s0 b (i.dataWire j) s0.wire else zero3)
    (i.w.toNat + 1) s

/-- Outgoing channel c takes the word on its up wires and sends one transition of the request. -/
def State.sendWord (s0 : State) (b c : Nat) (s : State) : State :=
  let (w, t) := s0.upWord b c s
  t.updBough b fun x => x.setOch c { x.ochAt c with req := !(x.ochAt c).req, word := w }

/-! ### Fabric output slots (R215, R233) -/

/-- The acknowledge that slot port q sees: that of the incoming channel its words enter by. -/
def State.slotAck (s : State) (q : Nat) : Bool :=
  ((s.bough (SMap.get (fun _ => 0) s.fabric.place.slotPort q)).ichAt (SMap.get (fun _ => 0) s.fabric.place.slotChan q - 1)).ack

/-- The channel word of output slot i. -/
def State.slotOutWord (s : State) (i : Nat) : BitVec 64 :=
  let v := SMap.get (fun _ => ({} : Slot)) s.loop.slotsOut i
  BitVec.ofNat 64 (scode 48 v.value + i % 64 * 2 ^ 48 + v.valid.toNat * 2 ^ 63)

/-- Slot port q sends the newest value of the slot that has waited longest, once the fabric has taken the word before it. A held port sends
nothing. -/
def State.slotSend (s : State) (q : Nat) : State :=
  let req := SMap.get (fun _ => false) s.loop.slotReq q
  match s.loop.slotsWaiting.find? (fun i => i / 64 == q) with
  | some i =>
    if s.loop.held.contains q || SMap.get (fun _ => 0) s.fabric.place.slotChan q == 0 || req != s.slotAck q then s
    else ({ s with loop := { s.loop with
      slotReq := SMap.set (fun _ => false) s.loop.slotReq q (!req)
      slotWord := SMap.set (fun _ => 0) s.loop.slotWord q (s.slotOutWord i)
      slotsWaiting := s.loop.slotsWaiting.erase i } }).propagate
  | none => s

/-- The channel of slot port q is empty: its request stands at the level acknowledged, and its receiving end holds no word. -/
def State.slotIdle (s : State) (q : Nat) : State :=
  let s1 := { s with loop := { s.loop with slotReq := SMap.set (fun _ => false) s.loop.slotReq q (s.slotAck q) } }
  match SMap.get (fun _ => 0) s.fabric.place.slotChan q with
  | 0 => s1
  | c + 1 => s1.updBough (SMap.get (fun _ => 0) s.fabric.place.slotPort q) fun x =>
      x.setIch c { x.ichAt c with seen := (x.ichAt c).ack, valid := false, next := none }

/-- A slot port is held: a word that the fabric has not taken is withdrawn, and waits again. -/
def State.slotRecall (s : State) (q : Nat) : State :=
  let i := 64 * q + (SMap.get (fun _ => 0) s.loop.slotWord q).toNat / 2 ^ 48 % 64
  let late := SMap.get (fun _ => false) s.loop.slotReq q != s.slotAck q
  ({ s with loop := { s.loop with
    slotsWaiting := if late && !s.loop.slotsWaiting.contains i then i :: s.loop.slotsWaiting else s.loop.slotsWaiting } }).slotIdle q

/-! ### The handshake (R97 to R103) -/

/-- The settings of controller or wrapper j; a wrapper always runs (R120). -/
def BoughCfg.stageAt (c : BoughCfg) (j : Nat) : StageCfg :=
  if j < 256 then (c.twigAt j).ctl
  else if j < 296 then { (c.bramAt (j - 288)).stage with en := true }
  else { (c.macAt (j - 296)).stage with en := true }

/-- The request inputs a stage uses: all but code 511. -/
def StageCfg.inputs (c : StageCfg) : List Nat := ((List.range 4).map fun i => (c.rin.getD i 0).toNat).filter (· ≠ 511)

/-- The stages of a bough whose controller runs. -/
def BoughCfg.stages (c : BoughCfg) : List Nat :=
  ((List.range 256).filter fun t => (c.twigAt t).ctl.en) ++ (List.range 12).map (288 + ·)

/-- The request level of RIN_SEL code r at stage j (R97). -/
def State.request (s : State) (b j r : Nat) : Bool :=
  let x := s.bough b
  if r < 256 then r ≠ j && (x.cfg.twigAt r).ctl.en && (x.stageAt r).rout
  else if r < 288 then (x.cfg.ichAt (r - 256)).en && (x.ichAt (r - 256)).valid
  else if r < 300 then r ≠ j && (x.stageAt r).rout else false

/-- The stages that name code r among their inputs. -/
def BoughCfg.successors (c : BoughCfg) (r : Nat) : List Nat := c.stages.filter fun k => k ≠ r && (c.stageAt k).inputs.contains r

/-- The acknowledges joined into AOUT of stage j: those of its successors and of its outgoing channels (R98, R161). -/
def State.acks (s : State) (b j : Nat) : List Bool :=
  let x := s.bough b
  let chans := (List.range 32).filter fun c => (x.cfg.ochAt c).en && (x.cfg.ochAt c).src.toNat == j
  (x.cfg.successors j).map (fun k => (x.stageAt k).ain) ++
    chans.map fun c => (x.stageAt j).rout && !(x.ochAt c).lower && s.ackLevel b c == some (x.ochAt c).req

/-- A join: it rises when every input is 1 and falls when every input is 0 (R99). -/
def joinLevel (prev : Bool) (l : List Bool) : Bool :=
  if l.isEmpty then false else if l.all id then true else if l.all (!·) then false else prev

/-- No controller of the bough starts a pulse (R112, R113, R114). -/
def State.frozen (s : State) (b : Nat) : Bool :=
  !s.pageEnable (0x040 + b) || (s.bough b).holdFreeze || s.held b

def aHS_CTL (b : Nat) : Nat := aBOUGH b 0x24
def aHS_STAT (b : Nat) : Nat := aBOUGH b 0x28

/-- Case 5 of R56 is in force on bough b. -/
def State.delayBroken (s : State) (b : Nat) : Bool := s.regs.undefined.contains (5, 0x040 + b, 0xFFFF)

/-- The nominal delay in ps of the request route of code r to stage j (R100, R106, R139). -/
def requestRoute (j r : Nat) : Nat := if j < 256 ∧ r < 256 ∧ j / 16 = r / 16 then 620 else 1240

/-- Stage j meets its bundling condition for every request input (R106, R139). -/
def State.delayMet (s : State) (b j : Nat) : Bool :=
  let c := (s.bough b).cfg
  let k := c.stageAt j
  (List.range 4).all fun i =>
    let r := (k.rin.getD i 0).toNat
    r == 511 || decide (1062 * SMap.get (fun _ => 0) c.guarded (4 * j + i) ≤
      1000 * (35 * (k.dly.toNat + s.rf (aHS_CTL b) 17 16) + requestRoute j r + (if j < 256 then 240 else 200)))

/-- A stage whose matched delay is shorter than the path it guards puts its bough under case 5 until the grove is reloaded. -/
def State.tryDelays (s : State) (b : Nat) : State :=
  if s.handshake b && !s.held b && !(s.bough b).cfg.stages.all (s.delayMet b) then s.markUndefined 5 (0x040 + b) 0xFFFF else s

/-- The latches of twig t take their inputs (R101): the pulse of LE is one step. A latch fed by another of its own twig takes the value from before the
pulse: tCO and a twig route outlast LE (R79, R104, R105). In a bough under case 5 they take any. -/
def State.captureTwig (s0 : State) (b t : Nat) (s : State) : State :=
  let x := s0.bough b
  (List.range 16).foldl (fun u i =>
    let l := 16 * t + i
    if (x.cfg.leafAt l).ceSel = 3 then u
    else match (if s0.delayBroken b then none else latchNext x.cfg b l (x.qAt l) s0.wire) with
      | some v => u.updBough b fun y => y.setQ l v
      | none => let (v, w) := u.freeBool
                w.updBough b fun y => y.setQ l v) s

/-- The outgoing channels of stage j send their word as ROUT rises (R161). One whose request is still to be lowered sends it after that. -/
def State.sendFrom (s : State) (b j : Nat) : State :=
  (List.range 32).foldl (fun t c =>
    let o := (s.bough b).cfg.ochAt c
    if o.en && o.src.toNat == j && !((s.bough b).ochAt c).lower then s.sendWord b c t else t) s

/-- The receivers of the request wire of outgoing channel c of bough b. -/
def State.receivers (s : State) (b c : Nat) : List (Nat × Nat) :=
  s.fabric.boughs.flatMap fun e => ((List.range 32).filter fun n =>
    (e.2.cfg.ichAt n).en && e.2.cfg.downOwner (e.2.cfg.ichAt n).req.toNat == some (.req n) &&
      (SMap.get (fun _ => 0) e.2.cfg.trunk (e.2.cfg.ichAt n).req.toNat).toNat == 256 * b + ((s.bough b).cfg.ochAt c).req.toNat).map fun n => (e.1, n)

/-- A word held in the cell of outgoing channel c through a grove load has been acknowledged. A request that stands at 1 is lowered, and the receiver's
acknowledge falls with it: neither is a word. Then the channel passes requests of the new image (R116). -/
def State.lowerRequest (s : State) (b c : Nat) : State :=
  let o := (s.bough b).ochAt c
  if !o.lower || s.ackLevel b c != some o.req then s
  else
    let s1 := if !o.req then s
      else (s.receivers b c).foldl (fun (t : State) e => t.updBough e.1 fun y => y.setIch e.2 { y.ichAt e.2 with seen := false, ack := false }) s
    let s2 := s1.updBough b fun y => y.setOch c { o with req := false, lower := false }
    if s.handshake b && ((s.bough b).stageAt ((s.bough b).cfg.ochAt c).src.toNat).rout then s2.sendWord b c s2 else s2

/-- Stage j fires: its latches or its block take their inputs, then ROUT and AIN rise (R103 steps 1 to 3, R139). -/
def State.fire (s : State) (b j : Nat) : State :=
  let s1 := if j < 256 then s.captureTwig b j s
    else if j < 296 then (if s.delayBroken b then s.spoilBram b (j - 288) else s.bramEdge b (j - 288) true true true s)
    else if s.delayBroken b then s.drawMac b (j - 296) else s.macEdge b (j - 296) s
  let s2 := s1.updBough b fun x => x.setStage j { x.stageAt j with rout := true, ain := true }
  let s3 := s2.sendFrom b j
  let s4 := if j = s.rf (aHS_CTL b) 15 8 then
      (s3.updBough b fun x => { x with cadCount := x.cadCount + 1, stallCount := 0, stallArmed := false }).setB (aHS_STAT b) 2 false
    else s3
  s4.propagate

/-- An incoming channel whose word has been taken sends its acknowledge when the AIN of every controller it feeds has
risen (R161). A sender in a handshake bough sees it without a synchroniser. -/
def State.ackIncoming (s : State) (b c : Nat) : State :=
  let x := s.bough b
  let takers := x.cfg.successors (256 + c)
  if (x.ichAt c).valid && !takers.isEmpty && takers.all (fun k => (x.stageAt k).ain) then
    let s1 := s.updBough b fun y => y.setIch c { y.ichAt c with valid := false, ack := !(y.ichAt c).ack }
    match s1.slotAt b c with
    | some q => s1.slotSend q
    | none => s1
  else s

/-- The channels of bough b whose words of before a grove load have gone (R116). -/
def State.lowerAll (s : State) (b : Nat) : State := (List.range 32).foldl (fun t c => t.lowerRequest b c) s

/-- One move of stage j, the first of R103 that applies; the Boolean says that something moved. -/
def State.stageMove (s : State) (b j : Nat) : Bool × State :=
  let x := s.bough b
  let st := x.stageAt j
  let reqs := (x.cfg.stageAt j).inputs.map (s.request b j)
  let ao := joinLevel st.aout (s.acks b j)
  let put (v : Stage) : State := s.updBough b fun y => y.setStage j v
  if st.rin && reqs.all (!·) then (true, put { st with rin := false })
  else if ao != st.aout then (true, put { st with aout := ao })
  else if st.rout && st.aout then (true, put { st with rout := false })
  else if !st.rin && st.ain then (true, put { st with ain := false })
  else if st.rin && !st.ain && !st.rout && !st.aout && !s.frozen b &&
      !(288 ≤ j && j < 296 && (x.bramAt (j - 288)).pitchBusy) then (true, s.fire b j)
  else (false, s)

/-- One pass over every handshake bough out of hold, and over the channels of a clocked one that was a handshake bough before its load. -/
def State.settlePass (s : State) : Bool × State :=
  s.fabric.boughs.foldl (fun (acc : Bool × State) e =>
    if acc.2.held e.1 then acc
    else if !acc.2.handshake e.1 then (acc.1, acc.2.lowerAll e.1)
    else
      let acc1 := e.2.cfg.stages.foldl (fun (a : Bool × State) j =>
        let (m, t) := a.2.stageMove e.1 j
        (a.1 || m, t)) acc
      (acc1.1, ((List.range 32).foldl (fun t c => t.ackIncoming e.1 c) acc1.2).lowerAll e.1)) (false, s)

/-- Passes until nothing moves. Each stage fires at most once per rise of its request, so the moves end. -/
def State.settleFor (s : State) (fuel : Nat) : State :=
  match fuel with
  | 0 => s
  | k + 1 =>
    let (m, t) := s.settlePass
    if m then t.settleFor k else t

/-- Every handshake bough moves as far as it can, and the wires follow. -/
def State.settle (s : State) : State := (s.settleFor 0x10000).propagate

/-- The joined request of stage j rises after its matched delay (R103). -/
def State.hsRequest (s : State) (b j : Nat) : State :=
  let x := s.bough b
  let st := x.stageAt j
  let inp := (x.cfg.stageAt j).inputs
  if s.handshake b && !s.held b && x.cfg.stages.contains j && !st.rin && !inp.isEmpty && inp.all (s.request b j) then
    (s.updBough b fun y => y.setStage j { st with rin := true }).settle
  else s

/-- The controllers whose ROUT is 1: while the bough is held, those with INIT_TOKEN (R114). -/
def State.routs (s : State) (b : Nat) : List Nat :=
  let x := s.bough b
  if !s.handshake b then []
  else if s.held b then (List.range 256).filter fun j => (x.cfg.stageAt j).en && (x.cfg.stageAt j).initToken
  else (x.stage.filter fun e => e.1 < 256 && e.2.rout).map (·.1)

/-- TOKENS (R95). -/
def State.tokens (s : State) (b : Nat) : Nat := (s.routs b).length

/-! ### Channels of a clocked bough (R160) -/

/-- The interface of a channel of a clocked bough acts: its clock runs and the bough is not held. -/
def State.chanLive (s : State) (b : Nat) (k : ChanCfg) : Bool := k.en && s.tmode b == 1 && !s.held b && s.boughClockRuns b k.clk.toNat

/-- PUSH at an edge of OCH_CLK with RDY = 1. -/
def State.channelPush (s : State) (b c : Nat) : State :=
  let x := s.bough b
  if s.chanLive b (x.cfg.ochAt c) && (x.ochAt c).ready then
    let (push, s1) := s.wireBit (.dest b (2560 + c)) s
    if push then (s.sendWord b c s1).propagate else s1
  else s

/-- The request of an incoming channel is synchronised: VALID rises and the word stands on the wires; in a handshake
bough the request reaches RIN_SEL source 256 + c. -/
def State.channelValid (s : State) (b c : Nat) : State :=
  let x := s.bough b
  let i := x.ichAt c
  let k := x.cfg.ichAt c
  let hs := s.handshake b
  -- Between two handshake boughs the receiving cell holds a second word, and shows it once the first is taken (R161).
  let twoWord := hs && s.handshake ((SMap.get (fun _ => 0) x.cfg.trunk k.req.toNat).toNat / 256)
  if !(k.en && !s.held b && (hs || s.chanLive b k)) then s
  else match i.next, i.valid with
    | some w, false => (s.updBough b fun y => y.setIch c { i with valid := true, word := w, next := none }).propagate
    | some _, true => s
    | none, v =>
      if v && !twoWord then s
      else
        let (r, s1) : Bool × State := match s.reqLevel b c with | some r => (r, s) | none => s.freeBool
        if r = i.seen then s1
        else
          let (w, s2) := s.downWord b c s1
          (s2.updBough b fun y => y.setIch c (if v then { i with seen := r, next := some w } else { i with seen := r, valid := true, word := w })).propagate

/-- POP at an edge of ICH_CLK with VALID = 1. -/
def State.channelPop (s : State) (b c : Nat) : State :=
  let x := s.bough b
  let i := x.ichAt c
  if s.chanLive b (x.cfg.ichAt c) && i.valid then
    let (pop, s1) := s.wireBit (.dest b (2592 + c)) s
    if pop then
      let s2 := (s1.updBough b fun y => y.setIch c { i with valid := false, ack := !i.ack }).settle
      match s2.slotAt b c with
      | some q => s2.slotSend q
      | none => s2
    else s1
  else s

/-! ### Bank registers (R193, R194) -/

/-- The flip-flops that drive output tap k of bough b are clocked from root r at ratio 1 (R194). -/
def State.tapInStep (s : State) (b k r : Nat) : Bool :=
  (reachFrom s fuelMax [.dest b (2688 + k)] []).all fun n =>
    (match n with | .q sb _ => !s.handshake sb | _ => true) && (s.launchClock n).all fun c => c.root == r && c.ratio == 1

/-- One bit from the fabric to the output registers of root r: three cycles behind in step with it, else through a synchroniser. -/
def State.bankBit (s0 : State) (b k r : Nat) (pipe : Bool) (c : SyncCell) (s : State) : Bool × Bool × SyncCell × State :=
  let (v, s1) := s0.wireBit (.dest b (2688 + k)) s
  let (late, s2) := if v = c.sample then (false, s1) else s1.freeBool
  let c1 := c.level v late
  (v, if s0.tapInStep b k r then pipe else c1.out, c1, s2)

/-- The registers of a pin whose root clock is above 600 MHz hold nothing defined (R193, case 4 of R56). -/
def State.drawBank (s : State) (n : Nat) : State :=
  let (v, s1) := (s.markUndefined 4 (0x500 + n / 32) (n % 32)).free 16
  let p (k : Nat) : Bool × Bool := (v.getLsbD k, v.getLsbD (k + 1))
  s1.setPin n { s1.pinState n with bank := { (s1.pinState n).bank with
    q0s := v.getLsbD 0, q1s := v.getLsbD 1, q0 := v.getLsbD 2, q1 := v.getLsbD 3, o := v.getLsbD 4, d1 := v.getLsbD 5
    inPipe := [p 6, p 8, p 10], outPipe := [p 12, p 14] } }

/-- The registers of standard pin n at an edge of root r. -/
def State.bankEdge (s0 : State) (n r : Nat) (falling : Bool) (s : State) : State :=
  let cfg := s0.reg (aIOCFG n)
  if !bit cfg 7 || fld cfg 15 12 ≠ r then s
  else if 600 < s0.sourceMHz (s0.rf (aROOT r) 21 16) || s0.regs.undefined.contains (4, 0x500 + n / 32, n % 32) then s.drawBank n
  else
    let ireg := s0.inputReg n
    let oreg := fld cfg 9 8
    let k := (s0.pinState n).bank
    let psel := s0.reg (aPSEL n)
    let (lvl, s') := s0.pinInput n s
    if falling then
      let s1 := if ireg = 2 then s'.setPin n { s'.pinState n with bank := { (s'.pinState n).bank with q1s := lvl } } else s'
      if oreg = 2 then s1.setPin n { s1.pinState n with bank := { (s1.pinState n).bank with o := k.d1 } } else s1
    else
      let b := fld psel 28 22
      let tap := fld psel 21 16
      let outw := k.outPipe.getLastD (false, false)
      let (d0, o0, c0, s1) := s0.bankBit b tap r outw.1 k.sync0 s'
      let (d1, o1, c1, s2) := s0.bankBit b ((tap + 1) % 64) r outw.2 k.sync1 s1
      let q0 := if ireg = 2 then k.q0s else lvl
      let q1 := if ireg = 2 then k.q1s else false
      s2.setPin n { s2.pinState n with bank :=
        { k with
          q0s := lvl, q0 := q0, q1 := q1
          inPipe := (q0, q1) :: k.inPipe.dropLast
          outPipe := (d0, d1) :: k.outPipe.dropLast
          o := if oreg = 1 ∨ oreg = 2 then o0 else k.o
          d1 := o1, sync0 := c0, sync1 := c1 } }

/-! ### The edges of one instant -/

/-- What the edges of its clocks do in bough b, from the state s0 before them. `cad` says that CAD_CLK has risen. -/
def State.boughEdge (s0 : State) (b : Nat) (act : Nat → Bool → Bool) (s : State) : State :=
  let count (t : State) : State :=
    if act (s0.rf (aHS_CTL b) 2 0) false && s0.tmode b == 1 then t.updBough b fun x => { x with cadCount := x.cadCount + 1 } else t
  if s0.tmode b ≠ 1 ∨ s0.held b then count s
  else
    let cfg := (s0.bough b).cfg
    let broken := s0.clockBroken b
    let t1 := s0.leafEdge b act s
    let t2 := (List.range 8).foldl (fun u n =>
      let m := cfg.bramAt n
      let aA := act m.a.clkSel.toNat m.a.falling
      let aB := act m.b.clkSel.toNat m.b.falling
      if !(aA || aB) then u
      else if broken then u.spoilBram b n
      else s0.bramEdge b n aA aB (m.a.clkSel == m.b.clkSel && m.a.falling == m.b.falling) u) t1
    let t3 := (List.range 4).foldl (fun u m =>
      let c := cfg.macAt m
      if !act c.clkSel.toNat c.falling then u else if broken then u.drawMac b m else s0.macEdge b m u) t2
    count (s0.ackEdge b act (s0.ackLevel b) (s0.upEdge b act (s0.cellEdge b act t3)))

/-- The edges of one instant, after the board has driven the given balls so, or let go of them. The two ports of a memory are within tCOL of each
other (R126) where one command brings the edges of both, and never otherwise (DESIGN CHOICE, log 119). Edges of roots that do not run do not
occur, and the edges of the bough clocks follow from those of their roots. Everything clocked takes its next value from the values
before the edges. -/
def State.clockEdges (s : State) (edges : List ClockEdge) (balls : List (Nat × Option Bool)) : State :=
  let s00 := (balls.foldl (fun t e => if e.1 < 640 then t.setPin e.1 { t.pinState e.1 with board := e.2 } else t) s).levels
  let es := edges.filter fun e =>
    if e.falling then s00.fabric.clocks.high.contains (rootKey e.root.toNat) else s00.rootRuns e.root.toNat
  let s01 := (es.foldl (fun t e => if e.falling then t else t.alignEdge e.root.toNat) s00).alignPoints es
  let bs := s01.boughEdges es
  let s0 := s01.tryClocks bs
  let s1 := ((bs.map (·.b)).eraseDups).foldl (fun t b => s0.boughEdge b (fun c f => bs.contains { b, c, falling := f }) t) s0
  let s2 := es.foldl (fun t e => (List.range 384).foldl (fun u i => s0.bankEdge (256 + i) e.root.toNat e.falling u) t) s1
  (((s2.countSwitches es).countStops es).noteHigh es bs).propagate

/-! ### Event crossings (R157, R162) -/

def aXMERGE (b : Nat) : Nat := pg (0x028 + b / 16) (0x040 + 4 * (b % 16))

/-- An event arrives at EVENT down cell u of bough b: it is delivered as one pulse, or merges with one not yet delivered. -/
def State.eventArrival (s : State) (b u : Nat) : State :=
  let c := (s.bough b).syncAt u
  if !s.countsEvents b u || c.flight == 0 then s
  else
    let s0 := s.updBough b fun x => x.setSync u { c with flight := c.flight - 1 }
    if c.pend ≠ 0 then ((s0.satAdd (aXMERGE b) 31 16 1).setF (aXMERGE b) 7 0 u).setErr (0x028 + b / 16) 16
    else
      let (late, s1) := s0.freeBool
      s1.updBough b fun x => x.setSync u ((x.syncAt u).arrive late)

/-- Fabric event e is masked: its bough is held or isolated, or the fabric is stopped (R26, R28, R307, R458). -/
def State.fabricMasked (s : State) (e : Nat) : Bool :=
  let b := SMap.get (fun _ => 0) s.fabric.place.event e
  !s.fabric.portsReleased || s.fabric.quiesced || s.held b || (s.bough b).isolated.isSome

/-- Fabric event e (256 to 319) is launched into its crossing, or merges with one not yet delivered. The mask acts here (R307). -/
def State.fabricEventLaunch (s : State) (e : Nat) : State :=
  if e < 256 ∨ 320 ≤ e ∨ s.fabricMasked e then s
  else if SMap.get (fun _ => false) s.evt.launched e then
    (s.setB (aFEV_MERGE ((e - 256) / 32)) ((e - 256) % 32) true).satAdd aXH_COUNT 31 16 1
  else { s with evt := { s.evt with launched := SMap.set (fun _ => false) s.evt.launched e true } }

/-- The event waiting on fabric event line j is delivered into the fabric: one pulse at the down cell that the design connects the line to,
up to the next rising edge of that cell's clock (R162). -/
def State.lineDeliver (s : State) (j : Nat) : State :=
  if !SMap.get (fun _ => false) s.evt.lines j then s
  else
    let s1 := { s with evt := { s.evt with lines := SMap.set (fun _ => false) s.evt.lines j false } }
    let b := SMap.get (fun _ => 0) s.fabric.place.line j
    let u := SMap.get (fun _ => 0) s.fabric.place.lineCell j
    if u = 0 ∨ s.held b ∨ s.tmode b ≠ 1 then s1
    else (s1.updBough b fun x => x.setSync (u - 1) { x.syncAt (u - 1) with out := true }).propagate

/-! ### The cadence counter (R111) -/

/-- The instant at which the present cadence window of bough b ends: the next whole multiple of 1,000 ns, which may be now. -/
def State.cadenceEnd (s : State) (b : Nat) : DevTime :=
  let t := s.time.now
  if fracOf t = 0 ∧ nsOf t % 1000 = 0 ∧ (s.bough b).cadEnd ≠ t then t else nextMicro t

/-- VALID falls; the next whole window raises it again. -/
def State.cadenceRestart (s : State) (b : Nat) : State :=
  { (s.setB (aBOUGH b 0x2C) 28 false) with regs := { s.regs with cadWhole := s.regs.cadWhole.filter (· ≠ b) } }

/-- CAD_CLR (R94). -/
def State.cadClr (s : State) (b : Nat) : State := (s.setReg (aBOUGH b 0x30) 0x0000FFFF).cadenceRestart b

/-- HS_CTL has been written: VALID counts from the write, and a new CAD_TWIG starts its stall count afresh (R94, R95). Where a page lock keeps the
fields, CAD_CLR alone acts (R52). -/
def State.hsCtlWritten (s : State) (b : Nat) (old v : Word) (keep : Bool) : State :=
  let s0 := if bit v 7 then s.cadClr b else s
  let s1 := if keep then s0 else s0.cadenceRestart b
  let s2 := if fld old 15 8 = s1.rf (aHS_CTL b) 15 8 then s1
    else (s1.updBough b fun x => { x with stallCount := 0, stallArmed := false }).setB (aHS_STAT b) 2 false
  s2.tryDelays b

/-- Stall detection at the end of a window: whole windows in which the request of CAD_TWIG stood and did not fire (R94 to R96). -/
def State.stallCheck (s : State) (b : Nat) : State :=
  let x := s.bough b
  let w := s.rf (aHS_CTL b) 23 20
  let st := x.stageAt (s.rf (aHS_CTL b) 15 8)
  let waits := st.rin && !st.ain
  let c := if waits && x.stallArmed then x.stallCount + 1 else 0
  let s1 := s.updBough b fun y => { y with stallCount := c, stallArmed := waits }
  if w ≠ 0 ∧ w ≤ c ∧ !s.rb (aHS_STAT b) 2 then (s1.setB (aHS_STAT b) 2 true).setErr (0x040 + b) 16 else s1

/-- The cadence window of bough b ends. In an unconfigured bough, which counts nothing, CAD_RANGE stays as it is (DESIGN CHOICE, log 115). -/
def State.cadenceWindow (s : State) (b : Nat) : State :=
  let e := s.cadenceEnd b
  let r := s.reach e
  let aC := aBOUGH b 0x2C
  let aR := aBOUGH b 0x30
  let stepped := r.cadenceStep.contains b
  let n := min (r.bough b).cadCount 0xFFFF
  let s0 := { r with cadenceStep := r.cadenceStep.filter (· ≠ b) }
  let s1 := s0.updBough b fun y => { y with cadCount := 0, cadEnd := e }
  if s.tmode b = 0 then (s1.setF aC 15 0 0).setB aC 29 stepped
  else
    let s2 := (s1.setF aC 15 0 n).setB aC 29 stepped
    let s3 := if r.regs.cadWhole.contains b then s2.setB aC 28 true else { s2 with regs := { s2.regs with cadWhole := b :: s2.regs.cadWhole } }
    let s4 := if stepped then s3
      else (s3.setF aR 15 0 (min n (s3.rf aR 15 0))).setF aR 31 16 (max n (s3.rf aR 31 16))
    if s.tmode b = 2 then s4.stallCheck b else s4

/-! ### Freeze, hold and release -/

/-- FROZEN reads 1 while a handshake bough is frozen (R95). -/
def State.showFrozen (s : State) (b : Nat) : State :=
  s.setB (aHS_STAT b) 1 (s.handshake b && !s.held b && (!s.pageEnable (0x040 + b) || (s.bough b).holdFreeze))

/-- The hold freeze of R113, on or off, on every handshake bough. -/
def State.holdFreezeAll (s : State) (on : Bool) : State :=
  let s1 := (List.range 128).foldl (fun t b =>
    if t.handshake b then (t.updBough b fun x => { x with holdFreeze := on }).showFrozen b else t) s
  if on then s1 else s1.settle

/-- GLOBAL_HOLD is asserted on bough b (R68, R114, R130, R135). Q reads 0, or INIT after its frame has been written. ENABLE of a handshake bough falls, and a
commit pending on its page transfers (R45). -/
def State.assertHold (s : State) (b : Nat) : State :=
  let s1 := s.updBough b fun x =>
    { x with
      q := [], stage := [], mac := [], sync := [], upToggle := [], upSeen := [], holdFreeze := false, stallCount := 0, stallArmed := false
      bram := SMap.mapVals (fun _ => {}) (fun m => { m with
        doutA := 0, doutB := 0, regA := 0, regB := 0, sbe := false, dbe := false, sbeReg := false, dbeReg := false }) x.bram }
  let s2 := ((s1.setB (aHS_STAT b) 0 false).setB (aHS_STAT b) 1 false).setB (aHS_STAT b) 2 false
  if !s.pageEnable (0x040 + b) then s2
  else
    let s3 := s2.setB (pg (0x040 + b) 4) 0 false
    if s.commitPending (0x040 + b) then s3.commitTransfer (0x040 + b) else s3

/-- The flip-flops of bough b read their INIT bits, which frame MINOR 63 holds (R68, R396). -/
def initBits (f : BitVec 4096) : SMap Bool := ((List.range 4096).filter fun i => f.getLsbD i).map fun i => (i, true)

/-- The ends of a handshake bough's channels that cross the edge of the grove, after a grove load: the cell on a request wire keeps what it held, and
its word is to be delivered, and a request at 1 lowered, first. An incoming channel that the new image feeds from within the grove starts empty (R116). -/
def Bough.carry (inside : Nat → Bool) (x : Bough) : Bough :=
  let pre (l : SMap ChanCfg) (k : ChanCfg) : Option Nat := (l.find? fun e => e.2.en && e.2.req == k.req).map (·.1)
  { x with
    och := x.cfg.och.foldl (fun m e => match (if e.2.en then pre x.wasOch e.2 else none) with
      | some k => SMap.set (fun _ => {}) m e.1 { x.ochAt k with lower := true }
      | none => m) []
    ich := x.cfg.ich.foldl (fun m e =>
      match (if e.2.en && !inside ((SMap.get (fun _ => 0) x.cfg.trunk e.2.req.toNat).toNat / 256) then pre x.wasIch e.2 else none) with
      | some k => SMap.set (fun _ => {}) m e.1 (x.ichAt k)
      | none => m) []
    wasOch := [], wasIch := [] }

/-- The loops that the configuration closes are found again; those that stay keep their levels. -/
def State.findLoops (s : State) : State :=
  s.fabric.boughs.foldl (fun (t : State) e =>
    let l := (s.loopsOf e.1).map fun p => ((e.2.loop.find? (·.1 == p.1)).getD p)
    if l = e.2.loop then t else t.updBough e.1 fun x => { x with loop := l }) s

/-- GLOBAL_HOLD is released on bough b (R68, R92, R114). Tokens of INIT_TOKEN stand on ROUT. The hold freeze applies to a bough that a load
releases while the device is in HOLD or SERVICE (R113). Cases 4 and 5 of R56 end with the reload. The time of an HB1 that watches a fabric event
of the bough starts afresh (R230). -/
def State.releaseHold (s : State) (b : Nat) : State :=
  let f := SMap.get (fun _ => 0) s.fabric.frames (64 * b + 63)
  let inside (sb : Nat) : Bool := ((s.bough b).isolated.map fun g => s.inGrove g sb).getD false
  let s1 := s.updBough b fun x =>
    { x.carry inside with
      q := initBits f
      stage := if s.handshake b then (s.routs b).map fun j => (j, { rout := true }) else []
      isolated := none, isoVal := [], cadCount := 0, holdFreeze := s.fabric.clocks.holdGate }
  let s2 := { s1 with regs := { s1.regs with undefined := s1.regs.undefined.filter fun u => !((u.1 == 4 || u.1 == 5) && u.2.1 == 0x040 + b) &&
    !(u.1 == 4 && decide (0x500 ≤ u.2.1 ∧ u.2.1 < 0x514) && s1.rf (aPSEL (32 * (u.2.1 - 0x500) + u.2.2)) 28 22 == b) } }
  let hb1 := s2.rf (pg 0x300 0x34) 28 20
  let s2 := if 256 ≤ hb1 ∧ SMap.get (fun _ => 0) s2.fabric.place.event hb1 = b then
      { s2 with loop := { s2.loop with hb1 := { lastKick := s2.time.now } } } else s2
  let s3 := (((s2.setB (aHS_STAT b) 0 true).cadenceRestart b).setB (pg (0x040 + b) 4) 0 (s.handshake b)).showFrozen b
  let s4 := s3.findLoops.levels
  let s5 := s4.watchEvents true b s4
  if s.handshake b then ((((s5.tryDelays b).routs b).foldl (fun t j => t.sendFrom b j) (s5.tryDelays b)).lowerAll b).propagate
  else (s5.lowerAll b).propagate

/-- What up wire u of bough b drives out of the grove as isolation begins: the constant of GR_ISO_CFG. The request wire of an outgoing
channel of a handshake bough, and the acknowledge wire of an incoming one, keep their last value whatever ISO says, so that isolation makes no edge
there (R87, R116). A bough that is isolated already keeps its last values. -/
def State.isoWire (s0 : State) (iso b u : Nat) (s : State) : Bool × State :=
  let x := s0.bough b
  let control : Bool := if x.isolated.isSome
    then x.wasOch.any (fun e => e.2.en && e.2.req.toNat == u) || x.wasIch.any (fun e => e.2.en && e.2.ack.toNat == u)
    else s0.handshake b && (match x.cfg.upOwner u with | some (.req _) => true | some (.ack _) => true | _ => false)
  if iso ≠ 0 && !control then (iso == 2, s)
  else if x.isolated.isSome then (SMap.get (fun _ => false) x.isoVal u, s)
  else s0.wireBit (.up b u) s

/-- Grove g is isolated (R87, R116): each up wire of its boughs drives a constant out of the grove, and GLOBAL_HOLD is asserted within it. -/
def State.isolateGrove (s0 : State) (g : Nat) : State :=
  let iso := s0.rf (aGR g 8) 1 0
  ((s0.groveBoughs g).foldl (fun t b =>
    let vals := (List.range 256).foldl (fun (acc : SMap Bool × State) u =>
      let (v, w) := s0.isoWire iso b u acc.2
      (SMap.set (fun _ => false) acc.1 u v, w)) ([], t)
    let keep := (s0.bough b).isolated.isNone && s0.handshake b
    (vals.2.updBough b fun x => { x with
      isolated := some g, isoVal := vals.1
      wasOch := if keep then x.cfg.och.filter fun e => (s0.receivers b e.1).any fun r => !s0.inGrove g r.1 else x.wasOch
      wasIch := if keep then x.cfg.ich.filter fun e => (s0.slotAt b e.1).isSome ||
        !s0.inGrove g ((SMap.get (fun _ => 0) x.cfg.trunk e.2.req.toNat).toNat / 256) else x.wasIch }).assertHold b) s0).propagate

end Sys2Proof.Machine
end

