-- ==== Sys2Proof/Machine/Sdf.lean ====
section
/-! DEFINITION. The sigma-delta filter channels: start and stop, bits, the decimating filter, the comparator, faults (R196 to R203). -/

namespace Sys2Proof.Machine

/-! ### Settings of channel c -/

/-- A reserved encoding is in force on the channel (case 2 of R56, R198). -/
def State.sdfReserved (s : State) (c : Nat) : Bool :=
  let o := s.sdfOrder c
  o == 0 || o == 6 || o == 7 || s.sdfOsr c < 4 || 1024 < s.sdfOsr c || s.sdfCmpOsr c < 8 || 64 < s.sdfCmpOsr c ||
    s.sdfPer c < 6400 || 51200 < s.sdfPer c || (s.sdfCmpEn c && s.sdfCmpOrder c == 0)

/-! ### The filter (R200) -/

/-- +1 for a 1 bit, -1 for a 0 bit. -/
def bitVal (b : Bool) : Int := if b then 1 else -1

/-- The sums of every run of d consecutive entries of a list. -/
def boxcar (d : Nat) (l : List Int) : List Int :=
  match l with
  | [] => []
  | x :: t => if d ≤ (x :: t).length then ((x :: t).take d).sum :: boxcar d t else []

/-- y of R200: n boxcars of length d over the newest n(d - 1) + 1 bits, newest first. -/
def sincSum (n d : Nat) (bits : List Bool) : Int :=
  ((List.range n).foldl (fun l _ => boxcar d l) ((bits.take (n * (d - 1) + 1)).map bitVal)).headD 0

/-- ⌈n log2 d⌉: the least b with d^n ≤ 2^b. -/
def ceilLog (n d : Nat) : Nat := if d ^ n ≤ 1 then 0 else Nat.log2 (d ^ n - 1) + 1

/-- The scaled output word, Q0.31. -/
def sincOut (n d : Nat) (y : Int) : Word :=
  let b := ceilLog n d
  let o : Int := if b ≤ 31 then y * 2 ^ (31 - b) else (y + 2 ^ (b - 32)) / 2 ^ (b - 31)
  BitVec.ofNat 32 (scode 32 (clampInt (-2147483648) 2147483647 o))

/-- The comparator value of order m and length l (R203). -/
def cmpValue (m l : Nat) (bits : List Bool) : Int :=
  let b := ceilLog m l
  let y := sincSum m l bits
  let o : Int := if b ≤ 15 then y * 2 ^ (15 - b) else (y + 2 ^ (b - 16)) / 2 ^ (b - 15)
  clampInt (-32768) 32767 o

/-- The span of an order-n filter of ratio d, in bits. -/
def spanOf (n d : Nat) : Nat := n * (d - 1) + 1

/-! ### Flags -/

/-- Set FLAG bit b of channel c; its rise raises event 224 + (c >> 2) with time t and QUALITY q, and the level bit of the page follows
(R197). -/
def State.sdfFlag (s : State) (c b : Nat) (t : DevTime) (q : Nat) : State :=
  if s.rb (aSDF c 0x18) b then s
  else (((s.setB (aSDF c 0x18) b true).raiseWith (224 + c / 4) t q)).setErrLevel (sdfPage c) (16 + c % 8) true

/-- The page's level bit of channel c follows its FLAG register. -/
def State.sdfSyncLevel (s : State) (c : Nat) : State :=
  s.setErrLevel (sdfPage c) (16 + c % 8) (s.rf (aSDF c 0x18) 3 0 != 0)

/-- A fault makes the output untrustworthy until a whole span of good bits has entered (R202). -/
def State.sdfStale (s : State) (c : Nat) : State :=
  (s.setSdf c { s.sdfChan c with good := 0 }).setB (aSDF c 0x14) 2 true

/-! ### Start and stop (R196, R197) -/

/-- The first rising edge of the clock that channel c generates: on its grid of device time, at least 100 ns ahead. -/
def State.sdfFirstRise (s : State) (c : Nat) : DevTime :=
  let per := max 1 (s.sdfPer c)
  let t := (s.time.now + ns 100).toNat
  let rise := t + (per - t % per) % per
  if rise < 2 ^ 72 then BitVec.ofNat 72 rise else 0

/-- Channel c starts: counters at zero, and a GEN clock on its grid. -/
def State.sdfStart (s : State) (c : Nat) : State :=
  let s0 := if s.sdfReserved c then s.markUndefined 2 (sdfPage c) (c % 8) else s
  let s1 := s0.setSdf c { s0.sdfChan c with
    started := true, bits := [], count := 0, run := 0, runNoted := false, lastEdge := none, since := s0.time.now,
    gen := if s0.sdfGen c then some (s0.sdfFirstRise c) else none, stopEnd := none, out := none, hiTrip := none, loTrip := none, runTrip := false }
  let st := s1.reg (aSDF c 0x14)
  (s1.setReg (aSDF c 0x14) (setFld st 31 16 0 &&& 0xFFFFFFE4)).setReg (aSDF c 0x2C) 0

/-- The end of the present period of the clock of channel u: now before its first rising edge (R197). -/
def SdfChannel.periodEnd (u : SdfChannel) (per : Nat) (now : DevTime) : Option DevTime :=
  u.gen.map fun g => if laterThan g now then now else g + BitVec.ofNat 72 (((now - g).toNat + per - 1) / per * per)

/-- Channel c stops forming outputs; BUSY reads 1 until it has stopped. -/
def State.sdfStop (s : State) (c : Nat) : State :=
  let u := s.sdfChan c
  if !u.started then s
  else ((s.setSdf c { u with started := false, stopEnd := u.periodEnd (max 1 (s.sdfPer c)) s.time.now, out := none, hiTrip := none, loTrip := none, runTrip := false }).setB
    (aSDF c 0x14) 0 true).setB (aSDF c 0x14) 1 false

/-- Channel c has stopped: BUSY falls. A generated clock first completes its period. -/
def State.sdfStopDone (s : State) (c : Nat) : State :=
  let u := s.sdfChan c
  if u.started ∨ !s.rb (aSDF c 0x14) 0 then s
  else
    let s1 := match u.stopEnd with
      | some t => s.reach t
      | none => s
    (s1.setSdf c { u with gen := none, stopEnd := none }).setB (aSDF c 0x14) 0 false

/-- Make the channel follow EN and ENABLE. -/
def State.sdfFollow (s : State) (c : Nat) : State :=
  let u := s.sdfChan c
  if s.sdfRuns c && !u.started then s.sdfStart c
  else if !s.sdfRuns c && u.started then s.sdfStop c else s

/-! ### Bits (R199, R202, R203) -/

/-- The bit enters: runs of equal bits, good bits and STALE. -/
def State.sdfTakeBit (s : State) (c : Nat) (b : Bool) (t : DevTime) : State :=
  let u := s.sdfChan c
  let same := match u.bits with | (x, _) :: _ => x == b | [] => false
  let run := if same then u.run + 1 else 1
  let lim := s.sdfRunLim c
  let faulty := lim != 0 && lim ≤ run
  let keep := max (spanOf (s.sdfOrder c) (s.sdfOsr c)) (spanOf (s.sdfCmpOrder c) (s.sdfCmpOsr c))
  let good := if faulty then 0 else u.good + 1
  let s1 := s.setSdf c { u with
    bits := ((b, t) :: u.bits).take keep, count := u.count + 1, run := run, good := good
    runNoted := (same && u.runNoted) || faulty
    runTrip := u.runTrip || (faulty && !(same && u.runNoted)) }
  if faulty then s1.setB (aSDF c 0x14) 2 true
  else if s.rb (aSDF c 0x14) 2 ∧ spanOf (s.sdfOrder c) (s.sdfOsr c) ≤ good then s1.setB (aSDF c 0x14) 2 false
  else s1

/-- The comparator is evaluated at the bit of time t, once its span is filled. -/
def State.sdfCompare (s : State) (c : Nat) (t : DevTime) : State :=
  let u := s.sdfChan c
  if !s.sdfCmpEn c ∨ u.count < spanOf (s.sdfCmpOrder c) (s.sdfCmpOsr c) then s
  else
    let old := sext 16 (s.reg (aSDF c 0x2C)).toNat
    let hi := sext 16 (s.rf (aSDF c 0x10) 31 16)
    let lo := sext 16 (s.rf (aSDF c 0x10) 15 0)
    let (fv, s0) := if s.isUndefined (sdfPage c) (c % 8) then s.free 16 else (0, s)
    let v := if s.isUndefined (sdfPage c) (c % 8) then sext 16 fv.toNat
      else cmpValue (s.sdfCmpOrder c) (s.sdfCmpOsr c) (u.bits.map (·.1))
    let s1 := ((s0.setReg (aSDF c 0x2C) (BitVec.ofNat 32 (scode 16 v))).setB (aSDF c 0x14) 3 (hi < v)).setB
      (aSDF c 0x14) 4 (v < lo)
    let u1 := s1.sdfChan c
    s1.setSdf c { u1 with
      hiTrip := if old ≤ hi ∧ hi < v then some (t, s1.quality) else u1.hiTrip
      loTrip := if lo ≤ old ∧ v < lo then some (t, s1.quality) else u1.loTrip }

/-- Output m forms at bit m × D, once the span is filled; it reaches CH_OUT 40 ns after its last bit's clock edge (R201). A midpoint on half a
unit rounds down (DESIGN CHOICE, log 100: R201 gives no rounding). -/
def State.sdfForm (s : State) (c : Nat) (t edge : DevTime) : State :=
  let u := s.sdfChan c
  let n := s.sdfOrder c
  let d := s.sdfOsr c
  if d = 0 ∨ u.count < spanOf n d ∨ u.count % d ≠ 0 then s
  else
    let (fv, s0) := if s.isUndefined (sdfPage c) (c % 8) then s.free 32 else (0, s)
    let w := if s.isUndefined (sdfPage c) (c % 8) then fv else sincOut n d (sincSum n d (u.bits.map (·.1)))
    let first := match (u.bits.take (spanOf n d)).getLast? with | some e => e.2 | none => t
    let mid := first + BitVec.ofNat 72 ((t - first).toNat / 2)
    s0.setSdf c { s0.sdfChan c with
      out := some { value := w, stamp := mid, quality := s.quality, due := edge + ns 40 } }

/-- The present instant is an edge less than 25 ns after the last accepted edge of an external clock. -/
def State.sdfEarly (s : State) (c : Nat) : Bool :=
  match (s.sdfChan c).lastEdge with
  | some e => laterThan (e + ns 25) s.time.now
  | none => false

/-- Data bit b of time t enters channel c; `edge` is its clock edge. -/
def State.sdfEnter (s : State) (c : Nat) (b : Bool) (t edge : DevTime) : State := ((s.sdfTakeBit c b t).sdfCompare c t).sdfForm c t edge

/-- One bit-clock edge of channel c with data bit b (R199). A generated edge is the next of its clock: a GEN channel samples SAMPLE_DLY after it,
and its time is that of the edge; to an EXT channel it is an edge at the pin, as any external edge is, which comes now and is captured there. An
external edge less than 25 ns after the last accepted one is ignored and is a clock fault. -/
def State.sdfBit (s : State) (c : Nat) (b : Bool) : State :=
  let u := s.sdfChan c
  let pin := s.sdfClkPin c
  if !u.started then s
  else match s.sdfDriver c with
    | some k =>
      match s.genEdge k (s.rb (aSDF c 0) 2) u.since with
      | none => s
      | some e =>
        let s1 := s.reach (if s.sdfGen c then e + BitVec.ofNat 72 (64 * s.rf (aSDF c 4) 23 16) else e)
        (s1.setSdf c { u with since := e }).sdfEnter c b (if s.sdfGen c then e else e + s1.outOfs pin - s1.inOfs pin) e
    | none =>
      if s.sdfEarly c then (s.sdfFlag c 2 s.time.now s.quality).sdfStale c
      else (s.setSdf c { u with lastEdge := some s.time.now, since := s.time.now }).sdfEnter c b (s.time.now - s.inOfs pin) s.time.now

/-- The output that has been formed reaches CH_OUT, its timestamp and SEQ. -/
def State.sdfPublish (s : State) (c : Nat) : State :=
  let u := s.sdfChan c
  match u.out with
  | none => s
  | some o =>
    let s1 := s.reach o.due
    let st := s1.reg (aSDF c 0x14)
    let seq := (fld st 31 16 + 1) % 2 ^ 16
    let s2 := s1.setSdf c { s1.sdfChan c with
      out := none, arrival := some s1.time.now
      before := { value := sext 32 (s1.reg (aSDF c 0x1C)).toNat, valid := true, arrival := (s1.sdfChan c).arrival } }
    let s3 := (s2.setReg (aSDF c 0x14) (setBit (setFld st 31 16 seq) 1 true)).setReg (aSDF c 0x1C) o.value
    ((s3.setReg (aSDF c 0x20) (BitVec.ofNat 32 (nsOf o.stamp))).setReg (aSDF c 0x24)
      (BitVec.ofNat 32 (nsOf o.stamp / 2 ^ 32))).setReg (aSDF c 0x28)
      (BitVec.ofNat 32 (seq * 2 ^ 16 + (o.quality % 16) * 2 ^ 8 + fracOf o.stamp))

/-- The comparator crossing that a bit completed sets its trip flag, with that bit's time (R203). -/
def State.sdfTrip (s : State) (c : Nat) (high : Bool) : State :=
  let u := s.sdfChan c
  match (if high then u.hiTrip else u.loTrip) with
  | none => s
  | some (t, q) =>
    (s.setSdf c { u with hiTrip := if high then none else u.hiTrip, loTrip := if high then u.loTrip else none }).sdfFlag c
      (if high then 0 else 1) t q

/-- A clock fault of an external clock: an edge within 25 ns of the last accepted one, or, when `gap` is set, 1 µs without an accepted edge since
that one or since the start (R199). -/
def State.sdfClkFault (s : State) (c : Nat) (gap : Bool) : State :=
  let u := s.sdfChan c
  if !u.started ∨ (s.sdfDriver c).isSome then s
  else if !gap && !s.sdfEarly c then s
  else
    let s1 := if gap then s.reach (u.since + ns 1000) else s
    (s1.sdfFlag c 2 s1.time.now s1.quality).sdfStale c

/-- RUN_LIM equal bits in a row have been seen: RUN_FAULT, once per run. -/
def State.sdfRunFault (s : State) (c : Nat) : State :=
  let u := s.sdfChan c
  if u.runTrip then ((s.setSdf c { u with runTrip := false }).sdfFlag c 3 s.time.now s.quality).setB (aSDF c 0x14) 2 true else s

end Sys2Proof.Machine
end

