-- ==== Sys2Proof/Machine/Loop.lean ====
section
/-! DEFINITION. The loop engine: arithmetic, sources, updates, outputs, triggers, admission, abseil, heartbeats (R204 to R242). -/

namespace Sys2Proof.Machine

/-! ### Record fields (R207 to R209) -/

def aLOOP (o : Nat) : Nat := pg 0x300 o

/-- A Q16.32 field of the active record, at block offset o. -/
def State.cq (s : State) (n o : Nat) : Int :=
  sext 48 ((s.reg (aCTX n (o + 4))).toNat % 2 ^ 16 * 2 ^ 32 + (s.reg (aCTX n o)).toNat)

/-- A Q2.30 coefficient of the active record. -/
def State.cc (s : State) (n o : Nat) : Int := sext 32 (s.reg (aCTX n o)).toNat

def State.cCtl (s : State) (n : Nat) : Word := s.reg (aCTX n 0x40)
def State.cKind (s : State) (n : Nat) : Nat := fld (s.cCtl n) 15 14
def State.cPeriod (s : State) (n : Nat) : Nat := (s.reg (aCTX n 0x48)).toNat
def State.cStage (s : State) (n b : Nat) : Bool := bit (s.cCtl n) b
def State.cRunning (s : State) (n : Nat) : Bool := s.rb (aCTX n 0xF0) 30
def State.cAbseil (s : State) (n : Nat) : Bool := s.rb (aCTX n 0xF0) 29
def State.cCause (s : State) (n : Nat) : Nat := s.rf (aCTX n 0xF0) 21 16

/-- S of R205 from a CTL word. -/
def stagesOf (ctl : Word) : Nat := 2 + (bit ctl 0).toNat + (bit ctl 1).toNat + (bit ctl 2).toNat + (bit ctl 3).toNat

/-- L, D and O of R220 and R223, in ns. -/
def latencyOf (st : Nat) : Nat := 200 + 40 * st
def windowOf (st : Nat) : Nat := 120 + 40 * st
def occupancyOf (st : Nat) : Nat := 8 * (st + 1) + 2

/-! ### Arithmetic (R211). A result carries whether a saturation occurred. -/

structure Sat where
  v : Int
  sat : Bool := false
deriving DecidableEq, Repr

def lclamp (lo hi x : Int) : Int := max lo (min hi x)

def lim48 : Int := 140737488355328
def lim64 : Int := 9223372036854775808

def sat48 (x : Sat) : Sat :=
  { v := lclamp (-lim48) (lim48 - 1) x.v, sat := x.sat || x.v < -lim48 || lim48 - 1 < x.v }

/-- One addition in the 64-bit accumulator. -/
def Sat.add (a b : Sat) : Sat :=
  let x := a.v + b.v
  { v := lclamp (-lim64) (lim64 - 1) x, sat := a.sat || b.sat || x < -lim64 || lim64 - 1 < x }

def Sat.sub (a b : Sat) : Sat := a.add { b with v := -b.v }

def mulr (q : Sat) (c : Int) : Sat := { v := (q.v * c + 536870912) / 1073741824, sat := q.sat }

def shiftQ (v s : Int) : Int := if 0 ≤ s then v * 2 ^ s.toNat else (v + 2 ^ ((-s).toNat - 1)) / 2 ^ (-s).toNat

/-! ### Sources (R214) -/

/-- The input slots a context reads from slot port q. -/
def State.slotsRead (s : State) (n q : Nat) : List Nat :=
  ([s.reg (aCTX n 0x50), s.reg (aCTX n 0x54)].filter fun w => fld w 31 28 == 3 && fld w 9 0 % 256 / 64 == q).map
    fun w => fld w 9 0 % 256

/-- Every FSLOT slot a context reads. -/
def State.allSlotsRead (s : State) (n : Nat) : List Nat := [0, 1, 2, 3].flatMap (s.slotsRead n)

/-- A slot port that the context reads is held. -/
def State.portsHeld (s : State) (n : Nat) : Bool := (s.allSlotsRead n).any fun k => s.loop.held.contains (k / 64)

/-- The tests of slot k are suspended for a context that coasts: until its ports are released and the slot has been written since (R234). -/
def State.suspended (s : State) (n k : Nat) : Bool :=
  s.rb (aCTX n 0xF0) 27 && (s.portsHeld n || (s.ctx n).slotsAwaited.contains k)

/-- The latest value of a source and the one before it; `valid` is false where the source itself says that the value is stale. -/
def State.sourceValues (s : State) (n : Nat) (w : Word) : Slot × Slot :=
  let k := fld w 9 0
  match fld w 31 28 with
  | 2 =>
    let ok := !s.rb (aSDF (k % 64) 0x14) 2
    let u := s.sdfChan (k % 64)
    ({ value := sext 32 (s.reg (aSDF (k % 64) 0x1C)).toNat, valid := ok, arrival := u.arrival }, { u.before with valid := ok })
  | 3 =>
    let free (v : Slot) : Slot := { v with valid := v.valid || s.suspended n (k % 256) }
    (free (SMap.get (fun _ => {}) s.loop.slotsIn (k % 256)), free (SMap.get (fun _ => {}) s.loop.slotsBefore (k % 256)))
  | 4 =>
    let e := k % 256
    let p := 0x551 + e / 64
    ({ value := sext 32 (s.reg (pg p (0x200 + 4 * (e % 64)))).toNat, arrival := SMap.get (fun _ => none) s.loop.ropeArrival e
       valid := s.rb (pg p (0x300 + 4 * (e % 64))) 31 && !s.rb (pg p (0x300 + 4 * (e % 64))) 30 },
     SMap.get (fun _ => {}) s.loop.ropeBefore e)
  | 5 =>
    let ok := s.cRunning k && !s.cAbseil k
    ({ value := s.cq k 0xF8, valid := ok, arrival := (s.ctx k).arrival }, { (s.ctx k).before with valid := ok })
  | _ => ({}, {})

/-- The value of the source named by an IN word of context n for an update at t_r, and whether it is stale: the latest value that arrived at
least 2 ns before t_r, or, with `own`, the value whose arrival is the trigger (log 101). A source that has not delivered one is stale (R459). -/
def State.loopSource (s : State) (n : Nat) (w : Word) (tr : DevTime) (own : Bool) : Int × Bool :=
  if fld w 31 28 < 2 ∨ 6 ≤ fld w 31 28 then (0, false)
  else
    let (new, old) := s.sourceValues n w
    let inTime : Bool := own || (match new.arrival with | some t => !laterThan (t + ns 2) tr | none => true)
    let v := if inTime then new else old
    let maxAge := s.rf (aCTX n 0x5C) 23 0
    let coasts := fld w 31 28 == 3 && s.suspended n (fld w 9 0 % 256)
    let aged : Bool := match v.arrival with
      | some t => maxAge != 0 && !laterThan t tr && decide (maxAge * 256 < (tr - t).toNat)
      | none => true
    (v.value, !v.valid || (!coasts && aged))

/-- The signed SHIFT of an IN word. -/
def srcShift (w : Word) : Int := sext 6 (fld w 27 22)

/-! ### The update (R212, R213, R227, R231) -/

/-- The results of one update: the output, the stage records y and r, the new state, and its flags. -/
structure UpdateResult where
  o : Int
  y : Int
  r : Int
  ctx : LoopCtx
  sat : Bool
deriving DecidableEq, Repr

/-- The INPUT stage: y and r (R212). It runs in abseil too (R227). -/
def State.runInput (s : State) (n : Nat) (va vb : Int) : Sat × Sat :=
  let inA := s.reg (aCTX n 0x50)
  let inB := s.reg (aCTX n 0x54)
  let q (x : Int) : Sat := { v := x }
  (sat48 ((mulr (sat48 (q (shiftQ va (srcShift inA)))) (s.cc n 0x58)).add (q (s.cq n 0x60))),
   if fld inB 31 28 = 1 then q (s.cq n 0x68) else sat48 (q (shiftQ vb (srcShift inB))))

/-- The chain of an update (R212, R213). With `leaving`, the changes of R231 for the first update after abseil. -/
def State.runChain (s : State) (n : Nat) (c : LoopCtx) (va vb : Int) (dt : Nat) (leaving : Bool) : UpdateResult :=
  let q (x : Int) : Sat := { v := x }
  let y := (s.runInput n va vb).1
  let r := (s.runInput n va vb).2
  -- FILTER
  let fOn := s.cStage n 0
  let v1 := if fOn then sat48 ((mulr y (s.cc n 0x80)).add (q c.s1)) else y
  let s1 := if fOn then sat48 (((mulr y (s.cc n 0x84)).sub (mulr v1 (s.cc n 0x8C))).add (q c.s2)) else q c.s1
  let s2 := if fOn then sat48 ((mulr y (s.cc n 0x88)).sub (mulr v1 (s.cc n 0x90))) else q c.s2
  -- PID2
  let pOn := s.cStage n 1
  let e := sat48 (r.sub v1)
  let ep := sat48 ((mulr r (s.cc n 0xA4)).sub v1)
  let ed := sat48 ((mulr r (s.cc n 0xA8)).sub v1)
  let di := mulr e (s.cc n 0x98)
  let d := sat48 ((mulr (q c.d) (s.cc n 0xA0)).add (mulr (sat48 (ed.sub (q c.edPrev))) (s.cc n 0x9C)))
  let p := mulr ep (s.cc n 0x94)
  let moved := sat48 ((q c.i).add di)
  let iNormal : Sat :=
    if (c.clampHi && 0 < di.v) || (c.clampLo && di.v < 0) then q c.i
    else { v := lclamp (s.cq n 0x78) (s.cq n 0x70) moved.v, sat := moved.sat }
  let i := if leaving then sat48 (((q c.oPrev).sub p).sub d) else iNormal
  let v2 := if pOn then sat48 ((p.add i).add d) else v1
  -- LEADLAG
  let lOn := s.cStage n 2
  let x := if leaving then q c.oPrev else v2
  let l0 := if leaving then (q c.oPrev).sub (mulr (q c.oPrev) (s.cc n 0xAC)) else q c.ll
  let v3 := if lOn then sat48 ((mulr x (s.cc n 0xAC)).add l0) else v2
  let l := if lOn then sat48 ((mulr x (s.cc n 0xB0)).sub (mulr v3 (s.cc n 0xB4))) else q c.ll
  -- LIMIT
  let mOn := s.cStage n 3
  let w := lclamp (s.cq n 0xC0) (s.cq n 0xB8) v3.v
  let up := s.cq n 0xC8
  let dn := s.cq n 0xD0
  let hi := sat48 (q ((c.oPrev * 1000 + up * dt) / 1000))
  let lo := sat48 (q ((c.oPrev * 1000 - dn * dt) / 1000))
  let w1 : Int := if c.first || up = 0 then w else min w hi.v
  let w2 : Int := if c.first || dn = 0 then w1 else max w1 lo.v
  let limSat := !c.first && ((up != 0 && hi.sat) || (dn != 0 && lo.sat))
  let o : Int := if mOn then w2 else v3.v
  { o := o, y := y.v, r := r.v
    ctx := { c with
      s1 := s1.v, s2 := s2.v, i := if pOn then i.v else c.i, d := if pOn then d.v else c.d
      edPrev := if pOn then ed.v else c.edPrev, ll := l.v
      clampHi := mOn && w < v3.v, clampLo := mOn && v3.v < w }
    sat := y.sat || r.sat || (fOn && (v1.sat || s1.sat || s2.sat)) || (pOn && (e.sat || ep.sat || d.sat || i.sat || v2.sat))
      || (lOn && (v3.sat || l.sat)) || (mOn && limSat) }

/-- The abseil output: from oPrev toward SAFE by at most SLOPE × dt / 1,000 (R227). -/
def abseilStep (oPrev safe slope : Int) (dt : Nat) : Int :=
  if slope = 0 then safe
  else
    let m : Int := (slope.natAbs : Int) * dt / 1000
    if oPrev < safe then min safe (oPrev + m) else max safe (oPrev - m)

/-- Set an abseil cause of context n (R229). A running context is in abseil from then on; STAT.ABSEIL shows it with the first output. -/
def State.setCause (s : State) (n b : Nat) : State :=
  if s.rb (aCTX n 0xF0) b then s
  else (s.setCtx n { s.ctx n with released := false, entered := (s.ctx n).entered || s.cRunning n }).setB (aCTX n 0xF0) b true

def State.clearCause (s : State) (n b : Nat) : State := s.setB (aCTX n 0xF0) b false

/-- The bookkeeping of stale sources at an update (R214, R229). -/
def State.countStale (s : State) (n : Nat) (stale : Bool) : State :=
  let a := aCTX n 0xF0
  if stale then
    let k := min 255 (s.rf a 7 0 + 1)
    let s1 := s.setF a 7 0 k
    if max 1 (s.rf (aCTX n 0x5C) 31 24) ≤ k then s1.setCause n 19 else s1
  else (s.setF a 7 0 0).clearCause n 19

/-! ### Outputs (R216, R217) -/

/-- On time, RISE and FALL, the companion's RISE and FALL, and whether a pulse or gap was removed (R217). -/
structure PwmEdges where
  rise : Nat
  fall : Nat
  cRise : Nat
  cFall : Nat
  adjusted : Bool
deriving DecidableEq, Repr

def pwmEdges (o : Int) (per : Nat) (centre comp : Bool) (dead : Nat) : PwmEdges :=
  let h := (lclamp 0 4294967296 o).toNat
  let raw := (h * per + 2147483648) / 4294967296
  let on := if 1 ≤ raw ∧ raw ≤ 102 then 0 else if per - 102 ≤ raw ∧ raw < per then per else raw
  let rise := if centre then (per - on) / 2 else 0
  let fall := if centre then rise + on else on
  let width : Int := (per : Int) - on - 2 * dead
  let low := on + 2 * dead
  let q := max per 1
  let cr : Nat × Nat :=
    if width < 103 then (0, 0) else if low < 103 then (0, per) else ((fall + dead) % q, (rise + q * (dead / q + 1) - dead) % q)
  let cAdj := comp && ((width < 103 && 0 < (per : Int) - on) || (103 ≤ width && low < 103 && 0 < low))
  { rise := rise, fall := fall, cRise := cr.1, cFall := cr.2, adjusted := on != raw || cAdj }

/-- Write RISE and FALL of an EDGE page through the engine's internal path and request its commit (R184). -/
def State.loopPwmWrite (s : State) (p rise fall : Nat) : State :=
  ((s.setShadow (aEDGE p 0x34) (BitVec.ofNat 32 rise)).setShadow (aEDGE p 0x38) (BitVec.ofNat 32 fall)).requestCommit (0x100 + p)

/-- A write of publish sample i (R286). -/
def State.pubWrite (s : State) (i : Nat) (w : Word) : State :=
  let a := pg 0x550 (0x180 + 4 * i)
  let u := SMap.get (fun _ => ({} : PubSample)) s.pub i
  let u1 := { u with written := true, writes := (s.time.now, w) :: u.writes }
  let s1 := { s with pub := SMap.set (fun _ => {}) s.pub i u1 }
  s1.setReg a w

/-- The record of R239, as 32 bytes. -/
def State.logRecord (s : State) (n : Nat) (u : LoopUpdate) : List Byte :=
  leBytes 8 (nsOf u.tr) ++ leBytes 6 (scode 48 u.y) ++ leBytes 2 (n + s.cCause n * 1024) ++ leBytes 6 (scode 48 u.r) ++
    leBytes 2 (u.quality % 16 + s.rf (aCTX n 0xF4) 5 0 * 16) ++ leBytes 6 (scode 48 u.o) ++
    leBytes 2 (s.rf (aLOOP 0x50) 15 0)

/-- The records that are outstanding: those of port 9 that the DRAM has not taken (R239, R365). -/
def State.logOutstanding (s : State) : Nat :=
  ((s.dram.queue ++ s.dram.atPort).filter fun r => r.port == 9 && !r.issued).length

/-- Write the loop log record of an applied update (R239): one 32-byte write of port 9, class TIMED. With 16 outstanding it drops, as it does
where the DRAM takes no request or is in self-refresh. -/
def State.loopLog (s : State) (n : Nat) (u : LoopUpdate) : State :=
  if s.rb (aLOOP 0x44) 31 ∧ u.log then
    let base := (s.reg64 (aLOOP 0x48) (aLOOP 0x4C)).toNat
    let wr := (s.reg (aLOOP 0x50)).toNat
    let s1 := s.setReg (aLOOP 0x50) (BitVec.ofNat 32 (wr + 1))
    if s.dramShut ∨ s.dramState = dSELF ∨ s.dram.trainStopped ∨ 16 ≤ s.logOutstanding then s1.setErr 0x300 19
    else
      let a := base + 32 * (wr % 2 ^ s.rf (aLOOP 0x44) 4 0)
      s1.dramRequest { port := 9, addr := a, write := true, line := false, close := true, fence := false, tag := 0, cls := 0, seq := 0
                       be := BitVec.ofNat 64 ((2 ^ 32 - 1) * 2 ^ (a % 64))
                       data := BitVec.ofNat 512 (ofBytes (s.logRecord n u) * 2 ^ (8 * (a % 64))) }
  else s

/-- Precision pin p takes PWM values from the engine (R216). -/
def State.pwmTakes (s : State) (p : Nat) : Bool := s.edgeMode p == 2 && s.edgePer p != 0

/-- The target write of an output applied at time t, by the OUT_DST and OUT_PAR words read at t_r (R216, R220). -/
def State.loopTarget (s : State) (n : Nat) (o : Int) (w par : Word) (t : DevTime) : State :=
  let i := fld w 17 8
  match fld w 31 28 with
  | 1 =>
    let p := i % 256
    if !s.pwmTakes p then s.ctxFlag n 5
    else
      let e := pwmEdges o (s.edgePer p) (bit w 27) (bit w 26) (fld par 23 0)
      let s1 := s.loopPwmWrite p e.rise e.fall
      let s2 := if !bit w 26 then s1
        else if s1.pwmTakes (fld w 7 0) then s1.loopPwmWrite (fld w 7 0) e.cRise e.cFall else s1.ctxFlag n 5
      if e.adjusted then s2.ctxFlag n 4 else s2
  | 2 =>
    let p := i % 256
    if s.edgeMode p ≠ 1 then s.ctxFlag n 5
    else if 16 ≤ (s.edgeUnit p).queue.length then (s.edgeErr p 17).ctxFlag n 5
    else
      let d := (lclamp (30 * 256) ((2 ^ 39 - 1) * 256) (o / 16777216)).toNat
      s.queuePush p { time := t + BitVec.ofNat 72 d, level := bit w 25 }
  | 3 =>
    ({ s with loop := { s.loop with
        slotsOut := SMap.set (fun _ => {}) s.loop.slotsOut (i % 256) { value := o, valid := true, arrival := some t }
        slotsWaiting := if s.loop.slotsWaiting.contains (i % 256) then s.loop.slotsWaiting
          else s.loop.slotsWaiting ++ [i % 256] } }).slotSend (i % 256 / 64)
  | 4 =>
    if s.rf (pg 0x540 0x048) 5 0 ≤ i then s.ctxFlag n 5
    else if s.rf (pg 0x550 (0x100 + 4 * i)) 1 0 = 2 then
      s.pubWrite i (BitVec.ofNat 32 (scode 32 (lclamp (-2147483648) 2147483647 (shiftQ o (-(fld par 5 0 : Int))))))
    else s
  | _ => s

/-- The output of the update in flight is applied at t_r + L (R216). -/
def State.outputApply (s : State) (n : Nat) : State :=
  match (s.ctx n).update with
  | none => s
  | some u =>
    let s1 := s.reach u.applyAt
    let s2 := s1.setCtx n { s1.ctx n with
      update := none, oPrev := u.o, lastNs := nsOf u.applyAt % 2 ^ 32, lastApplied := u.applyAt, arrival := some u.applyAt
      before := { value := s1.cq n 0xF8, valid := true, arrival := (s1.ctx n).arrival } }
    let s3 := (s2.setReg (aCTX n 0xF8) (BitVec.ofNat 32 (scode 48 u.o))).setReg (aCTX n 0xFC)
      (BitVec.ofNat 32 (scode 48 u.o / 2 ^ 32))
    let s3a := if u.sat then s3.ctxFlag n 3 else s3
    let s3b := if u.enter then ((s3a.setB (aCTX n 0xF0) 29 true).ctxFlag n 0).loopEvent n
      else if u.leave then ((s3a.setB (aCTX n 0xF0) 29 false).setB (aCTX n 0xF0) 28 false).loopEvent n
      else s3a
    let s4 := if s3b.cAbseil n ∧ u.o = u.safe ∧ !s3b.rb (aCTX n 0xF0) 28 then
        (s3b.setB (aCTX n 0xF0) 28 true).loopEvent n
      else s3b
    (s4.loopTarget n u.o u.dst u.par u.applyAt).loopLog n u

/-- A context whose coasting time has run out ends its suspension (R234). -/
def State.coastCheck (s : State) (n : Nat) : State :=
  match (s.ctx n).coastUntil with
  | some t =>
    if s.rb (aCTX n 0xF0) 27 ∧ !laterThan t s.time.now then
      (s.setCtx n { s.ctx n with slotsAwaited := [], coastUntil := none }).setB (aCTX n 0xF0) 27 false
    else s
  | none => s

/-- An update of context n triggered at tr (R220): the sources are latched, the chain or the abseil step runs, and the
output waits for t_r + L. With `own`, the arrival of the IN_A value is the trigger. -/
def State.loopUpdate (s00 : State) (n : Nat) (tr : DevTime) (own : Bool) : State :=
  -- an output still waiting is due before the next trigger of its context
  let s := (s00.outputApply n).coastCheck n
  let c := s.ctx n
  let (rawA, staleA) := s.loopSource n (s.reg (aCTX n 0x50)) tr own
  let (rawB, staleB) := s.loopSource n (s.reg (aCTX n 0x54)) tr false
  let va := if staleA then c.goodA else rawA
  let vb := if staleB then c.goodB else rawB
  let st := stagesOf (s.cCtl n)
  let applyAt := tr + ns (latencyOf st)
  let dtRaw := (applyAt - c.lastApplied).toNat / 256
  let dt := min dtRaw 4294967295
  let inAbseil := s.cCause n ≠ 0 ∨ (c.entered ∧ s.rb (aCTX n 0x40) 27 ∧ !c.released)
  let leaving := !inAbseil ∧ (c.entered ∨ c.first)
  let c1 := { c with goodA := va, goodB := vb, dtSat := dtRaw != dt }
  let (y, r) := s.runInput n va vb
  let res : UpdateResult :=
    if inAbseil then
      { o := abseilStep c.oPrev (s.cq n 0xE0) (s.cq n 0xE8) dt, y := y.v, r := r.v, ctx := c1, sat := y.sat || r.sat }
    else s.runChain n c1 va vb dt leaving
  let (fv, s0) := if s.isUndefined (0x400 + n / 16) (n % 16) then s.free 48 else (0, s)
  let o := if s.isUndefined (0x400 + n / 16) (n % 16) then sext 48 fv.toNat else res.o
  let s1 := s0.setCtx n { res.ctx with
    first := res.ctx.first && inAbseil
    entered := inAbseil
    lastTrigger := some tr
    update := some { tr := tr, applyAt := applyAt, o := o, y := res.y, r := res.r, quality := s.quality
                     enter := inAbseil ∧ !s.cAbseil n, leave := !inAbseil ∧ c.entered, sat := res.sat
                     dst := s.reg (aCTX n 0xD8), par := s.reg (aCTX n 0xDC), safe := s.cq n 0xE0, log := s.cStage n 4 } }
  s1.countStale n (staleA || staleB)

/-! ### Triggers (R218) -/

/-- The record read at t_r found a double-bit error: the update does not run, and the context becomes INVALID (R494). -/
def State.recordLost (s : State) (n : Nat) (tr : DevTime) : State :=
  let s1 := (((s.outputApply n).setB (aCTX n 0xF0) 31 true).setB (aCTX n 0xF0) 30 false)
  let s2 := s1.setCtx n { s1.ctx n with rewritten := false }
  ((s2.raiseAt 250 tr).loopEvent n).queueCheck (elemOf 2 n) 4

/-- A triggered update of context n at tr. `ecc` is what the decode of the record finds (R494): nothing, one wrong bit that
it corrects, or more. -/
def State.loopRead (s : State) (n : Nat) (tr : DevTime) (own : Bool) (ecc : BitVec 2) : State :=
  -- an entry to a power state starts no update once AP0 has passed (R474)
  if s.power.entry.any (fun e => decide (1 ≤ e.passed)) then s
  else if ecc = 0 then s.loopUpdate n tr own
  else if ecc = 1 then ((s.raiseAt 249 tr).queueCheck (elemOf 2 n) 3).loopUpdate n tr own
  else s.recordLost n tr

/-- The context is in abseil, or has a cause to be. -/
def State.inAbseil (s : State) (n : Nat) : Bool := s.cCause n != 0 || s.cAbseil n || (s.ctx n).entered

/-- Device time reaches the next grid point of a PERIODIC context. -/
def State.loopGridPoint (s : State) (n : Nat) (ecc : BitVec 2) : State :=
  if s.cRunning n ∧ s.cKind n = 0 then
    let c := s.ctx n
    let from_ := if laterThan c.notBefore s.time.now then c.notBefore else s.time.now
    let t := gridAt (s.cPeriod n) (s.reg (aCTX n 0x4C)).toNat from_
    let s1 := s.reach t
    -- the wrap of NS on the way may have skipped the point
    if laterThan (s1.ctx n).notBefore t then s1
    else (s1.setCtx n { s1.ctx n with notBefore := t + ns 1 }).loopRead n t false ecc
  else s

/-- The occurrences of the event that TRIG of context n names, and the arrival of its IN_A value. -/
def State.trigCount (s : State) (n : Nat) : Word := SMap.get (fun _ => 0) s.evt.counts (s.rf (aCTX n 0x44) 8 0)
def State.trigArrival (s : State) (n : Nat) : Option DevTime :=
  if 2 ≤ s.rf (aCTX n 0x50) 31 28 then (s.sourceValues n (s.reg (aCTX n 0x50))).1.arrival else none

/-- One occurrence of the event that TRIG names is taken: none merges with another (R308). -/
def State.takeEvent (s : State) (n : Nat) : State :=
  s.setCtx n { s.ctx n with eventSeen := (s.ctx n).eventSeen + 1 }

/-- What has triggered the context so far is taken. -/
def State.takeTrigger (s : State) (n : Nat) : State :=
  s.setCtx n { s.ctx n with eventSeen := s.trigCount n, sampleSeen := s.trigArrival n }

/-- An EVENT or SAMPLE trigger at instant t; in abseil engine triggers take its place, and one that comes too soon is dropped. -/
def State.loopTrigger (s : State) (n : Nat) (t : DevTime) (own : Bool) (ecc : BitVec 2) : State :=
  if s.inAbseil n ∨ laterThan (s.ctx n).notBefore t then s
  else
    let early : Bool := match (s.ctx n).lastTrigger with
      | some l => laterThan (l + ns (s.cPeriod n)) t
      | none => false
    if early then (s.ctxMissed n).ctxFlag n 2 else s.loopRead n t own ecc

/-- An occurrence of the event that TRIG names has reached the engine. -/
def State.eventTrigger (s : State) (n : Nat) (ecc : BitVec 2) : State :=
  if s.cRunning n ∧ s.cKind n = 1 ∧ s.trigCount n ≠ (s.ctx n).eventSeen then (s.takeEvent n).loopTrigger n s.time.now false ecc else s

/-- A new value of the IN_A source has arrived; a kind that delivers none gives no triggers. -/
def State.sampleTrigger (s : State) (n : Nat) (ecc : BitVec 2) : State :=
  match s.trigArrival n with
  | some t => if s.cRunning n ∧ s.cKind n = 2 ∧ (s.ctx n).sampleSeen ≠ some t then (s.takeTrigger n).loopTrigger n t true ecc else s
  | none => s

/-- The next engine trigger of an EVENT or SAMPLE context in abseil: on the spacing of PERIOD from the last accepted trigger; before the first, 1 µs
after the enable transfer (log 102). -/
def State.engineTrigger (s : State) (n : Nat) : DevTime :=
  let c := s.ctx n
  let p := 256 * max 1 (s.cPeriod n)
  match c.lastTrigger with
  | some l =>
    let t := l + BitVec.ofNat 72 p
    if laterThan s.time.now t then t + BitVec.ofNat 72 (((s.time.now - t).toNat + p - 1) / p * p) else t
  | none => if laterThan c.notBefore s.time.now then c.notBefore else s.time.now

def State.abseilTrigger (s : State) (n : Nat) (ecc : BitVec 2) : State :=
  if s.cRunning n ∧ (s.cKind n = 1 ∨ s.cKind n = 2) ∧ s.inAbseil n then
    let t := s.engineTrigger n
    ((s.reach t).takeTrigger n).loopRead n t false ecc
  else s

/-! ### Fabric slots and held ports (R215, R229, R233, R234) -/

/-- Context n reads a slot of a held port: it abseils or coasts (R229, R234). -/
def State.reloadPolicy (s : State) (n : Nat) : State :=
  let t1 := s.setCtx n { s.ctx n with slotsAwaited := [], coastUntil := none }
  if t1.rb (aCTX n 0x40) 26 then t1.setB (aCTX n 0xF0) 27 true else t1.setCause n 18

/-- Slot port q is held: each running context that reads it abseils or coasts. -/
def State.holdPort (s : State) (q : Nat) : State :=
  if s.loop.held.contains q then s
  else
    let s0 := s.slotRecall q
    let s1 := { s0 with loop := { s0.loop with held := q :: s0.loop.held } }
    s1.runningCtxs.foldl (fun t n => if (t.slotsRead n q).isEmpty then t else t.reloadPolicy n) s1

/-- No slot is awaited any longer: RELOAD clears and coasting ends. -/
def State.endReload (s : State) (n : Nat) : State := (s.clearCause n 18).setB (aCTX n 0xF0) 27 false

/-- Slot port q is released: from here on a word to every slot ends the reload of a context that reads it, and a coasting one has one MAX_AGE
more (R229, R234). Output words that waited are sent (R233). -/
def State.releasePort (s : State) (q : Nat) : State :=
  let s1 := { s with loop := { s.loop with held := s.loop.held.filter (· != q) } }
  (s1.runningCtxs.foldl (fun t n =>
    if (t.slotsRead n q).isEmpty ∨ t.portsHeld n then t
    else t.setCtx n { t.ctx n with
      slotsAwaited := t.allSlotsRead n, coastUntil := some (t.time.now + ns (t.rf (aCTX n 0x5C) 23 0)) }) s1).slotIdle q |>.slotSend q

/-- A channel word of slot port q reaches the engine (R215). -/
def State.fslotWord (s : State) (q : Nat) (w : BitVec 64) : State :=
  if s.loop.held.contains q then s
  else
    let slot := 64 * q + (w.toNat / 2 ^ 48) % 64
    let s1 := { s with loop := { s.loop with
      slotsBefore := SMap.set (fun _ => {}) s.loop.slotsBefore slot (SMap.get (fun _ => {}) s.loop.slotsIn slot)
      slotsIn := SMap.set (fun _ => {}) s.loop.slotsIn slot
        { value := sext 48 (w.toNat % 2 ^ 48), valid := w.getLsbD 63, arrival := some s.time.now } } }
    s1.runningCtxs.foldl (fun t n =>
      let c := t.ctx n
      if c.slotsAwaited.contains slot then
        let rest := c.slotsAwaited.filter (· != slot)
        let t1 := t.setCtx n { c with slotsAwaited := rest }
        if rest.isEmpty then t1.endReload n else t1
      else t) s1

/-! ### Admission and commits (R222 to R226) -/

/-- The record of context n as it would be after a commit: word at block offset o. -/
def State.wouldBe (s : State) (cs : List Nat) (n o : Nat) : Word :=
  if cs.contains n then s.shadow (aCTX n o) else s.reg (aCTX n o)

/-- What admission reads of one context. -/
structure Sched where
  n : Nat
  lane : Nat
  kind : Nat
  period : Nat
  phase : Nat
  /-- S of R205, and STAGES itself. -/
  stages : Nat
  mask : Nat
deriving DecidableEq, Repr

def State.schedOf (s : State) (cs : List Nat) (n : Nat) : Sched :=
  let ctl := s.wouldBe cs n 0x40
  { n := n, lane := fld ctl 30 28, kind := fld ctl 15 14, period := (s.wouldBe cs n 0x48).toNat
    phase := (s.wouldBe cs n 0x4C).toNat, stages := stagesOf ctl, mask := fld ctl 3 0 }

/-- The contexts that would be running after the commit, in rising order. INVALID contexts count when their EN is
committed anew after a rewrite (R236). -/
def State.wouldRun (s : State) (cs : List Nat) : List Sched :=
  ((List.range 1024).filter fun n =>
    bit (s.wouldBe cs n 0x40) 31 && (!s.rb (aCTX n 0xF0) 31 || (cs.contains n && (s.ctx n).rewritten))).map (s.schedOf cs)

/-- Condition 3 holds for two PERIODIC contexts of one TIMED lane. -/
def windowsApart (a b : Sched) : Bool :=
  let g := Nat.gcd a.period b.period
  let d := (((b.phase : Int) - a.phase) % (max g 1 : Nat)).toNat
  occupancyOf a.stages ≤ d && occupancyOf b.stages ≤ g - d

/-- The first pair of a list that fails a test, in lexicographic order. -/
def firstPair (p : Sched → Sched → Bool) : List Sched → Option (Nat × Nat)
  | [] => none
  | a :: t => match t.find? (p a) with
    | some b => some (a.n, b.n)
    | none => firstPair p t

/-- A failure of the test: RESULT, CTX_A and CTX_B (R224). Where condition 4 fails on several lanes, the lowest of them is reported
(DESIGN CHOICE, log 126). -/
def State.admissionFailures (s : State) (cs : List Nat) (sporadic : Nat) : List (Nat × Nat × Nat) :=
  let set := s.wouldRun cs
  let isSpor (l : Nat) : Bool := Nat.testBit sporadic l
  let overlap := match firstPair (fun a b =>
      a.kind == 0 && b.kind == 0 && a.lane == b.lane && !isSpor a.lane && !windowsApart a b) set with
    | some (a, b) => [(2, a, b)]
    | none => []
  let burstLane := (List.range 8).find? fun l =>
    let on := set.filter fun a => a.lane == l
    isSpor l && on.any fun m => windowOf m.stages < (on.map fun a => occupancyOf a.stages).sum
  let burst := match burstLane with
    | some l => match (set.filter fun a => a.lane == l).getLast? with
      | some a => [(3, a.n, a.n)]
      | none => []
    | none => []
  let period := match set.find? (fun a => a.period < 500) with
    | some a => [(4, a.n, a.n)]
    | none => []
  let mode := match set.find? (fun a => if a.kind = 0 then isSpor a.lane else !isSpor a.lane) with
    | some a => [(5, a.n, a.n)]
    | none => []
  let live := match set.find? (fun a =>
      s.cRunning a.n && (s.schedOf [] a.n != a || s.reg (aCTX a.n 0x44) != s.wouldBe cs a.n 0x44 ||
        fld (s.reg (aCTX a.n 0x50)) 31 28 != fld (s.wouldBe cs a.n 0x50) 31 28)) with
    | some a => [(6, a.n, a.n)]
    | none => []
  overlap ++ burst ++ period ++ mode ++ live

/-- The block offsets of the RWS words of a record. -/
def ctxWords : List Nat := (List.range 44).map fun j => 0x40 + 4 * j

/-- The repair list names context n's row as retired: it stays INVALID (R498). -/
def State.ctxRetired (s : State) (n : Nat) : Bool :=
  s.heart.work.repairs.any fun r => r.retired && r.elem.toNat == 0x40000000 + n

/-- The active record of context n holds a reserved encoding (case 2 of R56, R208). -/
def State.recordReserved (s : State) (n : Nat) : Bool :=
  s.cKind n == 3 || decide (6 ≤ s.rf (aCTX n 0x50) 31 28) || decide (6 ≤ s.rf (aCTX n 0x54) 31 28) || decide (5 ≤ s.rf (aCTX n 0xD8) 31 28)

/-- The causes that stand as context n begins to run, or takes a new HB_MASK (R26, R229): the device is in HOLD or SERVICE, a slot port it reads is
held, a heartbeat that it watches is missed. -/
def State.standingCauses (s : State) (n : Nat) (starts : Bool) : State :=
  let s1 := if starts && (s.mode == mHOLD || s.mode == mSERVICE) then s.setCause n 17 else s
  let s2 := if starts && s1.portsHeld n then s1.reloadPolicy n else s1
  [0, 1].foldl (fun t h => if t.rb (aLOOP 0x3C) h && t.rb (aCTX n 0x40) (24 + h) then t.setCause n (20 + h) else t) s2

/-- The transfer of one context's record, and the start or stop it makes (R226). With `restart` a context that runs starts afresh (R235). -/
def State.transferCtx (restart : Bool) (s : State) (n : Nat) : State :=
  let was := s.cRunning n && !restart
  let s0 := ctxWords.foldl (fun t o => t.transferReg (aCTX n o)) s
  let s1 := if s0.recordReserved n then s0.markUndefined 2 (0x400 + n / 16) (n % 16) else s0
  let en := bit (s1.cCtl n) 31
  let inv := s1.rb (aCTX n 0xF0) 31
  if en && !s1.ctxRetired n && (!inv || (s1.ctx n).rewritten) then
    if was then s1.standingCauses n false
    else
      let c := s1.ctx n
      let s2 := (s1.setCtx n { c with
        first := true, oPrev := s1.cq n 0xE0, notBefore := s1.time.now + ns 1000, lastTrigger := none, rewritten := false
        entered := s1.cCause n != 0 }).takeTrigger n
      let s3 := ((s2.setB (aCTX n 0xF0) 31 false).setB (aCTX n 0xF0) 30 true).setB (aCTX n 0xF0) 29 false
      let s5 := (s3.setB (aCTX n 0xF0) 28 false).standingCauses n true
      if s5.recordReserved n then s5 else s5.clearUndefined 2 (0x400 + n / 16) (n % 16)
  else s1.setB (aCTX n 0xF0) 30 false

/-- COMMITS increments on a page and COMMIT_DONE may raise its event (R41). -/
def State.commitDone (s : State) (p : Nat) : State :=
  let s1 := (s.wrapAdd (pg p 0x018) 23 0 1).setPending p false
  if s1.rb (pg p 0x010) 8 then
    match pageEvent p 8 with
    | some e => s1.raise e
    | none => s1
  else s1

/-- Request a commit of contexts (R225): COMMIT_PENDING on the pages involved until the test ends. -/
def State.loopCommitRequest (s : State) (cs : List Nat) (laneCtl restart : Bool) (pages : List Nat) : State :=
  if s.rb (aLOOP 0x28) 31 then s.setErr 0x300 20
  else
    let s1 := pages.foldl (fun t p => t.setPending p true) s
    ({ s1 with loop := { s1.loop with commit := some { contexts := cs, pages := pages, laneCtl := laneCtl, restart := restart } } }).setB
      (aLOOP 0x28) 31 true

/-- The commit that CTX_COMMIT names: one context, or the contexts whose GROUP matches. GROUP 0 selects none, and passes at once. DESIGN CHOICE: the
GROUP that matches is that of the shadow CTL, the record that is to be committed, where ABSEIL_CMD takes the active one; R225 does not say which copy
(log 103). -/
def State.ctxCommit (s : State) (w : Word) : State :=
  let cs := if bit w 30 then [fld w 25 16]
    else (List.range 1024).filter fun n => fld (s.shadow (aCTX n 0x40)) 20 16 == fld w 4 0
  if !bit w 30 && fld w 4 0 == 0 then (if s.rb (aLOOP 0x28) 31 then s.setErr 0x300 20 else s.setReg (aLOOP 0x28) 0x01000000)
  else s.loopCommitRequest cs false false ((cs.map fun n => 0x400 + n / 16).eraseDups)

/-- The admission test ends: the commit transfers on every page together, or is refused (R224, R225). Where several
conditions fail, the one reported is free (log 15). -/
def State.admissionDone (s : State) : State :=
  match s.loop.commit with
  | none => s
  | some k =>
    let lanes := if k.laneCtl then fld (s.shadow (aLOOP 0x20)) 7 0 else s.rf (aLOOP 0x20) 7 0
    let fails := s.admissionFailures k.contexts lanes
    let s0 := { s with loop := { s.loop with commit := none } }
    match fails with
    | [] =>
      let s1 := s0.setReg (aLOOP 0x28) 0x01000000
      let s2 := if k.laneCtl then s1.transferReg (aLOOP 0x20) else s1
      let s3 := k.contexts.foldl (State.transferCtx k.restart) s2
      k.pages.foldl State.commitDone s3
    | f :: more =>
      let (pick, s1) := if more.isEmpty then (0, s0) else
        let (v, t) := s0.free 8
        (v.toNat % fails.length, t)
      let g := (fails[pick]?).getD f
      let s2 := s1.setReg (aLOOP 0x28) (BitVec.ofNat 32 (g.1 * 2 ^ 24 + g.2.2 * 2 ^ 10 + g.2.1))
      let s3 := k.pages.foldl (fun t p => (t.setPending p false).setErr p 16) s2
      s3.setErr 0x300 16

/-! ### Abseil commands, heartbeats, HOLD (R229, R230, R235) -/

/-- The contexts an ABSEIL_CMD names. -/
def State.abseilNamed (s : State) (w : Word) : List Nat :=
  if !bit w 29 then [fld w 25 16]
  else if fld w 4 0 = 0 then List.range 1024
  else (List.range 1024).filter fun n => s.rf (aCTX n 0x40) 20 16 == fld w 4 0

/-- A write of ABSEIL_CMD. -/
def State.abseilCmd (s : State) (w : Word) : State :=
  match fld w 31 30 with
  | 1 => (s.abseilNamed w).foldl (fun t n => t.setCause n 16) s
  | 2 => (s.abseilNamed w).foldl (fun t n => let t1 := t.clearCause n 16
                                             t1.setCtx n { t1.ctx n with released := true }) s
  | _ => s

/-- A kick of heartbeat h: it is no longer missed, and the cause it set clears. -/
def State.hbKick (s : State) (h : Nat) : State :=
  let s1 := if h = 0 then { s with loop := { s.loop with hb0 := { lastKick := s.time.now } } }
    else { s with loop := { s.loop with hb1 := { lastKick := s.time.now } } }
  if s1.rb (aLOOP 0x3C) h then
    let s2 := s1.setB (aLOOP 0x3C) h false
    ((s2.regs.act.filter fun e => 0x400 ≤ e.1 / 0x1000 && e.1 / 0x1000 ≤ 0x43F && e.1 % 0x100 == 0xF0 && bit e.2 (20 + h)).map
      fun e => 16 * (e.1 / 0x1000 - 0x400) + (e.1 % 0x1000) / 0x100).foldl (fun t n => t.clearCause n (20 + h)) s2
  else s1

/-- HB1 is not checked while the bough that raises its fabric event is held, nor before the ports of a full load are released (R230, R458). -/
def State.hb1Suspended (s : State) : Bool :=
  let e := s.rf (aLOOP 0x34) 28 20
  256 ≤ e && (s.held (SMap.get (fun _ => 0) s.fabric.place.event e) || !s.fabric.portsReleased)

/-- Heartbeat h is missed: more than TMO µs since its last kick, at a whole µs of device time (R230). -/
def State.hbMiss (s : State) (h : Nat) : State :=
  let ctl := s.reg (aLOOP (0x30 + 4 * h))
  if !bit ctl 31 ∨ s.rb (aLOOP 0x3C) h ∨ (h = 1 ∧ s.hb1Suspended) then s
  else
    let kick := if h = 0 then s.loop.hb0.lastKick else s.loop.hb1.lastKick
    let s1 := s.reach (nextMicro (kick + ns (1000 * max 1 (fld ctl 19 0))))
    let s2 := s1.setB (aLOOP 0x3C) h true
    let s3 := if h = 0 then s2.satAdd (aLOOP 0x3C) 15 2 1 else s2.satAdd (aLOOP 0x3C) 31 16 1
    let s4 := s3.setErr 0x300 (17 + h)
    s4.runningCtxs.foldl (fun t n => if t.rb (aCTX n 0x40) (24 + h) then t.setCause n (20 + h) else t) s4

/-- The device enters HOLD or SERVICE: every running context receives the HOLD cause (R235). -/
def State.loopHold (s : State) : State := s.runningCtxs.foldl (fun t n => t.setCause n 17) s

/-- The device enters RUN: the HOLD cause clears (R229). -/
def State.loopRun (s : State) : State :=
  ((s.regs.act.filter fun e => 0x400 ≤ e.1 / 0x1000 && e.1 / 0x1000 ≤ 0x43F && e.1 % 0x100 == 0xF0 && bit e.2 17).map
    fun e => 16 * (e.1 / 0x1000 - 0x400) + (e.1 % 0x1000) / 0x100).foldl (fun t n => t.clearCause n 17) s

/-- A running context has reached the end of its abseil (R22, R228). -/
def State.loopsActive (s : State) : Bool := s.runningCtxs.any fun n => !s.rb (aCTX n 0xF0) 28

/-! ### LOOP:STATE and maps (R210, R237) -/

/-- State word w of context n. -/
def LoopCtx.word (c : LoopCtx) (w : Nat) : Word :=
  let q (i : Int) (hi : Bool) : Word := BitVec.ofNat 32 (if hi then scode 48 i / 2 ^ 32 else scode 48 i)
  match w with
  | 0 => q c.s1 false | 1 => q c.s1 true | 2 => q c.s2 false | 3 => q c.s2 true
  | 4 => q c.i false | 5 => q c.i true | 6 => q c.d false | 7 => q c.d true
  | 8 => q c.edPrev false | 9 => q c.edPrev true | 10 => q c.ll false | 11 => q c.ll true
  | 12 => q c.oPrev false | 13 => q c.oPrev true
  | 14 => BitVec.ofNat 32 c.lastNs
  | _ => BitVec.ofNat 32 (c.clampHi.toNat + 2 * c.clampLo.toNat + 4 * c.first.toNat + 8 * c.dtSat.toNat)

/-- A Q16.32 number with its low or high word replaced. -/
def setQ (i : Int) (hi : Bool) (w : Word) : Int :=
  let k := scode 48 i
  sext 48 (if hi then (w.toNat % 2 ^ 16) * 2 ^ 32 + k % 2 ^ 32 else k / 2 ^ 32 * 2 ^ 32 + w.toNat)

/-- Write state word w of a context. A write of any one word counts as rewriting an INVALID context (R236; DESIGN CHOICE, log 128). Word 14 names the previous applied output as the latest instant whose NS ends so (R210). -/
def LoopCtx.setWord (c0 : LoopCtx) (w : Nat) (v : Word) (now : DevTime) : LoopCtx :=
  let c := { c0 with rewritten := true }
  match w with
  | 0 => { c with s1 := setQ c.s1 false v } | 1 => { c with s1 := setQ c.s1 true v }
  | 2 => { c with s2 := setQ c.s2 false v } | 3 => { c with s2 := setQ c.s2 true v }
  | 4 => { c with i := setQ c.i false v } | 5 => { c with i := setQ c.i true v }
  | 6 => { c with d := setQ c.d false v } | 7 => { c with d := setQ c.d true v }
  | 8 => { c with edPrev := setQ c.edPrev false v } | 9 => { c with edPrev := setQ c.edPrev true v }
  | 10 => { c with ll := setQ c.ll false v } | 11 => { c with ll := setQ c.ll true v }
  | 12 => { c with oPrev := setQ c.oPrev false v } | 13 => { c with oPrev := setQ c.oPrev true v }
  | 14 => { c with lastNs := v.toNat, lastApplied := now - ns ((nsOf now + 2 ^ 32 - v.toNat) % 2 ^ 32) }
  | _ => { c with clampHi := bit v 0, clampLo := bit v 1, first := bit v 2, dtSat := bit v 3 }

/-- A map register of the LOOP page: bit b of STAT of contexts 32k to 32k + 31. -/
def State.loopMapWord (s : State) (k b : Nat) : Word :=
  BitVec.ofNat 32 ((List.range 32).foldl (fun a j => if s.rb (aCTX (32 * k + j) 0xF0) b then a + 2 ^ j else a) 0)

end Sys2Proof.Machine
end

