-- ==== Sys2Proof/Machine/Clocks.lean ====
section
/-! DEFINITION. Clock sources, PLLs, switches and dividers (R140 to R154), and the TIMING PLL (R166, R174). -/

namespace Sys2Proof.Machine

/-! ### PLLs (R143, R144) -/

/-- A root clock selects output c of PLL p, or is to select it. -/
def State.outputUsed (s : State) (p c : Nat) : Bool :=
  (List.range 16).any fun r => s.rf (aROOT r) 5 0 == 4 * p + c || s.rf (aROOT r) 21 16 == 4 * p + c

/-- Every quantity of PLL p lies in the table of R143. An output counts where a root clock selects it: the example after R163 calls a PLL
within R143 whose outputs 2 and 3, at 3,000 MHz, serve nothing (DEDUCED, log 91). -/
def State.pllInRange (s : State) (p : Nat) : Bool :=
  let n := s.rf (aPLL p 4) 31 24
  let outOk (c : Nat) : Bool := !s.outputUsed p c || (decide (5 ≤ s.pllOut p c) && decide (s.pllOut p c ≤ 800))
  decide (10 ≤ s.pllFin p) && decide (s.pllFin p ≤ 200) && decide (10 ≤ s.pllPfd p) && decide (s.pllPfd p ≤ 100) &&
    (if s.rb (aPLL p 0) 1 then 20 ≤ n && n ≤ 250 else 16 ≤ n && n ≤ 255) &&
    decide (2400 ≤ s.pllVco p) && decide (s.pllVco p ≤ 4800) && (List.range 4).all outOk

/-- PLL p is enabled: a value outside R143 is case 6 of R56. -/
def State.pllJudge (s : State) (p : Nat) : State :=
  if s.pllInRange p && s.rf (aPLL p 0) 17 16 ≠ 3 then s
  else (s.updClocks fun c => { c with badPll := p :: c.badPll.filter (· ≠ p) }).markUndefined 6 (0x022 + p / 2) p

/-- EN of PLL p has changed from 0 to 1: it begins to lock. A reserved REF_SEL is case 2 of R56. -/
def State.pllStart (s : State) (p : Nat) : State :=
  let s1 := if s.rf (aPLL p 0) 17 16 = 3 then s.markUndefined 2 (0x022 + p / 2) p else s
  ((s1.updClocks fun c => { c with badPll := c.badPll.filter (· ≠ p) }).clearUndefined 6 (0x022 + p / 2) p).pllJudge p

/-- EN of PLL p has been cleared: each output stops low, and the PLL is not locked. -/
def State.pllStop (s : State) (p : Nat) : State :=
  ((s.setB (aPLL p 0xC) 0 false).updClocks fun c => { c with badPll := c.badPll.filter (· ≠ p) }).clearUndefined 6 (0x022 + p / 2) p

/-- PLL p achieves lock. The lock indication of a PLL under case 6 is open. -/
def State.pllLock (s : State) (p : Nat) : State :=
  if !s.rb (aPLL p 0) 0 then s
  else if s.fabric.clocks.badPll.contains p then
    let (v, s1) := s.freeBool
    s1.setB (aPLL p 0xC) 0 v
  else s.setB (aPLL p 0xC) 0 true

/-- PLL p loses lock. -/
def State.pllLoss (s : State) (p : Nat) : State :=
  if s.rb (aPLL p 0xC) 0 then
    (((s.setB (aPLL p 0xC) 0 false).satAdd (aPLL p 0xC) 15 8 1).setErr (0x022 + p / 2) (16 + p % 2))
  else s

/-! ### REFCLK and the TIMING PLL (R141, R166, R174) -/

/-- The TIMING PLL enters holdover. -/
def State.tpllHoldover (s : State) : State :=
  if !s.time.running || s.time.holdover then s
  else
    let leader := s.refSrc == 0 && s.quality == qLEADER
    let s1 := { s with time := { s.time with holdover := true, leaderAtLoss := leader } }
    let s2 := ((s1.setB aSRC_STAT 4 false).setErr 0x020 18).setErr 0x018 17
    s2.setQuality qDEGRADED

/-- REFCLK shows no rising edge for 200 cycles of FAST_OSC. -/
def State.refclkLoss (s : State) : State :=
  if !s.rb aSRC_STAT 1 then s
  else
    let s1 := (s.setB aSRC_STAT 1 false).setErr 0x020 16
    let s2 := (List.range 8).foldl (fun t p => if t.rf (aPLL p 0) 17 16 = 0 then t.pllLoss p else t) s1
    s2.tpllHoldover

/-- REFCLK returns and the TIMING PLL relocks. -/
def State.tpllRelock (s : State) : State :=
  let s0 := s.setB aSRC_STAT 1 true
  if !s.time.holdover then s0
  else
    let s1 := { s0.setB aSRC_STAT 4 true with time := { s0.time with holdover := false, leaderAtLoss := false, good := 0 } }
    if s1.servoRuns then s1.setQuality qTRACKING
    else if s.time.leaderAtLoss then s1.setQuality qLEADER else s1

/-- The TIMING PLL locks for the first time after a reset: device time starts at t = 0 ns. -/
def State.timingPllLock (s : State) : State :=
  if s.time.running then s
  else
    let s1 := { s with time := { s.time with running := true, holdover := false, now := 0 } }
    s1.setB aSRC_STAT 4 true

/-! ### The crystal (R142) -/

/-- The crystal has run 1,024 periods without a missing edge. -/
def State.xtalStart (s : State) : State :=
  if s.rb aSRC_CTL 0 && !s.fabric.clocks.xtalFailed && !s.rb aSRC_STAT 3 then (s.setB aSRC_STAT 2 true).setB aSRC_STAT 3 true
  else s

/-- XTAL32 shows no edge for 4 SLOW_OSC periods. -/
def State.xtalFail (s : State) : State :=
  if s.rb aSRC_STAT 3 then
    (((s.setB aSRC_STAT 2 false).setB aSRC_STAT 3 false).updClocks fun c => { c with xtalFailed := true }).setErr 0x020 17
  else s

/-- XTAL_EN has been cleared: the crystal stops, and a failure is forgotten. The spec does not say what becomes of an AON domain that runs on
XTAL32 then: the model returns it to SLOW_OSC at once, with XTAL_OK and AON_SRC at 0 and no XTAL_FAIL (DESIGN CHOICE, log 93). -/
def State.xtalOff (s : State) : State :=
  ((s.setB aSRC_STAT 2 false).setB aSRC_STAT 3 false).updClocks fun c => { c with xtalFailed := false }

/-! ### Switches and dividers (R151 to R153) -/

/-- A switch or a divider restart is in progress at a site. -/
def State.switching (s : State) (k : ClkSite) : Bool :=
  match k with
  | .bclk b c => s.rb (aBCLK b.toNat c.toNat) 30
  | .root r => s.rb (aROOT r.toNat) 30
  | .guide => s.fabric.clocks.guideSw

/-- The root requested by SEL. -/
def State.bclkWanted (s : State) (b c : Nat) : Nat :=
  let w := s.reg (aBCLK b c)
  fld w (4 * fld w 27 26 + 3) (4 * fld w 27 26)

/-- The Guide clock requested: 0b10 and 0b11 act as 0b00. -/
def State.guideWanted (s : State) : Nat := if s.rf aSRC_CTL 9 8 = 1 then 1 else 0

/-- The old root of a switch shows no edge while the switch still needs it: the switch completes its old-side steps without that root, by the
escape of R152. -/
def State.escapes (s : State) (b c : Nat) : Bool :=
  match s.clockSwitch (bclkKey b c) with
  | some x => x.moves && !x.low && !s.rootRuns x.source
  | none => false

/-- The old side of the switch of bough clock c of bough b is over, or the escape of R152 ends it. While the old root runs and its last output
period has not ended, the switch goes on (R151). -/
def State.oldSideOver (s : State) (b c : Nat) : Bool := (s.clockSwitch (bclkKey b c)).all (·.low) || s.escapes b c

/-- The old side of the switch of a bough clock is over: its output is low, and the escape sets DEAD. -/
def State.oldSideDone (s : State) (b c : Nat) : State :=
  let k := bclkKey b c
  let s1 := (s.setSwitch k ((s.clockSwitch k).map fun x => { x with low := true })).updClocks fun x => { x with high := x.high.filter (· ≠ k) }
  if s.escapes b c then s1.setErr (0x028 + b / 16) 17 else s1

/-- The divider of ratio n on root r starts where A = 0, for n divides the modulus (R153); a ratio of 1 is no division and starts at the next edge
(DEDUCED, log 121). -/
def State.startsAligned (s : State) (r n : Nat) : Bool := n != 1 && s.alignMod r % n == 0

/-- The switch takes the new input and ends at the alignment point: the next edge of its root, or the next at which A = 0 for a divider that starts there,
and SW_BUSY reads 1 until then. While the old side is not over, or the new root shows no edge, the switch waits. -/
def State.switchDone (s : State) (k : ClkSite) : State :=
  if !s.switching k then s
  else match k with
    | .bclk b c =>
      let a := aBCLK b.toNat c.toNat
      let r := s.bclkWanted b.toNat c.toNat
      let s1 := s.oldSideDone b.toNat c.toNat
      let waits := s.startsAligned r (s.rf a 23 16 + 1)
      if !s.oldSideOver b.toNat c.toNat then s
      else if !s.rootRuns r then s1
      else ((s1.setF a 29 28 (s.rf a 27 26)).setB a 30 waits).updClocks fun x => { x with
        switches := SMap.set (fun _ => none) x.switches (bclkKey b.toNat c.toNat) none
        toAlign := (if waits then [bclkKey b.toNat c.toNat] else []) ++ x.toAlign.filter (· ≠ bclkKey b.toNat c.toNat)
        start := SMap.set (fun _ => 0) x.start (bclkKey b.toNat c.toNat) (SMap.get (fun _ => 0) x.ticks r + 1) }
    | .root r =>
      let a := aROOT r.toNat
      let k := rootKey r.toNat
      if s.rootRuns r.toNat then s
      else if !s.sourceRuns (s.rf a 5 0) then s.setSwitch k ((s.clockSwitch k).map fun x => { x with low := true })
      else (((s.setF a 21 16 (s.rf a 5 0)).setB a 30 false).setSwitch k none).updClocks fun x => { x with high := x.high.filter (· ≠ k) }
    | .guide =>
      if s.guideWanted = 1 && !s.time.running then s
      else s.updClocks fun c => { c with guideClk := s.guideWanted, guideSw := false }

/-- A switch begins at clock k, or one under way is redirected (R152): what drove the clock goes on driving it. -/
def State.beginSwitch (s : State) (k source ratio : Nat) (moves : Bool) : State :=
  s.setSwitch k (some (match s.clockSwitch k with
    | some x => { x with moves := x.moves || moves }
    | none => { source, ratio, moves, edges := if moves then 0 else 3 }))

/-- After a write of BCLKq_c: a new SEL, or a new INn of the input selected, starts a switch, and a new DIV a restart (R151, R153). -/
def State.bclkWritten (s : State) (b c : Nat) (old : Word) : State :=
  let w := s.reg (aBCLK b c)
  let sel := fld w 27 26
  let moves := fld old 27 26 ≠ sel || fld old (4 * sel + 3) (4 * sel) ≠ fld w (4 * sel + 3) (4 * sel)
  if moves || fld old 23 16 ≠ fld w 23 16 then
    (s.setB (aBCLK b c) 30 true).beginSwitch (bclkKey b c) (bclkIn old) (fld old 23 16 + 1) moves
  else s

/-- EN of root r has been written: a root that runs stops at the third falling edge after the write, and EN = 1 opens the gate (R154). -/
def State.rootGated (s : State) (r : Nat) (old : Word) : State :=
  let on := s.rb (aROOT r) 31
  if bit old 31 = on then s
  else
    let left := if !on && (s.setB (aROOT r) 31 true).rootRuns r then 3 else 0
    s.updClocks fun x => { x with stopping := SMap.set (fun _ => 0) x.stopping r left }

/-- After a write of ROOT_CTLr. A PLL output that the root comes to select counts in the test of R143. -/
def State.rootWritten (s0 : State) (r : Nat) (old : Word) : State :=
  let s := s0.rootGated r old
  let n := s.rf (aROOT r) 5 0
  if fld old 5 0 = n then s
  else
    let s1 := (s.setB (aROOT r) 30 true).beginSwitch (rootKey r) (fld old 21 16) 1 true
    if n < 32 ∧ s1.rb (aPLL (n / 4) 0) 0 then s1.pllJudge (n / 4) else s1

/-- After a write of SRC_CTL. -/
def State.srcCtlWritten (s : State) (old : Word) : State :=
  let s1 := if s.guideWanted ≠ s.fabric.clocks.guideClk then s.updClocks fun c => { c with guideSw := true } else s
  if bit old 0 && !s.rb aSRC_CTL 0 then s1.xtalOff else s1

/-- The hold gate of R154, on or off. -/
def State.setHoldGate (s : State) (on : Bool) : State := s.updClocks fun c => { c with holdGate := on }

/-- CLR of XMERGE (R150). -/
def State.xmergeClr (s : State) (b : Nat) : State := (s.setF (aXMERGE b) 31 16 0).setF (aXMERGE b) 7 0 0

end Sys2Proof.Machine
end

