-- ==== Sys2Proof/Machine/Pins.lean ====
section
/-! DEFINITION. The pins: rows of R341, parks, banks, owners and the lock (R333 to R346), and the boundary scan (R522). -/

namespace Sys2Proof.Machine

/-! ### Registers -/

def aREF_CNT : Nat := pg 0x522 0x024
def aREF_LAST : Nat := pg 0x522 0x028
def aLOCKED (k : Nat) : Nat := pg 0x522 (0x100 + 4 * k)

/-- Owner codes (R340). -/
def oHOST : Nat := 0
def oGUIDE : Nat := 1
def oFABRIC : Nat := 2
def oLOOP : Nat := 3
def oSECURE : Nat := 4

def State.pinOwner (s : State) (n : Nat) : Nat := s.rf (aPCFG n) 31 29
def State.pinLocked (s : State) (n : Nat) : Bool := s.rb (aPCFG n) 28
def State.pinWake (s : State) (n : Nat) : Nat := s.rf (aPCFG n) 21 20
def State.pinPark (s : State) (n : Nat) : Nat := s.rf (aPCFG n) 19 18

/-! ### Rows of R341 -/

/-- EXTEST, CLAMP and HIGHZ of R522. -/
def State.scanDrives (s : State) : Bool := 3 ≤ s.pins.scan.ir && s.pins.scan.ir ≤ 5

/-- The pin step of a power-state entry has been taken and not undone (R474). -/
def State.entryHoldsPins (s : State) : Bool :=
  match s.power.entry with
  | some e => 1 ≤ e.passed
  | none => false

/-- A SLEEP entry is past AP3. -/
def State.sleepPastAp3 (s : State) : Bool :=
  match s.power.entry with
  | some e => e.target == mSLEEP && 4 ≤ e.passed
  | none => false

/-- A held fabric source (R341): FABRIC, BANKREG, or EDGE with the unit in BYPASS, from a bough that is unconfigured,
under GLOBAL_HOLD or isolated. A unit that a GEN channel has taken over has no MODE, and so is none (R196). -/
def State.heldSource (s : State) (n : Nat) : Bool :=
  let w := s.reg (aPSEL n)
  let k := fld w 31 29
  let b := fld w 28 22
  (k == 2 || k == 4 && 256 ≤ n || k == 3 && n < 256 && (s.genDriver n).isNone && s.edgeMode n == 0) &&
    (s.tmode b == 0 || s.held b || (s.bough b).isolated.isSome)

/-- The image load has let go of FABRIC-owned pins (R458). -/
def State.pinsReleased (s : State) : Bool :=
  match s.cfg.load with
  | some l => l.pinsDone
  | none => false

/-- The row pin n follows: the first that applies. -/
def State.pinRow (s : State) (n : Nat) : Nat :=
  let m := s.mode
  if s.scanDrives then 1
  else if s.power.inReset || (!s.pins.tableApplied && m != mOFF) then 2
  else if m == mBIVOUAC || m == mOFF then 3
  else if s.rb (aIOB (n / 32) 0x24) 8 then 4
  else if (m == mSLEEP || s.sleepPastAp3) && s.pinWake n != 0 then 5
  else if m == mSLEEP || s.entryHoldsPins || (m == mHOLD && s.cause 18) then 6
  else if (m == mHOLD || m == mSERVICE) && s.pinOwner n != oLOOP then 7
  else if m == mLOAD && s.pinOwner n == oFABRIC && !s.pinsReleased then 8
  else if s.heldSource n then 9
  else 10

/-- What pin n is to follow: its row, and in row 10 its active PSEL. -/
def State.pinTarget (s : State) (n : Nat) : PinRow :=
  let r := s.pinRow n
  { row := r, psel := if r = 10 then s.reg (aPSEL n) else 0, hold := 3 }

/-- Changes of row that take effect at once (R341): into rows 1 to 4, and out of row 3 into row 2. -/
def atOnce (new : PinRow) : Bool := new.row ≤ 4

/-- Pin n after a change of its row or source: at once, or through a park (R342). A pin that is the second of a pair has
no park of its own. -/
def State.pinMoved (s : State) (n : Nat) (p : PinState) : PinState :=
  let t := s.pinTarget n
  if atOnce t then { p with now := t, park := none }
  else if t = p.now then p
  else if p.now.row = 3 then { p with now := { row := 2, psel := 0, hold := 3 }, park := some (s.pinPark n) }
  else if s.diffSecond n then { p with now := t, park := none }
  else { p with park := some (s.pinPark n) }

/-- Every pin takes account of the present state. -/
def State.settlePins (s : State) : State :=
  { s with pins := { s.pins with
      pin := (List.range 640).foldl (fun m n => SMap.set (fun _ => {}) m n (s.pinMoved n (SMap.get (fun _ => {}) m n))) s.pins.pin } }

/-- Pin n takes account of the present state. -/
def State.settlePin (s : State) (n : Nat) : State := s.setPin n (s.pinMoved n (s.pinState n))

/-- Bank-clock edge e2 of the park of pin n: the pad takes the level of its source (R342). -/
def State.parkEnd (s : State) (n : Nat) : State :=
  let p := s.pinState n
  if p.park.isNone then s else s.setPin n { p with now := s.pinTarget n, park := none }

/-- Every park under way has ended: so it is before a SLEEP entry passes AP4 (R342). -/
def State.parksEnd (s : State) : State := (List.range 640).foldl (fun t n => t.parkEnd n) s

/-! ### Banks (R334) -/

/-- The supply of bank b was last measured at the level `vccio` declares: the code of MEAS is 0 off and 1 to 4 for the declared codes 0 to 3. -/
def State.bankAgrees (s : State) (b vccio : Nat) : Bool := s.rf (aIOB b 0x24) 2 0 == vccio + 1

/-- MEAS of bank b, or its declared level, is new; `before` says that the two agreed until now. A mismatch starts where they agreed, or where the
drivers were on (R334). -/
def State.bankCompare (s : State) (b : Nat) (before settled : Bool) : State :=
  (if s.bankAgrees b (s.rf (aIOB b 0x20) 1 0) then (if settled then s.setB (aIOB b 0x24) 8 false else s)
    else if s.rb (aIOB b 0x24) 8 && !before then s
    else (s.setB (aIOB b 0x24) 8 true).setErr (0x500 + b) 18).settlePins

/-- Bank b measures its supply. `settled` says that MEAS and the declared level have agreed for 100 µs. -/
def State.vccioMeasure (s : State) (b meas : Nat) (settled : Bool) : State :=
  if 20 ≤ b ∨ 5 ≤ meas then s
  else (s.setF (aIOB b 0x24) 2 0 meas).bankCompare b (s.bankAgrees b (s.rf (aIOB b 0x20) 1 0)) settled

/-- BANK_CFG of bank b has been written, over `old`: while MEAS differs from the level it declares the drivers are off (R334). -/
def State.bankDeclared (s : State) (b : Nat) (old : Word) : State := s.bankCompare b (s.bankAgrees b (fld old 1 0)) false

/-! ### Owners and the lock (R343 to R346) -/

/-- A debug session with SCOPE_REG is open (R520, R523). -/
def State.debugOpen (s : State) : Bool := s.rb (pg 0x004 0x028) 0 && s.rb (pg 0x004 0x028) 1

/-- The requester may write per-pin registers of pin n: the debug port with a session open (R343). -/
def State.pinAccepts (s : State) (r n : Nat) : Bool :=
  if r = rGuide then true
  else if r = rDebug then s.debugOpen && s.pinOwner n != oSECURE
  else match s.pinOwner n with
    | 0 => r == rHost
    | 1 => r == rGuide
    | 2 => r == 0x005 || (0x008 ≤ r && r ≤ 0x00F)
    | _ => false

/-- A per-pin refusal is counted and recorded (R343). -/
def State.pinRefused (s : State) (r n : Nat) : State :=
  (s.satAdd aREF_CNT 31 0 1).setReg aREF_LAST (BitVec.ofNat 32 (r * 2 ^ 16 + n))

/-- What a write of w to PINX:LOCK by requester r is (R346). -/
inductive LockStep where
  /-- The first write of the sequence arms pin n. -/
  | arms (n : Nat)
  /-- The second write locks pin n. -/
  | locks (n : Nat)
  /-- Any other write disarms, without an error. -/
  | disarms
deriving DecidableEq, Repr

def State.lockStep (s : State) (r : Nat) (w : Word) : LockStep :=
  let n := fld w 9 0
  if 640 ≤ n then .disarms
  else if fld w 31 16 = 0x5EED then .arms n
  else if fld w 31 16 = 0xBA4C ∧ SMap.get (fun _ => 0) s.pins.armed r = n + 1 then .locks n
  else .disarms

/-- A write to PINX:LOCK by requester r that passes its checks (R346). -/
def State.pinLockWrite (s : State) (r : Nat) (w : Word) : State :=
  let arm (v : Nat) (t : State) : State := { t with pins := { t.pins with armed := SMap.set (fun _ => 0) t.pins.armed r v } }
  match s.lockStep r w with
  | .arms n => arm (n + 1) s
  | .locks n => arm 0 ((s.setB (aPCFG n) 28 true).setB (aLOCKED (n / 32)) (n % 32) true)
  | .disarms => arm 0 s

/-- SVC_PIN_OWNER (R345): the result code, the pins changed and the first pin refused. -/
def State.pinOwners (s : State) (first count owner : Nat) : Nat × Nat × Nat × State :=
  if count = 0 ∨ 640 < count ∨ 640 < first + count ∨ 2 < owner then (rcBAD_ARG, 0, 0x3FF, s)
  else
    let pins := (List.range count).map (first + ·)
    let skip (n : Nat) : Bool := s.pinLocked n || s.pinOwner n == oLOOP || s.pinOwner n == oSECURE
    let go := pins.filter fun n => !skip n
    let s1 := go.foldl (fun t n => t.setF (aPCFG n) 31 29 owner) s
    match pins.find? skip with
    | some n => (rcFIXED, go.length, n, s1)
    | none => (rcOK, go.length, 0x3FF, s1)

/-! ### Boundary scan (R522) -/

/-- What Capture-DR takes into the data register that instruction `code` selects: the IDCODE, the latest response of GUIDE_CALL with RESP_VALID
and BUSY, the result of the last DEBUG_ACCESS, and 0 for the bypass register (R522, R523). The boundary scan register holds its cells instead. -/
def State.jtagCapture (s : State) (code : Nat) : Option Nat :=
  match code with
  | 0x01 => some idcode
  | 0x02 | 0x03 => none
  | 0x20 =>
    let busy := s.guide.jtagReq.isSome || s.guide.taken.any (fun t => t.2.jtag)
    some ((List.range 8).foldr (fun k acc => (s.guide.jtagResp.getD k 0).toNat * 2 ^ (32 * k) + acc) 0 +
      s.guide.jtagRespValid.toNat * 2 ^ 256 + busy.toNat * 2 ^ 257)
  | 0x21 => some ((s.debug).data.toNat + (s.debug).done.toNat * 2 ^ 56 + (s.debug).refused.toNat * 2 ^ 57)
  | _ => some 0

/-- The instruction register takes a code, and the data register that it selects is captured: the rows of every pin may change. -/
def State.jtagIr (s : State) (code : Nat) : State :=
  ({ s with pins := { s.pins with scan := { s.pins.scan with ir := code, dr := s.jtagCapture code } } }).settlePins

/-- The boundary scan register takes the driver enables and data shifted in, at Update-DR. -/
def State.scanUpdate (s : State) (cells : List (Nat × Bool × Bool)) : State :=
  { s with pins := { s.pins with scan := { s.pins.scan with
      cell := cells.foldl (fun m c => if c.1 < 640 then SMap.set (fun _ => (false, false)) m c.1 c.2 else m) s.pins.scan.cell } } }

end Sys2Proof.Machine
end

