-- ==== Sys2Proof/Machine/Registers.lean ====
section
/-! DEFINITION. Register accesses: the checks of R50 to R53, the effect of a write on each class of field and on its block (R40 to R46), and reads with their latches (R43, R47, R48). -/

namespace Sys2Proof.Machine

/-! ### Who may reach the register region (R26, R48) -/

/-- The register region answers: the device is out of reset and in none of the modes that remove its supply. -/
def State.regsOn (s : State) : Bool :=
  !s.power.inReset && s.mode != mOFF && s.mode != mBIVOUAC && s.mode != mSLEEP

/-- A local requester of R48 can make an access now. Remote nodes reach the pages through their frames. -/
def State.reaches (s : State) (r : Nat) : Bool :=
  s.regsOn && (if r = rHost then s.linkUp && !s.host.d3hot
    else if 0x008 ≤ r ∧ r ≤ 0x00F then s.busPortOpen (r - 8)
    else r == rGuide || r == rDebug)

/-- The requester stands for a fabric bus port or a remote node, which give byte addresses (R48). -/
def byteAddressed (r : Nat) : Bool := (0x008 ≤ r && r ≤ 0x00F) || 0x200 ≤ r

/-! ### The checks of a write (R53) -/

/-- Owner check (R50, R48): the debug port needs its session. -/
def State.ownerFails (s : State) (p r : Nat) : Bool :=
  if r = rDebug then !s.debugOpen
  else s.pageOwner p != 0 && s.pageOwner p != r && r != rGuide

/-- The pin of a per-pin register (R343), from its offset. The two writes of the lock sequence are per-pin writes too (R346). -/
def State.pinOf (s : State) (a r : Nat) (v : Word) : Option Nat :=
  let p := a / 0x1000
  let o := a % 0x1000
  match (pageInfo p).kind with
  | .psel => if 0x100 ≤ o then some ((o - 0x100) / 4) else none
  | .pcfg => if 0x100 ≤ o then some ((o - 0x100) / 4) else none
  | .plock => if o = 0x020 then (match s.lockStep r v with | .arms n => some n | .locks n => some n | .disarms => none) else none
  | .iob => if 0x100 ≤ o ∧ o < 0x180 then some (32 * (p - 0x500) + (o - 0x100) / 4)
      else if 0x200 ≤ o ∧ o < 0x280 then some (32 * (p - 0x500) + (o - 0x200) / 4) else none
  | .edge => if 0x020 ≤ o then some (p - 0x100) else none
  | _ => none

/-- The pin owner refuses the requester (R343). -/
def State.pinOwnerFails (s : State) (a r : Nat) (v : Word) : Bool :=
  match s.pinOf a r v with
  | some n => !s.pinAccepts r n
  | none => false

/-- The pin lock refuses the write: PSEL, PCFG, PAD and IOCFG of a locked pin (R346). -/
def State.pinLockFails (s : State) (a r : Nat) (v : Word) : Bool :=
  match s.pinOf a r v with
  | some n => s.pinLocked n && (a / 0x1000 == 0x520 || a / 0x1000 == 0x521 || (0x500 ≤ a / 0x1000 && a / 0x1000 ≤ 0x513))
  | none => false

/-- The bits of a register that a write may store: RW, RWS and RWQ fields, which a page lock holds. PAGE_CTL has its ENABLE only
on a page whose block has an enable; on a BOUGH page only in a handshake bough that GLOBAL_HOLD does not hold (R92). -/
def State.heldMask (s : State) (a : Nat) : Nat :=
  match regSpec a with
  | none => 0
  | some r =>
    let k := (pageInfo (a / 0x1000)).kind
    if a % 0x1000 = 0x004 then (if pageHasEnable k && (k != .bough || (s.handshake (a / 0x1000 - 0x040) && !s.held (a / 0x1000 - 0x040))) then 1 else 0)
    else if a % 0x1000 = 0x024 ∧ k = .bough ∧ !s.handshake (a / 0x1000 - 0x040) then r.rw
    else r.rw ||| r.rws ||| r.rwq

/-- The context and the state word that LOOP:STATE word a reaches (R210, R237). -/
def State.stateWord (s : State) (a : Nat) : Option (Nat × Nat) :=
  if aLOOP 0x200 ≤ a ∧ a < aLOOP 0x240 then some (s.rf (aLOOP 0x40) 9 0, (a - aLOOP 0x200) / 4) else none

/-- The live value of a register: that of the context's word behind the LOOP:STATE window. -/
def State.stored (s : State) (a : Nat) : Word :=
  match s.stateWord a with
  | some (n, w) => (s.ctx n).word w
  | none => s.reg a

/-- The value the fields of a register hold now, for a write to compare with: the shadow for RWS bits. -/
def State.presentValue (s : State) (a : Nat) : Word :=
  match regSpec a with
  | none => 0
  | some r => (s.stored a &&& ~~~(BitVec.ofNat 32 r.rws)) ||| (s.shadow a &&& BitVec.ofNat 32 r.rws)

/-- The page is locked and the write would change a field that the lock holds (R52). -/
def State.lockFails (s : State) (a : Nat) (v : Word) : Bool :=
  s.pageLocked (a / 0x1000) && ((s.presentValue a ^^^ v) &&& BitVec.ofNat 32 (s.heldMask a)) != 0

/-- A write to an RWS field while a commit is pending (R42). -/
def State.pendingFails (s : State) (a : Nat) : Bool := rwsMask a != 0 && s.commitPending (a / 0x1000)

/-- The outcome of the checks of a write. -/
structure WriteChecks where
  owner : Bool
  lock : Bool
  width : Bool
  pending : Bool
  pinOwner : Bool
  pinLock : Bool
deriving DecidableEq, Repr

def State.checkWrite (s : State) (a r : Nat) (full : Bool) (v : Word) : WriteChecks :=
  { owner := s.ownerFails (a / 0x1000) r
    lock := s.lockFails a v
    width := !full || (byteAddressed r && a % 4 != 0)
    pending := s.pendingFails a
    pinOwner := s.pinOwnerFails a r v
    pinLock := s.pinLockFails a r v }

/-- Every check but the page lock passes. -/
def WriteChecks.onlyLock (c : WriteChecks) : Bool := !(c.owner || c.width || c.pending || c.pinOwner || c.pinLock)

def WriteChecks.pass (c : WriteChecks) : Bool := c.onlyLock && !c.lock

/-- The status of a WR_ACK: the lowest-numbered of R294. -/
def WriteChecks.status (c : WriteChecks) : Nat :=
  if c.owner then 1 else if c.lock then 2 else if c.width then 3 else if c.pending then 4
  else if c.pinOwner || c.pinLock then 6 else 0

/-- Record a refused write (R53): each failed check sets its bit, the requester and the count once. -/
def State.recordChecks (s : State) (a r : Nat) (v : Word) (c : WriteChecks) : State :=
  let p := a / 0x1000
  let e (t : State) (on : Bool) (b : Nat) : State := if on then t.setErr p b else t
  let s1 := e (e (e (e s c.owner 0) c.lock 1) c.width 2) c.pending 3
  let s2 := e (e s1 c.pinOwner (if 0x100 ≤ p ∧ p ≤ 0x1FF then 21 else 16)) c.pinLock 17
  let s3 := if c.pinOwner || c.pinLock then s2.pinRefused r ((s.pinOf a r v).getD 0) else s2
  s3.recordRefusal p r

/-! ### Quiet-only fields (R40, R56 case 1) -/

/-- The channel of a register that belongs to no channel of its page and not to the block as a whole. -/
def noUnit : Nat := 0x10000

/-- The block, or the channel, whose quietness a register follows: its page and channel (0xFFFF: the page). -/
def State.quietUnit (s : State) (a : Nat) : Nat × Nat :=
  let p := a / 0x1000
  let o := a % 0x1000
  match (pageInfo p).kind with
  | .clkPll => (p, 2 * (p - 0x022) + (o - 0x020) / 0x20)
  | .sdf => (p, if 0x100 ≤ o then (o - 0x100) / 0x40 else noUnit)
  | .iob => (p, if 0x200 ≤ o then (o - 0x200) / 4 else noUnit)
  | .loop => if 0x200 ≤ o then (0x400 + s.rf (aLOOP 0x40) 9 0 / 16, s.rf (aLOOP 0x40) 9 0 % 16) else (p, if 0x044 ≤ o ∧ o ≤ 0x050 then 0 else noUnit)
  | .host => (p, if 0x040 ≤ o ∧ o < 0x0C0 then (o - 0x040) / 0x20 else noUnit)
  | .dramTiming => (p, 0)
  | .dramPorts => (p, if o % 0x40 < 0x20 then o % 0x40 / 4 else noUnit)
  | _ => (p, 0xFFFF)

/-- The block or channel is quiet. -/
def State.unitQuiet (s : State) (a : Nat) : Bool :=
  let p := a / 0x1000
  let u := s.quietUnit a
  match (pageInfo p).kind with
  | .clkPll => !s.rb (aPLL u.2 0) 0
  | .sdf => !s.sdfEn (8 * (p - 0x200) + u.2) && !s.rb (aSDF (8 * (p - 0x200) + u.2) 0x14) 0
  | .iob => !s.rb (aIOB (p - 0x500) (0x200 + 4 * u.2)) 7
  | .loop => if 0x200 ≤ a % 0x1000 then !s.cRunning (s.rf (aLOOP 0x40) 9 0) else !s.rb (aLOOP 0x44) 31
  | .host => !s.rb (aDMA u.2 0) 31 && !s.rb (aDMA u.2 0) 29
  | .dramTiming => s.pageQuiet 0x640
  | .dramPorts => !s.busPortOpen u.2
  | _ => s.pageQuiet p

/-- The mark under which a quiet-only register counts as rewritten: a word of LOOP:STATE counts for its context. -/
def State.quietMark (s : State) (a : Nat) : Nat :=
  match s.stateWord a with
  | some (n, _) => a + (n + 1) * 2 ^ 24
  | none => a

/-- The quiet-only registers of one unit, as marked. For a context they are its state words. -/
def State.quietRegs (s : State) (p ch : Nat) : List Nat :=
  if (pageInfo p).kind = .loopctx then (List.range 16).map fun j => aLOOP (0x200 + 4 * j) + (16 * (p - 0x400) + ch + 1) * 2 ^ 24
  else ((pageMap (pageInfo p)).filter fun r => r.rwq != 0).flatMap fun r =>
    ((List.range r.count).map fun k => pg p (r.off + r.stride * k)).filter fun a => s.quietUnit a == (p, ch)

/-- A quiet-only register has been written; `quiet` says that its unit was quiet at the write. A change while it was not is case 1;
a reserved encoding is case 2; a write while it was quiet counts towards the return to defined behaviour. -/
def State.noteQuiet (s : State) (a : Nat) (old : Word) (quiet : Bool) : State :=
  let u := s.quietUnit a
  match regSpec a with
  | none => s
  | some r =>
    if r.rwq = 0 then s
    else
      let changed := ((old ^^^ s.reg a) &&& BitVec.ofNat 32 r.rwq) != 0
      let s1 := if quiet then
          { s with regs := { s.regs with requieted := s.quietMark a :: s.regs.requieted.filter (· != s.quietMark a) } }
        else if changed then s.markUndefined 1 u.1 u.2 else s
      if reservedEnc a (s.reg a) then s1.markUndefined 2 u.1 u.2 else s1

/-- A unit is enabled: cases 1 and 2 end there when every quiet-only register has been rewritten with a defined value. -/
def State.unitEnabled (s : State) (p ch : Nat) : State :=
  let l := s.quietRegs p ch
  let s1 := if l.all (fun a => s.regs.requieted.contains a && !reservedEnc (a % 2 ^ 24) (s.reg a)) then
      (s.clearUndefined 1 p ch).clearUndefined 2 p ch else s
  { s1 with regs := { s1.regs with requieted := s1.regs.requieted.filter fun a => !l.contains a } }

/-! ### What a write does to its block -/

/-- ENABLE of page p has changed. A commit pending when it falls transfers at once (R45). -/
def State.enableChanged (s : State) (p : Nat) (on : Bool) : State :=
  let s0 := if on then s.unitEnabled p 0xFFFF else s
  let flush (t : State) : State := if t.commitPending p then t.commitTransfer p else t
  match (pageInfo p).kind with
  | .edge => (if on then s0.edgeStarts (p - 0x100) else s0.edgeStops (p - 0x100)).settlePin (p - 0x100)
  | .sdf => ((List.range 8).foldl (fun t j => t.sdfFollow (8 * (p - 0x200) + j)) (if on then s0 else flush s0)).settlePins
  | .time => if on then s0 else if s0.commitPending p then s0.timeTransfer else s0
  | .rope => if on then s0.ropeEnabled else (flush s0).ropeLeave
  | .ropePort => if on then s0 else (flush s0).portFault (match p with | 0x541 => .west | 0x542 => .east | _ => .branch) .noSignal
  | .dramCtl => if on then (s0.unitEnabled 0x641 0).dramEnable else (flush s0).dramDisable
  | .bough => if on then (s0.showFrozen (p - 0x040)).settle else (flush s0).showFrozen (p - 0x040)
  | _ => if on then s0 else flush s0

/-- COMMIT = 1 on page p. On the LOOP and LOOPCTX pages it starts the admission test (R225). On a page that is pending it has no effect and sets
no bit, whatever BUSY reads: R41 goes before COMMIT_BUSY (DESIGN CHOICE, log 127). -/
def State.pageCommit (s : State) (p : Nat) : State :=
  if s.commitPending p then s
  else match (pageInfo p).kind with
    | .loop => s.loopCommitRequest [] true false [0x300]
    | .loopctx => s.loopCommitRequest ((List.range 16).map (16 * (p - 0x400) + ·)) false false [p]
    | _ => s.setPending p true

/-- A write of PAGE_CTL (R38, R52). `keep` says that a page lock holds ENABLE. DESIGN CHOICE: one write that changes ENABLE and sets
COMMIT and LOCK acts in that order, on which the spec is silent (log 89). -/
def State.writeCtl (s : State) (p : Nat) (v : Word) (keep : Bool) : State :=
  let m := s.heldMask (pg p 0x004) != 0
  let s1 := if m && !keep && s.pageEnable p != bit v 0 then (s.setB (pg p 0x004) 0 (bit v 0)).enableChanged p (bit v 0)
    else if !keep && !bit v 0 && (pageInfo p).kind == .edge then s.edgeEmpty (p - 0x100) else s
  let s2 := if bit v 1 then s1.pageCommit p else s1
  if bit v 2 then s2.setB (pg p 0x004) 2 true else s2

/-- After OUT_OFS or IN_OFS of pin p changes, what was in force acts for 16 ns more (R191). -/
def State.ofsWritten (s : State) (p : Nat) (out : Bool) (old : Word) : State :=
  let u := s.edgeUnit p
  let add (l : List (DevTime × Word)) := (s.time.now, old) :: l.filter fun e => laterThan (e.1 + ns 16) s.time.now
  s.setEdge p (if out then { u with outWas := add u.outWas } else { u with inWas := add u.inWas })

/-- A write to a register of a loop page by requester r, once stored. -/
def State.loopWritten (s : State) (o : Nat) (old v : Word) (keep : Bool) : State :=
  if o = 0x024 then (if bit v 31 then s.ctxCommit (s.reg (aLOOP 0x24)) else s)
  else if o = 0x02C then s.abseilCmd v
  else if o = 0x038 then (if bit v 0 then s.hbKick 0 else s)
  else if o = 0x030 then
    (if bit (s.reg (aLOOP 0x30)) 31 && !bit old 31 then { s with loop := { s.loop with hb0 := { lastKick := s.time.now } } } else s)
  else if o = 0x034 then
    (if bit (s.reg (aLOOP 0x34)) 31 && !bit old 31 then { s with loop := { s.loop with hb1 := { lastKick := s.time.now } } } else s)
  else if o = 0x044 then
    (if bit (s.reg (aLOOP 0x44)) 31 && !bit old 31 then s.unitEnabled 0x300 0 else s)
  else if 0x200 ≤ o ∧ o < 0x240 ∧ !keep then
    let n := s.rf (aLOOP 0x40) 9 0
    (s.setReg (aLOOP o) 0).setCtx n ((s.ctx n).setWord ((o - 0x200) / 4) v s.time.now)
  else s

/-- A write of a mailbox register, once stored (R316 to R319). -/
def State.mbxWritten (s : State) (i r o : Nat) (old v : Word) : State :=
  if o < 0x100 then s
  else
    let m := 4 * i + (o - 0x100) / 0x100
    match o % 0x100 with
    | 0x00 =>
      let w := s.reg (aMB m 0)
      if (fld w 31 22 ≠ fld old 31 22 ∧ !mbEndOk m true (fld w 31 22)) ∨ (fld w 21 12 ≠ fld old 21 12 ∧ !mbEndOk m false (fld w 21 12)) then
        s.setReg (aMB m 0) old
      else s
    | 0x08 => s.mbLevel m
    | 0x0C => s.mbLockWrite m r
    | 0x40 => s.txPost m r (bit v 0)
    | n => if 0x20 ≤ n ∧ n < 0x40 then s.txWord m r ((n - 0x20) / 4) v else s

/-- A write of a sigma-delta register, once stored. -/
def State.sdfWritten (s : State) (p o : Nat) (old : Word) : State :=
  if o < 0x100 then s
  else
    let c := 8 * (p - 0x200) + (o - 0x100) / 0x40
    match o % 0x40 with
    | 0x00 =>
      let s1 := if s.sdfEn c && !bit old 0 then s.unitEnabled p (c % 8) else s
      let s2 := if (s1.sdfChan c).started && s1.sdfReserved c then s1.markUndefined 2 p (c % 8) else s1
      (s2.sdfFollow c).settlePin (s2.sdfClkPin c)
    | 0x18 => s.sdfSyncLevel c
    | _ => s

/-- A write of a clock register, once stored. -/
def State.clkWritten (s : State) (p o : Nat) (old v : Word) : State :=
  match (pageInfo p).kind with
  | .clkSrc => if o = 0x020 then s.srcCtlWritten old else s
  | .clkRoot => if 0x020 ≤ o ∧ o < 0x060 then s.rootWritten ((o - 0x020) / 4) old else s
  | .clkPll =>
    let q := 2 * (p - 0x022) + (o - 0x020) / 0x20
    if (o - 0x020) % 0x20 = 0 then
      if s.rb (aPLL q 0) 0 && !bit old 0 then (s.unitEnabled p q).pllStart q
      else if bit old 0 && !s.rb (aPLL q 0) 0 then s.pllStop q else s
    else s
  | .clkBclk =>
    if 0x040 ≤ o ∧ o < 0x080 then (if bit v 15 then s.xmergeClr (16 * (p - 0x028) + (o - 0x040) / 4) else s)
    else if 0x100 ≤ o then s.bclkWritten (16 * (p - 0x028) + (o - 0x100) / 0x20) ((o - 0x100) % 0x20 / 4) old
    else s
  | _ => s

/-- A write of an EDGE register by requester r, once stored (R178 to R181). -/
def State.edgeWritten (s : State) (p r o : Nat) (old v : Word) : State :=
  if o = 0x028 then s.stageLow p r v
  else if o = 0x02C then s.pushEntry p r v
  else if o = 0x020 then (if !s.edgeOn p ∧ bit old 8 ≠ s.edgeIdle p then s.edgeToIdle p else s).settlePin p
  else s

/-- A write of an EDGECAL register, once stored. -/
def State.calWritten (s : State) (i o : Nat) (old v : Word) : State :=
  if o = 0x030 then
    (if i = 0 then
      ((List.range 256).filter fun p => s.rf (aEDGE p 0x20) 31 27 ≠ 0 && bit v (s.rf (aEDGE p 0x20) 31 27)).foldl
        (fun t p => t.requestCommit (0x100 + p)) s
     else s)
  else if 0x100 ≤ o ∧ o < 0x200 then s.ofsWritten (64 * i + (o - 0x100) / 4) true old
  else if 0x200 ≤ o ∧ o < 0x300 then s.ofsWritten (64 * i + (o - 0x200) / 4) false old
  else s

/-- A write of a rope register, once stored. -/
def State.ropeWritten (s : State) (o : Nat) (old : Word) : State :=
  if o = 0x028 then
    if s.rb (aROPE 0x28) 0 && !bit old 0 then s.belay
    else if bit old 0 && !s.rb (aROPE 0x28) 0 then s.unbelay else s
  else s

/-- CODE_ERR, CRC_ERR and LOSSES of a port clear (R274). -/
def State.portCntClr (s : State) (p : Nat) : State :=
  ((s.setReg (pg p 0x028) 0).setReg (pg p 0x02C) 0).setReg (pg p 0x030) 0

/-- A write of a PUB register by requester r: a value is accepted as R286 says, and SRC restarts the sample. -/
def State.pubWritten (s : State) (r o : Nat) (old v : Word) (keep : Bool) : State :=
  if 0x100 ≤ o ∧ o < 0x180 then
    let i := (o - 0x100) / 4
    if keep ∨ fld old 1 0 = s.rf (aPUB o) 1 0 then s
    else { s with pub := SMap.set (fun _ => {}) s.pub i { SMap.get (fun _ => {}) s.pub i with written := false, writes := [] } }
  else if 0x180 ≤ o then
    let i := (o - 0x180) / 4
    let s1 := s.setReg (aPUB o) old
    let c := s.reg (aPUB (0x100 + 4 * i))
    if keep then s1
    else if fld c 1 0 = 1 ∨ (fld c 1 0 = 3 ∧ r = 8 + fld c 4 2) then s1.pubWrite i v else s1
  else s

/-- A write of a HOST register, once stored. -/
def State.hostWritten (s : State) (o : Nat) (old v : Word) : State :=
  if o = 0x024 ∧ bit v 8 then s.updHost fun h => { h with training := true }
  else if 0x040 ≤ o ∧ o < 0x0C0 ∧ o % 0x20 = 0 then
    if s.rb (pg 0x600 o) 31 && !bit old 31 then s.unitEnabled 0x600 ((o - 0x040) / 0x20) else s
  else s

/-- What a stored write does to its block. `old` is the register before the write and `keep` says that a page lock holds
the RW, RWS and RWQ fields. -/
def State.blockWritten (s : State) (a r : Nat) (old v : Word) (keep : Bool) : State :=
  let p := a / 0x1000
  let o := a % 0x1000
  let i := pageInfo p
  match i.kind with
  | .mbx => s.mbxWritten i.inst r o old v
  | .evt0 =>
    if o = 0x020 then
      let s1 := if bit v 0 then s.raise 246 else s
      if bit v 1 then s1.raise 247 else s1
    else if o = 0x0A0 then s.msixPendClear 0 v else if o = 0x0A4 then s.msixPendClear 1 v else s
  | .clkSrc => s.clkWritten p o old v
  | .clkRoot => s.clkWritten p o old v
  | .clkPll => s.clkWritten p o old v
  | .clkBclk => s.clkWritten p o old v
  | .bough =>
    if o = 0x024 then s.hsCtlWritten (p - 0x040) old v keep else s
  | .time => if o = 0x020 ∧ !keep then s.timeCtlWritten else s
  | .edge => s.edgeWritten (p - 0x100) r o old v
  | .sdf => s.sdfWritten p o old
  | .edgecal => s.calWritten i.inst o old v
  | .loop => s.loopWritten o old v keep
  | .loopctx => if o % 0x100 = 0xF4 ∧ bit v 15 then (s.setF a 31 16 0).setB a 15 false else s
  | .iob => if keep then s else if o = 0x020 then s.bankDeclared i.inst old else (if 0x200 ≤ o ∧ s.rb a 7 ∧ !bit old 7 then s.unitEnabled p ((o - 0x200) / 4) else s).settlePins
  | .pcfg => if keep then s else s.settlePins
  | .plock => if o = 0x020 then s.pinLockWrite r v else s
  | .rope => s.ropeWritten o old
  | .ropePort => if o = 0x034 ∧ bit v 0 then s.portCntClr p else s
  | .pub => s.pubWritten r o old v keep
  | .host => s.hostWritten o old v
  | _ => s

/-- An accepted write stores its bits (R35, R40): the RW and RWQ fields take the value, RWS fields their shadow copy, W1C bits
clear; `keep` says that a page lock holds the fields. -/
def State.storeWrite (s : State) (a : Nat) (v : Word) (keep : Bool) : State :=
  match regSpec a with
  | none => s
  | some sp =>
    let old := s.stored a
    let h := s.heldMask a
    let live := BitVec.ofNat 32 (h &&& (sp.rw ||| sp.rwq))
    let clear := v &&& BitVec.ofNat 32 (sp.w1c &&& (if a % 0x1000 = 0x00C then all32 - levelMask (pageInfo (a / 0x1000)).kind else all32))
    let kept := if keep then old else (old &&& ~~~live) ||| (v &&& live)
    let s1 := s.setReg a (kept &&& ~~~clear)
    let rws := BitVec.ofNat 32 sp.rws
    let s2 := if sp.rws = 0 || keep then s1 else s1.setShadow a ((s1.shadow a &&& ~~~rws) ||| (v &&& rws))
    s2.noteQuiet a old (s.unitQuiet a)

/-- An accepted write acts (R40). -/
def State.applyWrite (s : State) (a r : Nat) (v : Word) (keep : Bool) : State :=
  if (regSpec a).isNone then s
  else if a % 0x1000 = 0x004 then s.writeCtl (a / 0x1000) v keep
  else (s.storeWrite a v keep).blockWritten a r (s.stored a) v keep

/-- A refused write to PINX:LOCK ends the requester's arming: its next write is not the second of two in a row (R346). -/
def State.disarm (s : State) (a r : Nat) : State :=
  if a = pg 0x522 0x020 then { s with pins := { s.pins with armed := SMap.set (fun _ => 0) s.pins.armed r 0 } } else s

/-- A write by requester r of value v to byte offset a, with its status (R294): unassigned offsets ignore it (R35). -/
def State.writeReg (s : State) (r a : Nat) (full : Bool) (v : Word) : Nat × State :=
  let a4 := a / 4 * 4
  if (regSpec a4).isNone then (0, s)
  else
    let c0 := s.checkWrite a4 r full v
    let c := { c0 with width := c0.width || (byteAddressed r && a % 4 != 0) }
    if c.pass then (0, s.applyWrite a4 r v false)
    else if c.onlyLock then (c.status, (s.applyWrite a4 r v true).recordChecks a4 r v c)
    else (c.status, (s.disarm a4 r).recordChecks a4 r v c)

/-- A local write: nothing happens when the requester does not reach the region. A write by the debug port without its
session is refused as R50 refuses one (R521). -/
def State.localWrite (s : State) (r a : Nat) (v : Word) : State :=
  if s.reaches r then (s.writeReg r a true v).2 else s

/-! ### Reads (R43, R47, R48) -/

/-- The block of page p is at work beyond what PAGE_STAT.BUSY stores (R39): a sigma-delta channel has not yet stopped, or a loop
commit is under test. -/
def State.pageWorks (s : State) (p : Nat) : Bool :=
  match (pageInfo p).kind with
  | .sdf => (List.range 8).any fun j => s.rb (aSDF (8 * (p - 0x200) + j) 0x14) 0
  | .loop => s.loop.commit.isSome
  | .loopctx => s.loop.commit.any fun c => c.pages.contains p
  | _ => false

/-- The value a register shows to requester r, latches and FIFO effects apart. -/
def State.showReg (s : State) (r a : Nat) : Word :=
  let p := a / 0x1000
  let o := a % 0x1000
  let i := pageInfo p
  if (regSpec a).isNone then 0
  else
    let v := s.presentValue a
    if o = 0x004 then (if i.kind = .bough && !s.handshake (p - 0x040) then setBit v 0 true else v)
    else if o = 0x008 then setBit (setBit (setBit v 0 (bit v 0 || s.pageWorks p)) 2 (s.pageLocked p)) 3 (s.reg (pg p 0x00C) != 0)
    else if o < 0x020 then v
    else match i.kind with
      | .mbx =>
        let m := 4 * i.inst + (o - 0x100) / 0x100
        let x := s.mb m
        let took := (x.taken.find? fun e => e.1 == r).map (·.2)
        (match o % 0x100 with
        | 0x04 => x.stat
        | 0x14 => BitVec.ofNat 32 x.tag.toNat
        | 0x18 => x.epochs
        | 0x44 => SMap.get (fun _ => 0) x.result r
        | 0x64 =>
          match took with
          | some (e :: src :: _) =>
            let seen := ((s.rope.lastEpoch.find? fun n => n.1 == src.toNat - 0x200).map (·.2)).getD 0
            setBit e 16 (s.msgStale m (BitVec.ofNat 16 e.toNat) seen)
          | _ => 0
        | n => if 0x80 ≤ n ∧ n < 0xA0 then (match took with | some l => l.getD (2 + (n - 0x80) / 4) 0 | none => 0) else v)
      | .time =>
        if o = 0x28 then BitVec.ofNat 32 (fracOf s.time.now)
        else if o = 0x30 then BitVec.ofNat 32 (nsOf s.time.now)
        else if o = 0x34 then BitVec.ofNat 32 (nsOf s.time.now / 2 ^ 32) else v
      | .edge => if o = 0x24 then s.edgeStat (p - 0x100) else v
      | .edgecal =>
        if o = 0x30 then 0 else if 0x300 ≤ o then s.edgeAge (64 * i.inst + (o - 0x300) / 4) else v
      | .loop =>
        if 0x080 ≤ o ∧ o < 0x100 then s.loopMapWord ((o - 0x080) / 4) 29
        else if 0x100 ≤ o ∧ o < 0x180 then s.loopMapWord ((o - 0x100) / 4) 28
        else if 0x180 ≤ o ∧ o < 0x200 then s.loopMapWord ((o - 0x180) / 4) 30
        else v
      | .bough =>
        let b := p - 0x040
        if o = 0x28 then setFld v 24 16 (s.tokens b)
        else if o = 0x24 && !s.handshake b then setFld v 17 16 0
        else if 0x100 ≤ o then
          if s.handshake b then
            BitVec.ofNat 32 ((List.range 4).foldl (fun acc k =>
              let c := (s.bough b).cfg.stageAt (o - 0x100 + k)
              acc + (c.dly.toNat + c.initToken.toNat * 64 + c.en.toNat * 128) * 2 ^ (8 * k)) 0)
          else 0
        else v
      | .loopctx => if o % 0x100 = 0xF0 then (s.coastCheck (16 * (p - 0x400) + o / 0x100)).reg a else v
      | .rope => if o = 0x24 && s.brEn then setBit v s.brRope true else v
      | .acc => if o = 0x24 then BitVec.ofNat 32 s.outstanding else v
      | .iob => if o = 0x28 then (s.inLvl (p - 0x500)).1 else v
      | .dramCtl => if o = 0x24 then setFld v 15 8 s.dram.queue.length else v
      | .pitch => if o = 0x24 then s.pitchStat else if o = 0x2C then s.holdoffLeft else v
      | _ => v

/-- A register of a block under case 1 or 2 of R56 shows an open value where the block, and not a write, sets it. -/
def State.openReg (s : State) (a : Nat) : Bool :=
  let u := s.quietUnit a
  let dram := [0x640, 0x643, 0x644, 0x645].contains (a / 0x1000)
  0x020 ≤ a % 0x1000 && (s.isUndefined u.1 u.2 || s.isUndefined (a / 0x1000) 0xFFFF || (dram && s.isUndefined 0x641 0)) &&
    (match regSpec a with | some r => r.writable == 0 | none => false)

/-- The bits of a register that nothing fixes now: those of IN_LVL whose ball has no stated level (R337), and STAT.LEVEL of an edge
unit that passes on a tap without one. -/
def State.openBits (s : State) (a : Nat) : Word :=
  let p := a / 0x1000
  match (pageInfo p).kind with
  | .iob => if a % 0x1000 = 0x028 then (s.inLvl (p - 0x500)).2 else 0
  | .edge => if a % 0x1000 = 0x024 ∧ s.edgeOut (p - 0x100) = none then 0x40000 else 0
  | _ => 0

/-- The value a register shows, drawn free where R56 or R337 leaves it open. -/
def State.showOpen (s : State) (r a : Nat) : Word × State :=
  let m : Word := if s.openReg a then 0xFFFFFFFF else s.openBits a
  if m = 0 then (s.showReg r a, s)
  else
    let (v, s1) := s.free 32
    ((s.showReg r a &&& ~~~m) ||| (v &&& m), s1)

/-- Latch the companions of a read in requester r's snapshots. -/
def State.latchAll (s : State) (r a : Nat) : State :=
  (companions a).foldl (fun t c =>
    let (v, t1) := t.showOpen r c
    t1.setSnap (localSnap r c) v) s

/-- A read by requester r of byte offset a: the word returned, and the state with latches, FIFOs and mailbox effects. -/
def State.readReg (s : State) (r a : Nat) : Word × State :=
  let p := a / 0x1000
  let o := a % 0x1000
  let i := pageInfo p
  if byteAddressed r && a % 4 != 0 then (0, s)
  else
    let a := a / 4 * 4
    let s := if i.kind = .rtc ∧ (a % 0x1000 = 0x028 ∨ a % 0x1000 = 0x030 ∨ a % 0x1000 = 0x038) then s.rtcNow else s
    match i.kind, s.snap (localSnap r a) with
    | .edge, none =>
      if o = 0x50 then
        let ((lo, hi, info), s1) := s.captureTake (p - 0x100)
        (lo, (s1.setSnap (localSnap r (a + 4)) hi).setSnap (localSnap r (a + 8)) info)
      else if stickyLatch a then (regReset a, s) else (s.showOpen r a).map id (State.latchAll · r a)
    | .mbx, _ =>
      let m := 4 * i.inst + (o - 0x100) / 0x100
      if 0x100 ≤ o ∧ o < 0x500 ∧ o % 0x100 = 0x60 then s.rxTake m r
      else if 0x100 ≤ o ∧ o < 0x500 ∧ o % 0x100 = 0x0C then s.mbLockRead m r
      else (s.showReg r a, s)
    | .time, none =>
      if o = 0x24 then (s.showReg r a, s.setB (aTIME 0x24) 8 false) else (s.showOpen r a).map id (State.latchAll · r a)
    | _, some v => if stickyLatch a then (v, s) else (v, s.dropSnap (localSnap r a))
    | _, none => if stickyLatch a then (regReset a, s) else (s.showOpen r a).map id (State.latchAll · r a)

/-- A local read of a register: its word goes to the requester. Without a session the debug port reads nothing. -/
def State.localRead (s : State) (r a : Nat) : State :=
  if s.reaches r ∧ (r ≠ rDebug ∨ s.debugOpen) then
    let (v, s1) := s.readReg r a
    { s1 with lastRead := v, lastUr := false }
  else s

end Sys2Proof.Machine
end

