-- ==== Sys2Proof/Machine/BootRecords.lean ====
section
/-! DEFINITION. Boot records (R450 to R453): the pages of each group, clamps and their log, and how a record is applied. -/

namespace Sys2Proof.Machine

/-! ### Groups (R450) -/

/-- A boot-record group. -/
inductive BootGroup where
  | pins | clocks | supply | image | loop | rope | dram | host | owners
deriving DecidableEq, Repr

/-- The group of a record ID. -/
def groupOf (id : Nat) : BootGroup :=
  if id < 0x100 then .pins else if id < 0x200 then .clocks else if id < 0x300 then .supply else if id < 0x400 then .image
  else if id < 0x800 then .loop else if id < 0x900 then .rope else if id < 0xA00 then .dram else if id < 0xB00 then .host
  else if id < 0xC00 then .owners else .loop

/-- A record of the group may name the register at byte offset a. -/
def groupReaches (g : BootGroup) (a : Nat) : Bool :=
  let k := (pageInfo (a / 0x1000)).kind
  match g with
  | .pins => [PageKind.psel, .pcfg, .plock, .iob].contains k || a == pg 0x600 0x038
  | .clocks => [PageKind.clkSrc, .clkRoot, .clkPll, .clkXhard, .clkBclk, .time, .edgecal].contains k
  | .supply => [PageKind.supply, .pmu, .sys].contains k
  | .image => [PageKind.cfg, .scrub].contains k
  | .loop => [PageKind.loop, .loopctx, .edge, .sdf].contains k
  | .rope => [PageKind.rope, .ropePort, .ropetime, .pub, .sub, .acc].contains k
  | .dram => [PageKind.dramCtl, .dramTiming, .dramPorts, .dramEcc, .dramTrain].contains k
  | .host => [PageKind.host, .evt0, .evt1, .mbx].contains k
  | .owners => k != .none && a % 0x1000 == 0x014

/-! ### The clamp log (R453) -/

/-- One clamp: PAGE_ERR.CLAMPED of the target page, the count, and an entry while the log has fewer than 64. -/
def State.clampEntry (s : State) (id ix reason : Nat) (a v w : Word) : State :=
  let p := fld a 23 0 / 0x1000
  let s1 := if pageAssigned p then s.setErr p 4 else s
  let s2 := s1.satAdd (aSET 0x30) 15 0 1
  if s2.settings.clampLog.length < 64 then
    (s2.updSettings fun t => { t with
      clampLog := t.clampLog ++ [[BitVec.ofNat 32 (id + ix % 256 * 2 ^ 16 + reason * 2 ^ 24), a, v, w]] }).wrapAdd (aSET 0x30) 23 16 1
  else s2

/-! ### Fields (R452) -/

/-- The bits of a register that only hardware sets: its RO fields beside writable ones, or all of a register with none. -/
def roBits (a : Nat) : Nat :=
  let o := a % 0x1000
  match regSpec a with
  | none => 0
  | some r =>
    if o < 0x020 then (if o = 0x014 then 0x83FF0000 else if r.writable = 0 then all32 else 0)
    else if r.writable = 0 then all32
    else match (pageInfo (a / 0x1000)).kind with
      | .clkRoot => if o < 0x060 then 0x403F0000 else 0
      | .clkBclk => if 0x100 ≤ o then 0x70000000 else 0xFFFF00FF
      | .loopctx => if o % 0x100 = 0xF4 then 0xFFFF0000 else 0
      | .mbx => if o % 0x100 = 0 then 0xFFFFF000 - r.rw &&& 0xFFFFF000 else 0
      | .pcfg => 0x10000000
      | .host => if 0x040 ≤ o ∧ o < 0x0C0 ∧ o % 0x20 = 0 then 0x20000000 else 0
      | .supply => if o = 0x020 then 0x80000000 else 0
      | _ => 0

/-- The RO bits that boot records set: OWNER of a page and of a pin, REF_FREQ and the boot bank (R51, R141, R343, R402). -/
def bootBits (a : Nat) : Nat :=
  let o := a % 0x1000
  match (pageInfo (a / 0x1000)).kind with
  | .none => 0
  | k =>
    if o = 0x014 then 0x3FF
    else if k = .pcfg ∧ 0x100 ≤ o then 0xE0000000
    else if k = .clkSrc ∧ o = 0x024 then 0x300
    else if k = .cfg ∧ o = 0x024 then 0x30 else 0

/-- The requester IDs that R30 reserves. -/
def idReserved (id : Nat) : Bool := id == 7 || (0x010 ≤ id && id ≤ 0x1FF)

/-- The rules of the fields that only boot records write; the value decides whether an OWNER is a reserved ID (R31). -/
def bootRules (a : Nat) (v : Word) : List FieldRule :=
  match bootBits a with
  | 0x3FF => if idReserved (fld v 9 0) then [encField 9 0 0 0] else []
  | 0xE0000000 => [encField 31 29 0 4]
  | 0x300 => [encField 9 8 0 2]
  | 0x30 => [encField 5 4 0 2]
  | _ => []

/-- One field rule on the word: the reason of its clamp, if any, and the word. -/
def clampField (a : Nat) (acc : List Nat × Word) (r : FieldRule) : List Nat × Word :=
  if !r.breaks acc.2 then acc
  else if r.enc then (acc.1 ++ [3], setFld acc.2 r.hi r.lo (fld (regReset a) r.hi r.lo))
  else if r.max < fld acc.2 r.hi r.lo then (acc.1 ++ [1], setFld acc.2 r.hi r.lo r.max)
  else (acc.1 ++ [2], setFld acc.2 r.hi r.lo r.min)

/-- The settings of ROPE:CFG that R273 reserves beyond single codes: the field that selects one returns to its reset value (R452,
log 90). ROLE goes to NONE for a LEADER of another rope than 0 and a NODE at position 0, and BR_EN to 0 for a branch rope 0 or the
own one. -/
def clampRopeCfg (v : Word) : List Nat × Word :=
  let bad := (fld v 1 0 == 2 && fld v 31 29 != 0) || (fld v 1 0 == 1 && fld v 23 18 == 0)
  let w := if bad then setFld v 1 0 0 else v
  let br := bit w 28 && (fld w 27 25 == 0 || fld w 27 25 == fld w 31 29)
  (List.replicate (bad.toNat + br.toNat) 3, if br then setBit w 28 false else w)

/-- The reasons for which an entry's value is clamped, in order, and the value that is written. -/
def clampWord (a : Nat) (v : Word) (more : List FieldRule := []) : List Nat × Word :=
  match regSpec a with
  | none => ([], v)
  | some sp =>
    let acc0 := (fieldRules a v ++ bootRules a v ++ more).foldl (clampField a) ([], v)
    let acc := if a = 0x540020 then (acc0.1 ++ (clampRopeCfg acc0.2).1, (clampRopeCfg acc0.2).2) else acc0
    let known := BitVec.ofNat 32 (sp.writable ||| bootBits a)
    let ro := BitVec.ofNat 32 (roBits a) &&& ~~~(BitVec.ofNat 32 (bootBits a))
    let rsv := v &&& ~~~(known ||| ro)
    let l1 := if rsv = 0 then acc.1 else acc.1 ++ [4]
    let l2 := if v &&& ro = 0 ∧ ¬(known = 0) then l1 else if known = 0 ∨ v &&& ro ≠ 0 then l1 ++ [5] else l1
    (l2, acc.2 &&& known)

/-! ### Applying a record (R451) -/

/-- An entry of a record: its index, ADDR and VALUE. -/
structure BootEntry where
  ix : Nat
  addr : Word
  value : Word
deriving DecidableEq, Repr

def BootEntry.at_ (e : BootEntry) : Nat := e.addr.toNat

/-- The entries of a record. -/
def bootEntries (data : List Byte) : List BootEntry :=
  (List.range (data.length / 8)).map fun k =>
    { ix := k, addr := BitVec.ofNat 32 (ofBytes ((data.drop (8 * k)).take 4)), value := BitVec.ofNat 32 (ofBytes ((data.drop (8 * k + 4)).take 4)) }

/-- The narrower enable of a channel that stands in the register itself (R40): its bit. -/
def narrowEnable (a : Nat) : Option Nat :=
  let o := a % 0x1000
  match (pageInfo (a / 0x1000)).kind with
  | .clkPll => if o = 0x020 ∨ o = 0x040 then some 0 else none
  | .sdf => if 0x100 ≤ o ∧ o < 0x300 ∧ o % 0x40 = 0 then some 0 else none
  | .host => if 0x040 ≤ o ∧ o < 0x0C0 ∧ o % 0x20 = 0 then some 31 else none
  | .loop => if o = 0x044 then some 31 else none
  | .iob => if 0x200 ≤ o then some 7 else none
  | _ => none

/-- What the Guide stores for the RO bits that a boot record sets. -/
def State.bootStore (s : State) (a : Nat) (w : Word) : State :=
  let m := BitVec.ofNat 32 (bootBits a)
  if m = 0 then s
  else s.setReg a ((s.reg a &&& ~~~m) ||| (w &&& m))

/-- A write of the Guide, with the narrower enable held at 0 or not. -/
def State.bootPut (s : State) (a : Nat) (w : Word) (hold : Bool) : State :=
  let w1 := match narrowEnable a with
    | some b => if hold then setBit w b false else w
    | none => w
  (s.bootStore a w1).applyWrite a rGuide w1 false

/-- Why an entry writes nothing at all: an address outside the record's group or unassigned, or the owner of a fixed page. -/
def entryRefused (g : BootGroup) (e : BootEntry) : Option Nat :=
  if 0x1000000 ≤ e.at_ ∨ e.at_ % 4 ≠ 0 ∨ (regSpec e.at_).isNone ∨ !groupReaches g e.at_ then some 6
  else if e.at_ % 0x1000 = 0x014 ∧ (pageInfo (e.at_ / 0x1000)).fixed then some 7 else none

/-- The rules that another register decides: OUT_PAR of a context whose output goes to the rope is a shift of 0 to 32 (R209). -/
def State.moreRules (s : State) (a : Nat) : List FieldRule :=
  if (pageInfo (a / 0x1000)).kind = .loopctx ∧ a % 0x100 = 0xDC ∧ fld (s.shadow (a - 4)) 31 28 = 4 then [numField 5 0 0 32] else []

/-- One entry other than an ENABLE: its clamps are logged and its value is written. The first write of WARN arms the brace
(R460, R486). -/
def State.bootEntry (s : State) (id : Nat) (e : BootEntry) : State :=
  match entryRefused (groupOf id) e with
  | some r => s.clampEntry id e.ix r e.addr e.value e.value
  | none =>
    let c := clampWord e.at_ e.value (s.moreRules e.at_)
    let nothing := c.1.contains 5 && (((regSpec e.at_).map RegSpec.writable).getD 0 ||| bootBits e.at_) == 0
    let shown := if nothing then e.value else c.2
    let s1 := c.1.foldl (fun (t : State) r => t.clampEntry id e.ix r e.addr e.value shown) s
    if nothing then s1
    else
      let s2 := s1.bootPut e.at_ c.2 true
      if e.at_ = pg 0x002 0x20 then s2.setB e.at_ 31 true else s2

/-- The paired fields of an EDGE page disagree: a period too short for its RISE or FALL (R452). -/
def State.edgePairBad (s : State) (p : Nat) : Bool :=
  let per := (s.shadow (aEDGE p 0x30)).toNat
  per != 0 && (per < (s.shadow (aEDGE p 0x34)).toNat || per < (s.shadow (aEDGE p 0x38)).toNat)

/-- The commit of a page after its entries. Loop pages are committed together, later (R459). -/
def State.bootCommit (s : State) (id p : Nat) (last : Option BootEntry) : State :=
  match (pageInfo p).kind with
  | .loop => s
  | .loopctx => s
  | .time => if s.timeAtOnce then s.timeTransfer else s.setPending 0x018 true
  | .edge =>
    let q := p - 0x100
    let s1 := if s.edgePairBad q then
        let z := [0x30, 0x34, 0x38, 0x40, 0x44, 0x48].foldl (fun (t : State) o => t.setShadow (aEDGE q o) 0) s
        match last with
        | some e => z.clampEntry id e.ix 9 e.addr e.value 0
        | none => z
      else s
    s1.edgeTransfer q
  | .rtc => (s.commitTransfer p).alarmNow
  | _ => s.commitTransfer p

/-- The entries of a record on one page. ENABLE is held at 0 and written last; a record that does not set it leaves it as it
was. The DRAM controller is enabled once every page of its record stands (R358). -/
def State.bootPage (s : State) (id : Nat) (l : List BootEntry) (p : Nat) : State :=
  let mine := l.filter fun e => e.at_ / 0x1000 == p
  let ctl := mine.filter fun e => e.at_ % 0x1000 == 0x004
  let rest := mine.filter fun e => e.at_ % 0x1000 != 0x004
  let en := pageHasEnable (pageInfo p).kind
  let was := en && s.pageEnable p
  let s1 := if was then (s.setB (pg p 4) 0 false).enableChanged p false else s
  let s2 := rest.foldl (fun (t : State) e => t.bootEntry id e) s1
  let rws := rest.filter fun e => (entryRefused (groupOf id) e).isNone && rwsMask e.at_ != 0
  let s3 := if rws.isEmpty then s2 else s2.bootCommit id p rws.getLast?
  let s4 := rest.foldl (fun (t : State) e =>
    match narrowEnable e.at_ with
    | some b => if (entryRefused (groupOf id) e).isNone && bit (clampWord e.at_ e.value).2 b then t.bootPut e.at_ (clampWord e.at_ e.value).2 false else t
    | none => t) s3
  let s5 := ctl.foldl (fun (t : State) e =>
    match entryRefused (groupOf id) e with
    | some r => t.clampEntry id e.ix r e.addr e.value e.value
    | none => if fld e.value 31 3 = 0 then t else t.clampEntry id e.ix 4 e.addr e.value (e.value &&& 7)) s4
  let good := ctl.filter fun e => (entryRefused (groupOf id) e).isNone
  let want := match good.getLast? with | some e => bit e.value 0 | none => was
  let s6 := if en && want && p != 0x640 then (s5.setB (pg p 4) 0 true).enableChanged p true else s5
  if good.any (fun e => bit e.value 2) then s6.setB (pg p 4) 2 true else s6

/-- Apply the entries of one boot record that lie on the pages `on` names. -/
def State.bootRecordOn (s : State) (on : Nat → Bool) (r : SetRec) : State :=
  if r.data.length % 8 ≠ 0 then
    let (w, s1) := s.free 64
    let (ix, s2) := s1.free 8
    let a := BitVec.ofNat 32 (w.toNat % 2 ^ 32)
    let v := BitVec.ofNat 32 (w.toNat / 2 ^ 32)
    let s3 := s2.satAdd (aSET 0x30) 15 0 1
    if s3.settings.clampLog.length < 64 then
      (s3.updSettings fun t => { t with
        clampLog := t.clampLog ++ [[BitVec.ofNat 32 (r.id + ix.toNat * 2 ^ 16 + 6 * 2 ^ 24), a, v, v]] }).wrapAdd (aSET 0x30) 23 16 1
    else s3
  else
    let l := bootEntries r.data
    (((l.map fun e => e.at_ / 0x1000).eraseDups).filter on).foldl (fun (t : State) p => t.bootPage r.id l p) s

/-- Apply the present records with IDs lo to hi, in ascending order, on the pages `on` names. -/
def State.bootRangeOn (s : State) (on : Nat → Bool) (lo hi : Nat) : State :=
  ((idsOf s.settings.txs).filter fun i => lo ≤ i && i ≤ hi).foldl (fun (t : State) i =>
    match t.record i with
    | some r => t.bootRecordOn on r
    | none => t) s

def State.bootRange (s : State) (lo hi : Nat) : State := s.bootRangeOn (fun _ => true) lo hi

/-- The pin group: every pin leaves row 2 when its table has been applied (R344, R454). -/
def State.bootPins (s : State) : State :=
  let s1 := s.bootRange 0x0000 0x00FF
  { s1 with pins := { s1.pins with tableApplied := true } }.settlePins

/-- The loop group: IDs 0x0C00 to 0x0C3F first (R450). -/
def State.bootLoop (s : State) : State := (s.bootRange 0x0C00 0x0C3F).bootRange 0x0400 0x07FF

/-! ### What the PCI Express function says of itself (R347) -/

/-- The identity in configuration space. -/
structure HostIdentity where
  vendor : BitVec 16
  device : BitVec 16
  revision : Byte
  classCode : BitVec 24
  subsystem : Word
  serial : BitVec 64
deriving DecidableEq, Repr

/-- Vendor and device as HOST:PCI_ID shows them, the subsystem IDs of the host boot records, and the Device Serial Number of OTP word 15 (R437). -/
def State.hostIdentity (s : State) : HostIdentity :=
  let records := ((idsOf s.settings.txs).filter fun i => 0x0A00 ≤ i && i ≤ 0x0AFF).filterMap fun i => (s.record i).map fun r => r.data
  { vendor := BitVec.ofNat 16 (s.rf (pg 0x600 0x020) 15 0), device := BitVec.ofNat 16 (s.rf (pg 0x600 0x020) 31 16)
    revision := 0x01, classCode := 0x118000, subsystem := Config.subsystemIds records, serial := s.otpWord 15 }

end Sys2Proof.Machine
end

