-- ==== Sys2Proof/Machine/Modes.lean ====
section
/-! DEFINITION. Mode changes and what they do to the blocks (R17 to R28), and the wake budget (R482). -/

namespace Sys2Proof.Machine

def aPMU (o : Nat) : Nat := pg 0x001 o
def aSUP (o : Nat) : Nat := pg 0x002 o
def aCFG (o : Nat) : Nat := pg 0x005 o
def State.updPower (s : State) (f : Power → Power) : State := { s with power := f s.power }
def State.updFabric (s : State) (f : Fabric → Fabric) : State := { s with fabric := f s.fabric }
def State.updCfg (s : State) (f : CfgEngine → CfgEngine) : State := { s with cfg := f s.cfg }

/-! ### Quiescing (R28) -/

/-- A bus port stops: requests not yet accepted are dropped, accepted writes complete, and the data of accepted reads are
discarded. -/
def State.quiescePort (s : State) (p : Nat) : State :=
  (s.updDram fun m => { m with
    atPort := m.atPort.filter fun r => r.port != p
    queue := (m.queue.map fun r => if r.port == p && !r.write then { r with answered := true } else r).filter
      fun r => !(r.answered && r.issued && r.result.isSome) }).answerPort p

def State.quiesceAll (s : State) : State :=
  ((List.range 8).foldl (fun t p => t.quiescePort p) s).updFabric fun f => { f with quiesced := true }

def State.unquiesce (s : State) : State := s.updFabric fun f => { f with quiesced := false }

/-! ### Modes -/

/-- The fabric is configured (CFG:STAT.CONFIGURED). -/
def State.configured (s : State) : Bool := s.rb (aCFG 0x20) 8

/-- Bough clocks stop at their hold gates and handshake boughs freeze, with the fabric configured; or both go on (R113, R154). -/
def State.holdFabric (s : State) (on : Bool) : State := if on && !s.configured then s else (s.setHoldGate on).holdFreezeAll on

/-- What a brace does to the DRAM (R378, R464): self-refresh, or the stop of a training that runs. STATE still reads TRAINING then, and
requests wait (DESIGN CHOICE, log 125). -/
def State.dramBrace (s : State) : State :=
  if s.dramState = dTRAINING then s.updDram fun m => { m with trainStopped := true } else s.selfRefresh true

/-- The DRAM goes on as the device leaves the HOLD of a brace (R378, R464). -/
def State.dramResume (s : State) : State :=
  let s1 := if s.dram.forBrace then s.selfRefreshExit else s
  if !s1.dram.trainStopped then s1
  else if s1.pageEnable 0x640 then s1.dramEnable
  else (s1.selfRefresh false).refuseWaiting

/-- The device enters RUN: no cause of HOLD is left. -/
def State.toRun (s : State) : State := ((s.setMode mRUN).unquiesce.holdFabric false).loopRun.dramResume.settlePins

/-- The device enters HOLD, or stays there. -/
def State.toHold (s : State) : State :=
  let s1 := if s.mode = mHOLD then s.setTarget mHOLD else s.setMode mHOLD
  (s1.quiesceAll.holdFabric true).loopHold.settlePins

/-- The device enters SERVICE: every cause clears (R18). -/
def State.toService (s : State) : State :=
  (((s.setMode mSERVICE).setF aMODE 23 16 0).quiesceAll.holdFabric true).loopHold.dramResume.settlePins

/-- HOLD_CAUSE holds a bit. -/
def State.anyCause (s : State) : Bool := s.rf aMODE 23 16 != 0

/-- The causes kept through a load make it end in HOLD (R20). -/
def State.keptCause (s : State) : Bool := s.cause 18 || s.cause 19

/-- The device enters LOAD; TARGET is the mode in which the load ends. What holds the fabric stands: a full load lifts it
once GLOBAL_HOLD is asserted (R17, R113). -/
def State.toLoad (s : State) (target : Nat) : State :=
  let s1 := if s.mode = mLOAD then s else s.setMode mLOAD
  ((s1.setTarget target)).dramResume.settlePins

/-- The mode in which a load ends: HOLD where causes are kept (R20). -/
def State.loadTarget (s : State) : Nat := if s.keptCause then mHOLD else mRUN

/-! ### The wake budget (R482) -/

/-- CAP and RATE, in µJ and in µJ per ms, which is nJ per µs. -/
def State.budgetCap (s : State) : Nat := s.rf (aPMU 0x38) 15 0
def State.budgetRate (s : State) : Nat := s.rf (aPMU 0x38) 31 16

/-- BUDGET_STAT shows the level and the steps that wait. -/
def State.showBudgetStat (s : State) : State :=
  (s.setF (aPMU 0x3C) 15 0 (s.power.level / 1000)).setF (aPMU 0x3C) 23 16 s.power.waiting.length

/-- The level covers a step of `cost` µJ: a cost above CAP needs the level to equal CAP. -/
def State.budgetCovers (s : State) (cost : Nat) : Bool :=
  if s.budgetCap < cost then s.budgetCap * 1000 ≤ s.power.level else cost * 1000 ≤ s.power.level

def State.budgetDebit (s : State) (cost : Nat) : State := s.updPower fun p => { p with level := p.level - cost * 1000 }

/-- One step is requested: it starts, or waits behind the others. -/
def State.budgetStepRequest (s : State) (cost : Nat) : State :=
  if s.power.waiting.isEmpty && s.budgetCovers cost then s.budgetDebit cost
  else (((s.updPower fun p => { p with waiting := p.waiting ++ [cost] }).satAdd (aPMU 0x40) 31 0 1).setErr 0x001 18).raise 8

/-- Steps are requested in order; the Boolean says that all have started. If not, `next` follows the last. -/
def State.budgetRequest (s : State) (costs : List Nat) (next : StartNext) : Bool × State :=
  let s1 := (costs.foldl (fun (t : State) c => t.budgetStepRequest c) s).showBudgetStat
  if s1.power.waiting.isEmpty then (true, s1) else (false, s1.updPower fun p => { p with next := some next })

/-- BUDGET_REFILL. -/
def State.budgetRefill (s : State) : State :=
  (s.updPower fun p => { p with level := min (p.level + s.budgetRate) (s.budgetCap * 1000) }).showBudgetStat

/-! ### Calls cut short -/

/-- A long call that runs ends with ABORTED (R330). -/
def State.abortLong (s : State) : State := s.endLong rcABORTED 0 []

end Sys2Proof.Machine
end

