-- ==== Sys2Proof/Machine/Supply.lean ====
section
/-! DEFINITION. The supply: the VIN monitor, rails, phases and k (R465 to R470, R486). -/

namespace Sys2Proof.Machine

/-- The device is powered, out of reset, and in a mode in which the Guide may run. -/
def State.awake (s : State) : Bool := !s.power.inReset && mIDLE ≤ s.mode

/-- VIN_STAT takes a measurement, in units of 10 mV. -/
def State.setVin (s : State) (vin : Nat) : State := s.setF (aSUP 0x24) 15 0 vin

/-- Brace is armed (R460). -/
def State.braceArmed (s : State) : Bool := s.rb (aSUP 0x20) 31

/-- VIN above 41 V (R465). -/
def State.vinOv (s : State) : State :=
  if s.power.inReset then s
  else if s.awake then (((s.setErr 0x002 20).raise 15).heartVin 4) else s.setB (pg 0x002 0x00C) 20 true

/-- VIN falls below VIN_WARN in SLEEP or BIVOUAC (R465). -/
def State.vinLowAsleep (s : State) : State :=
  if !s.power.inReset ∧ (s.mode = mSLEEP ∨ s.mode = mBIVOUAC) then s.setB (aSUP 0x24) 18 true
  else s

/-- VIN rises above VIN_WARN: BELOW clears (R486), and event 12 follows an event 11 (R487). -/
def State.vinAboveWarn (s : State) (vin : Nat) : State :=
  if !s.awake then s
  else
    let s1 := (s.setVin vin).setB (aSUP 0x24) 16 false
    if s.power.belowWarn then (s1.updPower fun p => { p with belowWarn := false }).raise 12 else s1

/-! ### Rails (R468 to R470) -/

/-- The rails are in regulation, with VCORE at its FIXED target of 0.80 V or as the board supplies it. -/
def State.railsUp (s : State) : State :=
  let s1 := ((s.setB (aSUP 0x2C) 20 true).setB (aSUP 0x2C) 21 true).setB (aSUP 0x2C) 22 true
  s1.setF (aSUP 0x2C) 15 0 800

/-- STRAP_VCORE is tied to AON_OUT. -/
def State.boardVcore (s : State) : Bool := s.rb (aSUP 0x2C) 16

/-- A rail fault (R468): rail 1 VCORE, 2 VAUX or 3 VIO; the registers of the AON file record it. The reset follows. -/
def State.noteRailFault (s : State) (rail : Nat) (above : Bool) : State :=
  let s1 := s.setReg (aSUP 0x38) (BitVec.ofNat 32 (rail % 4 + 8 * above.toNat))
  (s1.satAdd (aSUP 0x34) 15 0 1).updPower fun p => { p with faults := p.faults + 1 }

/-- A switching phase senses below 0.1 A (R469): out of service until a device reset. -/
def State.phaseFault (s : State) (phase : Nat) : State :=
  if s.awake ∧ phase < 4 ∧ !s.boardVcore then
    if s.rb (aSUP 0x3C) (20 + phase) then s
    else
      let s1 := (s.setB (aSUP 0x3C) (20 + phase) true).setErr 0x002 19
      let left := 4 - ((List.range 4).filter fun k => s1.rb (aSUP 0x3C) (20 + k)).length
      s1.setF (aSUP 0x3C) 19 16 (min (s1.rf (aSUP 0x3C) 19 16) left)
  else s

/-- Phases active for a VCORE current in units of 10 mA (R469): up at 8, 18 and 28 A, down 2 A below. -/
def phasesFor (now icore : Nat) : Nat :=
  let up := 1 + (if 800 ≤ icore then 1 else 0) + (if 1800 ≤ icore then 1 else 0) + (if 2800 ≤ icore then 1 else 0)
  let down := 1 + (if 600 ≤ icore then 1 else 0) + (if 1600 ≤ icore then 1 else 0) + (if 2600 ≤ icore then 1 else 0)
  if now < up then up else if down < now then down else now

/-- What a measurement of the supply finds: k × 128, VCORE, VAUX and VIO in mV, and the VCORE current in 10 mA. -/
structure SupplySample where
  k : BitVec 8
  vcore : BitVec 16
  vaux : BitVec 16
  vio : BitVec 16
  icore : BitVec 16
  vin : BitVec 16
deriving DecidableEq, Repr

/-- The step ADAPTIVE mode takes, in mV: k above K_TGT / 128 − 0.03 raises VCORE, below K_TGT / 128 − 0.06 lowers it. -/
def State.adaptStep (s : State) (k : Nat) : Int :=
  let v := s.rf (aSUP 0x2C) 15 0
  let t := s.rf (aSUP 0x28) 23 16
  if !s.rb (aSUP 0x28) 0 ∨ s.boardVcore then 0
  else if 100 * t < 100 * k + 384 then (if v + 5 ≤ 900 then 5 else 0)
  else if 100 * k + 768 < 100 * t then (if 725 ≤ v then -5 else 0)
  else 0

/-- K_MEASURE (R470). The other measured registers take their values with it (log 46). -/
def State.kMeasure (s : State) (m : SupplySample) : State :=
  if !s.awake then s
  else
    let d := s.adaptStep m.k.toNat
    let v := if s.boardVcore then m.vcore.toNat else ((s.rf (aSUP 0x2C) 15 0 : Int) + d).toNat
    let s1 := ((s.setVin m.vin.toNat).setF (aSUP 0x2C) 31 24 m.k.toNat).setF (aSUP 0x2C) 15 0 v
    let s2 := s1.setReg (aSUP 0x30) (BitVec.ofNat 32 (m.vaux.toNat + m.vio.toNat * 2 ^ 16))
    let left := 4 - ((List.range 4).filter fun k => s2.rb (aSUP 0x3C) (20 + k)).length
    let n := if s.boardVcore then 0 else min left (phasesFor (s2.rf (aSUP 0x3C) 19 16) m.icore.toNat)
    let s3 := (s2.setF (aSUP 0x3C) 15 0 m.icore.toNat).setF (aSUP 0x3C) 19 16 n
    let limit := s.rb (aSUP 0x28) 0 && !s.boardVcore && v == 900 && 100 * s.rf (aSUP 0x28) 23 16 < 100 * m.k.toNat + 384
    if limit && !s3.rb (aSUP 0x2C) 23 then
      (((s3.setB (aSUP 0x2C) 23 true).setErr 0x002 18).raise 14).markUndefined 4 0x002 0xFFFF
    else s3

/-- A new TARGET or ADAPTIVE acts at once (R470): in FIXED mode VCORE goes to 0.72 V + 5 mV × TARGET. -/
def State.railCfgWritten (s : State) : State :=
  if s.boardVcore then (s.setF (aSUP 0x28) 13 8 0).setB (aSUP 0x28) 0 false
  else if s.rb (aSUP 0x28) 0 then s
  else s.setF (aSUP 0x2C) 15 0 (720 + 5 * min 36 (s.rf (aSUP 0x28) 13 8))

end Sys2Proof.Machine
end

