-- ==== Sys2Proof/Machine/Domains.lean ====
section
/-! DEFINITION. What a reset and a power-down leave: the AON file, the retention banks, and the rest lost (R11, R12, R461, R477, R478). -/

namespace Sys2Proof.Machine

/-! ### Registers -/

/-- A store of registers with the bits of `m` kept and every other bit at its reset value. -/
def keepBits (m : Nat → Word) (l : SMap Word) : SMap Word :=
  l.foldl (fun (acc : SMap Word) (e : Nat × Word) => SMap.set regReset acc e.1 ((e.2 &&& m e.1) ||| (regReset e.1 &&& ~~~(m e.1)))) []

def ones32 : Word := 0xFFFFFFFF

/-- The bits of a register that the AON register file holds (R12), and the straps sampled at power-on reset (R467). -/
def aonBits (a : Nat) : Word :=
  if a = pg 0x002 0x02C then 0x00070000
  else match regSpec a with | some r => BitVec.ofNat 32 r.aon | none => 0

/-- The bits that survive SLEEP or BIVOUAC: the AON file; the retention banks of R477; the pages whose content the Guide keeps
in banks 12 and 13; the phases out of service, which only a device reset returns (R469); and in SLEEP the pages of the GUIDE and MEM domains, which
stay powered (log 47). -/
def sleepBits (target a : Nat) : Word :=
  let o := a % 0x1000
  if o = 0x004 then 0x5
  else if o = 0x010 ∨ o = 0x014 then ones32
  else if o = 0x00C ∧ (pageInfo (a / 0x1000)).kind = .mbx then 0xF0000
  else if o < 0x020 then 0
  else
    match (pageInfo (a / 0x1000)).kind with
    | .edgecal => if o = 0x020 ∨ 0x100 ≤ o ∧ o < 0x300 then ones32 else 0
    | .loop | .edge | .sdf | .mbx | .evt0 | .evt1 | .psel | .pcfg | .plock | .iob | .settings | .heart => ones32
    | .loopctx => if 0x40 ≤ o % 0x100 then ones32 else 0
    | .host => if o = 0x020 then 0 else ones32
    | .pitch => if o = 0x028 then ones32 else 0
    | .supply => if target = mSLEEP then ones32 else aonBits a ||| (if o = 0x03C then 0x00F00000 else 0)
    | .sys | .pmu | .lc | .dramCtl | .dramTiming | .dramPorts | .dramEcc | .dramTrain =>
      if target = mSLEEP then ones32 else aonBits a
    | _ => aonBits a

/-- The shadow copies that survive: not those of the LOOPCTX pages, which read their active values (R477). -/
def sleepShadow (target a : Nat) : Word := if (pageInfo (a / 0x1000)).kind = .loopctx then 0 else sleepBits target a

/-- The registers of page p keep their fields through SLEEP or BIVOUAC, and with them cases 1 and 2 of R56 that arose there. -/
def keepsCase (target p : Nat) : Bool := sleepBits target (pg p 0x020) != 0 || sleepBits target (pg p 0x100) != 0

/-- The registers after SLEEP or BIVOUAC. -/
def Regs.asleep (r : Regs) (target : Nat) : Regs :=
  let act := keepBits (sleepBits target) r.act
  let ctx := act.filter fun (e : Nat × Word) => (pageInfo (e.1 / 0x1000)).kind == .loopctx && 0x20 ≤ e.1 % 0x1000
  { act := act
    shd := ctx.foldl (fun (m : SMap Word) (e : Nat × Word) => SMap.set regReset m e.1 e.2) (keepBits (sleepShadow target) r.shd)
    undefined := r.undefined.filter fun u => u.1 ≤ 2 && keepsCase target u.2.1
    requieted := r.requieted.filter fun a => keepsCase target (a / 0x1000) }

/-! ### Sessions -/

def aLC (o : Nat) : Nat := pg 0x004 o

/-- A debug session ends (R521). -/
def State.debugEnd (s : State) : State := if s.rb (aLC 0x28) 0 then (s.setReg (aLC 0x28) 0).raise 114 else s

/-! ### Device reset (R461) -/

/-- The pins as the board holds them, with every pad in row 2. -/
def Pins.afterReset (p : Pins) : Pins :=
  { pin := SMap.mapVals (fun _ => {}) (fun (x : PinState) => { board := x.board }) p.pin, scan := p.scan }

/-- What a reset leaves: flash, OTP, the board's side, the AON file where `aon` holds, and the DRAM where it is in
self-refresh and `dram` holds. -/
def State.cleared (s : State) (aon dram : Bool) : State :=
  let f := s.flashCut
  let keep := dram && s.dram.selfRefresh
  { State.reset with
    pending := s.pending, freeIx := f.freeIx
    regs := { act := if aon then keepBits aonBits s.regs.act else [], shd := if aon then keepBits aonBits s.regs.shd else [] }
    host := { sent := s.host.sent }
    fabric := { clocks := { xtalFailed := aon && s.fabric.clocks.xtalFailed } }
    dramMem := if keep then s.dramMem else []
    dram := if keep then { chk := s.dram.chk, lost := s.dram.lost, selfRefresh := true } else {}
    pins := s.pins.afterReset
    power := { cold := !aon, railsDown := !aon, faults := if aon then s.power.faults else 0, level := s.power.level, tj := s.power.tj, perst := s.power.perst
               latched := if aon then s.power.latched else none, signatures := if aon then s.power.signatures else [] }
    flash := f.flash, otp := s.otp, otpOpen := s.otpOpen
    settings := { txs := s.settings.txs, head := s.settings.head, written := s.settings.written, tsn := s.settings.tsn }
    heart := { s.heart with work := {}, deferred := false, erasePending := none }
    rope := { sent := s.rope.sent } }

/-- A device reset is asserted: the mode becomes LOAD and every cause clears (R18, R20); pins go to row 2 and the bypasses
close. -/
def State.resetAssert (s : State) : State :=
  let s1 := s.cleared true true
  let m := s.mode
  ((s1.setReg aMODE (BitVec.ofNat 32 (mRUN * 2 ^ 12 + m * 2 ^ 8 + mLOAD)))).settlePins

/-- VIN has fallen below the power-on threshold: everything but flash, OTP and the board is lost. -/
def State.powerLost (s : State) : State :=
  ((s.cleared false false).updPower fun p => { p with level := 4000000 }).settlePins

/-! ### SLEEP, BIVOUAC and OFF -/

/-- Some LOOPCTX shadow differs from its active copy (R477). -/
def State.shadowDiffers (s : State) : Bool :=
  ((s.regs.act ++ s.regs.shd).filter fun (e : Nat × Word) => (pageInfo (e.1 / 0x1000)).kind == .loopctx && 0x20 ≤ e.1 % 0x1000).any
    fun (e : Nat × Word) => (s.reg e.1 ^^^ s.shadow e.1) &&& rwsMask e.1 != 0

/-- The domains go down for SLEEP or BIVOUAC: what R477 does not keep is lost. -/
def State.domainsOff (s : State) (target : Nat) : State :=
  let f := s.flashCut
  { f with
    regs := s.regs.asleep target
    evt := { counts := s.evt.counts }
    cadenceStep := []
    edge := [], cal := [], sdf := [], pub := []
    loop := { ctxs := SMap.mapVals (fun _ => {}) (fun (c : LoopCtx) => { c with update := none, slotsAwaited := [], coastUntil := none, arrival := none }) s.loop.ctxs, hb0 := s.loop.hb0, hb1 := s.loop.hb1 }
    fabric := { clocks := { xtalFailed := s.fabric.clocks.xtalFailed } }
    pins := { s.pins with armed := [] }
    dram := { chk := s.dram.chk, trim := s.dram.trim, selfRefresh := s.dram.selfRefresh, lost := s.dram.lost }
    cfg := { bootBank := s.cfg.bootBank }
    bist := { queue := s.bist.queue }
    rope := { sent := s.rope.sent, own := { stopped := s.rope.own.stopped }, br := { stopped := s.rope.br.stopped } }
    debug := {}
    host := { sent := s.host.sent }
    guide := { held := s.guide.held, ropeHeld := s.guide.ropeHeld } }

/-! ### Retention failures (R477, R478) -/

/-- Reset the registers that `p` selects. -/
def State.resetRegs (s : State) (p : Nat → Bool) : State :=
  { s with regs := { s.regs with act := SMap.keep (fun a => !p a) s.regs.act, shd := SMap.keep (fun a => !p a) s.regs.shd } }

/-- Page a / 0x1000 has one of the kinds, and a is not in its header. -/
def onKinds (l : List PageKind) (a : Nat) : Bool := l.contains (pageInfo (a / 0x1000)).kind && 0x20 ≤ a % 0x1000

/-- Bank b of 0 to 7 failed: its contexts read zeros and become INVALID, each with its event, and RET_INVALID is set
(R236, R237, R240). -/
def State.ctxBankLost (s : State) (b : Nat) : State :=
  (List.range 128).foldl (fun (t : State) k =>
    let n := 128 * b + k
    let known := t.rb (aCTX n 0xF0) 31
    let z := (List.range 48).foldl (fun (u : State) j => (u.setReg (aCTX n (0x40 + 4 * j)) 0).setShadow (aCTX n (0x40 + 4 * j)) 0) t
    let w := (z.setCtx n {}).setB (aCTX n 0xF0) 31 true
    if known then w else w.loopEvent n) (s.setErr 0x300 21)

/-- Bank 8 failed: the pages take the entries of the loop group that address them. -/
def State.bank8Lost (s : State) : State :=
  let k := [PageKind.loop, .edge, .edgecal, .sdf]
  let s1 := s.resetRegs (onKinds k)
  let on (p : Nat) : Bool := k.contains (pageInfo p).kind
  (s1.bootRangeOn on 0x0C00 0x0C3F).bootRangeOn on 0x0400 0x07FF

/-- Bank 9 failed: mailboxes and EVT pages (R324). Each epoch is the copy of bank 11 plus 1. -/
def State.bank9Lost (s : State) : State :=
  let s1 := s.resetRegs (onKinds [.mbx, .evt0, .evt1])
  let s2 := { s1 with
    mbx := SMap.mapVals (fun _ => {}) (fun (m : Mailbox) => { txEpoch := m.txEpoch, rxEpoch := m.rxEpoch }) s1.mbx
    evt := { s1.evt with counts := [] } }
  let s3 := (List.range 32).foldl (fun (t : State) m =>
    t.setMb m { t.mb m with txEpoch := (t.mb m).txEpoch + 1, rxEpoch := (t.mb m).rxEpoch + 1 }) s2
  s3.bootRangeOn (fun p => [PageKind.mbx, .evt0].contains (pageInfo p).kind) 0x0A00 0x0AFF

/-- Bank 10 failed: pin and host registers. The pin locks and the pin owners are those of bank 11. -/
def State.bank10Lost (s : State) : State :=
  let s1 := s.resetRegs fun a => onKinds [.psel, .pcfg, .plock, .iob, .host] a && aonBits a == 0
  let s2 := (s1.bootRange 0x0000 0x00FF).bootRangeOn (fun p => (pageInfo p).kind == .host) 0x0A00 0x0AFF
  (List.range 640).foldl (fun t n => ((t.setF (aPCFG n) 31 29 (s.rf (aPCFG n) 31 29)).setB (aPCFG n) 28 (s.rb (aPCFG n) 28)).setB
    (aLOCKED (n / 32)) (n % 32) (s.rb (aLOCKED (n / 32)) (n % 32))) s2

/-- The banks whose retirement found banks 14 and 15 in use: they are not retained (R498). -/
def State.unretained (s : State) (b : Nat) : Bool :=
  (s.heart.work.repairs.any fun r => r.retired && elemKind r.elem == 3 && elemPool r.elem == b) &&
    s.power.bank14 != some b && s.power.bank15 != some b

/-- The banks of R477 whose content is lost at a wake: a failing bank, a retired bank whose stand-in fails, and a bank that is
not retained. -/
def State.lostBanks (s : State) : List Nat :=
  (List.range 14).filter fun b =>
    if s.power.bank14 = some b then s.power.wakeFails.getLsbD 14
    else if s.power.bank15 = some b then s.power.wakeFails.getLsbD 15
    else s.power.wakeFails.getLsbD b || s.unretained b

/-- The action of R477 for the content of bank b. Bank 11 resets the device, which the wake does. -/
def State.bankAction (s : State) (lost : List Nat) (b : Nat) : State :=
  if b < 8 then s.ctxBankLost b
  else if b = 8 then s.bank8Lost
  else if b = 9 then s.bank9Lost
  else if b = 10 then s.bank10Lost
  else if b = 12 then
    State.setF (hi := 15) (lo := 0) (a := aPITCH 0x28) (v := 0) { s with
      settings := { s.settings with staged := [], deferred := if lost.contains 13 then [] else s.settings.deferred }
      guide := { s.guide with held := [], ropeHeld := [] }
      bist := {} }
  else if b = 13 then
    { s with heart := { s.heart with work := s.heart.flash }, settings := { s.settings with clampLog := [] } }
  else s

/-- A failing bank is reported, and a targeted pitch of it is queued (R478). -/
def State.bankReport (s : State) (b : Nat) : State :=
  ((((s.setB (aPMU 0x44) b true).satAdd (aPMU 0x48) 15 0 1).setErr 0x001 16).raise 7).queueCheck (elemOf 3 (1024 * b)) 5

/-- Every signature is checked, and what passes is restored (R478). -/
def State.retentionRestore (s : State) : State :=
  let lost := s.lostBanks
  let s1 := ((List.range 16).filter fun b => s.power.wakeFails.getLsbD b || (b < 14 && s.unretained b)).foldl (fun (t : State) b => t.bankReport b) s
  -- the mailbox bits of PAGE_ERR are levels (R316)
  (List.range 32).foldl (fun (t : State) m => t.mbLevel m) (lost.foldl (fun (t : State) b => t.bankAction lost b) s1)

end Sys2Proof.Machine
end

