-- ==== Sys2Proof/Machine/Image.lean ====
section
/-! DEFINITION. Images: sources and headers (R385 to R387), frames and what writing one does (R394 to R399), groves (R398, R405), failures recorded (R416). -/

namespace Sys2Proof.Machine

/-! ### Cause codes (R416) -/

def ccNO_HEADER : Nat := 0x1
def ccAUTH : Nat := 0x2
def ccDEVICE_ID : Nat := 0x3
def ccROLLBACK : Nat := 0x4
def ccIFACE : Nat := 0x5
def ccTAG : Nat := 0x6
def ccCHECK : Nat := 0x7
def ccSEQUENCE : Nat := 0x8
def ccBAD_PACKET : Nat := 0x9
def ccEARLY_END : Nat := 0xA
def ccFINAL : Nat := 0xB
def ccWINDOW : Nat := 0xC
def ccFLASH_READ : Nat := 0xD
def ccBRACE : Nat := 0xE
def ccBUFFER : Nat := 0xF

/-! ### Sources (R385) -/

/-- The first byte of an image: in flash for sources 0 to 2, in DRAM for source 3. -/
def srcBase (src ofs : Nat) : Nat :=
  match src with | 0 => 0 | 1 => 0xA00000 | 2 => 0x1400000 + ofs | _ => ofs

/-- The bytes of the source from there on. -/
def State.srcSize (s : State) (src ofs : Nat) : Nat :=
  match src with | 0 => 0x980000 | 1 => 0x980000 | 2 => 0x800000 - ofs | _ => s.dramSize - ofs

/-- Read n bytes of a source; none when a word of DRAM cannot be read. -/
def State.srcRead (s : State) (src a n : Nat) : Option (List Byte) × State :=
  if src = 3 then (if s.dramShut || s.dramOut a || s.dramOut (a + n - 1) then (none, s.setErr 0x640 16) else s.bufferGet a n)
  else (some (s.flashRead a n), s.suspectRead (s.rangeOpen a n))

/-! ### The header (R386, R387) -/

/-- A little-endian field of n bytes at offset o. -/
def hdrField (h : List Byte) (o n : Nat) : Nat := ofBytes ((h.drop o).take n)

def lcState (s : State) : Nat := s.rf (pg 0x004 0x20) 2 0

/-- The key unit serves a slot (R510): slots 1 to 3 are refused in RETURN, and every slot in SCRAP. -/
def State.slotServed (s : State) (k : Nat) : Bool := lcState s != 5 && (lcState s != 4 || k == 0)

/-- A digest or key slot of OTP holds a value: not empty, and every word verified (R437, R438). -/
def State.otpHolds (s : State) (w n : Nat) : Bool :=
  !s.otpEmpty w n && !(List.range n).any fun k => s.otpOpen.contains (w + k)

/-- Check 1: MAGIC, HDR_VER, and every part inside the source. -/
def headerShape (h : List Byte) (size : Nat) : Bool :=
  hdrField h 0 4 == 0x4B424C49 && hdrField h 4 4 == 1 && 512 ≤ size && hdrField h 0x20 4 + hdrField h 0x24 4 ≤ size &&
    (hdrField h 0x2C 4 == 0 || (hdrField h 0x2C 4 == 131200 && hdrField h 0x28 4 + 131200 ≤ size))

/-- Key 0: WRAPPED_KEY0 unwrapped under the root key of its slot. -/
def State.headerKey (s : State) (h : List Byte) : Option (List Byte) :=
  Config.unwrapKey (BitVec.ofNat 256 (s.otpBits (76 + 4 * (hdrField h 0x18 4 % 4)) 4)) ((h.drop 0x38).take 40)

/-- Check 2: the public key's digest, the signature, the wrapped key; and the digest of the map, when there is one. -/
def State.headerAuth (s : State) (h : List Byte) (map : List Byte) : Bool :=
  let k := hdrField h 0x18 4 % 4
  let pub := (h.drop 0xC8).take 97
  s.slotServed k && s.otpHolds (52 + 6 * k) 6 && s.otpHolds (76 + 4 * k) 4 &&
    (Config.sha384 pub).toNat == s.otpBits (52 + 6 * k) 6 &&
    Config.sigValid pub ((h.drop 0x130).take 96) (h.take 0x130) &&
    (s.headerKey h).isSome &&
    (map.isEmpty || (Config.sha384 map).toNat == hdrField h 0x90 48)

/-- The grove table's entry of grove g (R398). -/
def State.groveEntry (s : State) (g : Nat) : Nat :=
  (SMap.get (fun _ => (0 : BitVec 4096)) s.fabric.frames 17577).toNat / 2 ^ (64 * g) % 2 ^ 64

/-- Check 5: KIND fits the load, a full one or one of grove g. -/
def State.headerFits (s : State) (h : List Byte) (want : Option Nat) : Bool :=
  let kind := hdrField h 0x0C 4
  match want with
  | none => kind % 2 == 0
  | some g => kind % 2 == 1 && kind / 256 % 16 == g && s.groveDefined g && hdrField h 0xC0 8 == s.groveEntry g &&
      hdrField h 0x14 4 == (s.reg (aCFG 0x38)).toNat

/-- What the load keeps of a header, whose key 0 is `key0`. -/
def imageOf (h : List Byte) (src base : Nat) (key0 : List Byte) : Image :=
  { src, base, svn := hdrField h 0x10 4 % 2 ^ 16, iface := BitVec.ofNat 32 (hdrField h 0x14 4), streamOfs := hdrField h 0x20 4,
    streamLen := hdrField h 0x24 4, mapOfs := hdrField h 0x28 4, mapLen := hdrField h 0x2C 4,
    nonce0 := (h.drop 0x30).take 8, key0, digest := hdrField h 0x60 48 }

/-- The checks of an image's header: the cause, 0 when every check passes. `fits` also makes check 5. -/
def State.headerCheck (s : State) (src ofs : Nat) (want : Option Nat) (fits : Bool) : Nat × Image × List Byte × State :=
  let base := srcBase src ofs
  let size := s.srcSize src ofs
  if size < 512 then (ccNO_HEADER, {}, [], s)
  else
    let (h?, s1) := s.srcRead src base 512
    match h? with
    | none => (ccBUFFER, {}, [], s1)
    | some h =>
      let img := imageOf h src base ((s1.headerKey h).getD [])
      if !headerShape h size then (ccNO_HEADER, img, h, s1)
      else
        let (m?, s2) := if img.mapLen = 0 then (some [], s1) else s1.srcRead src (base + img.mapOfs) img.mapLen
        match m? with
        | none => (ccBUFFER, img, h, s2)
        | some m =>
          let c := if !s2.headerAuth h m then ccAUTH
            else if hdrField h 8 4 ≠ 0x10524AF3 then ccDEVICE_ID
            else if img.svn < s2.rollback then ccROLLBACK
            else if fits && !s2.headerFits h want then ccIFACE else 0
          (c, img, h, s2)

/-- Validate the header of an image; that of a bank shows the result in A_VALID or B_VALID (R416). -/
def State.checkHeader (s : State) (src ofs : Nat) (want : Option Nat) (fits : Bool) : Nat × Image × List Byte × State :=
  let (c, img, h, s1) := s.headerCheck src ofs want fits
  (c, img, h, if src < 2 then s1.setB (aCFG 0x24) (8 + src) (c == 0) else s1)

/-- Validate a bank's header for a full load. -/
def State.checkBank (s : State) (bank : Nat) : Nat × Image × State :=
  let (c, img, _, s1) := s.checkHeader bank 0 none true
  (c, img, s1)

/-! ### Frames (R394 to R399) -/

/-- The frame index of an address; none when it names no frame (R395). -/
def frameIndex (a : Word) : Option Nat :=
  let col := fld a 27 20
  let row := fld a 19 16
  let m := fld a 15 8
  if fld a 7 0 ≠ 0 then none
  else match fld a 31 28 with
    | 0 => if col < 16 ∧ row < 8 ∧ m < 64 then some ((8 * col + row) * 64 + m) else none
    | 1 => if col < 16 ∧ row < 8 ∧ m < 72 then some (8192 + (8 * col + row) * 72 + m) else none
    | 2 => if col < 20 ∧ row = 0 ∧ m < 8 then some (17408 + 8 * col + m) else none
    | 3 => if col = 0 ∧ row = 0 ∧ m < 64 then some (17568 + m) else none
    | _ => none

/-- The address of a logic or clock frame. -/
def frameAddr (ix : Nat) : Word :=
  if ix < 8192 then BitVec.ofNat 32 (ix / 64 / 8 * 2 ^ 20 + ix / 64 % 8 * 2 ^ 16 + ix % 64 * 2 ^ 8)
  else BitVec.ofNat 32 (3 * 2 ^ 28 + (ix - 17568) * 2 ^ 8)

/-- The 512 data bytes of a frame. -/
def frameBytes (d : BitVec 4096) : List Byte := bytesOf 512 d.toNat

/-- The check of a frame (R394). -/
def frameCheck (a : Word) (d : BitVec 4096) : Word := BitVec.ofNat 32 (crc32 (bytesOf 4 a.toNat ++ frameBytes d))

/-- A frame of the device as its cells hold it. -/
def State.frame (s : State) (ix : Nat) : BitVec 4096 := SMap.get (fun _ => 0) s.fabric.frames ix

/-- Store a frame's cells; what upsets had changed there is gone. -/
def State.putFrame (s : State) (ix : Nat) (d : BitVec 4096) : State :=
  s.updFabric fun f => { f with
    frames := SMap.set (fun _ => 0) f.frames ix d, upset := SMap.erase f.upset ix, upsetCheck := SMap.erase f.upsetCheck ix }

/-- The logic frames of bough b, by MINOR. -/
def State.logicFrames (s : State) (b : Nat) : SMap (BitVec 4096) :=
  (s.fabric.frames.filter fun (e : Nat × BitVec 4096) => e.1 / 64 == b && e.1 < 8192).map fun e => (e.1 % 64, e.2)

/-- TMODE as a mode word gives it; 0b11 acts as unconfigured (R93, log 44). -/
def modeBits (d : BitVec 4096) : Nat := if d.toNat % 4 = 3 then 0 else d.toNat % 4

/-- A logic frame of a held bough is written: the cells, the mode word, or INIT (R68, R396). -/
def State.writeLogic (s : State) (ix : Nat) (d : BitVec 4096) : State :=
  let b := ix / 64
  let s1 := s.putFrame ix d
  if ix % 64 = 63 then s1.updBough b fun x => { x with q := initBits d }
  else
    let s2 := s1.updBough b fun x => { x with cfg := Config.boughCells (s1.logicFrames b) }
    if ix % 64 = 62 then s2.setF (aBOUGH b 0x20) 1 0 (modeBits d) else s2

/-- Memory frame f of memory n: bit 8r + j is bit j of lane f in row r (R124). -/
def laneInto (rows : SMap (BitVec 72)) (f : Nat) (d : BitVec 4096) : SMap (BitVec 72) :=
  (List.range 512).foldl (fun m r =>
    let lane := d.toNat / 2 ^ (8 * r) % 256
    let old := (SMap.get (fun _ => (0 : BitVec 72)) m r).toNat
    let rest := old - old / 2 ^ (8 * f) % 256 * 2 ^ (8 * f)
    SMap.set (fun _ => 0) m r (BitVec.ofNat 72 (rest + lane * 2 ^ (8 * f)))) rows

def State.writeMemory (s : State) (ix : Nat) (d : BitVec 4096) : State :=
  let b := (ix - 8192) / 72
  let m := (ix - 8192) % 72
  (s.putFrame ix d).updBough b fun x =>
    let old := x.bramAt (m / 9)
    let lane := BitVec.ofNat 72 (0xFF * 2 ^ (8 * (m % 9)))
    x.setBram (m / 9) { old with
      rows := laneInto old.rows (m % 9) d
      openBits := old.openBits.foldl (fun o e => SMap.set (fun _ => 0) o e.1 (e.2 &&& ~~~lane)) [] }

/-- A register that an image frame sets, within its writable bits. -/
def State.frameReg (s : State) (a : Nat) (w : Word) : State :=
  match regSpec a with
  | none => s
  | some r =>
    let m := BitVec.ofNat 32 r.writable
    let v := (s.reg a &&& ~~~m) ||| (w &&& m)
    let s1 := s.setReg a v
    if r.rws = 0 then s1 else s1.setShadow a v

/-- An IO frame (R339, R399): only pins owned by FABRIC and not locked take their values. -/
def State.writeIo (s : State) (ix : Nat) (d : BitVec 4096) : State :=
  let bank := (ix - 17408) / 8
  let m := (ix - 17408) % 8
  let word (k : Nat) : Word := BitVec.ofNat 32 (d.toNat / 2 ^ (32 * k))
  (List.range 32).foldl (fun (t : State) j =>
    let n := 32 * bank + j
    if t.pinOwner n ≠ oFABRIC ∨ t.pinLocked n then t
    else if m = 0 then (t.frameReg (aPSEL n) (word (2 * j))).frameReg (aPAD n) (word (2 * j + 1))
    else if m = 1 ∧ 8 ≤ bank then t.frameReg (aIOCFG n) (word j) else t) (s.putFrame ix d)

/-- The BCLK sections of CLOCK MINOR 0 to 7, of the boughs that `take` names (R397, R405). -/
def State.writeBclk (s : State) (m : Nat) (d : BitVec 4096) (take : Nat → Bool) : State :=
  (List.range 128).foldl (fun (t : State) k =>
    let b := 16 * m + k / 8
    if take b then
      let old := t.reg (aBCLK b (k % 8))
      (t.frameReg (aBCLK b (k % 8)) (BitVec.ofNat 32 (d.toNat / 2 ^ (32 * k)))).bclkWritten b (k % 8) old
    else t) s

/-! ### Groves (R398, R417) -/

/-- The boughs and banks of a grove-table entry. -/
def entryBoughs (e : Nat) : List Nat :=
  (List.range 128).filter fun b => e % 16 ≤ b / 8 && b / 8 ≤ e / 16 % 16 && e / 256 % 8 ≤ b % 8 && b % 8 ≤ e / 4096 % 8
def entryMask (e : Nat) : Nat := e / 2 ^ 16 % 2 ^ 20

/-- DEFINED = 1 with bounds in order. -/
def entryGood (e : Nat) : Bool := e / 2 ^ 15 % 2 == 1 && e % 16 ≤ e / 16 % 16 && e / 256 % 8 ≤ e / 4096 % 8

/-- The grove table is written: the groves it defines, in order. An entry that shares a bough or a bank with one below it, or
whose bounds are out of order, defines nothing. -/
def State.defineGroves (s : State) : State :=
  (List.range 16).foldl (fun (t : State) g =>
    let e := t.groveEntry g
    if e / 2 ^ 15 % 2 = 0 then t
    else
      let clash := (List.range g).any fun h =>
        t.groveDefined h && ((entryBoughs e).any fun b => t.inGrove h b) || (t.groveDefined h && (entryMask e &&& (t.reg (aGR h 4)).toNat) != 0)
      if entryGood e && !clash then
        (t.setReg (aGR g 0) (BitVec.ofNat 32 ((e &&& 0x77FF) + 2 ^ 31))).setReg (aGR g 4) (BitVec.ofNat 32 (entryMask e))
      else t.setErr (0x0C0 + g / 4) 20) s

/-- State of a grove: 0 NONE, 1 NORMAL, 2 LOADING, 3 WIPED, 4 FAULT. -/
def State.groveState (s : State) (g : Nat) : Nat := s.rf (aGR g 0xC) 2 0
def State.setGroveState (s : State) (g v : Nat) : State :=
  let s1 := s.setF (aGR g 0xC) 2 0 v
  let s2 := if v = 3 ∨ v = 4 then s1.setErr (0x0C0 + g / 4) (16 + g % 4) else s1
  s2.setB (aCFG 0x20) 9 ((List.range 16).any fun h => s2.groveState h == 4)

/-- CLOCK frames (R397). -/
def State.writeClock (s : State) (ix : Nat) (d : BitVec 4096) (take : Nat → Bool) : State :=
  let m := ix - 17568
  if m < 8 then (s.putFrame ix d).writeBclk m d take
  else if m = 8 then
    let p := Config.placement d
    ((s.putFrame ix d).updFabric fun f => { f with place := p }).setReg (aLOOP 0x54)
      (BitVec.ofNat 32 ((List.range 4).foldl (fun acc q => acc + SMap.get (fun _ => 0) p.slotPort q % 256 * 2 ^ (8 * q)) 0))
  else if m = 9 then (s.putFrame ix d).defineGroves
  else s.putFrame ix d

/-- Write the frame of an index. -/
def State.writeFrame (s : State) (ix : Nat) (d : BitVec 4096) (take : Nat → Bool) : State :=
  if ix < 8192 then s.writeLogic ix d
  else if ix < 17408 then s.writeMemory ix d
  else if ix < 17568 then s.writeIo ix d
  else s.writeClock ix d take

/-- The frame window of grove g (R405). -/
def State.inWindow (s : State) (g ix : Nat) : Bool :=
  if ix < 8192 then s.inGrove g (ix / 64)
  else if ix < 17408 then s.inGrove g ((ix - 8192) / 72)
  else if ix < 17568 then s.rb (aGR g 4) ((ix - 17408) / 8)
  else ix - 17568 < 8

/-! ### Wipes (R400, R407) -/

/-- The cells of a bough are wiped; its memories keep their rows unless `mem` is set, and so do the channel cells of an isolated handshake bough
(R116). -/
def State.wipeBough (s : State) (mem : Bool) (b : Nat) : State :=
  ((s.updBough b fun x => { x with
    cfg := {}, q := [], stage := [], bram := if mem then [] else x.bram, mac := [], sync := []
    och := if mem then [] else SMap.keep (fun k => x.wasOch.any (·.1 == k)) x.och
    ich := if mem then [] else SMap.keep (fun k => x.wasIch.any (·.1 == k)) x.ich
    wasOch := if mem then [] else x.wasOch, wasIch := if mem then [] else x.wasIch, loop := [] }).setReg (aBOUGH b 0x20) 0).setF (aBOUGH b 0x2C) 15 0 0

/-- A full wipe: every logic and memory frame and CLOCK MINOR 8 to 10 hold zeros. -/
def State.wipeAll (s : State) : State :=
  let keep (k : Nat) : Bool := 17408 ≤ k && !(17576 ≤ k && k ≤ 17578)
  let s1 := s.updFabric fun f => { f with
    frames := SMap.keep keep f.frames, upset := SMap.keep keep f.upset, upsetCheck := SMap.keep keep f.upsetCheck, place := {} }
  let s2 := (List.range 128).foldl (fun (t : State) b => t.wipeBough true b) s1
  let s3 := (List.range 16).foldl (fun (t : State) g =>
    ((((t.setReg (aGR g 0) 0).setReg (aGR g 4) 0).setReg (aGR g 0x14) 0).setReg (aGR g 0x10) 0).setF (aGR g 0xC) 2 0 0) s2
  (s3.setB (aCFG 0x20) 9 false).setReg (aLOOP 0x54) 0

/-- The logic frames of a grove are wiped. -/
def State.wipeGrove (s : State) (g : Nat) : State :=
  let keep (k : Nat) : Bool := !(k < 8192 && s.inGrove g (k / 64))
  let s1 := s.updFabric fun f => { f with
    frames := SMap.keep keep f.frames, upset := SMap.keep keep f.upset, upsetCheck := SMap.keep keep f.upsetCheck }
  (s.groveBoughs g).foldl (fun (t : State) b => t.wipeBough false b) s1

/-! ### Failures (R401, R406, R408) -/

/-- LAST_FAIL, FAIL_FA and FAIL_PKT record a failure, and PAGE_ERR bit 16, or 17 of a window fault, is set. -/
def State.recordFail (s : State) (cause : Nat) (fa : Word) (pkt src : Nat) (grove : Option Nat) : State :=
  let n := min (s.rf (aCFG 0x28) 31 16 + 1) 0xFFFF
  let w : Nat := n * 2 ^ 16 + (match grove with | some g => 2 ^ 12 + g * 2 ^ 8 | none => 0) + src * 2 ^ 4 + cause
  (((s.setReg (aCFG 0x28) (BitVec.ofNat 32 w)).setReg (aCFG 0x2C) fa).setReg (aCFG 0x30) (BitVec.ofNat 32 pkt)).setErr 0x005 (if cause = ccWINDOW then 17 else 16)

def State.setCfgState (s : State) (v : Nat) : State := s.setF (aCFG 0x20) 3 0 v

end Sys2Proof.Machine
end

