-- ==== Sys2Proof/Machine/Load.lean ====
section
/-! DEFINITION. Loads: hold, wipe, packets, final check, failure and release (R388 to R393, R400 to R408, R458). -/

namespace Sys2Proof.Machine

def State.updLoad (s : State) (f : Load → Load) : State := s.updCfg fun c => { c with load := c.load.map f }
def State.dropLoad (s : State) : State := s.updCfg fun c => { c with load := none }

/-! ### The wake that a load ends (R473, R480) -/

/-- A wake is over: the response of the call that made the entry is posted. -/
def State.endWake (s : State) : State :=
  if !s.power.waking then s
  else
    let s1 := s.updPower fun p => { p with waking := false, sleeper := none }
    match s.power.sleeper with
    | none => s1
    | some c => s1.answerCall 0x0501 c rcOK 0 [s.reg (aPMU 0x28), s.reg (aPMU 0x30), s.reg (aPMU 0x34), s.reg (aPMU 0x44)]

/-- A wake reaches release: event 5 after SLEEP or BIVOUAC; a wake from OFF is a cold start in every respect. WAKE_US is a
time, which the model leaves open (log 48). -/
def State.finishWake (s : State) : State :=
  if !s.power.waking then s
  else
    let (w, s1) := s.free 16
    let s2 := s1.setF (aPMU 0x50) 15 0 w.toNat
    (if s.power.sleeper.isSome then s2.raise 5 else s2).endWake

/-- The long call that runs is one of `svcs`: it ends. -/
def State.endCall (s : State) (svcs : List Nat) (result detail : Nat) (res : List Word) : State :=
  if s.guide.long.any (fun l => svcs.contains l.svc) then s.endLong result detail res else s

/-- The calls that a full load answers. -/
def fullCalls : List Nat := [0x0301, 0x0302, 0x0104]

/-- A full load failed: the load calls end with `result` (R409), and the exit from SERVICE that it stops with ABORTED (R330). -/
def State.endFailed (s : State) (result cause : Nat) (res : List Word) : State :=
  (s.endCall [0x0301, 0x0302] result cause res).endCall [0x0104] rcABORTED cause []

/-! ### Hold (R28, R400, R407) -/

/-- The slot ports and bus ports that lie in grove g. -/
def State.groveSlots (s : State) (g : Nat) : List Nat :=
  (List.range 4).filter fun q => s.inGrove g (SMap.get (fun _ => 0) s.fabric.place.slotPort q)
def State.groveBuses (s : State) (g : Nat) : List Nat :=
  (List.range 8).filter fun p => s.inGrove g (SMap.get (fun _ => 0) s.fabric.place.busPort p)

/-- Ports are held: contexts that read the slots abseil or coast, bus ports stop, and their mailbox epochs advance. -/
def State.holdPorts (s : State) (slots buses : List Nat) : State :=
  let s1 := slots.foldl (fun (t : State) q => t.holdPort q) s
  buses.foldl (fun (t : State) p => (t.quiescePort p).mbSideReset (8 + p)) s1

/-- GLOBAL_HOLD on every bough: the slot and bus ports are held with it, and it takes the place of isolation, of the hold
freeze and of the hold gate (R28, R113). -/
def State.holdAll (s : State) : State :=
  let s1 := (List.range 128).foldl (fun (t : State) b => (t.updBough b fun x => { x with isolated := none, isoVal := [], wasOch := [], wasIch := [] }).assertHold b) s
  ((s1.updFabric fun f => { f with portsReleased := false }).holdPorts (List.range 4) (List.range 8)).holdFabric false

/-- t0 of a full load. -/
def State.fullHold (s : State) (l : Load) : State :=
  let s3 := (s.toLoad s.loadTarget).holdAll
  let s4 := (s3.updCfg fun c => { c with load := some { l with phase := .wipe, t0 := s.time.now }, readback := none }).setCfgState 1
  (if l.service then (s4.updPower fun p => { p with loopGroupDue := false }).bootLoop else s4).settlePins

/-- t0 of a load of grove g. -/
def State.groveHold (s : State) (l : Load) (g : Nat) : State :=
  let s1 := (s.isolateGrove g).holdPorts (s.groveSlots g) (s.groveBuses g)
  let s2 := s1.updCfg fun c => { c with load := some { l with phase := .wipe, t0 := s.time.now } }
  (((s2.setGroveState g 2).setF (aCFG 0x20) 7 4 g).setCfgState 7).settlePins

/-- The budget has covered the load: hold or isolation begins. -/
def State.loadHold (s : State) : State :=
  match s.cfg.load with
  | some l =>
    if l.phase ≠ .budget then s
    else match l.grove with
      | none => s.fullHold l
      | some g => s.groveHold l g
  | none => s

/-- A load of a validated image is asked for: its debit, then hold (R407, R482). A full load is a transition to LOAD from its
request on (R18). -/
def State.loadBegin (s : State) (l : Load) : State :=
  let s0 := if l.grove.isNone ∧ s.mode ≠ mLOAD then s.setTarget mLOAD else s
  let s1 := s0.updCfg fun c => { c with load := some { l with phase := .budget } }
  let (cost, next) : Nat × StartNext := match l.grove with
    | none => (1000, .hold)
    | some g => (50 * (s.groveBoughs g).length, .grove)
  let (go, s2) := s1.budgetRequest [cost] next
  if go then s2.loadHold else s2

/-- WIPE_DONE: the cells are wiped and the stream begins. -/
def State.wipeDone (s : State) : State :=
  match s.cfg.load with
  | some l =>
    if l.phase ≠ .wipe then s
    else
      let s1 := match l.grove with
        | none => s.wipeAll.setCfgState 2
        | some g => s.wipeGrove g
      s1.updLoad fun l => { l with phase := .stream }
  | none => s

/-! ### Failure (R401, R404, R406, R408) -/

/-- The two result words of an image call (R409). -/
def State.imageWords (s : State) : List Word := [s.reg (aCFG 0x28), s.reg (aCFG 0x24)]

/-- The device enters HOLD with LOAD_FAIL, and with NO_IMAGE when no bank is left to try. -/
def State.failHold (s : State) (noImage : Bool) : State :=
  let s1 := s.setHoldCause 16 true
  if noImage then (((s1.setHoldCause 17 true).setB (aCFG 0x20) 11 true).toHold).endWake else s1.toHold

/-- The fabric is wiped and holds no image: CONFIGURED is 0 and BANK.ACTIVE none. -/
def State.unloaded (s : State) : State :=
  let s1 := ((s.wipeAll.setB (aCFG 0x20) 8 false).setB (aCFG 0x20) 10 false).setF (aCFG 0x24) 1 0 0
  ((s1.setReg (aCFG 0x34) 0).setReg (aCFG 0x38) 0).setF (aCFG 0x3C) 15 0 0

/-- A full load fails after t0. -/
def State.failFull (s : State) (l : Load) (cause : Nat) (fa : Word) : State :=
  let s3 := ((s.unloaded.dropLoad).setCfgState 0).recordFail cause fa l.pkt l.image.src none
  let s4 := s3.heartLoad 2
  if cause = ccBRACE then (s4.raise 18).endCall fullCalls rcABORTED ccBRACE s4.imageWords
  else
    let s5 := s4.updCfg fun c => { c with fallbackFrom := if l.fallback then none else some l.image.src }
    ((s5.failHold l.fallback).raise 18).endFailed rcLOAD_FAIL cause s5.imageWords

/-- A load of grove g fails after t0. -/
def State.failGrove (s : State) (l : Load) (g cause : Nat) (fa : Word) : State :=
  let s1 := ((s.dropLoad.setCfgState 0).setF (aCFG 0x20) 7 4 0).recordFail cause fa l.pkt l.image.src (some g)
  let s2 := (s1.setF (aGR g 0xC) 11 8 cause).heartLoad 2
  if cause = ccWINDOW then
    ((((s2.setReg (aGR g 0x10) fa).setGroveState g 4).raise 19).settlePins).endCall [0x0304] rcWINDOW_FAULT cause [BitVec.ofNat 32 l.total]
  else
    ((((s2.wipeGrove g).setGroveState g 3).raise 18).settlePins).endCall [0x0304] (if cause = ccBRACE then rcABORTED else rcLOAD_FAIL) cause
      [BitVec.ofNat 32 l.total]

/-- The load that runs fails. FAIL_FA of a packet that is no FRAME is open: no frame is being handled (log 42). -/
def State.failLoad (s : State) (l : Load) (cause : Nat) (fa : Option Word) : State :=
  let (w, s1) := match fa with
    | some a => (a, s)
    | none => s.free 32
  match l.grove with
  | none => s1.failFull l cause w
  | some g => s1.failGrove l g cause w

/-! ### Packets (R388 to R393) -/

def pktOp (p : BitVec 64) : Nat := p.toNat / 2 ^ 56
def pktReg (p : BitVec 64) : Nat := p.toNat / 2 ^ 48 % 256
def pktLen (p : BitVec 64) : Nat := p.toNat / 2 ^ 32 % 2 ^ 16
def pktArg (p : BitVec 64) : Word := BitVec.ofNat 32 p.toNat

/-- The body length of an operation of R389. -/
def packetLen (op : Nat) : Option Nat :=
  match op with | 0 => some 0 | 1 => some 0 | 2 => some 0 | 3 => some 516 | 5 => some 40 | 7 => some 4 | _ => none

/-- The cause with which the header p fails the stream by itself, 0 for none: BAD_PACKET, or no room for the packet. -/
def Load.headFault (l : Load) (p : BitVec 64) : Nat :=
  match packetLen (pktOp p) with
  | none => ccBAD_PACKET
  | some len =>
    if (pktOp p = 2 ∧ pktReg p ≠ 1 ∧ pktReg p ≠ 2) ∨ pktLen p ≠ len then ccBAD_PACKET
    else if l.image.streamLen < l.pos + 24 + len then ccEARLY_END else 0

/-- The plain body of the next packet, whose stored bytes are d, under the key of its segment (R391); none where its tag fails. -/
def Load.opened (l : Load) (d : List Byte) : Option (List Byte) :=
  Config.gcmOpen l.key (l.nonce ++ bytesOf 4 (l.pkt - l.segStart)) (d.take 8) ((d.drop 8).take (d.length - 24)) (d.drop (d.length - 16))

/-- The data and the check of a FRAME body. -/
def frameData (b : List Byte) : BitVec 4096 := BitVec.ofNat 4096 (ofBytes (b.take 512))
def frameChk (b : List Byte) : Word := BitVec.ofNat 32 (ofBytes (b.drop 512))

/-- The reload of a grove that holds full-image content reads the full image, whose frames outside the grove it passes over
(R414, log 50). -/
def Load.fromFull (l : Load) : Bool := l.logicOnly && decide (l.image.src < 2)

/-- The MODE that the load requested calls for (R390). -/
def modeWanted (l : Load) : Nat := match l.grove with | none => 0 | some g => if l.fromFull then 0 else 1 + 256 * g

/-- What a stream is held to: the MODE of the load requested, whether it is that of a full image, its window, and its coverage. -/
structure PacketRules where
  mode : Nat
  full : Bool
  window : Nat → Bool
  covered : Load → Bool

/-- What a FRAME that has been written leaves in the load. -/
def Load.afterFrame (l : Load) (ix : Nat) (check : Word) : Load :=
  { l with
    last := some ix, crc := BitVec.ofNat 32 (crcRun l.crc.toNat (bytesOf 4 check.toNat))
    seg := l.seg + 1, rollDue := l.seg + 1 == 256, total := l.total + 1
    logic := if ix < 8192 then l.logic + 1 else l.logic
    mem := if 8192 ≤ ix ∧ ix < 17408 then SMap.set (fun _ => 0) l.mem ((ix - 8192) / 9) (SMap.get (fun _ => 0) l.mem ((ix - 8192) / 9) + 1) else l.mem }

/-- The frame of index ix is out of order: a full image holds every index in turn, another image indices that rise (R392). -/
def Load.outOfOrder (l : Load) (full : Bool) (ix : Nat) : Bool :=
  if full then ix != (match l.last with | some k => k + 1 | none => 0) else l.last.any fun k => decide (ix ≤ k)

/-- NOP, DEVICE_ID and WREG (R389, R390, R392): what header p leaves in the load, or the cause with which it fails. -/
def Load.acceptHead (l : Load) (r : PacketRules) (p : BitVec 64) : Except Nat Load :=
  match pktOp p with
  | 0 => if l.pkt < 2 ∨ l.rollDue then .error ccSEQUENCE else .ok l
  | 1 => if l.pkt ≠ 0 then .error ccSEQUENCE else if pktArg p ≠ 0x10524AF3 then .error ccDEVICE_ID else .ok l
  | _ =>
    if pktReg p = 1 then
      if l.pkt ≠ 1 then .error ccSEQUENCE else if (pktArg p).toNat ≠ r.mode then .error ccIFACE else .ok l
    else if l.pkt < 2 ∨ l.total ≠ 0 then .error ccSEQUENCE
    else .ok { l with usercode := pktArg p }

/-- FRAME (R392, R394, R406). -/
def Load.acceptFrame (l : Load) (r : PacketRules) (a : Word) (b : List Byte) : Except Nat Load :=
  match frameIndex a with
  | none => .error ccBAD_PACKET
  | some ix =>
    if l.pkt < 2 ∨ l.rollDue ∨ l.outOfOrder r.full ix then .error ccSEQUENCE
    else if !r.window ix then .error ccWINDOW
    else if frameChk b ≠ frameCheck a (frameData b) then .error ccCHECK
    else .ok (l.afterFrame ix (frameChk b))

/-- KEY_ROLL (R391, R392): the next segment starts with the packet after it, under the key and the nonce base of its body. -/
def Load.acceptRoll (l : Load) (b : List Byte) : Except Nat Load :=
  if l.pkt < 2 ∨ !l.rollDue then .error ccSEQUENCE
  else .ok { l with seg := 0, rollDue := false, key := b.take 32, nonce := b.drop 32, segStart := l.pkt + 1 }

/-- The digest of the stream passes at the packet of bytes d (R393). -/
def Load.digestPasses (l : Load) (d : List Byte) : Bool := (Config.sha384 (l.stream ++ d)).toNat == l.image.digest

/-- END, whose stored bytes are d (R392, R393). -/
def Load.acceptEnd (l : Load) (r : PacketRules) (p : BitVec 64) (d b : List Byte) : Except Nat Load :=
  if l.pkt < 2 ∨ l.pos + 28 ≠ l.image.streamLen ∨ (l.total ≠ 0 ∧ l.seg = 0) then .error ccSEQUENCE
  else if (pktArg p).toNat ≠ l.total ∨ BitVec.ofNat 32 (ofBytes b) ≠ ~~~l.crc ∨ !l.digestPasses d ∨ !r.covered l then .error ccFINAL
  else .ok l

/-- The packet of header p, stored bytes d and plain body b comes next: the load after it, its place in the stream apart, or the cause with which it
fails. -/
def Load.accept (l : Load) (r : PacketRules) (p : BitVec 64) (d b : List Byte) : Except Nat Load :=
  match pktOp p with
  | 3 => l.acceptFrame r (pktArg p) b
  | 5 => l.acceptRoll b
  | 7 => l.acceptEnd r p d b
  | _ => l.acceptHead r p

/-- The coverage rule of the final check (R393, R407). -/
def State.covered (s : State) (l : Load) : Bool :=
  match l.grove with
  | none => l.total == 17632
  | some g => if l.fromFull then l.total == 17632 else l.logic == 64 * (s.groveBoughs g).length && l.mem.all fun (e : Nat × Nat) => e.2 == 9

/-- What the stream of load l is held to. -/
def State.loadRules (s : State) (l : Load) : PacketRules :=
  { mode := modeWanted l, full := l.grove.isNone || l.fromFull
    window := fun ix => l.fromFull || !(l.grove.any fun g => !s.inWindow g ix)
    covered := s.covered }

/-- FAIL_FA of a packet: the frame address of a FRAME. -/
def pktFa (p : BitVec 64) : Option Word := if pktOp p = 3 then some (pktArg p) else none

/-- The place of the next packet in its source. -/
def Load.at_ (l : Load) : Nat := l.image.base + l.image.streamOfs + l.pos

/-- The stream moves past a packet of `len` body bytes, stored as d; at STREAM_LEN without END the load fails. -/
def State.packetTaken (s : State) (len : Nat) (d : List Byte) : State :=
  let s1 := s.updLoad fun l => { l with pos := l.pos + len + 24, pkt := l.pkt + 1, stream := l.stream ++ d }
  match s1.cfg.load with
  | some l => if l.image.streamLen ≤ l.pos then s1.failLoad { l with pkt := l.pkt - 1 } ccEARLY_END none else s1
  | none => s1

/-- END has passed its final check: the release begins (R458). -/
def State.streamEnded (s : State) : State :=
  let t := s.updLoad fun l => { l with pos := l.pos + 28, pkt := l.pkt + 1, phase := .release }
  if s.cfg.load.any fun l => l.grove.isNone then t.setCfgState 4 else t

/-- The plain body b of the packet that load l has read, as d under header p, acts: `write` is what it does to the device besides. -/
def State.packetActs (s : State) (l : Load) (p : BitVec 64) (d b : List Byte) (write : State → State) : State :=
  match l.accept (s.loadRules l) p d b with
  | .error c => s.failLoad l c (pktFa p)
  | .ok m =>
    let t := (write s).updLoad fun _ => m
    if pktOp p = 7 then t.streamEnded else t.packetTaken (pktLen p) d

/-- The packet that comes next is that of header p, operation op and, for WREG, register reg, and `agrees` holds of its plain body (none where its tag
fails): it is taken. A packet that is another one than the command says leaves the state to its own command. -/
def State.takePacket (s : State) (p : BitVec 64) (op : Nat) (reg : Option Nat) (agrees : Load → List Byte → Option (List Byte) → Bool)
    (write : Load → List Byte → State → State) : State :=
  match s.cfg.load with
  | none => s
  | some l =>
    let len := pktLen p
    let h := s.srcRead l.image.src l.at_ 8
    if l.phase ≠ .stream ∨ (l.image.src = 3 ∧ s.dramWaits) then s
    else if l.image.streamLen < l.pos + 24 then s.failLoad l ccEARLY_END none
    else if l.image.src ≠ 3 ∧ s.rangeOpen l.at_ 8 then (s.suspectRead true).failLoad l ccFLASH_READ none
    else match h.1 with
    | none => h.2.failLoad l ccBUFFER none
    | some hd =>
      if ofBytes hd ≠ p.toNat then s
      else if l.headFault p ≠ 0 then s.failLoad l (l.headFault p) (pktFa p)
      else if pktOp p ≠ op ∨ reg.any (fun r => pktReg p != r) then s
      else if l.image.src ≠ 3 ∧ s.rangeOpen l.at_ (24 + len) then (s.suspectRead true).failLoad l ccFLASH_READ (pktFa p)
      else
        let (d?, s1) := s.srcRead l.image.src l.at_ (24 + len)
        match d? with
        | none => s1.failLoad l ccBUFFER (pktFa p)
        | some d =>
          if !agrees l d (l.opened d) then s
          else match l.opened d with
            | none => s1.failLoad l ccTAG (pktFa p)
            | some b => s1.packetActs l p d b (write l b)

/-- A packet whose body is empty or of no concern to the device: its tag passes, or not. -/
def State.plainPacket (s : State) (p : BitVec 64) (op : Nat) (reg : Option Nat) (tagOk : Bool) : State :=
  s.takePacket p op reg (fun _ _ o => o.isSome == tagOk) fun _ _ t => t

def State.packetNop (s : State) (p : BitVec 64) (tagOk : Bool) : State := s.plainPacket p 0 none tagOk

def State.packetDeviceId (s : State) (p : BitVec 64) (tagOk : Bool) : State := s.plainPacket p 1 none tagOk

def State.packetMode (s : State) (p : BitVec 64) (tagOk : Bool) : State := s.plainPacket p 2 (some 1) tagOk

def State.packetUsercode (s : State) (p : BitVec 64) (tagOk : Bool) : State := s.plainPacket p 2 (some 2) tagOk

/-- The cells that a load writes: a load for ESS_ACTION writes logic frames only (R414), and a grove load the BCLK sections of
its own boughs (R405). -/
def State.loadWrites (s : State) (l : Load) (ix : Nat) (d : BitVec 4096) : State :=
  if l.logicOnly ∧ (8192 ≤ ix ∨ l.grove.any fun g => !s.inWindow g ix) then s
  else s.writeFrame ix d fun b => match l.grove with | none => true | some g => s.inGrove g b

def State.packetFrame (s : State) (p : BitVec 64) (tagOk : Bool) (d : BitVec 4096) (check : Word) : State :=
  s.takePacket p 3 none (fun _ _ o => o.isSome == tagOk && o.all fun b => frameData b == d && frameChk b == check) fun l b t =>
    match frameIndex (pktArg p) with
    | none => t
    | some ix => t.loadWrites l ix (frameData b)

def State.packetKeyRoll (s : State) (p : BitVec 64) (tagOk : Bool) : State := s.plainPacket p 5 none tagOk

def State.packetEnd (s : State) (p : BitVec 64) (tagOk : Bool) (crc : Word) (digestOk : Bool) : State :=
  s.takePacket p 7 none (fun l d o => o.isSome == tagOk && o.all fun b => BitVec.ofNat 32 (ofBytes b) == crc && l.digestPasses d == digestOk)
    fun _ _ t => t

/-! ### A stream that is only checked (R409) -/

/-- What an image is held to where no load of it is requested: its KIND, and its own GROVE_GEOM entry (DEDUCED, log 136). -/
def headerRules (h : List Byte) : PacketRules :=
  let kind := hdrField h 0x0C 4
  let e := hdrField h 0xC0 8
  let full := kind % 2 == 0
  { mode := if full then 0 else 1 + kind / 256 % 16 * 256, full
    window := fun ix => full || (if ix < 8192 then (entryBoughs e).contains (ix / 64)
      else if ix < 17408 then (entryBoughs e).contains ((ix - 8192) / 72)
      else if ix < 17568 then (entryMask e).testBit ((ix - 17408) / 8) else ix - 17568 < 8)
    covered := fun l => if full then l.total == 17632
      else l.logic == 64 * (entryBoughs e).length && l.mem.all fun (x : Nat × Nat) => x.2 == 9 }

/-- What the check of at most n further packets finds, 0 when the stream passes, and its USERCODE. `rest` are the stream bytes from the next packet
on, and `suspect` tells the reads that open sectors spoil, by place and length. -/
def Load.verify (r : PacketRules) (suspect : Nat → Nat → Bool) : Nat → Load → List Byte → Nat × Word
  | 0, _, _ => (ccEARLY_END, 0)
  | n + 1, l, rest =>
    let p := BitVec.ofNat 64 (ofBytes (rest.take 8))
    let d := rest.take (24 + pktLen p)
    if l.image.streamLen < l.pos + 24 then (ccEARLY_END, 0)
    else if suspect l.at_ 8 then (ccFLASH_READ, 0)
    else if l.headFault p ≠ 0 then (l.headFault p, 0)
    else if suspect l.at_ (24 + pktLen p) then (ccFLASH_READ, 0)
    else match l.opened d with
      | none => (ccTAG, 0)
      | some b => match l.accept r p d b with
        | .error c => (c, 0)
        | .ok m =>
          if pktOp p = 7 then (0, m.usercode)
          else Load.verify r suspect n { m with pos := m.pos + pktLen p + 24, pkt := m.pkt + 1, stream := m.stream ++ d } (rest.drop (24 + pktLen p))

/-- The stream of image img, whose header is h, is checked from first to last: what the check finds, 0 when it passes, and its USERCODE. -/
def State.verifyStream (s : State) (img : Image) (h : List Byte) : Nat × Word × State :=
  let (d, s1) := s.srcRead img.src (img.base + img.streamOfs) img.streamLen
  match d with
  | none => (ccBUFFER, 0, s1)
  | some d =>
    let suspect (a n : Nat) : Bool := img.src ≠ 3 && s.rangeOpen a n
    let (c, u) := Load.verify (headerRules h) suspect (img.streamLen / 24 + 1) { image := img, grove := none } d
    (c, u, s1)

/-! ### Release (R458) -/

/-- RANK of bough b (CLOCK frame MINOR 10). -/
def State.rankOf (s : State) (b : Nat) : Nat := (s.frame 17578).toNat / 2 ^ (4 * b) % 8

/-- The boughs that a load releases. -/
def State.loadBoughs (s : State) (l : Load) : List Nat := match l.grove with | none => List.range 128 | some g => s.groveBoughs g

/-- The next rank is released. -/
def State.releaseRank (s : State) : State :=
  match s.cfg.load with
  | some l =>
    if l.phase ≠ .release ∨ 8 ≤ l.ranks then s
    else
      let s1 := ((s.loadBoughs l).filter fun b => s.rankOf b == l.ranks).foldl (fun (t : State) b => t.releaseHold b) s
      ((s1.updLoad fun l => { l with ranks := l.ranks + 1 }).settle).settlePins
  | none => s

/-- The bus ports open: cases 1 and 2 of R56 end on a port whose PORT_CFG has been rewritten while it was closed. -/
def State.openPorts (s : State) : State :=
  (List.range 8).foldl (fun (t : State) p => t.unitEnabled 0x642 p) (s.updFabric fun f => { f with portsReleased := true })

/-- The slot ports and bus ports are released, and fabric events unmasked. The HB1 check goes on where it was suspended (R230). -/
def State.releasePorts (s : State) : State :=
  match s.cfg.load with
  | some l =>
    if l.phase ≠ .release ∨ l.ranks < 8 ∨ l.portsDone then s
    else
      let slots := match l.grove with | none => List.range 4 | some g => s.groveSlots g
      let s1 := slots.foldl (fun (t : State) q => t.releasePort q) (if l.grove.isNone then s.openPorts else s)
      s1.updLoad fun l => { l with portsDone := true }
  | none => s

/-- FABRIC-owned pins leave hold. -/
def State.releasePins (s : State) : State :=
  match s.cfg.load with
  | some l => if l.phase ≠ .release ∨ !l.portsDone ∨ l.pinsDone then s else (s.updLoad fun l => { l with pinsDone := true }).settlePins
  | none => s

/-! ### After the release -/

/-- CFG:SVN and LC:ARB show the anti-rollback count (R519). -/
def State.showRollback (s : State) : State := (s.setReg (aLC 0x2C) (BitVec.ofNat 32 s.rollback)).setF (aCFG 0x3C) 24 16 s.rollback

/-- SVN_COMMIT (R519): bits from the present count up to min(SVN, 256) − 1 are set; none above 125 °C. LC:ARB and CFG:SVN show the count,
so the shadow of its words follows at once (log 139). -/
def State.advanceRollback (s : State) (svn : Nat) : State :=
  let ones (w : Nat) : BitVec 64 := BitVec.ofNat 64 (2 ^ (min 64 (min svn 256 - 64 * w)) - 1)
  ((List.range 4).foldl (fun (t : State) w => (t.otpProgram (92 + w) (ones w)).otpFollow (92 + w)) s).showRollback

/-- The boot bank's record, ID 0x0300 (R402, R450): one entry that sets BANK.BOOT (log 49). -/
def bootBankRec (bank : Nat) : SetRec := { id := 0x0300, delete := false, data := bytesOf 4 (aCFG 0x24) ++ bytesOf 4 ((bank + 1) * 2 ^ 4) }

/-- The Guide's own key among the callers of commits. -/
def guideCaller : Nat := 0x400

/-- BOOT_PEND: the commit of the boot bank waits. An image switch whose commit has been made is answered (R403). -/
def State.showBootPend (s : State) : State :=
  let waits := s.settings.deferred.any fun d => d.1 == guideCaller
  let s1 := s.setB (aCFG 0x24) 12 waits
  if !waits ∧ s1.cfg.load.isNone ∧ s1.guide.long.any (fun l => l.svc == 0x0302) then s1.endLong rcOK 0 s1.imageWords else s1

/-- The boot bank becomes `bank`, and its commit is queued: its RESULT. -/
def State.setBootBank (s : State) (bank : Nat) : Nat × State :=
  let s1 := (s.updCfg fun c => { c with bootBank := bank }).setF (aCFG 0x24) 5 4 (bank + 1)
  let (res, _, s2) := s1.commitRecs guideCaller [bootBankRec bank]
  (res, s2.setB (aCFG 0x24) 12 (res != rcOK))

/-- The contexts of the loop group, and whether the group holds LOOP page entries. -/
def State.loopGroup (s : State) : List Nat × Bool :=
  let ids := (idsOf s.settings.txs).filter fun i => (s.record i).isSome
  ((ids.filter fun i => 0x0400 ≤ i && i < 0x0800).map fun i => i - 0x0400, ids.contains 0x0C00)

/-- The commit of the loop group is requested as CONFIGURED becomes 1 (R459). -/
def State.requestLoopGroup (s : State) : State :=
  let s0 := if s.power.loopGroupDue then (s.updPower fun p => { p with loopGroupDue := false }).bootLoop else s
  if !s0.power.loopCommitDue then s0
  else
    let (cs, lane) := s0.loopGroup
    if cs.isEmpty ∧ !lane then s0.updPower fun p => { p with loopCommitDue := false }
    else s0.loopCommitRequest cs lane true ((cs.map fun n => 0x400 + n / 16).eraseDups ++ (if lane then [0x300] else []))

/-- The admission test of the loop group ends: a refusal is logged as a clamp (R452, R459). -/
def State.groupAdmission (s : State) : State :=
  let mine := s.power.loopCommitDue && s.loop.commit.isSome
  let s1 := s.admissionDone
  if !mine then s1
  else
    let s2 := s1.updPower fun p => { p with loopCommitDue := false }
    if s2.rf (aLOOP 0x28) 27 24 = 1 then s2
    else
      let n := s2.rf (aLOOP 0x28) 9 0
      let (w, s3) := s2.free 64
      s3.clampEntry (0x0400 + n) n 8 (BitVec.ofNat 32 w.toNat) (BitVec.ofNat 32 (w.toNat / 2 ^ 32)) (BitVec.ofNat 32 (w.toNat / 2 ^ 32))

/-- The registers of a full image that has been released. -/
def State.showLoaded (s : State) (l : Load) : State :=
  let s1 := (((s.setCfgState 0).setB (aCFG 0x20) 8 true).setB (aCFG 0x20) 10 l.fallback).setB (aCFG 0x20) 11 false
  let s2 := (((s1.setF (aCFG 0x24) 1 0 (l.image.src + 1)).setReg (aCFG 0x34) l.usercode).setReg (aCFG 0x38) l.image.iface).setF (aCFG 0x3C) 15 0 l.image.svn
  let us := (s.time.now - l.t0).toNat / 256 / 1000
  let s3 := ((s2.setF (aCFG 0x40) 15 0 (min us 0xFFFF)).satAdd (aCFG 0x44) 15 0 1).showRollback
  let s4 := if l.fallback then s3.setErr 0x005 18 else s3
  let s5 := (List.range 128).foldl (fun (t : State) b => t.setB (aBOUGH b 0x20) 8 true) s4
  (List.range 16).foldl (fun (t : State) g => if t.groveDefined g then (t.setGroveState g 1).setReg (aGR g 0x14) 0 else t) s5

/-- A full load is released. -/
def State.fullDone (s : State) (l : Load) : State :=
  let s1 := ((s.dropLoad.showLoaded l).heartLoad l.image.src).updCfg fun c => { c with full := l.image, groves := [], fallbackFrom := none }
  let s2 := (s1.setHoldCause 16 false).setHoldCause 17 false
  let s3 := (s2.requestLoopGroup).raise 17
  let s4 := if s3.anyCause then s3.toHold else s3.toRun
  let hot := l.svnCommit && s4.isHot
  let s5 := if l.svnCommit && !hot then s4.advanceRollback l.image.svn else s4
  let (res, s6) := if l.setBoot then s5.setBootBank l.image.src else (rcOK, s5)
  let s7 := if res = rcDEFERRED then s6
    else s6.endCall fullCalls (if hot then rcTEMP_INHIBIT else res) 0 s6.imageWords
  s7.finishWake

/-- A load of grove g is released. -/
def State.groveDone (s : State) (l : Load) (g : Nat) : State :=
  let s1 := ((s.dropLoad.setCfgState 0).setF (aCFG 0x20) 7 4 0).setGroveState g 1
  let src : Nat := if l.fromFull then 0 else if l.image.src = 2 then 2 * 2 ^ 30 + (l.image.base - 0x1400000) else 3 * 2 ^ 30 + l.image.base / 4 % 2 ^ 30
  let s2 := ((s1.setReg (aGR g 0x14) (BitVec.ofNat 32 src)).wrapAdd (aGR g 0xC) 31 16 1).satAdd (aCFG 0x44) 31 16 1
  let s3 := (s2.groveBoughs g).foldl (fun (t : State) b => t.setB (aBOUGH b 0x20) 8 true) s2
  let s4 := (s3.updCfg fun c => { c with groves := if l.fromFull then c.groves else SMap.set (fun _ => {}) c.groves g l.image }).heartLoad 3
  (((s4.raise 21).settlePins).endCall [0x0304] rcOK 0 [BitVec.ofNat 32 l.total])

/-- The load that runs has gone through its release. -/
def State.loadDone (s : State) (l : Load) : State :=
  match l.grove with
  | none => s.fullDone l
  | some g => s.groveDone l g

/-- RELEASE_DONE at junction temperature tj. -/
def State.releaseDone (s : State) (tj : Int) : State :=
  match s.cfg.load with
  | some l => if l.phase ≠ .release ∨ !l.pinsDone then s else (s.sampleTj tj).loadDone l
  | none => s

/-- The rest of a release that a brace overtakes (R464): it completes. -/
def State.releaseRest (s : State) (l : Load) : State :=
  let s1 := (List.range 8).foldl (fun (t : State) _ => t.releaseRank) s
  let s2 := s1.releasePorts.releasePins
  match s2.cfg.load with
  | some l2 => s2.loadDone l2
  | none => s2.loadDone l

/-! ### Banks (R401, R402) -/

/-- A bank's header has failed at a start: LAST_FAIL shows the cause, and the other bank is tried next. -/
def State.headerFailed (s : State) (bank cause : Nat) : State :=
  let (w, s1) := s.free 64
  (s1.recordFail cause (BitVec.ofNat 32 w.toNat) (w.toNat / 2 ^ 32) bank none).updCfg fun c => { c with fallbackFrom := some bank }

/-- In SCRAP the Guide loads no image (R510). -/
def State.scrapped (s : State) : Bool := lcState s == 5

/-- The load of a bank at a start, at a wake, from SERVICE, or from the HOLD of a brace (R402, R404). A header that fails as
the device leaves SERVICE leaves the fabric wiped, since it is always reloaded there (R20, log 85). -/
def State.loadBank (s : State) (bank : Nat) (service : Bool) : State :=
  if s.scrapped then ((((s.setHoldCause 17 true).setB (aCFG 0x20) 11 true).toHold).endWake).endFailed rcNO_IMAGE 0 []
  else
    let (c, img, s1) := s.checkBank bank
    if c = 0 then s1.loadBegin { image := img, grove := none, service }
    else
      let s2 := s1.toLoad s.loadTarget
      (if s2.configured then s2.holdAll.unloaded else s2).headerFailed bank c

/-- The bank that CFG:BANK.ACTIVE names, or the boot bank. -/
def State.presentBank (s : State) : Nat := match s.rf (aCFG 0x24) 1 0 with | 1 => 0 | 2 => 1 | _ => s.cfg.bootBank

/-- FALLBACK_LOAD: the other bank after a failed load or header. It waits while a power-state entry is under way (R21). -/
def State.fallbackLoad (s : State) : State :=
  match (if s.power.entry.isSome then none else s.cfg.fallbackFrom) with
  | none => s
  | some b =>
    let (c, img, s1) := (s.updCfg fun k => { k with fallbackFrom := none }).checkBank (1 - b)
    if c = 0 then s1.loadBegin { image := img, grove := none, fallback := true }
    else (s1.failHold true).endFailed rcNO_IMAGE c []

/-- HOLD ends once no cause is left: to RUN with the fabric configured, and else to the load of the boot bank (R24, R404). -/
def State.leaveHold (s : State) : State :=
  if s.mode ≠ mHOLD ∨ s.anyCause then s.settlePins
  else if s.configured then s.toRun
  else if s.power.lockWait.isSome ∨ s.power.next.isSome then s.toLoad mRUN
  else (s.toLoad mRUN).loadBank s.cfg.bootBank false

end Sys2Proof.Machine
end

