-- ==== Sys2Proof/Machine/ImageCalls.lean ====
section
/-! DEFINITION. The configuration service calls, read-back and the scrubber (R409 to R414). -/

namespace Sys2Proof.Machine

/-- The answer of a call that asks for a transition or a mode: BUSY during a transition, BAD_STATE in another mode (R20, R21,
R409). -/
def State.modeRefusal (s : State) (modes : List Nat) : Option Nat :=
  if s.inTransition then some rcBUSY else if !modes.contains s.mode then some rcBAD_STATE else none

/-- The RESULT of a header that fails (R409). -/
def headerResult (cause : Nat) : Nat :=
  if cause = ccNO_HEADER then rcNO_IMAGE else if cause = ccBUFFER then rcBUFFER_FAULT else rcAUTH_FAIL

/-- The words of a call from word k on are zero. -/
def zeroFrom (c : Call) (k : Nat) : Bool := (([c.w2, c.w3, c.w4, c.w5, c.w6, c.w7]).drop (k - 2)).all (· == 0)

/-- SVC_IMAGE_LOAD and SVC_IMAGE_SWITCH. -/
def State.imageLoad (s : State) (svc : Nat) (c : Call) : State :=
  if c.w2 &&& 0xFFFFFEFE ≠ 0 ∨ !zeroFrom c 3 then s.longOnce svc c rcBAD_ARG 0 []
  else match s.modeRefusal [mRUN, mHOLD] with
    | some r => s.longOnce svc c r 0 []
    | none =>
      if s.cfg.load.isSome then s.longOnce svc c rcBUSY 0 []
      else
        let bank := fld c.w2 0 0
        let (k, img, s1) := s.checkBank bank
        if k ≠ 0 then s1.longOnce svc c (headerResult k) k s1.imageWords
        else
          ((s1.startLong svc c).updCfg fun t => { t with fallbackFrom := none }).loadBegin
            { image := img, grove := none, svnCommit := bit c.w2 8, setBoot := svc == 0x0302 }

/-- A source address (R409): a sector of the user data, or a multiple of 8 in DRAM. -/
def badSource (src : Nat) (c : Call) : Bool :=
  let a := bufferOf c.w3 c.w4
  match src with
  | 2 => a % 0x10000 != 0 || decide (0x800000 ≤ a)
  | 3 => a % 8 != 0
  | _ => a != 0

/-- SVC_IMAGE_VERIFY: the header, then every packet of the stored stream. -/
def State.imageVerify (s : State) (c : Call) : State :=
  let src := fld c.w2 1 0
  if c.w2 &&& 0xFFFFFFFC ≠ 0 ∨ badSource src c ∨ !zeroFrom c 5 then s.longOnce 0x0303 c rcBAD_ARG 0 []
  else match s.modeRefusal [mRUN, mHOLD, mSERVICE] with
    | some r => s.longOnce 0x0303 c r 0 []
    | none =>
      if s.cfg.load.isSome then s.longOnce 0x0303 c rcBUSY 0 []
      else
        let (k, img, h, s1) := s.checkHeader src (bufferOf c.w3 c.w4) none false
        if k ≠ 0 then s1.longOnce 0x0303 c (headerResult k) k []
        else
        let (found, code, s2) := s1.verifyStream img h
        if found ≠ 0 then s2.longOnce 0x0303 c rcLOAD_FAIL found []
        else
          let kind := hdrField h 0x0C 4
          s2.longOnce 0x0303 c rcOK 0
            [BitVec.ofNat 32 (kind % 2 + kind / 256 % 16 * 256 + img.svn * 2 ^ 16), img.iface, code]

/-- SVC_GROVE_LOAD. -/
def State.groveLoad (s : State) (c : Call) : State :=
  let src := fld c.w2 1 0
  let g := fld c.w2 11 8
  if c.w2 &&& 0xFFFFF0FC ≠ 0 ∨ src < 2 ∨ badSource src c ∨ !zeroFrom c 5 ∨ !s.groveDefined g then s.longOnce 0x0304 c rcBAD_ARG 0 []
  else match s.modeRefusal [mRUN] with
    | some r => s.longOnce 0x0304 c r 0 []
    | none =>
      if s.cfg.load.isSome then s.longOnce 0x0304 c rcBUSY 0 []
      else
        let (k, img, _, s1) := s.checkHeader src (bufferOf c.w3 c.w4) (some g) true
        if k ≠ 0 then s1.longOnce 0x0304 c (headerResult k) k []
        else (s1.startLong 0x0304 c).loadBegin { image := img, grove := some g }

/-- SVC_BOOT_BANK. -/
def State.bootBankCall (s : State) (c : Call) : State :=
  if c.w2 &&& 0xFFFFFEFE ≠ 0 ∨ !zeroFrom c 3 then s.answerCall 0x0306 c rcBAD_ARG 0 []
  else
    let s1 := if bit c.w2 8 then (s.setBootBank (fld c.w2 0 0)).2 else s
    s1.answerCall 0x0306 c rcOK 0 [s1.reg (aCFG 0x24)]

/-! ### Read-back (R410, R411) -/

/-- Read-back is refused (R410, R510). -/
def State.readbackRefused (s : State) : Bool :=
  lcState s == 5 || (lcState s == 3 && !(s.rb (aLC 0x28) 0 && s.rb (aLC 0x28) 2))

def State.readbackCall (s : State) (c : Call) : State :=
  let g := fld c.w2 3 0
  let all := bit c.w2 8
  let a := bufferOf c.w3 c.w4
  if c.w2 &&& 0xFFFFFEF0 ≠ 0 ∨ a % 8 ≠ 0 ∨ !zeroFrom c 5 ∨ (!all ∧ !s.groveDefined g) then s.longOnce 0x0305 c rcBAD_ARG 0 []
  else if s.readbackRefused then s.longOnce 0x0305 c rcNOT_PERMITTED 0 []
  else match s.modeRefusal [mRUN, mHOLD] with
    | some r => s.longOnce 0x0305 c r 0 []
    | none =>
      if s.cfg.load.isSome then s.longOnce 0x0305 c rcBUSY 0 []
      else ((s.startLong 0x0305 c).updCfg fun t => { t with
        readback := some { grove := if all then none else some g, buffer := a, tcap := s.time.now + ns 1000 } }).setCfgState 6

/-- The flip-flops of bough b as a frame: data bit i is the Q of leaf i; an unconfigured bough gives zeros. -/
def State.capture (s : State) (b : Nat) : BitVec 4096 :=
  if s.tmode b = 0 then 0
  else BitVec.ofNat 4096 ((s.bough b).q.foldl (fun (n : Nat) (e : Nat × Bool) => if e.2 ∧ e.1 < 4096 then n + 2 ^ e.1 else n) 0)

/-- A FFSTATE frame as it stands in the buffer. -/
def State.captureBytes (s : State) (b : Nat) : List Byte :=
  let a : Word := BitVec.ofNat 32 (4 * 2 ^ 28 + b / 8 * 2 ^ 20 + b % 8 * 2 ^ 16)
  let d := s.capture b
  bytesOf 4 a.toNat ++ frameBytes d ++ bytesOf 4 (frameCheck a d).toNat

/-- READBACK_CAPTURE: the capture at T_CAP reaches the buffer. Its frames wait while the DRAM's requests do (R371, R378). -/
def State.readbackCapture (s : State) : State :=
  match (if s.dramWaits then none else s.cfg.readback) with
  | none => s
  | some r =>
    let s1 := ((s.reach r.tcap).updCfg fun t => { t with readback := none }).setCfgState 0
    let boughs := match r.grove with | none => List.range 128 | some g => s.groveBoughs g
    let n := boughs.length
    if !s1.bufferOk r.buffer (16 + 520 * n) then (s1.bufferRange r.buffer (16 + 520 * n)).endCall [0x0305] rcBUFFER_FAULT 0 []
    else
      let head := bytesOf 8 (nsOf r.tcap) ++ bytesOf 1 (fracOf r.tcap) ++ bytesOf 1 s1.quality ++ [0, 0] ++ bytesOf 4 n
      let s2 := s1.bufferFrames r.buffer (head ++ boughs.flatMap s1.captureBytes)
      s2.endCall [0x0305] rcOK 0 [BitVec.ofNat 32 n, BitVec.ofNat 32 (nsOf r.tcap), BitVec.ofNat 32 (nsOf r.tcap / 2 ^ 32)]

/-! ### The scrubber (R412 to R414) -/

def aSCRUB (o : Nat) : Nat := pg 0x006 o

/-- The frame index of a scrub position: the logic frames, then CLOCK MINOR 8 to 10. -/
def scrubIndex (pos : Nat) : Nat := if pos < 8192 then pos else 17576 + (pos - 8192)

/-- The scrubber skips this frame. -/
def State.scrubSkips (s : State) (ix : Nat) : Bool :=
  if ix < 8192 then
    s.held (ix / 64) || (match s.groveOf (ix / 64) with | some g => s.groveState g != 1 | none => false)
  else !s.configured

/-- The image that wrote a frame: none where its grove was loaded from DRAM. -/
def State.frameSource (s : State) (ix : Nat) : Option Image :=
  match (if ix < 8192 then s.groveOf (ix / 64) else none) with
  | some g => match s.rf (aGR g 0x14) 31 30 with
    | 0 => some s.cfg.full
    | 2 => some (SMap.get (fun _ => {}) s.cfg.groves g)
    | _ => none
  | none => some s.cfg.full

/-- The essential words of a logic frame: bit w for word w; every word without a map or with a bad block, which the Boolean
tells. A frame that has no entry is essential throughout (log 50). -/
def State.essentialWords (s : State) (img : Image) (ix : Nat) : Nat × Bool :=
  if img.mapLen = 0 ∨ 8192 ≤ ix then (2 ^ 128 - 1, false)
  else
    let block := s.flashRead (img.base + img.mapOfs + ix / 256 * 4100) 4100
    if ofBytes (block.drop 4096) ≠ crc32 (block.take 4096) then (2 ^ 128 - 1, true)
    else (ofBytes ((block.drop (16 * (ix % 256))).take 16), false)

/-- The words of a frame in which two contents differ. -/
def diffWords (u : BitVec 4096) : List Nat := (List.range 128).filter fun w => u.toNat / 2 ^ (32 * w) % 2 ^ 32 != 0

def popCount (n len : Nat) : Nat := ((List.range len).filter fun i => n.testBit i).length

/-- The cells of bough b follow its frames with the upsets that stand, and the wires follow the cells. -/
def State.refreshCells (s : State) (b : Nat) : State :=
  let l := (s.logicFrames b).map fun (e : Nat × BitVec 4096) => (e.1, e.2 ^^^ SMap.get (fun _ => 0) s.fabric.upset (64 * b + e.1))
  let extra := (s.fabric.upset.filter fun (e : Nat × BitVec 4096) => e.1 / 64 == b && e.1 < 8192 && s.frame e.1 == 0).map fun e => (e.1 % 64, e.2)
  let all := extra.foldl (fun (m : SMap (BitVec 4096)) (e : Nat × BitVec 4096) => SMap.set (fun _ => 0) m e.1 e.2) l
  (s.updBough b fun x => { x with cfg := Config.boughCells all }).findLoops.settle

/-- LAST_FA and LAST_INFO take an upset, which is counted, and event 23 is raised. -/
def State.recordUpset (s : State) (ix : Nat) (bits word : Nat) (checkOnly repaired essential : Bool) : State :=
  let info : Nat := min bits 1023 * 2 ^ 16 + checkOnly.toNat * 2 ^ 10 + repaired.toNat * 2 ^ 9 + essential.toNat * 2 ^ 8 + word % 128
  let s1 := (s.setReg (aSCRUB 0x34) (frameAddr ix)).setReg (aSCRUB 0x38) (BitVec.ofNat 32 info)
  let s2 := if essential then (s1.satAdd (aSCRUB 0x28) 31 0 1).setErr 0x006 16 else (s1.satAdd (aSCRUB 0x2C) 31 0 1).setErr 0x006 17
  let s3 := if repaired then s2 else (s2.satAdd (aSCRUB 0x30) 31 0 1).setErr 0x006 18
  (s3.raise 23).queueCheck (elemOf 4 ix) 6

/-- The Guide is to act on an essential upset (R414). -/
def State.noteEssential (s : State) (ix : Nat) : State :=
  let act := s.rf (aSCRUB 0x20) 2 1
  if act = 1 ∨ act = 2 then s.updCfg fun c => { c with essBough := c.essBough ++ [if ix < 8192 then ix / 64 else 128] } else s

/-- An upset of frame ix has been found: u are the data bits and uc the check bits that differ. -/
def State.upsetFound (s : State) (ix : Nat) (u : BitVec 4096) (uc : Word) (fetched : Bool) : State :=
  match (if fetched then s.frameSource ix else none) with
  | none =>
    let (w, s1) := s.free 17
    let s2 := s1.updFabric fun f => { f with
      upset := SMap.set (fun _ => 0) f.upset ix u, upsetCheck := SMap.set (fun _ => 0) f.upsetCheck ix uc }
    let s3 := if ix < 8192 then s2.refreshCells (ix / 64) else s2
    (s3.recordUpset ix (w.toNat / 128) (w.toNat % 128) false false true).noteEssential ix
  | some img =>
    let (ess, bad) := s.essentialWords img ix
    let s1 := if bad && !s.cfg.mapFault then (s.updCfg fun c => { c with mapFault := true }).setErr 0x006 19 else s
    let s2 := s1.updFabric fun f => { f with upset := SMap.erase f.upset ix, upsetCheck := SMap.erase f.upsetCheck ix }
    let s3 := if ix < 8192 then s2.refreshCells (ix / 64) else s2
    let words := diffWords u
    let e := words.any fun w => ess.testBit w
    let bits := popCount u.toNat 4096 + popCount uc.toNat 32
    let (w, s4) := match words with
      | w :: _ => (w, s3)
      | [] => let (v, t) := s3.free 7; (v.toNat, t)
    let s5 := s4.recordUpset ix bits w words.isEmpty true e
    if e then s5.noteEssential ix else s5

/-- The scrubber moves on; after its last frame a pass is complete. STAT has no place for a CLOCK frame's index, so it is open
then (log 50). -/
def State.scrubNext (s : State) : State :=
  let pos := if s.cfg.scrubPos + 1 < 8195 then s.cfg.scrubPos + 1 else 0
  let s1 := s.updCfg fun c => { c with scrubPos := pos, mapFault := c.mapFault && pos != 0 }
  let s2 := if pos = 0 then s1.wrapAdd (aSCRUB 0x24) 31 16 1 else s1
  if pos < 8192 then s2.setF (aSCRUB 0x24) 12 0 pos
  else
    let (w, s3) := s2.free 13
    s3.setF (aSCRUB 0x24) 12 0 w.toNat

/-- SCRUB_FRAME: the next frame is read. `flips` and `checkFlips` are the cells that upsets have changed since its latest
read, and `fetched` says that its packet can be fetched and passes its tag. -/
def State.scrubFrame (s : State) (flips : BitVec 4096) (checkFlips : Word) (fetched : Bool) : State :=
  if !s.awake ∨ !s.rb (aSCRUB 0x20) 0 ∨ s.cfg.readback.isSome then s
  else
    let ix := scrubIndex s.cfg.scrubPos
    let s1 := s.scrubNext
    if s.scrubSkips ix then s1
    else
      let u := SMap.get (fun _ => 0) s.fabric.upset ix ^^^ flips
      let uc := SMap.get (fun _ => 0) s.fabric.upsetCheck ix ^^^ checkFlips
      let a := frameAddr ix
      let stored := frameCheck a (s.frame ix) ^^^ uc
      if frameCheck a (s.frame ix ^^^ u) = stored then
        let s2 := s1.updFabric fun f => { f with
          upset := SMap.set (fun _ => 0) f.upset ix u, upsetCheck := SMap.set (fun _ => 0) f.upsetCheck ix uc }
        if ix < 8192 ∧ u ≠ SMap.get (fun _ => 0) s.fabric.upset ix then s2.refreshCells (ix / 64) else s2
      else s1.upsetFound ix u uc fetched

/-- ESS_ACTION (R414): the action that the earliest essential upset called for, of those that wait. -/
def State.essAction (s : State) : State :=
  match s.cfg.essBough with
  | [] => s
  | b :: rest =>
    if s.guide.long.isSome ∨ s.cfg.load.isSome ∨ s.inTransition then s
    else
      let s1 := s.updCfg fun c => { c with essBough := rest }
      match s.rf (aSCRUB 0x20) 2 1 with
      | 1 =>
        match s.groveOf b with
        | none => s1
        | some g =>
          if b = 128 ∨ (s.mode ≠ mRUN ∧ s.mode ≠ mIDLE) then s1
          else match s.frameSource (64 * b) with
            | none => s1
            | some img =>
              let ofs := if img.src = 2 then img.base - 0x1400000 else 0
              let (k, _, _, s2) := s1.checkHeader img.src ofs (if img.src < 2 then none else some g) true
              if k = 0 then s2.wakeGuide.loadBegin { image := img, grove := some g, logicOnly := true } else s2
      | 2 => if s.mode = mRUN ∨ s.mode = mIDLE then (s1.wakeGuide.setHoldCause 19 true).toHold else s1
      | _ => s1

end Sys2Proof.Machine
end

