-- ==== Sys2Proof/Machine/Lifecycle.lean ====
section
/-! DEFINITION. Life cycle, tokens, OTP writes, debug sessions and the JTAG port (R510 to R524). -/

namespace Sys2Proof.Machine

def lRAW : Nat := 0
def lTEST : Nat := 1
def lPROVISION : Nat := 2
def lFIELD : Nat := 3
def lRETURN : Nat := 4
def lSCRAP : Nat := 5

/-! ### Decoding (R512, R513) -/

/-- The 192 bits of the group of state k. -/
def State.groupBits (s : State) (k : Nat) : Nat := s.otpBits (3 * (k - 1)) 3
def State.groupFull (s : State) (k : Nat) : Bool := s.groupBits k == 2 ^ 192 - 1
def State.groupPartial (s : State) (k : Nat) : Bool := s.groupBits k != 0 && !s.groupFull k

/-- The highest of a list of states, 0 when there is none. -/
def highest (l : List Nat) : Nat := l.foldl max 0

/-- The state that the groups decode to. -/
def State.decodedState (s : State) : Nat :=
  if s.groupBits 5 ≠ 0 then lSCRAP else highest ([1, 2, 3, 4].filter s.groupFull)

/-- LC:STATE, the serial number and the anti-rollback count show the OTP; an interrupted transition is reported. -/
def State.lcShow (s : State) : State :=
  let cur := s.decodedState
  let above := ([1, 2, 3, 4, 5].filter fun k => cur < k && s.groupPartial k)
  let full := (([1, 2, 3, 4, 5].filter s.groupFull).map fun k => 2 ^ (15 + k)).sum
  let part := (([1, 2, 3, 4, 5].filter s.groupPartial).map fun k => 2 ^ (23 + k)).sum
  let int := !above.isEmpty
  let w : Nat := cur + int.toNat * 2 ^ 8 + highest above * 2 ^ 9 + full + part
  let s1 := ((s.setReg (aLC 0x20) (BitVec.ofNat 32 w)).setReg (aLC 0x30) ((s.otpWord 15).setWidth 32)).setReg (aLC 0x34) ((s.otpWord 15 >>> 32).setWidth 32)
  let s2 := s1.showRollback
  if int then
    let old := s2.rb (pg 0x004 0x00C) 16
    let s3 := s2.setErr 0x004 16
    if !old && s3.rb (pg 0x004 0x010) 16 then s3 else s3.raise 112
  else s2

/-- Words of OTP are programmed to v and verify. -/
def State.otpWrite (s : State) (w : Nat) (v : BitVec 64) : State :=
  let s1 := s.otpProgram w v
  { s1 with otpOpen := s1.otpOpen.filter (· ≠ w) }

/-- Programming of a word is cut off: each bit to be set is at 0 or 1, and the word has not verified (R438). -/
def State.otpCut (s : State) (w : Nat) (v : BitVec 64) : State :=
  let (m, s1) := s.free 64
  let s2 := s1.otpProgram w (v &&& m)
  { s2 with otpOpen := if s2.otpOpen.contains w then s2.otpOpen else s2.otpOpen ++ [w] }

/-- A brace lets the pulse of the word complete, which leaves it begun and not verified (R517, log 108). -/
def State.otpPulse (s : State) (w : Nat) (v : BitVec 64) : State :=
  let (m, s1) := s.free 64
  let s2 := s1.otpProgram w (if v &&& m = 0 ∨ v &&& m = v then 1 else v &&& m)
  { s2 with otpOpen := if s2.otpOpen.contains w then s2.otpOpen else s2.otpOpen ++ [w] }

def allOnes64 : BitVec 64 := 0xFFFFFFFFFFFFFFFF

/-- The whole group of state k is programmed; words that verify already are skipped. -/
def State.programGroup (s : State) (k n : Nat) : State := (List.range n).foldl (fun (t : State) j => t.otpWrite (3 * (k - 1) + j) allOnes64) s

/-- Every sector of the image banks, the user data and the settings store that `p` selects is erased, of the first n; a RETIRED one cannot be
(R425). -/
def State.eraseOwned (s : State) (n : Nat) (p : State → Nat → Bool) : State :=
  let s1 := (List.range n).foldl (fun (t : State) k => if p t k && t.sectorStatus k != 2 then (t.eraseSector k).heartErase k else t) s
  s1.storeLost s1.sectorBlank

/-- In SCRAP every such sector that is not blank is erased (R516). -/
def State.scrapErase (s : State) : State :=
  if s.isHot ∨ (List.range 464).all s.sectorBlank then s else s.eraseOwned 464 fun t k => !t.sectorBlank k

/-- At boot the shadow is loaded and the groups are decoded; a SCRAP group that is partial is completed, and the sectors erased (R513, R516). -/
def State.lcBoot (s : State) : State :=
  let s0 := s.otpReload
  let s1 := if s0.groupBits 5 ≠ 0 ∧ !s0.groupFull 5 then (s0.programGroup 5 3).otpReload else s0
  let s2 := s1.lcShow
  if s2.decodedState = lSCRAP then s2.scrapErase else s2

/-! ### Tokens (R514) -/

/-- FAILS of TOKEN_STAT. -/
def State.tokenFails (s : State) : Nat := s.rf (aLC 0x24) 3 0

/-- A token is compared with the slot at OTP word w: none when it matches, or the RESULT. -/
def State.tokenCheck (s : State) (c : Call) (w : Nat) : Option Nat × State :=
  if s.otpEmpty w 6 then (some rcNOT_PERMITTED, s)
  else if s.rb (aLC 0x24) 4 then (some rcTOKEN_LOCKOUT, s)
  else
    let token := [c.w3, c.w4, c.w5, c.w6].flatMap fun v => bytesOf 4 v.toNat
    if s.otpHolds w 6 ∧ (Config.sha384 token).toNat = s.otpBits w 6 then (none, s)
    else
      let n := s.tokenFails + 1
      let s1 := ((s.setF (aLC 0x24) 3 0 n).setErr 0x004 17).raise 115
      (some rcBAD_TOKEN, if n = 8 then (s1.setB (aLC 0x24) 4 true).setErr 0x004 18 else s1)

/-! ### SVC_LC_TRANSITION (R515 to R518) -/

/-- The caller of a life-cycle or debug call is mailbox 0 or 2, or GUIDE_CALL. -/
def trustedCaller (c : Call) : Bool := c.jtag || c.mbx == 0 || c.mbx == 2

/-- The transitions of R511, and under R513 only the interrupted one or SCRAP. -/
def State.transitionAllowed (s : State) (target : Nat) : Bool :=
  let cur := s.rf (aLC 0x20) 2 0
  if target = lSCRAP then cur != lSCRAP
  else if s.rb (aLC 0x20) 8 then target == s.rf (aLC 0x20) 11 9
  else cur < lRETURN && target == cur + 1

/-- The refusal of a transition, checked in the order of R515; no token yet. -/
def State.transitionRefusal (s : State) (c : Call) : Option Nat :=
  let target := fld c.w2 2 0
  if !trustedCaller c then some rcNOT_PERMITTED
  else if s.rf (aLC 0x20) 2 0 = lSCRAP then (if target = lSCRAP then none else some rcNOT_PERMITTED)
  else if s.mode ≠ mSERVICE ∧ !(target = lSCRAP ∧ (s.mode = mRUN ∨ s.mode = mHOLD)) then some rcBAD_STATE
  else if !s.transitionAllowed target then some rcBAD_STATE
  else if s.isHot then some rcTEMP_INHIBIT else none

/-- The digest slot of a target (R511). -/
def tokenSlot (target : Nat) : Nat := 16 + 6 * (target - 1)

/-- How far a transition or an OTP write gets: to its end, or up to a brace or a loss of supply. -/
structure Cut where
  /-- 0 in the erases, k in word k of the group, counted from 1; past the last word, nothing cuts it. -/
  word : Nat
  /-- Sectors erased when the erases are cut. -/
  erased : Nat
  /-- The cut is a loss of supply or a reset, after which nothing is answered. -/
  loss : Bool
deriving DecidableEq, Repr

/-- The result words of a transition. -/
def State.lcWords (s : State) : List Word := [s.reg (aLC 0x20), BitVec.ofNat 32 s.tokenFails]

/-- The erases of a transition to RETURN. -/
def State.returnErases (s : State) (target n : Nat) : State := if target = lRETURN then s.eraseOwned n fun _ _ => true else s

/-- The states in which the full BIST engine and fuse repair may be used (R510). -/
def fullStates : List Nat := [lTEST, lRETURN]

/-- The new state is in force: a full BIST run that it does not permit stops at its next pitch boundary (R5, R516). -/
def State.endFull (s : State) : State :=
  if s.bist.full ∧ !fullStates.contains s.decodedState then s.updBist fun b => { b with fullStops := true } else s

/-- A transition runs from the match of its token (R516), as far as `cut` lets it (R517). -/
def State.runTransition (s : State) (c : Call) (target : Nat) (cut : Cut) : State :=
  let s0 := s.debugEnd
  let w0 := 3 * (target - 1)
  if cut.word = 0 then
    let n := min cut.erased 463
    let s1 := s0.returnErases target n
    let s2 := if target = lRETURN then ((s1.partErase n).setStatus n 1).storeLost (· == n) else s1
    if cut.loss then s2 else s2.longOnce 0x0601 c rcABORTED 0 s2.lcWords
  else
    let s1 := s0.returnErases target 464
    if cut.word ≤ 3 then
      let t := s1.programGroup target (cut.word - 1)
      let s2 := if cut.loss then t.otpCut (w0 + cut.word - 1) allOnes64 else t.otpPulse (w0 + cut.word - 1) allOnes64
      if cut.loss then s2
      else
        let s3 := s2.otpReload.lcShow
        s3.longOnce 0x0601 c rcABORTED 0 s3.lcWords
    else
      let s2 := ((s1.programGroup target 3).otpReload.lcShow.endFull).raise 113
      let s3 := s2.longOnce 0x0601 c rcOK 0 s2.lcWords
      if target = lSCRAP then s3.scrapErase else s3

/-- SVC_LC_TRANSITION with OP TRANSITION; an OP above 1 is BAD_ARG. -/
def State.lcTransition (s : State) (c : Call) (cut : Cut) (tj : Int) : State :=
  let op := fld c.w2 31 28
  let s0 := s.sampleTj tj
  if op = 1 then s
  else if 1 < op then s0.longOnce 0x0601 c rcBAD_ARG 0 []
  else match s0.transitionRefusal c with
    | some r => s0.longOnce 0x0601 c r 0 []
    | none =>
      let target := fld c.w2 2 0
      if s0.rf (aLC 0x20) 2 0 = lSCRAP then s0.longOnce 0x0601 c rcOK 0 s0.lcWords
      else
        let (r, s1) := s0.tokenCheck c (tokenSlot target)
        match r with
        | some k => s1.longOnce 0x0601 c k 0 s1.lcWords
        | none => s1.runTransition c target cut

/-- The states in which OTP_WRITE may program a word (R518). -/
def otpStates (w : Nat) : List Nat :=
  if w = 15 then [lRAW]
  else if 16 ≤ w ∧ w ≤ 27 then [lRAW]
  else if 28 ≤ w ∧ w ≤ 51 then [lRAW, lTEST]
  else if (52 ≤ w ∧ w ≤ 57) ∨ (76 ≤ w ∧ w ≤ 79) then [lTEST]
  else if (58 ≤ w ∧ w ≤ 75) ∨ (80 ≤ w ∧ w ≤ 91) then [lPROVISION]
  else []

/-- The slot that holds word w: its first word and its length. -/
def otpSlot (w : Nat) : Nat × Nat :=
  if 16 ≤ w ∧ w ≤ 75 then (16 + (w - 16) / 6 * 6, 6)
  else if 76 ≤ w ∧ w ≤ 91 then (76 + (w - 76) / 4 * 4, 4)
  else (w, 1)

/-- Every slot that words first to first + n − 1 touch is written whole. -/
def otpWhole (first n : Nat) : Bool :=
  (List.range n).all fun k => first ≤ (otpSlot (first + k)).1 && (otpSlot (first + k)).1 + (otpSlot (first + k)).2 ≤ first + n

/-- The refusal of an OTP_WRITE, before its buffer is read. -/
def State.otpRefusal (s : State) (c : Call) : Option Nat :=
  let first := fld c.w2 6 0
  let n := fld c.w2 14 8
  if !trustedCaller c then some rcNOT_PERMITTED
  else if s.rf (aLC 0x20) 2 0 = lSCRAP then some rcNOT_PERMITTED
  else if s.mode ≠ mSERVICE then some rcBAD_STATE
  else if s.isHot then some rcTEMP_INHIBIT
  else if n = 0 ∨ 24 < n ∨ bufferOf c.w3 c.w4 % 8 ≠ 0 then some rcBAD_ARG
  else if (List.range n).any fun k => !(otpStates (first + k)).contains (s.rf (aLC 0x20) 2 0) then some rcNOT_PERMITTED
  else if !otpWhole first n then some rcBAD_ARG
  else if (List.range n).any fun k => s.otpCell (first + k) != 0 then some rcNOT_BLANK else none

/-- SVC_LC_TRANSITION with OP OTP_WRITE. -/
def State.otpWriteCall (s : State) (c : Call) (cut : Cut) (tj : Int) : State :=
  let s0 := s.sampleTj tj
  if fld c.w2 31 28 ≠ 1 then s
  else match s0.otpRefusal c with
    | some r => s0.longOnce 0x0601 c r 0 []
    | none =>
      let first := fld c.w2 6 0
      let n := fld c.w2 14 8
      let (d, s1) := s0.takeBuffer (bufferOf c.w3 c.w4) (8 * n)
      match d with
      | none => s1.longOnce 0x0601 c rcBUFFER_FAULT 0 []
      | some bytes =>
        let word (k : Nat) : BitVec 64 := BitVec.ofNat 64 (ofBytes ((bytes.drop (8 * k)).take 8))
        let done := min n (cut.word - 1)
        let s2 := (List.range done).foldl (fun (t : State) k => t.otpWrite (first + k) (word k)) s1
        if n < cut.word then s2.longOnce 0x0601 c rcOK 0 [BitVec.ofNat 32 n]
        else
          let s3 := s2.otpCut (first + done) (word done)
          let left := ((List.range n).drop (done + 1)).map (first + ·)
          let s4 := { s3 with otpOpen := s3.otpOpen ++ left }
          if cut.loss then s4 else s4.longOnce 0x0601 c rcABORTED 0 [BitVec.ofNat 32 done]

/-! ### Debug sessions (R520, R521) -/

def State.debugOpenCall (s : State) (c : Call) : State :=
  let field := s.rf (aLC 0x20) 2 0 == lFIELD
  let tmo := fld c.w2 31 16
  if !trustedCaller c then s.answerCall 0x0602 c rcNOT_PERMITTED 0 []
  else if field ∧ tmo = 0 then s.answerCall 0x0602 c rcBAD_ARG 0 []
  else
    let (r, s1) := if field then s.tokenCheck c 46 else (none, s)
    match r with
    | some k => s1.answerCall 0x0602 c k 0 [s1.reg (aLC 0x28)]
    | none =>
      let remain := if tmo = 0 then 0xFFFF else tmo
      let w : Nat := 1 + (bit c.w2 0).toNat * 2 + (bit c.w2 1).toNat * 4 + c.jtag.toNat * 8 + remain * 2 ^ 16
      let s2 := (s1.setReg (aLC 0x28) (BitVec.ofNat 32 w)).raise 114
      s2.answerCall 0x0602 c rcOK 0 [s2.reg (aLC 0x28)]

def State.debugCloseCall (s : State) (c : Call) : State := s.debugEnd.answerCall 0x0603 c rcOK 0 []

/-- The session that is open has a timeout: in FIELD every one has, elsewhere REMAIN 0xFFFF stands for none (R520; DEDUCED, log 51). -/
def State.debugTimed (s : State) : Bool := s.rf (aLC 0x28) 31 16 != 0xFFFF || s.rf (aLC 0x20) 2 0 == lFIELD

/-- DEBUG_TIMEOUT: a session with a timeout ends. -/
def State.debugTimeout (s : State) : State := if s.rb (aLC 0x28) 0 && s.debugTimed then s.debugEnd else s

/-- A second of a session passes: REMAIN counts down (log 51). -/
def State.debugSecond (s : State) : State :=
  let r := s.rf (aLC 0x28) 31 16
  if s.rb (aLC 0x28) 0 ∧ s.debugTimed ∧ r ≠ 0 then s.setF (aLC 0x28) 31 16 (r - 1) else s

/-! ### JTAG (R522, R523) -/

/-- A scan of GUIDE_CALL: the capture takes the response, and the update posts a request unless one is pending. -/
def State.guideCall (s : State) (words : List Word) : State :=
  let s1 := (s.jtagIr 0x20).updGuide fun g => { g with jtagRespValid := false }
  if s1.guide.jtagReq.isSome ∨ s1.guide.taken.any (fun t => t.2.jtag) then s1
  else { s1 with mbSeq := s1.mbSeq + 1, guide := { s1.guide with jtagReq := some (s1.mbSeq, words) } }

/-- An Update-DR of DEBUG_ACCESS: one access as requester 0x003. Without a session its data is open (log 42). -/
def State.debugAccess (s : State) (write : Bool) (ofs : BitVec 24) (v : Word) : State :=
  let s1 := s.jtagIr 0x21
  if !s1.debugOpen ∨ !s1.regsOn then
    let (d, s2) := s1.free 32
    { s2 with debug := { done := true, refused := true, data := d } }
  else if write then
    let (st, s2) := s1.writeReg rDebug ofs.toNat true v
    let (d, s3) := s2.free 32
    { s3 with debug := { done := true, refused := st == 1, data := d } }
  else
    let (d, s2) := s1.readReg rDebug ofs.toNat
    { s2 with debug := { done := true, refused := false, data := d } }

end Sys2Proof.Machine
end

