-- ==== Sys2Proof/Machine/Pitch.lean ====
section
/-! DEFINITION. Pitches: the queue, the periodic cycle, grants, results and the pitch calls (R493 to R509). -/

namespace Sys2Proof.Machine

/-! ### Groups (R500) -/

/-- Pitches of a periodic cycle. -/
def pitchesPerCycle : Nat := 9601

/-- The first element of group i of the periodic cycle. -/
def groupElem (i : Nat) : Word :=
  if i < 8192 then elemOf 1 (i / 8 * 2 ^ 9 + 64 * (i % 8))
  else if i < 9216 then elemOf 2 (i - 8192)
  else if i < 9344 then elemOf 3 ((i - 9216) / 8 * 2 ^ 10 + 128 * ((i - 9216) % 8))
  else if i < 9600 then elemOf 4 (32 * (i - 9344))
  else elemOf 4 17576

/-- The bough of an element, if it lies in one. -/
def elemBough (e : Word) : Option Nat :=
  match elemKind e with
  | 1 => some (fld e 18 9 / 8)
  | 4 => if fld e 28 0 < 8192 then some (fld e 28 0 / 64) else none
  | _ => none

/-- The bough of the element is held: targeted pitches wait for its release (R502). -/
def State.boughHeld (s : State) (e : Word) : Bool :=
  match elemBough e with
  | some b => s.held b
  | none => elemKind e == 4 && !s.configured

/-- The bough of the element is held or unconfigured: its periodic pitch is skipped (R500, R502). -/
def State.boughAway (s : State) (e : Word) : Bool := s.boughHeld e || (elemBough e).any fun b => s.tmode b == 0

/-- A frame group that has no source to compare with: NOT_RUN (R499). -/
def State.frameNotRun (s : State) (e : Word) : Bool :=
  elemKind e == 4 &&
    (!s.configured || match s.frameSource (fld e 28 0) with
     | some img => img.src == 3 || (match elemBough e with | some b => (match s.groveOf b with | some g => s.groveState g != 1 | none => false) | none => false)
     | none => true)

/-- No pitch of any element may start (R501, R502). -/
def State.pitchBlocked (s : State) : Bool :=
  !s.awake || s.power.entry.isSome || s.bist.holdoff.isSome || (s.mode == mHOLD && s.cause 18)

/-- A targeted pitch waits: its bough is held, or the decrypt path is in use (R501, R502). -/
def State.pitchWaits (s : State) (e : Word) : Bool := s.boughHeld e || (elemKind e == 4 && s.cfg.readback.isSome)

/-- A requested pitch waits while a load holds its bough, or the decrypt path is in use; where no load is to release the bough, it runs or is
NOT_RUN (R501, R502, R508; DEDUCED, log 53). -/
def State.runWaits (s : State) (e : Word) : Bool :=
  (s.cfg.load.isSome && s.boughHeld e) || (elemKind e == 4 && s.cfg.readback.isSome)

/-! ### One pitch (R131, R499) -/

/-- The memory of a block memory element shows PITCH_REQ and PITCH_BUSY. SBE and DBE of the held DOUT read 0 from the start of the pitch on and do not come
back at its end (DESIGN CHOICE, log 118). A token that waited is let go as PITCH_BUSY falls. -/
def State.showPitch (s : State) (e : Word) (req busy : Bool) : State :=
  if elemKind e ≠ 1 then s
  else
    let b := fld e 18 9 / 8
    let n := s.cascadeLead b (fld e 18 9 % 8)
    (s.updBough b fun x => x.setBram n { x.bramAt n with
      pitchReq := req, pitchBusy := busy, sbe := (x.bramAt n).sbe && !busy, dbe := (x.bramAt n).dbe && !busy }).settle

/-- PITCH_MODE of the memory, or of the first member of its cascade (R129), is ALWAYS; no other element asks for a grant. -/
def State.pitchAlways (s : State) (e : Word) : Bool :=
  elemKind e != 1 || ((s.bough (fld e 18 9 / 8)).cfg.bramAt (s.cascadeLead (fld e 18 9 / 8) (fld e 18 9 % 8))).pitchAlways

/-- The response of SVC_PITCH_RUN. -/
def State.pitchAnswer (s : State) : State := s.endCall [0x0701] rcOK 0 [s.reg (aPITCH 0x58), s.reg (aPITCH 0x5C), s.reg (aPITCH 0x60)]

/-- A pitch that could not start (R496): a targeted one is queued again twice, and is UNTESTED after its third NOT_RUN. -/
def State.pitchNotRun (s : State) (p : Pitch) : State :=
  let s1 := ((s.showPitch p.elem false false).updBist fun b => { b with running := none }).checkResult p.elem p.source rNOT_RUN p.targeted 0 0
  if !p.targeted then (if p.source = 10 then s1.pitchAnswer else s1)
  else if 2 ≤ p.tries then s1.checkResult p.elem p.source rUNTESTED true 0 0
  else s1.updBist fun b => { b with queue := b.queue ++ [{ elem := p.elem, source := p.source, tries := p.tries + 1, waits := true }] }

/-- The pitch of a group starts, or asks for its grant. -/
def State.beginPitch (s : State) (p : Pitch) : State :=
  if s.frameNotRun p.elem then s.pitchNotRun p
  else if s.pitchAlways p.elem then (s.showPitch p.elem false true).updBist fun b => { b with running := some p }
  else (s.showPitch p.elem true false).updBist fun b => { b with running := some { p with waitGrant := true } }

/-- PITCH_GNT of the memory that asks: the pitch starts, once the grant before has fallen (R131). -/
def State.pitchGrant (s : State) (p : Pitch) : State :=
  let b := fld p.elem 18 9 / 8
  let n := s.cascadeLead b (fld p.elem 18 9 % 8)
  let (g, s1) := s.wireBits b (1024 + 128 * n + 124) 1 s
  if g = 1 && !((s.bough b).bramAt n).granted then
    ((s1.updBough b fun x => x.setBram n { x.bramAt n with granted := true }).showPitch p.elem true true).updBist fun x =>
      { x with running := some { p with waitGrant := false } }
  else s1

/-- The position of the periodic cycle moves on; a whole cycle completes (R500). -/
def State.nextGroup (s : State) (late : Bool) : State :=
  let i := s.rf (aPITCH 0x28) 15 0
  if i + 1 < pitchesPerCycle then s.setF (aPITCH 0x28) 15 0 (i + 1)
  else
    let s1 := (s.setF (aPITCH 0x28) 15 0 0).wrapAdd (aPITCH 0x24) 31 16 1
    (if late then s1.setErr 0x007 20 else s1).raise 29

/-- The periodic pitch that is due: its group is pitched, or skipped without a result. -/
def State.periodicStart (s : State) (late : Bool) : State :=
  let e := groupElem (s.rf (aPITCH 0x28) 15 0)
  let s1 := (s.updBist fun b => { b with due := none }).nextGroup late
  if s1.groupRetired e || s1.boughAway e then s1 else s1.beginPitch { elem := e, source := 0, targeted := false }

/-- With no other pitch to start, the full BIST engine may begin or end a run in the states that permit it (R5, R510). The spec gives no
command that asks for one, so whether it does is open (log 88). -/
def State.fullStart (s : State) : State :=
  if fullStates.contains s.decodedState then
    let (v, s1) := s.free 1
    s1.updBist fun b => { b with full := v == 1 }
  else s

/-- A full BIST run that finds rows failing programs fuse repairs into OTP words 96 to 119, in the states that permit it and at most at
125 °C (R5, R437, R497). The spec does not lay the words out, so which of their bits are set is open (log 88). -/
def State.fuseRepair (s : State) : State :=
  if s.bist.full && fullStates.contains s.decodedState && !s.isHot then
    (List.range 24).foldl (fun (t : State) k =>
      let (v, t1) := t.free 64
      t1.otpProgram (96 + k) v) s
  else s

/-- PITCH_START: the pitch that waits for its grant starts, or the next one does: targeted checks first, in the order queued. -/
def State.pitchStart (s : State) : State :=
  if s.pitchBlocked then s
  else match s.bist.running with
    | some p => if p.waitGrant then s.pitchGrant p else s
    | none =>
      match s.bist.queue.find? fun c => !c.waits && decide (elemKind c.elem < 5) && !s.pitchWaits c.elem with
      | some c => (s.dropCheck c.elem).beginPitch { elem := c.elem, source := c.source, targeted := true, tries := c.tries }
      | none =>
        match s.bist.request, s.bist.due with
        | some p, _ => if s.runWaits p.elem then s else (s.updBist fun b => { b with request := none }).beginPitch p
        | none, some late => s.periodicStart late
        | none, none => s.fullStart

/-- PERIODIC_PITCH: the spacing expires. `late` says that its cycle has run more than 10 % over its nominal length. -/
def State.periodicPitch (s : State) (late : Bool) : State :=
  if s.awake ∧ s.rb (aPITCH 0x20) 16 then (s.updBist fun b => { b with due := some late }).pitchStart else s

/-- The rows of the fail map that belong to the pitch; a targeted check of a bank takes all its rows (R493). -/
def Pitch.rows (p : Pitch) (l : List Word) : List Word :=
  let r := l.filter fun e => if p.targeted && elemKind p.elem == 3 then elemKind e == 3 && elemPool e == elemPool p.elem else sameGroup e p.elem
  if r.isEmpty then [p.elem] else r

/-- PITCH_DONE with the signature found and the fail map: each failing row is repaired or retired and reported (log 53). It is a
pitch boundary, at which a full BIST run stops that is to stop (R516). -/
def State.pitchDone (s : State) (misr : Word) (fails : List Word) : State :=
  match s.bist.running with
  | none => s
  | some p =>
    if p.waitGrant then s
    else
      let exp := Config.bistSignature (elemKind p.elem)
      let s1 := (s.showPitch p.elem false false).updBist fun b => { b with
        running := none, full := b.full && !b.fullStops, fullStops := false }
      let s2 := if misr = exp then s1.checkResult p.elem p.source (if p.targeted then rTRANSIENT else rPASS) p.targeted misr exp
        else (p.rows fails).foldl (fun (t : State) e =>
          let (r, t1) := t.failElem e p.source
          t1.checkResult e p.source r p.targeted misr exp) s1.fuseRepair
      if p.source = 10 then s2.pitchAnswer else s2

/-- GRANT_TIMEOUT. -/
def State.grantTimeout (s : State) : State :=
  match s.bist.running with
  | some p => if p.waitGrant then s.pitchNotRun p else s
  | none => s

/-- PITCH_RETRY of a check that was NOT_RUN. -/
def State.pitchRetry (s : State) (e : Word) : State :=
  match s.bist.queue.find? fun c => c.waits && c.elem == e with
  | some c => s.updBist fun b => { b with queue := (b.queue.filter fun x => x.elem != e) ++ [{ c with waits := false }] }
  | none => s

/-- HOLDOFF_END. -/
def State.holdoffEnd (s : State) : State := s.updBist fun b => { b with holdoff := none }

/-- DBE_CHECK_TIMEOUT of a line whose word has not been rewritten. -/
def State.dbeTimeout (s : State) (e : Word) : State :=
  match s.bist.queue.find? fun c => c.elem == e && c.source == 8 && !c.ready with
  | some c => (s.dropCheck e).checkResult e c.source rUNTESTED true 0 0
  | none => s

/-- LINK_CHECK_DONE of a rope port. -/
def State.linkCheckDone (s : State) (port : Nat) (bad : Bool) : State :=
  match s.bist.queue.find? fun c => c.elem == elemOf 6 port with
  | some c => s.endCheck c.elem c.source bad
  | none => s

/-- An increment of CRC_ERR or CODE_ERR of a rope port since `old` queues its check (R493). -/
def State.linkChecks (s old : State) : State :=
  (List.range 3).foldl (fun (t : State) p =>
    if [0x28, 0x2C].any (fun o => old.rf (pg (0x541 + p) o) 31 0 < t.rf (pg (0x541 + p) o) 31 0) then t.queueCheck (elemOf 6 p) 9 else t) s

/-- A pitch that a brace or an entry meets: its result is discarded; one that waits for its grant goes back (R502). -/
def State.pitchStop (s : State) : State :=
  match s.bist.running with
  | none => s.updBist fun b => { b with request := none }
  | some p =>
    (s.showPitch p.elem false false).updBist fun b => { b with
      running := none, request := none
      queue := if p.targeted && p.waitGrant then { elem := p.elem, source := p.source, tries := p.tries } :: b.queue else b.queue }

/-! ### Calls (R508, R509) -/

/-- The element code is one that SVC_PITCH_RUN takes. -/
def pitchable (e : Word) : Bool :=
  match elemKind e with
  | 1 => fld e 28 19 == 0
  | 2 => fld e 28 10 == 0
  | 3 => fld e 28 14 == 0
  | 4 => fld e 28 0 < 8192 || (17576 ≤ fld e 28 0 && fld e 28 0 ≤ 17578)
  | _ => false

/-- SVC_PITCH_RUN. -/
def State.pitchRun (s : State) (c : Call) : State :=
  if !([mRUN, mHOLD, mSERVICE].contains s.mode) then s.longOnce 0x0701 c rcBAD_STATE 0 []
  else if !pitchable c.w2 then s.longOnce 0x0701 c rcBAD_ARG 0 []
  else if s.groupRetired c.w2 then s.longOnce 0x0701 c rcRETIRED 0 []
  else (s.startLong 0x0701 c).updBist fun b => { b with request := some { elem := c.w2, source := 10, targeted := false } }

/-- SVC_PITCH_SCHEDULE. -/
def State.pitchSchedule (s : State) (c : Call) : State :=
  let n := fld c.w3 19 0
  if (bit c.w2 31 && fld c.w2 15 0 == 0) || (bit c.w3 31 && decide (1000000 < n)) then s.answerCall 0x0702 c rcBAD_ARG 0 []
  else
    let s1 := if bit c.w2 31 then
        let t := s.setReg (aPITCH 0x20) (c.w2 &&& 0x0001FFFF)
        if bit c.w2 16 then t else t.updBist fun b => { b with due := none }
      else s
    let s2 := if bit c.w3 31 then s1.updBist fun b => { b with holdoff := if n = 0 then none else some (s1.time.now + ns (1000 * n)) } else s1
    s2.answerCall 0x0702 c rcOK 0 [s2.reg (aPITCH 0x20), s2.holdoffLeft]

end Sys2Proof.Machine
end

