-- ==== Sys2Proof/Machine/Start.lean ====
section
/-! DEFINITION. Starts and wakes: power-up steps, boot, the wait for the clocks, and the fabric (R146, R402, R454 to R461, R478 to R483). -/

namespace Sys2Proof.Machine

/-! ### Device time across a sleep (R481) -/

/-- T0, j0 and AON_SRC are latched (R481), and the TIMING PLL stops. -/
def State.latchTime (s : State) : State :=
  let s1 := s.updPower fun p => { p with latched := some (s.time.now, s.ticks, s.rb aSRC_STAT 3), xtalLapse := false }
  { s1 with time := { now := s.time.now } }

/-- TIME_LATCH at `sub` ticks of the present second: the first tick after AP4 of a SLEEP or BIVOUAC entry. -/
def State.timeLatch (s : State) (sub : Nat) : State :=
  if (s.mode = mSLEEP ∨ s.mode = mBIVOUAC) ∧ s.power.latched.isNone then (s.rtcAdvance sub).latchTime else s

/-- BOUND after a sleep of `ticks` (R175), in ns: 61 µs and 20 ppm or 3 % of the sleep length. -/
def sleepBound (ticks : Nat) (xtal : Bool) : Rat :=
  let len : Rat := (ticks : Rat) * 30517578125 / 1000000
  61000 + (if xtal then len * 20 / 1000000 else len * 3 / 100)

/-- The time base is loaded at tick j1 with T0 and the slept ticks (R481). -/
def State.rebuild (s : State) : State :=
  match s.power.latched with
  | none => s
  | some (t0, j0, src) =>
    let d := (s.ticks + 2 ^ 48 - j0) % 2 ^ 48
    let units := t0.toNat + d * 7812500
    let now := BitVec.ofNat 72 units
    let same := src == s.rb aSRC_STAT 3 && !s.power.xtalLapse
    let s1 := { s with time := { now := now, running := true } }
    let s2 := s1.updPower fun p => { p with rebuildTime := false, latched := none, xtalLapse := false }
    let s3 := (s2.setReg (aPMU 0x30) (BitVec.ofNat 32 d)).setReg (aPMU 0x34) (BitVec.ofNat 32 (d / 2 ^ 32))
    let s4 := s3.heartSlept d
    let (b, s5) := s4.roundFree (sleepBound d (same && src))
    let s6 := s5.setQuality (if same then qCOARSE else qDEGRADED)
    let s7 := { s6 with time := { s6.time with boundAtEntry := b.toNat, fromWake := true } }.updateBound
    if 2 ^ 72 ≤ units then s7.raise 82 else s7

/-! ### The fabric and the load -/

/-- The fabric is up: the load begins, unless a brace holds the device, which then loads as it leaves HOLD. -/
def State.startLoad (s : State) (k : StartKind) : State :=
  if s.mode = mHOLD then s
  else s.loadBank (match k with | .cold | .reset => s.cfg.bootBank | _ => s.presentBank) false

/-- The FABRIC domain is powered column by column (R482). -/
def State.startFabric (s : State) (k : StartKind) : State :=
  let (go, s1) := s.budgetRequest (List.replicate 16 200) (.load k)
  if go then s1.startLoad k else s1

/-- Every root clock that no boot record enables is enabled on FAST_OSC (R146 step 4). -/
def State.restRoots (s : State) : State :=
  (List.range 16).foldl (fun (t : State) r =>
    if t.rb (aROOT r) 31 then t else t.bootPut (aROOT r) (setFld (setBit (t.reg (aROOT r)) 31 true) 5 0 33) false) s

/-- The fields of `old` that the AON register file holds stand through boot records that are applied again (R146, R480). -/
def State.keepAon (s old : State) : State :=
  let l := (((s.regs.act ++ old.regs.act).map Prod.fst).filter fun a => aonBits a != 0).eraseDups
  (l.foldl (fun (t : State) a => t.setReg a ((t.reg a &&& ~~~(aonBits a)) ||| (old.reg a &&& aonBits a))) s).updClocks
    fun c => { c with xtalFailed := old.fabric.clocks.xtalFailed }

/-- The image group, and the boot bank it names: bank A without a record (R402). -/
def State.bootImage (s : State) : State :=
  let s1 := s.bootRange 0x0300 0x03FF
  let b : Nat := if s1.rf (aCFG 0x24) 5 4 = 2 then 1 else 0
  (s1.updCfg fun c => { c with bootBank := b }).setF (aCFG 0x24) 5 4 (b + 1)

/-- The DRAM group (R358): with a record, the Guide enables the controller, unless the record names an organisation or a data rate that
cannot be. -/
def State.bootDram (s : State) : State :=
  let s1 := s.bootRange 0x0900 0x09FF
  if !(idsOf s1.settings.txs).any (fun i => 0x0900 ≤ i && i ≤ 0x09FF && (s1.record i).isSome) then s1
  else if !s1.dramOrgOk || !Config.dramRateFits (s1.rf aSRC_STAT 9 8) (s1.rf (aTIMING 0x20) 6 4) then
    ((((s1.setB (pg 0x640 4) 0 false).clearUndefined 2 0x641 0).setDramState dCFG_FAIL).setErr 0x640 19).raise 99
  else if s1.pageEnable 0x640 then s1
  else (s1.setB (pg 0x640 4) 0 true).dramEnable

/-- The rope, DRAM, host and owner groups. -/
def State.bootGroups (s : State) : State := ((s.bootRange 0x0800 0x08FF).bootDram).bootRange 0x0A00 0x0BFF

/-- What starts again at a wake as device time runs: channels, edge units, the DRAM and the rope. -/
def State.wakeBlocks (s : State) : State :=
  let s1 := (List.range 64).foldl (fun (t : State) c => t.sdfFollow c) s
  let s2 := ((List.range 256).filter fun p => s1.pageEnable (0x100 + p)).foldl (fun (t : State) p => t.edgeStarts p) s1
  let s3 := if s2.dramState = dSELF then s2.selfRefreshWake else s2
  let s4 := if s3.dramState = dOFF ∧ s3.pageEnable 0x640 then s3.dramEnable else s3
  if s4.pageEnable 0x540 ∧ s4.ropeState = rsOFF then s4.ropeListen else s4

/-- Every PLL is locked and device time runs: the steps of R454 from there, and of R480. -/
def State.clocksReady (s : State) (k : StartKind) : State :=
  let s1 := (s.updPower fun p => { p with lockWait := none }).restRoots
  let s2 := match k with
    | .cold | .reset =>
      (s1.bootImage.bootGroups.updPower fun p => { p with loopGroupDue := true, loopCommitDue := true })
    | .wakeBivouac => (s1.bootImage.bootGroups.keepAon s1).wakeBlocks
    | .wakeSleep => s1.wakeBlocks
  s2.startFabric k

/-- The wait of R146 ends when every enabled PLL and the TIMING PLL are locked. -/
def State.clockCheck (s : State) : State :=
  match s.power.lockWait with
  | none => s
  | some k =>
    if s.time.running && s.rb aSRC_STAT 4 && (List.range 8).all (fun p => !s.rb (aPLL p 0) 0 || s.rb (aPLL p 0xC) 0) then s.clocksReady k else s

/-- TIMING_PLL_LOCK: device time starts, or at a wake is loaded at the next tick. -/
def State.timingLocked (s : State) : State :=
  if s.time.running ∨ s.power.lockWait.isNone then s
  else if s.power.rebuildTime then s.setB aSRC_STAT 4 true
  else s.timingPllLock.clockCheck

/-- TIME_RECONSTRUCT at `sub` ticks of the present second. -/
def State.timeReconstruct (s : State) (sub : Nat) : State :=
  if s.power.rebuildTime ∧ s.rb aSRC_STAT 4 then (s.rtcAdvance sub).rebuild.clockCheck else s

/-- PLL_LOCK. -/
def State.pllLocked (s : State) (p : Nat) : State := if s.power.inReset ∨ 8 ≤ p then s else (s.pllLock p).clockCheck

/-- BOOT_CAL_DONE: after the last page the loop group is written (R454). -/
def State.bootCalPage (s : State) (i : Nat) : State :=
  if 4 ≤ i then s
  else
    let s1 := s.bootCalDone i
    if s1.power.loopGroupDue ∧ (List.range 4).all (fun j => s1.rb (aCAL j 0x24) 31) then
      (s1.updPower fun p => { p with loopGroupDue := false }).bootLoop
    else s1

/-! ### Boot -/

/-- The sources and flags that are up when the Guide runs. REF_OK reads 1 until REFCLK_LOSS says otherwise (log 52). -/
def State.sourcesUp (s : State) : State := ((s.setB aSRC_STAT 0 true).setB aSRC_STAT 1 true).setB (aSUP 0x24) 17 true

/-- PAGE_EVT_EN as the Guide holds it (R434, R449, R505), and the counts that the flash shows. -/
def State.heldEnables (s : State) : State :=
  let s1 := ((s.setReg (pg 0x700 0x010) 0x001F001F).setReg (pg 0x710 0x010) 0x0007001F).setReg (aPITCH 0x010) 0x007F001F
  s1.setF (aFLASH 0x30) 9 0 (s1.flash.status.filter fun e => e.2 == 1).length

/-- The repair list acts (R497, R498). -/
def State.applyRepairs (s : State) : State :=
  ((s.heart.work.repairs.filter fun r => r.retired).foldl (fun (t : State) r => t.retireElem r.elem) s).showRepairs

/-- The HEART page shows the working copy. -/
def State.showHeart (s : State) : State :=
  let n := s.heart.work.count.poweredS
  let s1 := ((s.setReg (aHEART 0x28) (BitVec.ofNat 32 n)).setReg (aHEART 0x2C) (BitVec.ofNat 32 (n / 2 ^ 32))).setReg (aHEART 0x30)
    (BitVec.ofNat 32 s.heart.work.count.powerCycles)
  (s1.setReg (aHEART 0x24) s.heart.seq).setF (aHEART 0x20) 10 8 s.heart.sector

/-- A cold start after an unbraced loss (R533). VIN of its record is open. -/
def State.noteUnbraced (s : State) : State :=
  let (v, s1) := s.free 16
  let r : FailRec := { calendar := s.heart.flash.calendar, quality := 0, unbraced := true, stale := s.calState == 2, vin := v.toNat, ns := 0 }
  ((s1.heartVin 1).heartFail r).setErr 0x720 19

def aEPOCH : Nat := pg 0x555 0x3C

/-- The heartwood has been read. At a cold start the calendar is loaded after a loss of VIN, the start is counted, and the COUNT entry is
written (R299, R531, R533, R536). `dirty` says that its last entry was neither a BRACE entry nor one of a BIVOUAC or OFF entry. -/
def State.heartStart (s1 : State) (cold dirty : Bool) : State :=
  if !cold then (s1.wrapAdd aEPOCH 15 0 1).showHeart
  else
    let s2 := if s1.power.cold then
        let t := s1.setCalendar s1.heart.work.calendar
        t.setF (aRTC 0x24) 1 0 (if s1.heart.work.calState = 0 then 0 else 2)
      else match s1.power.latched with
        | some (_, j0, _) => s1.heartSlept ((s1.ticks + 2 ^ 48 - j0) % 2 ^ 48)
        | none => s1
    let s3 := if dirty then s2.noteUnbraced else s2
    let s4 := s3.heartCycle
    ((s4.setF aEPOCH 15 0 s4.heart.work.count.epochSeed.toNat).heartCount false).showHeart

/-- Rail faults are reported at the boot that completes (R468). -/
def State.reportFaults (s : State) : State :=
  if s.power.faults = 0 then s
  else
    let s1 := (List.range s.power.faults).foldl (fun (t : State) _ => t.heartVin 3) s
    ((s1.updPower fun p => { p with faults := 0 }).setErr 0x002 17).raise 13

/-- Boot at a cold start or a device reset: t0 to t0 + 0.8 ms of R454. CURRENT has become LOAD, and event 0 tells it as the
event controller runs again (R19, R20, log 39). -/
def State.coldBoot (s : State) (cold : Bool) : State :=
  let s1 := ((s.updPower fun p => { p with inReset := false, railsDown := false, belowWarn := false }).railsUp.sourcesUp).heldEnables
  let s2 := if cold then s1.setReg (aLC 0x24) 0 else s1
  -- the working copy is what flash holds, also for the erases that complete before the heartwood counts the start
  let dirty := cold && s.heart.valid && !s.heart.clean
  let s3 := (((((s2.raise 0).heartBoot).lcBoot).patchBoot.flashBoot.settingsBoot).heartStart cold dirty).applyRepairs
  let s4 := s3.updPower fun p => { p with cold := false, latched := none }
  let s5 := s4.bootPins
  let s6 := (((s5.bootRange 0x0100 0x01FF).bootRange 0x0200 0x02FF).railCfgWritten).reportFaults
  s6.updPower fun p => { p with lockWait := some (if cold then .cold else .reset) }

/-- The mode at which a wake load ends: HOLD where the entry was made from HOLD, whose causes stand (R20). -/
def State.wakeTarget (s : State) : Nat := if s.anyCause then mHOLD else mRUN

/-- A failure of bank 11 resets the device (R477). RET_STAT keeps it, and the call that made the entry gets no response. -/
def State.wakeReset (s : State) : State := s.resetAssert

/-- Boot at a wake from SLEEP or BIVOUAC (R480). -/
def State.wakeBoot (s : State) (k : StartKind) : State :=
  let s0 := s.retentionRestore
  if s.lostBanks.contains 11 then s0.wakeReset
  else
    let biv := k == .wakeBivouac
    let s1 := (s0.sourcesUp.railsUp).heldEnables
    let s2 := if biv then s1.flashBoot.settingsBoot else s1.showSettings
    let s3 := (((s2.setMode mLOAD).setTarget s2.wakeTarget).setF aSRC_CTL 9 8 0).setB (aPMU 0x4C) 2 false
    let s4 := if s3.rb (aSUP 0x24) 18 then s3.heartVin 2 else s3
    let s5 := if s4.power.shadowDrop then (s4.updPower fun p => { p with shadowDrop := false }).setErr 0x300 22 else s4
    let s6 := ({ s5 with pins := { s5.pins with tableApplied := true } }.showRepairs.showHeart).showRollback.settlePins
    let s7 := (s6.bootRange 0x0100 0x01FF).bootRange 0x0200 0x02FF
    let s8 := (if biv then s7 else s7.bootRange 0x0800 0x08FF).keepAon s6
    s8.railCfgWritten.updPower fun p => { p with lockWait := some k }

/-- The domains are up: the Guide boots, and link training is due while PERST_N is released (R350). -/
def State.bootNow (s0 : State) (k : StartKind) : State :=
  let s := s0.updHost fun h => { h with training := !s0.power.perst }
  match k with
  | .cold => s.coldBoot true
  | .reset => s.coldBoot false
  | .wakeSleep => s.wakeBoot k
  | .wakeBivouac => s.wakeBoot k

/-- The costs of the domains that a start powers, in order (R480, R482). -/
def domainCosts (k : StartKind) : List Nat :=
  match k with
  | .cold | .reset => [600, 300, 100, 200]
  | .wakeSleep => [600, 300, 100]
  | .wakeBivouac => [100, 600, 300, 100, 200]

/-- t0 of a start: the domains are powered, as the wake budget allows. -/
def State.startDomains (s : State) (k : StartKind) : State :=
  let (go, s1) := s.budgetRequest (domainCosts k) (.boot k)
  if go then s1.bootNow k else s1

/-! ### The wake budget goes on (R482) -/

/-- What follows the last step that waited. -/
def State.startNext (s : State) (n : StartNext) : State :=
  match n with
  | .boot k => s.bootNow k
  | .load k => s.startLoad k
  | .hold => s.loadHold
  | .grove => s.loadHold

/-- BUDGET_STEP: the first step that waits starts once the level covers it. -/
def State.budgetStep (s : State) : State :=
  match s.power.waiting with
  | [] => s
  | c :: l =>
    if !s.budgetCovers c then s
    else
      let s1 := ((s.updPower fun p => { p with waiting := l }).budgetDebit c).showBudgetStat
      match l, s1.power.next with
      | [], some n => (s1.updPower fun p => { p with next := none }).startNext n
      | _, _ => s1

/-! ### The starts -/

/-- VIN_GOOD: power-on reset ends, the straps are sampled, and the cold start begins (R454, R465, R467). -/
def State.vinGood (s : State) (vin : Nat) (straps : BitVec 3) : State :=
  if s.power.inReset ∧ s.power.cold ∧ s.power.next.isNone then
    (((s.setVin vin).setF (aSUP 0x2C) 18 16 straps.toNat).updPower fun p => { p with railsDown := false }).startDomains .cold
  else s

/-- DEVICE_RESET_END: a device reset ends (R461). The straps are those of the latest power-on reset. -/
def State.resetEnd (s : State) : State :=
  if s.power.inReset ∧ !s.power.cold ∧ !s.power.railsDown ∧ s.power.next.isNone then s.startDomains .reset else s

end Sys2Proof.Machine
end

