-- ==== Sys2Proof/Machine/Power.lean ====
section
/-! DEFINITION. Power-state entries, wakes, brace, HOLD and SERVICE, resets and rail faults (R18 to R25, R461 to R487). -/

namespace Sys2Proof.Machine

/-! ### Entries (R473 to R476) -/

/-- Why SVC_PWR_ENTER is refused (R473). -/
def State.enterRefusal (s : State) (target : Nat) : Option Nat :=
  match s.modeRefusal [mRUN, mHOLD] with
  | some r => some r
  | none => if s.loopsActive then some rcLOOPS_ACTIVE else if target ≠ mSLEEP ∧ s.isHot then some rcTEMP_INHIBIT else none

/-- t0 of an entry: TARGET is set, and what the latest sleep left is cleared. -/
def State.enterStart (s : State) (target : Nat) (c : Call) : State :=
  let s1 := ((s.setTarget target).setReg (aPMU 0x20) (BitVec.ofNat 32 target)).setReg (aPMU 0x44) 0
  (((s1.setB (aSUP 0x24) 18 false).debugEnd).pitchStop).updPower fun p => { p with entry := some { target, passed := 0, mode := s.mode, call := c } }

def State.setPassed (s : State) (n : Nat) : State :=
  (s.setF (aPMU 0x20) 11 8 n).updPower fun p => { p with entry := p.entry.map fun e => { e with passed := n } }

/-- The outputs of updates in flight are applied. -/
def State.enterLoop (s : State) : State := s.runningCtxs.foldl (fun (t : State) n => t.outputApply n) s

/-- AP0 to AP1: pins to their hold values, the fabric stopped, the rope left, the link down. -/
def State.enterPins (s : State) : State :=
  ((((s.setPassed 1).quiesceAll.holdFabric true).settlePins).ropeLeave.leaveDone).linkDown

/-- AP1 to AP2: the DRAM is in self-refresh, or for OFF disabled with its content given up. -/
def State.enterDram (s : State) (target : Nat) : State :=
  let s1 := s.setPassed 2
  if target ≠ mOFF then s1.selfRefresh false
  else ({ s1.drainWrites with dramMem := [] }.updDram fun m => { m with chk := [], lost := none, rows := [], selfRefresh := false }).setDramState dOFF

/-- The CRC-32 of a bank of zeros, as banks 14 and 15 hold (R477). -/
def zeroBankCrc : Word := 0x011FFCA6

/-- The signatures of the 16 banks are formed (R12, R477). The spec does not lay out the content of a bank, so that of banks 0 to
13 is open (log 84). -/
def State.signBanks (s : State) : State :=
  let (ws, s1) := s.freeWords 14
  s1.updPower fun p => { p with signatures := ws ++ [zeroBankCrc, zeroBankCrc] }

/-- AP2 to AP3: the copies into the retention banks with their signatures, and the heartwood update. OFF keeps no bank, so a
deferred commit is written before it (R4, R445, log 86). -/
def State.enterCopy (s : State) (target : Nat) : State :=
  let s1 := s.setPassed 3
  let s2 := if target ≠ mOFF ∧ s1.loop.commit.isSome then s1.groupAdmission else s1
  let s3 := if target = mOFF then s2.flushDeferred else (s2.updPower fun p => { p with shadowDrop := s2.shadowDiffers }).signBanks
  if target = mSLEEP then s3 else s3.heartCount true

/-- AP3 to AP4: event 0. -/
def State.enterArm (s : State) : State := ((s.setPassed 4).raise 0).settlePins

/-- MODE after a completed transition whose event has been raised before. -/
def State.modeDone (s : State) (m : Nat) : State := ((s.setF aMODE 11 8 s.mode).setF aMODE 3 0 m).setF aMODE 15 12 m

/-- AP4 has passed: every pin has reached its row by then (R342), and the domains go down. -/
def State.powerDown (s : State) (e : Entry) : State :=
  let s1 := (((s.settlePins.parksEnd).setPassed 5).modeDone e.target)
  let s2 := if s1.dramState = dTRAINING then s1.setDramState dOFF else s1
  if e.target = mOFF then
    let s3 := s2.cleared true false
    (s3.updPower fun p => { p with inReset := false, latched := some (s.time.now, s.ticks, s.rb aSRC_STAT 3) }).settlePins
  else
    let s3 := s2.domainsOff e.target
    (s3.updPower fun p => { p with entry := none, sleeper := some e.call, latched := none }).settlePins

/-- An entry is undone at the abort point it has not passed (R475): the steps taken are undone. `hold` says that a brace
stops it, at which pin hold and self-refresh stand (R476). -/
def State.undoEntry (s : State) (e : Entry) (hold : Bool) : State :=
  let s0 := (((s.setTarget e.mode).setB (aPMU 0x20) 16 true).updPower fun p => { p with entry := none, shadowDrop := false }).setErr 0x001 17
  let s1 := if 1 ≤ e.passed then
      let t := (s0.updHost fun h => { h with training := !s0.power.perst })
      let t1 := if t.pageEnable 0x540 ∧ (t.ropeState = rsOFF ∨ t.ropeState = rsBELAYED) then t.ropeListen else t
      if e.mode = mRUN ∧ !hold then t1.unquiesce.holdFabric false else t1
    else s0
  let s2 := if e.passed < 2 then s1
    else if e.target = mOFF then
      (if !s1.pageEnable 0x640 then s1 else if hold then (s1.setDramState dTRAINING).updDram fun m => { m with trainStopped := true } else s1.dramEnable)
    else if hold then s1.updDram fun m => { m with forBrace := m.selfRefresh }
    else s1.selfRefreshExit
  (s2.raise 6).settlePins

/-- SVC_PWR_ENTER, in which `passed` abort points pass before its command ends, at junction temperature tj: 5 when nothing stops
it. -/
def State.pwrEnter (s0 : State) (c : Call) (passed : Nat) (tj : Int) : State :=
  let s := s0.sampleTj tj
  let target := fld c.w2 1 0
  if target = 3 then s.longOnce 0x0501 c rcBAD_ARG 0 []
  else match s.enterRefusal target with
    | some r => s.longOnce 0x0501 c r 0 []
    | none =>
      let s1 := (s.startLong 0x0501 c).enterStart target c
      if passed = 0 then s1
      else
        let s2 := s1.enterLoop
        if s2.loopsActive then
          match s2.power.entry with
          | some e => (s2.undoEntry e false).endLong rcLOOPS_ACTIVE 0 []
          | none => s2
        else
          let s3 := s2.enterPins
          let s4 := if passed < 2 then s3 else s3.enterDram target
          let s5 := if passed < 3 then s4 else s4.enterCopy target
          let s6 := if passed < 4 then s5 else s5.enterArm
          if passed < 5 then s6
          else match s6.power.entry with
            | some e => s6.powerDown e
            | none => s6

/-- ENTRY_UNDO. -/
def State.entryUndo (s : State) : State :=
  match s.power.entry with
  | none => s
  | some e => (s.undoEntry e false).endLong rcABORTED e.passed []

/-! ### Wakes (R479, R480) -/

/-- WAKE_CAUSE records a cause: bit b, and the pin of the first pin cause. -/
def State.noteCause (s : State) (b : Nat) (pin : Option Nat) : State :=
  let s1 := match pin with
    | some n => if s.rb (aPMU 0x28) 4 then s else s.setF (aPMU 0x28) 25 16 n
    | none => s
  (s1.setB (aPMU 0x28) b true).setB (aPMU 0x28) 31 true

/-- A wake source is active. In a power state it latches the wake, whose retention check finds the banks of `fails`; during a
wake its cause is recorded beside the others. -/
def State.wakeSource (s : State) (b : Nat) (pin : Option Nat) (fails : BitVec 16) : State :=
  if s.power.waking then s.noteCause b pin
  else if s.power.inReset then s
  else if s.mode = mSLEEP ∨ s.mode = mBIVOUAC then
    let s1 := ((s.setReg (aPMU 0x28) 0).noteCause b pin).updPower fun p => { p with waking := true, wakeFails := fails, rebuildTime := true }
    let s2 := if s1.power.latched.isNone then s1.latchTime else s1
    s2.startDomains (if s.mode = mSLEEP then .wakeSleep else .wakeBivouac)
  else if s.mode = mOFF then
    let s1 := ((s.setReg (aPMU 0x28) 0).noteCause b pin).updPower fun p => { p with waking := true }
    (s1.setReg aMODE (BitVec.ofNat 32 (mRUN * 2 ^ 12 + mOFF * 2 ^ 8 + mLOAD))).startDomains .cold
  else s

/-- A wake source that arrives in a powered mode while the wake goes on, enabled by `en`: its cause is recorded beside the others (R479). -/
def State.lateCause (s : State) (b : Nat) (en : Bool) : State := if s.power.waking && en then s.noteCause b none else s

/-- WAKE_N has been low for 10 µs. -/
def State.wakeN (s : State) (fails : BitVec 16) : State := s.wakeSource 0 none fails

/-- PCFG.WAKE of pin n selects an edge: 1 rising, 2 falling, 3 both (R340). -/
def State.wakeSelects (s : State) (n : Nat) (rising : Bool) : Bool :=
  s.pinWake n == 3 || s.pinWake n == (if rising then 1 else 2)

/-- The device is in SLEEP, or a wake from SLEEP has gone on to LOAD (R479, R480). -/
def State.sleepPins (s : State) : Bool := s.mode == mSLEEP || (s.power.waking && s.mode == mLOAD && s.rf aMODE 11 8 == mSLEEP)

/-- PIN_WAKE: the edge has passed its filter; the pin is in SLEEP, or its wake goes on. -/
def State.pinWakeEdge (s : State) (n : Nat) (rising : Bool) (fails : BitVec 16) : State :=
  if n < 640 ∧ s.sleepPins ∧ s.rb (aPMU 0x24) 3 ∧ s.wakeSelects n rising then s.wakeSource 4 (some n) fails else s

/-- VIN_RESTORE, in SLEEP or BIVOUAC or before the wake from it ends. -/
def State.vinRestore (s : State) (fails : BitVec 16) : State :=
  if (s.mode = mSLEEP ∨ s.mode = mBIVOUAC ∨ s.power.sleeper.isSome) ∧ s.rb (aSUP 0x24) 18 ∧ s.rb (aPMU 0x24) 2 then s.wakeSource 3 none fails else s

/-- I2C_ADDRESS_MATCH (R356): acknowledged, a wake, or nothing. -/
def State.i2cMatch (s : State) (fails : BitVec 16) : State :=
  if s.power.inReset ∨ s.mode = mOFF ∨ !s.rb aI2C_CFG 8 then s.updHost fun h => { h with i2cAck := false }
  else if s.mode = mSLEEP ∨ s.mode = mBIVOUAC then
    let s1 := s.updHost fun h => { h with i2cAck := false }
    if s.rb aI2C_CFG 9 then
      let s2 := (s1.satAdd aI2C_STAT 15 0 1).setB aI2C_STAT 16 true
      if s.rb (aPMU 0x24) 0 then s2.wakeSource 1 none fails else s2
    else s1
  else s.i2cAck.lateCause 1 (s.power.sleeper.isSome && s.rb aI2C_CFG 9 && s.rb (aPMU 0x24) 0)

/-! ### Brace (R23 to R25, R462 to R464) -/

/-- What a brace does to a load: it stops at a frame boundary, or, past its final check, completes its release. One whose debit
still waits has changed nothing: an exit from SERVICE is given up with it. -/
def State.braceLoad (s : State) : State :=
  match s.cfg.load with
  | none => s
  | some l =>
    match l.phase with
    | .budget => (s.dropLoad).updPower fun p => { p with
        waiting := [], next := none, loopGroupDue := p.loopGroupDue && !l.service, loopCommitDue := p.loopCommitDue && !l.service }
    | .release => s.releaseRest l
    | _ => s.failLoad l ccBRACE none

/-- BRACE at VIN in units of 10 mV: the crossing below VIN_WARN. Before brace is armed only VIN_STAT shows it (R460, R486). -/
def State.brace (s : State) (vin : Nat) : State :=
  if !s.awake ∨ s.power.belowWarn then s
  else if !s.braceArmed then (s.setVin vin).setB (aSUP 0x24) 16 true
  else
    let s1 := (((s.setVin vin).setB (aSUP 0x24) 16 true).satAdd (aSUP 0x34) 31 16 1).updPower fun p => { p with
      belowWarn := true, braceDue := match p.braceDue with | some d => some d | none => some (s.time.now, vin) }
    let s2 := ((s1.setErr 0x002 16).raise 11).heartVin 0
    let s3 := match s2.power.entry with
      | some e => (s2.undoEntry e true).endLong rcABORTED e.passed []
      | none => s2
    let s4 := (s3.flashBrace.pitchStop.braceLoad).updCfg fun c => { c with readback := none }
    (((s4.abortLong).setHoldCause 18 true).toHold).dramBrace

/-- HEART_BRACE_WRITE. -/
def State.heartBraceWrite (s : State) (tj : Int) : State :=
  match s.power.braceDue with
  | some (t0, vin) => ((s.sampleTj tj).heartBrace t0 vin).updPower fun p => { p with braceDue := none }
  | none => s

/-- AUTO_HOLD_RELEASE (R24). -/
def State.autoRelease (s : State) : State :=
  if s.mode = mHOLD ∧ s.rb (aPMU 0x2C) 1 ∧ s.cause 18 ∧ !s.power.belowWarn ∧ !s.inTransition then (s.setHoldCause 18 false).leaveHold else s

/-! ### HOLD and SERVICE (R20, R24, R461) -/

/-- SVC_HOLD_ENTER. -/
def State.holdEnter (s : State) (c : Call) : State :=
  match s.modeRefusal [mRUN] with
  | some r => s.longOnce 0x0101 c r 0 []
  | none => ((s.setHoldCause 19 true).toHold).longOnce 0x0101 c rcOK 0 []

/-- SVC_HOLD_RELEASE. -/
def State.holdRelease (s : State) (c : Call) : State :=
  match s.modeRefusal [mHOLD] with
  | some r => s.longOnce 0x0102 c r 0 []
  | none =>
    if s.cause 17 then s.longOnce 0x0102 c rcNO_IMAGE 0 []
    else (((s.setHoldCause 18 false).setHoldCause 19 false).leaveHold).longOnce 0x0102 c rcOK 0 []

/-- SVC_SERVICE_ENTER. A fallback that has not started is given up. -/
def State.serviceEnter (s : State) (c : Call) : State :=
  match s.modeRefusal [mRUN, mHOLD] with
  | some r => s.longOnce 0x0103 c r 0 []
  | none => ((s.updCfg fun g => { g with fallbackFrom := none }).toService).longOnce 0x0103 c rcOK 0 []

/-- SVC_SERVICE_EXIT: the fabric is reloaded, and the loop group written and committed. The mode is SERVICE until t_hold
(R461). -/
def State.serviceExit (s : State) (c : Call) : State :=
  match s.modeRefusal [mSERVICE] with
  | some r => s.longOnce 0x0104 c r 0 []
  | none =>
    let s1 := (s.startLong 0x0104 c).updPower fun p => { p with loopGroupDue := true, loopCommitDue := true }
    s1.loadBank s1.presentBank true

/-! ### Resets (R461, R465, R468) -/

/-- The device is powered and out of reset, or its domains are coming up. -/
def State.powered (s : State) : Bool := !(s.power.inReset && s.power.cold && s.power.next.isNone)

/-- SVC_DEVICE_RESET: the DRAM is kept (R461). -/
def State.deviceReset (s : State) (c : Call) : State := ((s.startLong 0x0002 c).selfRefresh false).resetAssert

/-- RST_N_ASSERT. During a cold start that has not booted it starts that start again. -/
def State.rstN (s : State) : State := if s.power.cold then s else s.resetAssert

/-- RAIL_FAULT of rail 1 to 3: power-on reset is asserted and the rails go down. In BIVOUAC and OFF they are down. -/
def State.railFault (s : State) (rail : Nat) (above : Bool) : State :=
  if s.power.inReset ∨ s.mode = mBIVOUAC ∨ s.mode = mOFF ∨ rail = 0 ∨ 3 < rail then s
  else ((s.noteRailFault rail above).resetAssert).updPower fun p => { p with railsDown := true }

/-- RAIL_RETRY. -/
def State.railRetry (s : State) : State :=
  if s.power.inReset ∧ s.power.railsDown ∧ !s.power.cold then s.updPower fun p => { p with railsDown := false } else s

/-! ### Policy (R484) -/

/-- The registers of the PMU and SUPPLY pages with RW fields. -/
def policyRegs : List Nat := [aPMU 0x24, aPMU 0x2C, aPMU 0x38, aSUP 0x20, aSUP 0x28]

/-- SVC_PWR_POLICY. -/
def State.pwrPolicy (s : State) (c : Call) : State :=
  let a := (if bit c.w2 8 then pg 0x002 0 else pg 0x001 0) + fld c.w2 7 0
  let ro := BitVec.ofNat 32 (roBits a)
  let w := match regSpec a with | some r => BitVec.ofNat 32 r.writable | none => 0
  let bad := fld c.w2 31 16 != 0 || !policyRegs.contains a || (fieldRules a c.w3).any (fun r => r.breaks c.w3) || c.w3 &&& ~~~(w ||| ro) != 0
  if bad then s.answerCall 0x0502 c rcBAD_ARG 0 (c.w2 :: (if (regSpec a).isSome then [s.reg a] else []))
  else
    let s1 := s.applyWrite a rGuide c.w3 false
    let s2 := if a = aSUP 0x28 then s1.railCfgWritten else s1
    s2.answerCall 0x0502 c rcOK 0 [c.w2, s2.reg a]

/-- GUIDE_WAIT (R17, R472): the Guide stops its clock when nothing is left to do. -/
def State.guideWait (s : State) : State :=
  let busy := s.flash.op.isSome || s.cfg.load.isSome || s.cfg.readback.isSome || s.bist.running.isSome || s.power.braceDue.isSome ||
    !s.cfg.essBough.isEmpty || s.power.lockWait.isSome || s.bist.request.isSome ||
    s.bist.queue.any fun c => !c.waits && (decide (5 ≤ elemKind c.elem) || (!s.pitchBlocked && !s.pitchWaits c.elem))
  if s.mode = mRUN ∧ s.rb (aPMU 0x2C) 0 ∧ s.guideIdle ∧ !busy then s.setMode mIDLE else s

end Sys2Proof.Machine
end

