-- ==== Sys2Proof/Machine/SystemCalls.lean ====
section
/-! DEFINITION. The RTC, heartwood writes and reads, and the calls that answer from what the Guide holds (R51, R345, R530 to R540, R565, R566). -/

namespace Sys2Proof.Machine

/-! ### The calendar and the alarm (R534 to R538) -/

def maxCalendar : Nat := 2 ^ 40 - 1

/-- CALENDAR_SECOND at junction temperature tj. -/
def State.calendarSecond (s : State) (tj : Int) : State :=
  if s.power.cold then s
  else
    let c := s.rf (aRTC 0x30) 14 0
    let n := s.calendar
    let s1 := (s.setTicks ((s.ticks + (32768 - c)) % 2 ^ 48)).setReg (aRTC 0x30) 0
    let s2 := if n < maxCalendar then s1.setCalendar (n + 1) else s1
    let s3 := s2.setB (aRTC 0x24) 3 (n + 1 ≥ maxCalendar)
    if s3.awake then ((s3.sampleTj tj).heartSecond).debugSecond else s3

/-- ALARM: the calendar has reached ALARM with ALARM_EN = 1 (R537). In a power state it is a wake source, with the retention banks of
`fails` failing. -/
def State.alarm (s : State) (fails : BitVec 16) : State :=
  if s.power.inReset ∨ !s.rb (aRTC 0x20) 0 ∨ s.calendar < s.alarmAt then s
  else
    let s1 := s.setB (aRTC 0x20) 0 false
    if s.awake then ((s1.setErr 0x003 16).raise 118).lateCause 2 (s.rb (aPMU 0x24) 1)
    else
      let s2 := s1.setB (pg 0x003 0x00C) 16 true
      if s2.rb (aPMU 0x24) 1 then s2.wakeSource 2 none fails else s2

/-- SVC_CALENDAR_SET: the call ends at the next tick, with its COUNT entry (R538). -/
def State.calendarSet (s0 : State) (c : Call) (tj : Int) : State :=
  let s := s0.sampleTj tj
  if fld c.w3 31 8 ≠ 0 then s.answerCall 0x0802 c rcBAD_ARG 0 []
  else
    let s1 := (s.setCalendar (c.w2.toNat + fld c.w3 7 0 * 2 ^ 32)).setTicks ((s.ticks + 1) % 2 ^ 48)
    let s2 := ((s1.setReg (aRTC 0x30) 0).setReg (aRTC 0x24) 1).raise 119
    let s3 := s2.alarmNow
    (s3.heartCount false).answerCall 0x0802 c rcOK 0 [s3.reg (aRTC 0x28), s3.reg (aRTC 0x2C)]

/-! ### The heartwood (R530 to R532, R539) -/

/-- HEART_COUNT_WRITE. -/
def State.heartCountWrite (s : State) (tj : Int) : State := if s.awake then (s.sampleTj tj).heartCount false else s

/-- HEART_DEFERRED_WRITE. -/
def State.heartDeferredWrite (s : State) (tj : Int) : State := if s.awake then (s.sampleTj tj).heartLate else s

/-- HEART_REBASE: fewer than 128 free lines remain. -/
def State.heartRebaseDue (s : State) (tj : Int) : State :=
  if s.awake ∧ s.heartFree < 128 then (s.sampleTj tj).heartWrite State.heartRebase else s

/-- The data of a part of the working copy. -/
def State.heartPart (s : State) (part piece : Nat) : Option (List Byte) :=
  match part with
  | 0 => some (countData s.heart.work.count s.calendar s.calState)
  | 1 => if piece < 16 then some (pieceData s.heart.work piece) else none
  | 2 => some (repairsData s.heart.work)
  | 3 => some (failsData s.heart.work)
  | _ => none

/-- SVC_HEART_READ. -/
def State.heartRead (s : State) (c : Call) : State :=
  match s.heartPart (fld c.w2 3 0) (fld c.w2 15 8) with
  | none => s.answerCall 0x0801 c rcBAD_ARG 0 []
  | some d =>
    let a := bufferOf c.w3 c.w4
    let (e, s1) := s.putBuffer a d
    match e with
    | some k => s1.answerCall 0x0801 c k 0 []
    | none =>
      if a = 0 then
        let (w, s2) := s1.inlineWords d
        s2.answerCall 0x0801 c rcOK 0 ([BitVec.ofNat 32 (min 16 d.length), s.heart.seq] ++ w)
      else s1.answerCall 0x0801 c rcOK 0 [BitVec.ofNat 32 d.length, s.heart.seq]

/-! ### SVC_INFO, SVC_PAGE_OWNER and SVC_PIN_OWNER (R345, R565, R566) -/

/-- SVC_INFO. -/
def State.svcInfo (s : State) (c : Call) : State :=
  let patch : Word := if s.flash.patchSlot = 0 then 0 else s.flash.patchVersion
  let lc := s.reg (aLC 0x20) &&& 0xF07
  s.answerCall 0x0001 c rcOK 0 [Config.romVersion, patch, lc, s.reg aMODE, BitVec.ofNat 32 idcode, 0]

/-- IDs that make no register accesses (R566). -/
def ownerBad (id : Nat) : Bool := (4 ≤ id && id ≤ 7) || (0x010 ≤ id && id ≤ 0x1FF)

/-- SVC_PAGE_OWNER. -/
def State.pageOwnerCall (s : State) (c : Call) : State :=
  let p := fld c.w2 11 0
  let id := fld c.w3 9 0
  let own := s.pageOwner p
  let r := if !pageAssigned p || fld c.w2 31 12 != 0 || fld c.w3 31 10 != 0 || ownerBad id then rcBAD_ARG
    else if (pageInfo p).fixed then rcFIXED
    else if own ≠ 0 ∧ own ≠ c.caller.toNat then rcNOT_PERMITTED else rcOK
  let s1 := if r = rcOK then s.setF (pg p 0x014) 9 0 id else s
  s1.answerCall 0x0003 c r 0 [c.w2, s1.reg (pg p 0x014)]

/-- SVC_PIN_OWNER. -/
def State.pinOwnerCall (s : State) (c : Call) : State :=
  let (r, n, first, s1) := s.pinOwners (fld c.w2 9 0) (fld c.w2 25 16) (fld c.w3 2 0)
  let s2 := if r = rcBAD_ARG then s1 else s1.settlePins
  s2.answerCall 0x0004 c r 0 (if r = rcBAD_ARG then [] else [BitVec.ofNat 32 n, BitVec.ofNat 32 first])

/-- XTAL_FAIL: a failure that the carried time must reckon with is remembered; in a power state only the AON fields are there to
change (R142, R481). -/
def State.xtalFailed (s : State) : State :=
  if !s.rb aSRC_STAT 3 then s
  else
    let s1 := if s.awake then s.xtalFail
      else ((s.setB aSRC_STAT 2 false).setB aSRC_STAT 3 false).updClocks fun c => { c with xtalFailed := true }
    s1.updPower fun p => { p with xtalLapse := true }

end Sys2Proof.Machine
end

