-- ==== Sys2Proof/Machine/Act.lean ====
section
/-! DEFINITION. How a command acts: its effect on everything but the queue, and the conditions that commands share. -/

namespace Sys2Proof.Machine

/-- Every command answers a next state: its effect, with the queue as it stands. -/
def State.act (s : State) (f : State → State) : Host.Outcome State Fault Refusal := .next ((f s).withPending s.pending)

/-- The effect f where the condition holds; where it does not, the command is not the device's and changes nothing (log 3). -/
def State.actWhen (s : State) (c : Bool) (f : State → State) : Host.Outcome State Fault Refusal := s.act fun t => if c then f t else t

/-- A command of the device powered, out of reset, and in IDLE, RUN, LOAD, HOLD or SERVICE. -/
def State.actLive (s : State) (f : State → State) : Host.Outcome State Fault Refusal := s.actWhen s.awake f

/-- The device is awake and device time runs (R166). -/
def State.timed (s : State) : Bool := s.awake && s.time.running

/-- A command of a block that runs on device time. -/
def State.actTimed (s : State) (f : State → State) : Host.Outcome State Fault Refusal := s.actWhen s.timed f

/-- VIN stands: the device is powered, in reset or out of it. -/
def State.supplied (s : State) : Bool := !(s.power.inReset && s.power.cold)

/-- A service call: the Guide is awake and carries it out as R329 says. -/
def State.actCall (s : State) (svc : Nat) (c : Call) (body : State → State) : Host.Outcome State Fault Refusal :=
  s.actLive fun t => t.serve svc c body

/-- A local write by requester r to byte offset a. -/
def State.actWrite (s : State) (r : ReqId) (a : Nat) (v : Word) : Host.Outcome State Fault Refusal :=
  s.act fun t => t.localWrite r.toNat a v

/-- A local read by requester r of byte offset a. -/
def State.actRead (s : State) (r : ReqId) (a : Nat) : Host.Outcome State Fault Refusal := s.act fun t => t.localRead r.toNat a

end Sys2Proof.Machine
end

