-- ==== Sys2Proof/Machine/RopeServe.lean ====
section
/-! DEFINITION. Remote access over the rope as its origin makes it (R293, R296, R326) and as its destination serves it (R295, R297, R299, R301). -/

namespace Sys2Proof.Machine

/-! ### The origin (R293, R296) -/

/-- The key of a staged EQ_LO for requester r, node n and the page of a. -/
def eqStageKey (r n a : Nat) : Nat := (r * 1024 + n) * 4096 + a / 0x1000

/-- The mailbox and its register offset, when a lies in the block of one. -/
def mbxOf (a : Nat) : Option (Nat × Nat) :=
  if 0x008 ≤ a / 0x1000 ∧ a / 0x1000 ≤ 0x00F ∧ 0x100 ≤ a % 0x1000 ∧ a % 0x1000 < 0x500 then
    some (4 * (a / 0x1000 - 0x008) + (a % 0x1000 - 0x100) / 0x100, a % 0x100)
  else none

def isEqLo (a : Nat) : Bool := 0x100 ≤ a / 0x1000 && a / 0x1000 ≤ 0x1FF && a % 0x1000 == 0x028
def isEqHi (a : Nat) : Bool := 0x100 ≤ a / 0x1000 && a / 0x1000 ≤ 0x1FF && a % 0x1000 == 0x02C

/-- A remote write by requester r to node n. -/
def State.remoteWrite (s : State) (r n a : Nat) (v : Word) : State :=
  let plain (pair : Option Word) : State := s.ropeIssue n r a (.wrReq (BitVec.ofNat 24 a) v false pair 0)
  if isEqLo a then s.updRope fun x => { x with stagedEq := SMap.set (fun _ => 0) x.stagedEq (eqStageKey r n a) v }
  else if isEqHi a then plain (some (SMap.get (fun _ => 0) s.rope.stagedEq (eqStageKey r n a)))
  else match mbxOf a with
    | some (m, o) =>
      if 16 ≤ m ∧ 0x20 ≤ o ∧ o < 0x40 then
        s.updRope fun x => { x with stagedTx := SMap.set (fun _ => 0) x.stagedTx (txStageKey r n m ((o - 0x20) / 4)) v }
      else if 16 ≤ m ∧ o = 0x40 then
        s.ropeMessage n m r ((List.range 8).map fun w => SMap.get (fun _ => 0) s.rope.stagedTx (txStageKey r n m w))
      else plain none
    | none => plain none

/-- An access of the host or of a fabric bus port to node n (R293). A write with byte enables missing is refused before
any frame (log 41). -/
def State.remoteAccess (s : State) (r n a : Nat) (full : Bool) (k : AccessKind) : State :=
  if !(s.reaches r && (r == rHost || (0x008 ≤ r && r ≤ 0x00F))) then s
  else if s.isOwnId n then
    match k with
    | .read => s.localRead r a
    | .write v => (s.writeReg r a full v).2
  else
    match k with
    | .read =>
      if s.ropeOff then s.accFail acNO_ROUTE r n a true else s.remoteRead r n a
    | .write v =>
      if s.ropeOff then s.accFail acNO_ROUTE r n a false
      else if full then s.remoteWrite r n a v else s

/-! ### The destination (R295, R297) -/

/-- The requester ID of node n in local records (R31). -/
def remoteReq (n : Nat) : Nat := 0x200 + n

def State.setPeer (s : State) (n : Nat) (p : Peer) : State := s.updRope fun r => { r with peers := SMap.insert r.peers n p }

/-- The pair state this node holds for origin n; none while its EPOCH is unknown. -/
def State.peer (s : State) (n : Nat) : Option Peer := (s.rope.peers.find? fun e => e.1 == n).map (·.2)

/-- A new EPOCH of origin n drops the pair state held for it (R299). -/
def State.peerEpoch (s : State) (n : Nat) (e : BitVec 16) : State :=
  let s0 := s.noteEpoch n e
  match s0.peer n with
  | some p => if p.epoch = e then s0 else (s0.updRope fun r => { r with peers := SMap.erase r.peers n }).raise 74
  | none => s0

/-- The request has been performed with this response: X advances, the response is stored with the 63 before it. -/
def State.performed (s : State) (f : AccFrame) (e : BitVec 16) (b : AccBody) : State :=
  let n := f.src.toNat
  let p := (s.peer n).getD {}
  let x := f.seq + 1
  let old := p.stored.filter fun t => ((x - BitVec.ofNat 12 t.1).toNat ≤ 64)
  (s.setPeer n { epoch := e, expect := x, stored := SMap.insert old f.seq.toNat b, refused := p.refused }).answer f b

/-- A request of origin n is taken as R297 says; `run` performs it. One with SYNC = 1 whose response is stored is a request sent again: it takes effect once
(R300), and its response is sent again (DEDUCED, log 123). -/
def State.takeRequestFrame (s : State) (f : AccFrame) (sync : Bool) (e : BitVec 16) (run : State → AccBody × State) : State :=
  let n := f.src.toNat
  let s1 := s.peerEpoch n e
  let go (t : State) : State :=
    let (b, u) := run t
    u.performed f e b
  let resync (t : State) : State := t.answer f (.nak 2 t.ownEpoch)
  let known := (s1.peer n).bind fun p => p.stored.find? fun t => t.1 == f.seq.toNat
  if sync then match known with
  | some (_, b) => s1.answer f b
  | none => go (match s1.peer n with
      | some p => s1.setPeer n { p with refused := [] }
      | none => s1)
  else match s1.peer n with
    | none => resync s1
    | some p =>
      let d := (f.seq - p.expect).toNat
      if d = 0 then go s1
      else if d ≤ 63 then s1.queueFrame { dst := f.src, src := BitVec.ofNat 9 s1.ownId, seq := 0, ack := p.expect, passed := false,
                                          body := .nak 1 s1.ownEpoch }
      else if 4032 ≤ d then
        match p.stored.find? fun t => t.1 == f.seq.toNat with
        | some (_, b) => s1.answer f b
        | none => s1
      else resync s1

/-- A read for a remote origin: the register and those its read latches, in one access, with no state kept here (R296). -/
def State.readRemote (s : State) (n a : Nat) : AccBody × State :=
  let r := remoteReq n
  let (v, s1) := s.readReg r a
  let cs := companions a
  let vals := cs.map fun c => (s1.snap (localSnap r c)).getD 0
  let s2 := cs.foldl (fun t c => t.dropSnap (localSnap r c)) s1
  (.rdRsp v (if a % 4 ≠ 0 then 3 else 0) (if a % 4 ≠ 0 then [] else vals) s.ownEpoch, s2)

/-- A write for a remote origin: with PAIR the staged low word goes with it. -/
def State.writeRemote (s : State) (n a : Nat) (v : Word) (pair : Option Word) : AccBody × State :=
  let r := remoteReq n
  match pair with
  | some lo =>
    if isEqHi a then
      let p := a / 0x1000 - 0x100
      let (st, s1) := (s.stageLow p r lo).writeReg r a true v
      let u := s1.edgeUnit p
      (.wrAck (BitVec.ofNat 8 st) s.ownEpoch, s1.setEdge p { u with stage := SMap.erase u.stage r })
    else
      let (st, s1) := s.writeReg r a true v
      (.wrAck (BitVec.ofNat 8 st) s.ownEpoch, s1)
  | none =>
    let (st, s1) := s.writeReg r a true v
    (.wrAck (BitVec.ofNat 8 st) s.ownEpoch, s1)

/-- A message for mailbox m from node n. After a refusal every later one of the pair is refused alike (R301). -/
def State.postRemote (s : State) (n m : Nat) (e : BitVec 16) (words : List Word) : AccBody × State :=
  let p := (s.peer n).getD {}
  match p.refused.find? fun x => x.1 == m with
  | some (_, st) => (.mbxAck (BitVec.ofNat 8 st) s.ownEpoch, s.postResult m (remoteReq n) (if st = 5 then resFull else resNotSender) 0)
  | none =>
    let (res, s1) := s.mbTryPost m (remoteReq n) e words
    if res = resOk then (.mbxAck 0 s.ownEpoch, s1)
    else
      let st := if res = resFull then 5 else 7
      let q := (s1.peer n).getD { epoch := e }
      (.mbxAck (BitVec.ofNat 8 st) s.ownEpoch, s1.setPeer n { q with refused := SMap.insert q.refused m st })

/-- A frame arrives at a port (R256). One with a bad header is discarded by the first node that sees it, one with a bad CRC-32 by its
destination, and each counts in CRC_ERR of the port; a node that only passes a frame leaves it alone. The receiver of a disabled port counts as
faulty (R274). -/
def State.frameArrives (s : State) (port : RopePort) (c : FrameCheck) (mine : Bool) (act : State → State) : State :=
  if s.ropeOff || !s.pageEnable (portPage port) || c == .other then s
  else if c == .whole then act (s.heard port)
  else if c == .head || mine then (s.heard port).satAdd (pg (portPage port) 0x02C) 31 0 1
  else s.heard port

/-- The frame is for this node: it names the own ID and the node has joined, or the ID of the branch rope that the node leads (R252, R271). -/
def State.forMe (s : State) (f : AccFrame) : Bool :=
  (f.dst.toNat == s.ownId && ([rsJOINED, rsLEAVING, rsLEADING] : List Nat).contains s.ropeState) ||
    (s.isAnchor && s.branchActive && f.dst.toNat == s.brRope * 64)

/-- The destination receives RD_REQ. -/
def State.rdReqRx (s : State) (f : AccFrame) : State :=
  match f.body with
  | .rdReq a sync e => if s.forMe f then s.takeRequestFrame f sync e (·.readRemote f.src.toNat a.toNat) else s
  | _ => s

/-- The destination receives WR_REQ. -/
def State.wrReqRx (s : State) (f : AccFrame) : State :=
  match f.body with
  | .wrReq a v sync pair e => if s.forMe f then s.takeRequestFrame f sync e (·.writeRemote f.src.toNat a.toNat v pair) else s
  | _ => s

/-- The destination receives an MBX frame. -/
def State.mbxRx (s : State) (f : AccFrame) : State :=
  match f.body with
  | .mbx m sync e words => if s.forMe f then s.takeRequestFrame f sync e (·.postRemote f.src.toNat m.toNat e words) else s
  | _ => s

/-- The origin receives MBX_ACK; a refused reply of the Guide waits to be sent again (R329). -/
def State.mbxAckIn (s : State) (f : AccFrame) : State :=
  match f.body with
  | .mbxAck st e =>
    if !s.forMe f then s
    else
      let (q, s1) := s.mbxAckRx f.src.toNat f.ack st.toNat e
      match q with
      | some q =>
        match q.body with
        | .mbx m _ _ words =>
          (match q.reply with
          | some (c, _) =>
            if q.requester.toNat = rGuide ∧ st ≠ 0 then
              s1.updGuide fun g => { g with ropeHeld := g.ropeHeld ++ [{ call := { c with replyNode := f.src, replyMbx := m }, words }] }
            else s1
          | none => s1)
        | _ => s1
      | none => s1
  | _ => s

end Sys2Proof.Machine
end

