-- ==== Sys2Proof/Machine/Commands.lean ====
section
/-! DEFINITION. Operations of single commands: TLPs, commit transfers, PPS_IN, crossings, errors of block memories, host resets, frames that
arrive, and the JTAG port. -/

namespace Sys2Proof.Machine

/-! ### TLPs to BAR0 and BAR2 (R48, R348, R353) -/

/-- A TLP of the host: a poisoned write is dropped with POISON_RX, and one of more than 16 dwords is not carried out. -/
def State.tlp (s : State) (r : Nat) (dwords : Nat) (poisoned read : Bool) (f : State → State) : State :=
  if r ≠ rHost then f s
  else if !s.reaches rHost then s
  else if 16 < dwords then
    let s1 := s.setErr 0x600 20
    if read then { s1 with lastUr := true } else s1
  else if poisoned then s.setErr 0x600 19
  else f s

/-! ### Commit transfers (R41, R46) -/

/-- The update event of page p: a commit that is pending transfers. The admission test ends the commits of loop pages. -/
def State.commitUpdate (s : State) (p : Nat) : State :=
  if !s.commitPending p then s
  else match (pageInfo p).kind with
    | .time => if s.timeAtOnce then s.timeTransfer else s
    | .edge => s.edgeCommit (p - 0x100)
    | .loop => s
    | .loopctx => s
    | .psel => (s.commitTransfer p).settlePins
    | .rtc => (s.commitTransfer p).alarmNow
    | _ => s.commitTransfer p

/-- A commit transfer of the TIME page with OP = op. While the servo runs it waits for a measurement (R167). -/
def State.timeOp (s : State) (op : Nat) : State :=
  if s.timeAtOnce && s.commitPending 0x018 && fld (s.shadow (aTIME 0x40)) 1 0 == op then s.timeTransfer else s

/-! ### PPS_IN (R169) and the servo -/

/-- A rising edge on PPS_IN at device time t. -/
def State.ppsEdge (s : State) (t : DevTime) : State :=
  let s1 := (s.setReg (aTIME 0x50) (BitVec.ofNat 32 (nsOf t))).setReg (aTIME 0x54) (BitVec.ofNat 32 (nsOf t / 2 ^ 32))
  (s1.setReg (aTIME 0x58) (BitVec.ofNat 32 (fracOf t))).raiseAt 83 t

/-- The servo takes a measurement of the reference PPS. That of ROPE is taken as the cycle frame arrives (R277). -/
def State.servoMeasure (s : State) : State :=
  if s.servoRuns && s.refSrc == 1 then
    let (u, t) := s.ppsAt
    t.measure (t.ppsOffset u)
  else s

/-! ### Crossings and events (R157, R307, R308) -/

/-- An event arrives at a crossing. -/
def State.crossing (s : State) (k : CrossTarget) : State :=
  match k with
  | .down b u => s.eventArrival b.toNat u.toNat
  | .fabricEvent j => s.fabricEventLaunch (256 + j.toNat)
  | .line j => s.lineDeliver j.toNat

/-- A fabric event that was launched leaves its crossing and is raised, with the time of its delivery, whatever has been masked since (R307). -/
def State.fabricEvent (s : State) (e : Nat) : State :=
  if !SMap.get (fun _ => false) s.evt.launched e then s
  else { s with evt := { s.evt with launched := SMap.set (fun _ => false) s.evt.launched e false } }.raiseAt e s.time.now

/-- A memory of a bough out of hold is in ECC mode, which only ×72 has (R122, R127), and no pitch locks its ports. -/
def State.eccLive (s : State) (b n : Nat) : Bool :=
  let c := (s.bough b).cfg.bramAt n
  s.tmode b != 0 && !s.held b && c.ecc && c.a.width == 6 && !s.portsLocked b n

/-- A row in ECC mode with one bit upset, or with two, which a free choice v names: a codeword before (DESIGN CHOICE, log 122). -/
def upsetRow (r : BitVec 72) (v : Nat) (two : Bool) : BitVec 72 :=
  let p := v % 128 % 72
  let q := (p + 1 + v / 128 % 71) % 72
  eccRow (BitVec.ofNat 64 r.toNat) ^^^ BitVec.ofNat 72 (2 ^ p) ^^^ (if two then BitVec.ofNat 72 (2 ^ q) else 0)

/-- A read of row `row` of memory n of bough b flags an error that an upset has made (R128, R493): SBE or DBE rises with the latency of DOUT, and a later
read of the word repeats the flags, for the row keeps the upset. -/
def State.bramError (s : State) (b n row : Nat) (dbe : Bool) : State :=
  if !s.eccLive b n then s
  else
    let lead := s.cascadeLead b n
    let late := ((s.bough b).cfg.bramAt lead).b.outReg && !s.handshake b
    let s1 := (s.eccReport b n row dbe).drawRow b n row
    let (v, s2) := s1.free 16
    let upset := upsetRow (rowAt ((s2.bough b).bramAt n).rows row) v.toNat dbe
    let w := (eccRead upset).1
    (s2.updBough b fun x =>
      let y := x.setBram n { x.bramAt n with rows := SMap.set (fun _ => 0) (x.bramAt n).rows row upset }
      let m := y.bramAt lead
      y.setBram lead (if late then { m with sbeReg := !dbe, dbeReg := dbe, regA := lowHalf w, regB := highHalf w }
        else { m with sbe := !dbe, dbe := dbe, doutA := lowHalf w, doutB := highHalf w })).propagate

/-! ### Host-side resets (R350) -/

/-- PERST_N is asserted. -/
def State.perstAssert (s : State) : State :=
  let s1 := s.updPower fun p => { p with perst := true }
  if s.awake then s1.hostSideReset true else s1

/-- PERST_N is released. -/
def State.perstRelease (s : State) : State :=
  let s1 := s.updPower fun p => { p with perst := false }
  if s.awake then s1.updHost fun h => { h with training := true } else s1

/-! ### Frames that arrive over the rope (R256, R297) -/

/-- What a frame does as it arrives, with the check that an error of the link queues (R493). -/
def State.frameIn (s : State) (port : RopePort) (c : FrameCheck) (mine : Bool) (act : State → State) : State :=
  (s.frameArrives port c mine act).linkChecks s

/-- An access frame arrives with header and CRC-32 w. -/
def State.accessIn (s : State) (port : RopePort) (f : AccFrame) (w : Wire) (act : State → State) : State :=
  s.frameIn port (accCheck f w) (s.forMe f) act

/-- The origin receives RD_RSP. -/
def State.rdRspIn (s : State) (f : AccFrame) : State :=
  match f.body with
  | .rdRsp d _ l e => if s.forMe f then s.rdRspRx f.src.toNat f.ack d l e else s
  | _ => s

/-- The origin receives WR_ACK. -/
def State.wrAckIn (s : State) (f : AccFrame) : State :=
  match f.body with
  | .wrAck st e => if s.forMe f then s.wrAckRx f.src.toNat f.ack st.toNat e else s
  | _ => s

/-- The origin receives NAK. -/
def State.nakIn (s : State) (f : AccFrame) : State :=
  match f.body with
  | .nak k e => if s.forMe f then s.nakRx f.src.toNat f.ack k.toNat e else s
  | _ => s

/-- The rope carries frames of this node, or the operation does nothing. -/
def State.onRope (s : State) (f : State → State) : State := if s.ropeOff then s else f s

/-! ### DRAM requests of the fabric ports (R362) -/

/-- A request on fabric port p, whose class is that of its port. A beat carries 32 byte enables and 32 bytes, of the half of its line that
ADDR[5] names. -/
def State.portRequest (s : State) (p a : Nat) (write line : Bool) (be : BitVec 64) (data : BitVec 512) (close fence : Bool) (tag : BitVec 6) : State :=
  let up := if line then 0 else 32 * (a % 2)
  s.fabricRequest { port := p, addr := 32 * a, write, line, close
                    be := if line then be else BitVec.ofNat 64 (be.toNat % 2 ^ 32 * 2 ^ up)
                    data := if line then data else BitVec.ofNat 512 (data.toNat % 2 ^ 256 * 2 ^ (8 * up))
                    fence, tag, cls := s.rf (aPORTS (0x100 + 4 * p)) 1 0, seq := 0 }

/-! ### The register that a clock site switches by (R148, R150) -/

def clkSiteReg (k : ClkSite) : Nat :=
  match k with
  | .bclk b c => aBCLK b.toNat c.toNat
  | .root r => aROOT r.toNat
  | .guide => aSRC_CTL

/-- Instruction register codes that R522 lists. -/
def jtagListed (code : Nat) : Bool := [1, 2, 3, 4, 5, 0x20, 0x21].contains code

/-- A JTAG boundary-scan instruction with the cells shifted in. -/
def State.jtagScan (s : State) (code : Nat) (cells : List (BitVec 10 × Bool × Bool)) : State :=
  (s.scanUpdate (cells.map fun c => (c.1.toNat, c.2))).jtagIr code

end Sys2Proof.Machine
end

