-- ==== Sys2Proof/Machine/ExecAccess.lean ====
section
/-! DEFINITION. Remote access over the rope: the meaning of each command, one definition a row. -/

namespace Sys2Proof.Machine

/-- REMOTE_ACCESS (R293). -/
def execRemoteAccess (r : ReqId) (n : BitVec 9) (addr : BitVec 24) (full : Bool) (k : AccessKind) (dwords : BitVec 8) (poisoned : Bool) (s : State) : Host.Outcome State Fault Refusal :=
  s.act fun t => t.tlp r.toNat dwords.toNat (poisoned && k != .read) (k == .read) (fun u => u.remoteAccess r.toNat n.toNat addr.toNat full k)

/-- ACCESS_FRAME_SEND (R261). -/
def execAccessFrameSend (s : State) : Host.Outcome State Fault Refusal :=
  s.actLive fun t => t.onRope State.frameSend

/-- RD_REQ_RX (R295). -/
def execRdReqRx (port : RopePort) (f : AccFrame) (w : Wire) (s : State) : Host.Outcome State Fault Refusal :=
  s.actLive fun t => t.accessIn port f w (·.rdReqRx f)

/-- WR_REQ_RX (R295). -/
def execWrReqRx (port : RopePort) (f : AccFrame) (w : Wire) (s : State) : Host.Outcome State Fault Refusal :=
  s.actLive fun t => t.accessIn port f w (·.wrReqRx f)

/-- MBX_RX (R326). -/
def execMbxRx (port : RopePort) (f : AccFrame) (w : Wire) (s : State) : Host.Outcome State Fault Refusal :=
  s.actLive fun t => t.accessIn port f w (·.mbxRx f)

/-- RD_RSP_RX (R297). -/
def execRdRspRx (port : RopePort) (f : AccFrame) (w : Wire) (s : State) : Host.Outcome State Fault Refusal :=
  s.actLive fun t => t.accessIn port f w (·.rdRspIn f)

/-- WR_ACK_RX (R302). -/
def execWrAckRx (port : RopePort) (f : AccFrame) (w : Wire) (s : State) : Host.Outcome State Fault Refusal :=
  s.actLive fun t => t.accessIn port f w (·.wrAckIn f)

/-- MBX_ACK_RX (R326). -/
def execMbxAckRx (port : RopePort) (f : AccFrame) (w : Wire) (s : State) : Host.Outcome State Fault Refusal :=
  s.actLive fun t => t.accessIn port f w (·.mbxAckIn f)

/-- NAK_RX (R298). -/
def execNakRx (port : RopePort) (f : AccFrame) (w : Wire) (s : State) : Host.Outcome State Fault Refusal :=
  s.actLive fun t => t.accessIn port f w (·.nakIn f)

/-- RETX_TIMEOUT (R298). -/
def execRetxTimeout (n : BitVec 9) (s : State) : Host.Outcome State Fault Refusal :=
  s.actLive fun t => t.onRope (·.retxTimeout n.toNat)

/-- POS0_PASS (R301). -/
def execPos0Pass (br : Bool) (f : AccFrame) (s : State) : Host.Outcome State Fault Refusal :=
  s.actLive fun t => t.onRope (·.pos0Pass br f)

/-- FRAME_FORWARD (R262). -/
def execFrameForward (fromBranch : Bool) (f : AccFrame) (s : State) : Host.Outcome State Fault Refusal :=
  s.actLive fun t => t.onRope (·.frameForward fromBranch f)

end Sys2Proof.Machine
end

