-- ==== Sys2Proof/Machine/ExecClock.lean ====
section
/-! DEFINITION. Clock sources, PLLs, switches and gates: the meaning of each command, one definition a row. -/

namespace Sys2Proof.Machine

/-- PLL_ENABLE (R144). -/
def execPllEnable (r : ReqId) (p : BitVec 3) (v : Word) (s : State) : Host.Outcome State Fault Refusal :=
  s.actWrite r (aPLL p.toNat 0) (setBit v 0 true)

/-- PLL_DISABLE (R144). -/
def execPllDisable (r : ReqId) (p : BitVec 3) (v : Word) (s : State) : Host.Outcome State Fault Refusal :=
  s.actWrite r (aPLL p.toNat 0) (setBit v 0 false)

/-- PLL_LOCK (R144). -/
def execPllLock (p : BitVec 3) (s : State) : Host.Outcome State Fault Refusal :=
  s.actLive fun t => t.pllLocked p.toNat

/-- PLL_LOSS_OF_LOCK (R144). -/
def execPllLossOfLock (p : BitVec 3) (s : State) : Host.Outcome State Fault Refusal :=
  s.actLive fun t => t.pllLoss p.toNat

/-- REFCLK_LOSS (R141). -/
def execRefclkLoss (s : State) : Host.Outcome State Fault Refusal :=
  s.actLive fun t => t.refclkLoss

/-- TPLL_RELOCK (R174). -/
def execTpllRelock (s : State) : Host.Outcome State Fault Refusal :=
  s.actLive fun t => t.tpllRelock

/-- TIMING_PLL_LOCK (R166). -/
def execTimingPllLock (s : State) : Host.Outcome State Fault Refusal :=
  s.act fun t => t.timingLocked

/-- XTAL_START (R142). -/
def execXtalStart (s : State) : Host.Outcome State Fault Refusal :=
  s.act fun t => t.xtalStart

/-- XTAL_FAIL (R142). -/
def execXtalFail (s : State) : Host.Outcome State Fault Refusal :=
  s.act fun t => t.xtalFailed

/-- CLOCK_SWITCH (R151). -/
def execClockSwitch (r : ReqId) (k : ClkSite) (v : Word) (s : State) : Host.Outcome State Fault Refusal :=
  s.actWrite r (clkSiteReg k) v

/-- CLOCK_SWITCH_DONE (R151). -/
def execClockSwitchDone (k : ClkSite) (s : State) : Host.Outcome State Fault Refusal :=
  s.actLive fun t => t.switchDone k

/-- DIV_WRITE (R153). -/
def execDivWrite (r : ReqId) (b : BitVec 7) (ch : BitVec 3) (v : Word) (s : State) : Host.Outcome State Fault Refusal :=
  s.actWrite r (aBCLK b.toNat ch.toNat) v

/-- BCLK_GATE (R154). -/
def execBclkGate (r : ReqId) (b : BitVec 7) (ch : BitVec 3) (v : Word) (s : State) : Host.Outcome State Fault Refusal :=
  s.actWrite r (aBCLK b.toNat ch.toNat) v

/-- ROOT_GATE (R154). -/
def execRootGate (r : ReqId) (n : BitVec 4) (v : Word) (s : State) : Host.Outcome State Fault Refusal :=
  s.actWrite r (aROOT n.toNat) v

/-- XMERGE_CLR (R150). -/
def execXmergeClr (r : ReqId) (b : BitVec 7) (v : Word) (s : State) : Host.Outcome State Fault Refusal :=
  s.actWrite r (aXMERGE b.toNat) (setBit v 15 true)

end Sys2Proof.Machine
end

