-- ==== Sys2Proof/Machine/ExecDram.lean ====
section
/-! DEFINITION. The DRAM controller: the meaning of each command, one definition a row. -/

namespace Sys2Proof.Machine

/-- DRAM_REQUEST (R362). -/
def execDramRequest (p : BitVec 3) (a : BitVec 31) (write line : Bool) (be : BitVec 64) (data : BitVec 512) (close fence : Bool) (tag : BitVec 6) (s : State) : Host.Outcome State Fault Refusal :=
  s.actLive fun t => t.portRequest p.toNat a.toNat write line be data close fence tag

/-- DRAM_ISSUE (R365). -/
def execDramIssue (ready : List Nat) (s : State) : Host.Outcome State Fault Refusal :=
  s.actLive fun t => t.dramIssue ready

/-- DRAM_READ_DONE (R374). -/
def execDramReadDone (seq : Nat) (ups : List (BitVec 3 × BitVec 72)) (s : State) : Host.Outcome State Fault Refusal :=
  s.actLive fun t => t.dramReadDone seq ups

/-- AGE_PROMOTE (R366). -/
def execAgePromote (seq : Nat) (s : State) : Host.Outcome State Fault Refusal :=
  s.actLive fun t => t.agePromote seq

/-- ROW_IDLE_CLOSE (R367). -/
def execRowIdleClose (bank : BitVec 5) (s : State) : Host.Outcome State Fault Refusal :=
  s.actLive fun t => t.rowIdle bank.toNat

/-- REFRESH (R370). -/
def execRefresh (rank : BitVec 1) (postpone : Bool) (s : State) : Host.Outcome State Fault Refusal :=
  s.actLive fun t => t.refresh rank.toNat postpone

/-- RETRIM (R373). -/
def execRetrim (lanes : List (BitVec 8 × BitVec 8 × BitVec 8 × BitVec 8)) (s : State) : Host.Outcome State Fault Refusal :=
  s.actLive fun t => t.retrim (lanes.map fun l => (l.1.toInt, l.2.1.toInt, l.2.2.1.toNat, l.2.2.2.toNat))

/-- DRAM_ENABLE (R377). -/
def execDramEnable (r : ReqId) (v : Word) (s : State) : Host.Outcome State Fault Refusal :=
  s.actWrite r (pg 0x640 0x004) (setBit v 0 true)

/-- DRAM_DISABLE (R377). -/
def execDramDisable (r : ReqId) (v : Word) (s : State) : Host.Outcome State Fault Refusal :=
  s.actWrite r (pg 0x640 0x004) (setBit v 0 false)

/-- TRAINING_DONE (R371). -/
def execTrainingDone (sweeps : List (BitVec 128 × BitVec 128)) (s : State) : Host.Outcome State Fault Refusal :=
  s.actLive fun t => t.trainingDone sweeps

/-- DRAM_SCRUB_READ (R376). -/
def execDramScrubRead (s : State) : Host.Outcome State Fault Refusal :=
  s.actLive fun t => t.dramScrub

/-- PORT_CLK_MEASURE (R362). -/
def execPortClkMeasure (p : BitVec 3) (fast : Bool) (s : State) : Host.Outcome State Fault Refusal :=
  s.actLive fun t => t.portClock p.toNat fast

end Sys2Proof.Machine
end

