-- ==== Sys2Proof/Machine/ExecEdge.lean ====
section
/-! DEFINITION. Edge units and their calibration: the meaning of each command, one definition a row. -/

namespace Sys2Proof.Machine

/-- EQ_LO (R181). -/
def execEqLo (r : ReqId) (p : BitVec 8) (v : Word) (s : State) : Host.Outcome State Fault Refusal :=
  s.actWrite r (aEDGE p.toNat 0x28) v

/-- EQ_HI (R181). -/
def execEqHi (r : ReqId) (p : BitVec 8) (v : Word) (s : State) : Host.Outcome State Fault Refusal :=
  s.actWrite r (aEDGE p.toNat 0x2C) v

/-- QUEUE_EDGE (R181). -/
def execQueueEdge (p : BitVec 8) (s : State) : Host.Outcome State Fault Refusal :=
  s.actTimed fun t => t.queueEdge p.toNat

/-- EDGE_DISABLE (R180). -/
def execEdgeDisable (r : ReqId) (p : BitVec 8) (v : Word) (s : State) : Host.Outcome State Fault Refusal :=
  s.actWrite r (aEDGE p.toNat 0x04) (setBit v 0 false)

/-- EDGE_ENABLE (R183). -/
def execEdgeEnable (r : ReqId) (p : BitVec 8) (v : Word) (s : State) : Host.Outcome State Fault Refusal :=
  s.actWrite r (aEDGE p.toNat 0x04) (setBit v 0 true)

/-- PWM_PERIOD_START (R183). -/
def execPwmPeriodStart (p : BitVec 8) (s : State) : Host.Outcome State Fault Refusal :=
  s.actTimed fun t => t.pwmPeriodStart p.toNat

/-- PWM_EDGE (R183). -/
def execPwmEdge (p : BitVec 8) (rising : Bool) (s : State) : Host.Outcome State Fault Refusal :=
  s.actTimed fun t => if rising then t.pwmRise p.toNat else t.pwmFall p.toNat

/-- CAPTURE_EDGE (R186). -/
def execCaptureEdge (p : BitVec 8) (falling : Bool) (at_ : DevTime) (s : State) : Host.Outcome State Fault Refusal :=
  s.actTimed fun t => (t.reach at_).captureEdge p.toNat falling

/-- CAP_LO_READ (R186). -/
def execCapLoRead (r : ReqId) (p : BitVec 8) (s : State) : Host.Outcome State Fault Refusal :=
  s.actRead r (aEDGE p.toNat 0x50)

/-- GRP_COMMIT (R184). -/
def execGrpCommit (r : ReqId) (v : Word) (s : State) : Host.Outcome State Fault Refusal :=
  s.actWrite r (pg 0x210 0x30) v

/-- CAL_CYCLE_START (R188). -/
def execCalCycleStart (i : BitVec 2) (s : State) : Host.Outcome State Fault Refusal :=
  s.actTimed fun t => t.calCycleStart i.toNat

/-- LINE_CAL_DONE (R189). -/
def execLineCalDone (p : BitVec 8) (ok : Bool) (s : State) : Host.Outcome State Fault Refusal :=
  s.actTimed fun t => t.lineCalDone p.toNat ok

/-- LINE_SWAP (R189). -/
def execLineSwap (p : BitVec 8) (s : State) : Host.Outcome State Fault Refusal :=
  s.actTimed fun t => t.lineSwap p.toNat

/-- SWAP_ABANDON (R189). -/
def execSwapAbandon (p : BitVec 8) (s : State) : Host.Outcome State Fault Refusal :=
  s.actTimed fun t => t.swapAbandon p.toNat

/-- BOOT_CAL_DONE (R190). -/
def execBootCalDone (i : BitVec 2) (s : State) : Host.Outcome State Fault Refusal :=
  s.actTimed fun t => t.bootCalPage i.toNat

end Sys2Proof.Machine
end

