-- ==== Sys2Proof/Machine/ExecEvents.lean ====
section
/-! DEFINITION. Events, mailboxes and their timers: the meaning of each command, one definition a row. -/

namespace Sys2Proof.Machine

/-- MSIX_SEND (R351). -/
def execMsixSend (n : BitVec 6) (s : State) : Host.Outcome State Fault Refusal :=
  s.actLive fun t => t.msixSend n.toNat

/-- MSIX_PEND_CLEAR (R309). -/
def execMsixPendClear (r : ReqId) (k : BitVec 1) (v : Word) (s : State) : Host.Outcome State Fault Refusal :=
  s.actWrite r (aMSIX_PEND k.toNat) v

/-- ROPE_EVENT_SEND (R311). -/
def execRopeEventSend (s : State) : Host.Outcome State Fault Refusal :=
  s.actLive fun t => t.ropeEventSend

/-- FABRIC_EVENT (R307). -/
def execFabricEvent (j : BitVec 6) (s : State) : Host.Outcome State Fault Refusal :=
  s.actLive fun t => t.fabricEvent (256 + j.toNat)

/-- SW0_RAISE (R313). -/
def execSw0Raise (r : ReqId) (v : Word) (s : State) : Host.Outcome State Fault Refusal :=
  s.actWrite r (aSW_RAISE) (setBit v 0 true)

/-- SW1_RAISE (R313). -/
def execSw1Raise (r : ReqId) (v : Word) (s : State) : Host.Outcome State Fault Refusal :=
  s.actWrite r (aSW_RAISE) (setBit v 1 true)

/-- TX_WORD (R317). -/
def execTxWord (r : ReqId) (m : BitVec 5) (w : BitVec 3) (v : Word) (s : State) : Host.Outcome State Fault Refusal :=
  s.actWrite r (aMB m.toNat (0x20 + 4 * w.toNat)) v

/-- TX_POST (R317). -/
def execTxPost (r : ReqId) (m : BitVec 5) (v : Word) (s : State) : Host.Outcome State Fault Refusal :=
  s.actWrite r (aMB m.toNat 0x40) v

/-- RX_INFO0_READ (R318). -/
def execRxInfo0Read (r : ReqId) (m : BitVec 5) (s : State) : Host.Outcome State Fault Refusal :=
  s.actRead r (aMB m.toNat 0x60)

/-- MB_LOCK_READ (R319). -/
def execMbLockRead (r : ReqId) (m : BitVec 5) (s : State) : Host.Outcome State Fault Refusal :=
  s.actRead r (aMB m.toNat 0x0C)

/-- MB_LOCK_WRITE (R319). -/
def execMbLockWrite (r : ReqId) (m : BitVec 5) (v : Word) (s : State) : Host.Outcome State Fault Refusal :=
  s.actWrite r (aMB m.toNat 0x0C) v

/-- MB_TIMEOUT (R323). -/
def execMbTimeout (m : BitVec 5) (s : State) : Host.Outcome State Fault Refusal :=
  s.actTimed fun t => t.mbTimeout m.toNat

end Sys2Proof.Machine
end

