-- ==== Sys2Proof/Machine/ExecFabric.lean ====
section
/-! DEFINITION. The fabric: boughs, channels, crossings and block memories: the meaning of each command, one definition a row. -/

namespace Sys2Proof.Machine

/-- BOUGH_FREEZE (R112). -/
def execBoughFreeze (r : ReqId) (b : BitVec 7) (v : Word) (s : State) : Host.Outcome State Fault Refusal :=
  s.actWrite r (pg (0x040 + b.toNat) 0x004) (setBit v 0 false)

/-- BOUGH_RESUME (R112). -/
def execBoughResume (r : ReqId) (b : BitVec 7) (v : Word) (s : State) : Host.Outcome State Fault Refusal :=
  s.actWrite r (pg (0x040 + b.toNat) 0x004) (setBit v 0 true)

/-- CAD_CLR (R94). -/
def execCadClr (r : ReqId) (b : BitVec 7) (v : Word) (s : State) : Host.Outcome State Fault Refusal :=
  s.actWrite r (aHS_CTL b.toNat) (setBit v 7 true)

/-- CADENCE_WINDOW (R111). -/
def execCadenceWindow (b : BitVec 7) (s : State) : Host.Outcome State Fault Refusal :=
  s.actTimed fun t => t.cadenceWindow b.toNat

/-- HS_REQUEST (R103). -/
def execHsRequest (b : BitVec 7) (j : BitVec 9) (s : State) : Host.Outcome State Fault Refusal :=
  s.actLive fun t => t.hsRequest b.toNat j.toNat

/-- CHANNEL_PUSH (R160). -/
def execChannelPush (b : BitVec 7) (ch : BitVec 5) (s : State) : Host.Outcome State Fault Refusal :=
  s.actLive fun t => t.channelPush b.toNat ch.toNat

/-- CHANNEL_VALID (R160). -/
def execChannelValid (b : BitVec 7) (ch : BitVec 5) (s : State) : Host.Outcome State Fault Refusal :=
  s.actLive fun t => t.channelValid b.toNat ch.toNat

/-- CHANNEL_POP (R160). -/
def execChannelPop (b : BitVec 7) (ch : BitVec 5) (s : State) : Host.Outcome State Fault Refusal :=
  s.actLive fun t => t.channelPop b.toNat ch.toNat

/-- CROSSING_EVENT (R157). -/
def execCrossingEvent (k : CrossTarget) (s : State) : Host.Outcome State Fault Refusal :=
  s.actLive fun t => t.crossing k

/-- BRAM_ECC_ERROR (R128). -/
def execBramEccError (b : BitVec 7) (n : BitVec 3) (row : BitVec 9) (dbe : Bool) (s : State) : Host.Outcome State Fault Refusal :=
  s.actLive fun t => t.bramError b.toNat n.toNat row.toNat dbe

/-- ACTIVE_CLOCK_EDGE (R65). -/
def execActiveClockEdge (edges : List ClockEdge) (balls : List (BitVec 10 × Option Bool)) (s : State) : Host.Outcome State Fault Refusal :=
  s.act fun t => t.clockEdges edges (balls.map fun e => (e.1.toNat, e.2))

end Sys2Proof.Machine
end

