-- ==== Sys2Proof/Machine/ExecFlash.lean ====
section
/-! DEFINITION. The embedded flash: the meaning of each command, one definition a row. -/

namespace Sys2Proof.Machine

/-- SVC_FLASH_READ (R433). -/
def execSvcFlashRead (c : Call) (s : State) : Host.Outcome State Fault Refusal :=
  s.actCall 0x0201 c fun t => t.flashReadCall c

/-- SVC_FLASH_PROGRAM (R424). -/
def execSvcFlashProgram (c : Call) (tj : BitVec 16) (s : State) : Host.Outcome State Fault Refusal :=
  s.actCall 0x0202 c fun t => t.flashProgram c tj.toInt

/-- SVC_FLASH_ERASE (R425). -/
def execSvcFlashErase (c : Call) (tj : BitVec 16) (s : State) : Host.Outcome State Fault Refusal :=
  s.actCall 0x0203 c fun t => t.flashErase c tj.toInt

/-- SVC_FLASH_SUSPEND (R428). -/
def execSvcFlashSuspend (c : Call) (s : State) : Host.Outcome State Fault Refusal :=
  s.actCall 0x0204 c fun t => t.flashSuspend c

/-- SVC_FLASH_RESUME (R428). -/
def execSvcFlashResume (c : SampledCall) (s : State) : Host.Outcome State Fault Refusal :=
  s.actCall 0x0205 c.call fun t => t.flashResume c.call c.tj.toInt

/-- SVC_FLASH_BLANK_CHECK (R433). -/
def execSvcFlashBlankCheck (c : Call) (s : State) : Host.Outcome State Fault Refusal :=
  s.actCall 0x0206 c fun t => t.flashBlankCheck c

/-- SVC_FLASH_STATUS (R433). -/
def execSvcFlashStatus (c : Call) (s : State) : Host.Outcome State Fault Refusal :=
  s.actCall 0x0207 c fun t => t.flashStatus c

/-- ERASE_PULSE_DONE (R425). -/
def execErasePulseDone (pass : Bool) (tj : BitVec 16) (s : State) : Host.Outcome State Fault Refusal :=
  s.actLive fun t => t.erasePulse pass tj.toInt

/-- PROGRAM_PULSE_DONE (R424). -/
def execProgramPulseDone (pass : Bool) (tj : BitVec 16) (s : State) : Host.Outcome State Fault Refusal :=
  s.actLive fun t => t.programPulse pass tj.toInt

/-- ERASE_TEMP_RESUME (R427). -/
def execEraseTempResume (tj : BitVec 16) (s : State) : Host.Outcome State Fault Refusal :=
  s.actLive fun t => t.eraseResume tj.toInt

/-- ERASE_TEMP_TIMEOUT (R427). -/
def execEraseTempTimeout (s : State) : Host.Outcome State Fault Refusal :=
  s.actLive fun t => t.eraseTimeout

end Sys2Proof.Machine
end

