-- ==== Sys2Proof/Machine/ExecHeart.lean ====
section
/-! DEFINITION. The heartwood and the calendar: the meaning of each command, one definition a row. -/

namespace Sys2Proof.Machine

/-- SVC_HEART_READ (R539). -/
def execSvcHeartRead (c : Call) (s : State) : Host.Outcome State Fault Refusal :=
  s.actCall 0x0801 c fun t => t.heartRead c

/-- SVC_CALENDAR_SET (R538). -/
def execSvcCalendarSet (c : Call) (tj : BitVec 16) (s : State) : Host.Outcome State Fault Refusal :=
  s.actCall 0x0802 c fun t => t.calendarSet c tj.toInt

/-- CALENDAR_SECOND (R534). -/
def execCalendarSecond (tj : BitVec 16) (s : State) : Host.Outcome State Fault Refusal :=
  s.act fun t => t.calendarSecond tj.toInt

/-- ALARM (R537). -/
def execAlarm (fails : BitVec 16) (s : State) : Host.Outcome State Fault Refusal :=
  s.act fun t => t.alarm fails

/-- HEART_COUNT_WRITE (R531). -/
def execHeartCountWrite (tj : BitVec 16) (s : State) : Host.Outcome State Fault Refusal :=
  s.act fun t => t.heartCountWrite tj.toInt

/-- HEART_DEFERRED_WRITE (R532). -/
def execHeartDeferredWrite (tj : BitVec 16) (s : State) : Host.Outcome State Fault Refusal :=
  s.act fun t => t.heartDeferredWrite tj.toInt

/-- HEART_REBASE (R530). -/
def execHeartRebase (tj : BitVec 16) (s : State) : Host.Outcome State Fault Refusal :=
  s.act fun t => t.heartRebaseDue tj.toInt

end Sys2Proof.Machine
end

