-- ==== Sys2Proof/Machine/ExecHost.lean ====
section
/-! DEFINITION. The host port and the sideband port: the meaning of each command, one definition a row. -/

namespace Sys2Proof.Machine

/-- PERST_N_ASSERT (R350). -/
def execPerstNAssert (s : State) : Host.Outcome State Fault Refusal :=
  s.act fun t => t.perstAssert

/-- PERST_N_RELEASE (R350). -/
def execPerstNRelease (s : State) : Host.Outcome State Fault Refusal :=
  s.act fun t => t.perstRelease

/-- HOT_RESET (R350). -/
def execHotReset (s : State) : Host.Outcome State Fault Refusal :=
  s.actLive fun t => if t.linkUp then t.hostSideReset true else t

/-- FLR (R350). -/
def execFlr (s : State) : Host.Outcome State Fault Refusal :=
  s.actLive fun t => if t.linkUp then t.hostSideReset false else t

/-- LINK_CHANGE (R354). -/
def execLinkChange (up : Bool) (gen width : BitVec 3) (l1 : Bool) (s : State) : Host.Outcome State Fault Refusal :=
  s.actLive fun t => t.linkChange up gen.toNat width.toNat l1

/-- RETRAIN (R353). -/
def execRetrain (r : ReqId) (v : Word) (s : State) : Host.Outcome State Fault Refusal :=
  s.actWrite r (pg 0x600 0x24) (setBit v 8 true)

/-- BAR4_ACCESS (R349). -/
def execBar4Access (ofs : BitVec 28) (write : Bool) (be : BitVec 64) (data : BitVec 512) (mark : TlpMark) (s : State) : Host.Outcome State Fault Refusal :=
  s.actLive fun t => t.bar4 ofs.toNat write be data mark.tag mark.poisoned

/-- I2C_ADDRESS_MATCH (R356). -/
def execI2cAddressMatch (fails : BitVec 16) (s : State) : Host.Outcome State Fault Refusal :=
  s.act fun t => t.i2cMatch fails

/-- I2C_WRITE (R356). -/
def execI2cWrite (bytes : List Byte) (s : State) : Host.Outcome State Fault Refusal :=
  s.actLive fun t => t.i2cWrite bytes

/-- I2C_READ (R356). -/
def execI2cRead (s : State) : Host.Outcome State Fault Refusal :=
  s.actLive fun t => t.i2cRead

/-- CONFIGURATION_SPACE_WRITE (R347). -/
def execConfigurationSpaceWrite (d3hot en mask : Bool) (s : State) : Host.Outcome State Fault Refusal :=
  s.actLive fun t => t.configWrite d3hot en mask

end Sys2Proof.Machine
end

