-- ==== Sys2Proof/Machine/ExecImage.lean ====
section
/-! DEFINITION. Configuration images, frames, groves, read-back and scrubbing: the meaning of each command, one definition a row. -/

namespace Sys2Proof.Machine

/-- SVC_IMAGE_LOAD (R400). -/
def execSvcImageLoad (c : Call) (s : State) : Host.Outcome State Fault Refusal :=
  s.actCall 0x0301 c fun t => t.imageLoad 0x0301 c

/-- SVC_IMAGE_SWITCH (R403). -/
def execSvcImageSwitch (c : Call) (s : State) : Host.Outcome State Fault Refusal :=
  s.actCall 0x0302 c fun t => t.imageLoad 0x0302 c

/-- SVC_IMAGE_VERIFY (R409). -/
def execSvcImageVerify (c : Call) (_cause : BitVec 4) (_usercode : Word) (s : State) : Host.Outcome State Fault Refusal :=
  s.actCall 0x0303 c fun t => t.imageVerify c

/-- SVC_GROVE_LOAD (R407). -/
def execSvcGroveLoad (c : Call) (s : State) : Host.Outcome State Fault Refusal :=
  s.actCall 0x0304 c fun t => t.groveLoad c

/-- SVC_READBACK (R410). -/
def execSvcReadback (c : Call) (s : State) : Host.Outcome State Fault Refusal :=
  s.actCall 0x0305 c fun t => t.readbackCall c

/-- SVC_BOOT_BANK (R409). -/
def execSvcBootBank (c : Call) (tj : BitVec 16) (s : State) : Host.Outcome State Fault Refusal :=
  s.actCall 0x0306 c fun t => (t.sampleTj tj.toInt).bootBankCall c

/-- WIPE_DONE (R400). -/
def execWipeDone (s : State) : Host.Outcome State Fault Refusal :=
  s.actLive fun t => t.wipeDone

/-- NOP (R389). -/
def execNop (header : BitVec 64) (tagOk : Bool) (s : State) : Host.Outcome State Fault Refusal :=
  s.actLive fun t => t.packetNop header tagOk

/-- DEVICE_ID (R389). -/
def execDeviceId (header : BitVec 64) (tagOk : Bool) (s : State) : Host.Outcome State Fault Refusal :=
  s.actLive fun t => t.packetDeviceId header tagOk

/-- WREG_MODE (R390). -/
def execWregMode (header : BitVec 64) (tagOk : Bool) (s : State) : Host.Outcome State Fault Refusal :=
  s.actLive fun t => t.packetMode header tagOk

/-- WREG_USERCODE (R390). -/
def execWregUsercode (header : BitVec 64) (tagOk : Bool) (s : State) : Host.Outcome State Fault Refusal :=
  s.actLive fun t => t.packetUsercode header tagOk

/-- FRAME (R394). -/
def execFrame (header : BitVec 64) (tagOk : Bool) (d : BitVec 4096) (check : Word) (s : State) : Host.Outcome State Fault Refusal :=
  s.actLive fun t => t.packetFrame header tagOk d check

/-- KEY_ROLL (R391). -/
def execKeyRoll (header : BitVec 64) (tagOk : Bool) (s : State) : Host.Outcome State Fault Refusal :=
  s.actLive fun t => t.packetKeyRoll header tagOk

/-- END (R393). -/
def execEnd_ (header : BitVec 64) (tagOk : Bool) (crc : Word) (digestOk : Bool) (s : State) : Host.Outcome State Fault Refusal :=
  s.actLive fun t => t.packetEnd header tagOk crc digestOk

/-- FALLBACK_LOAD (R401). -/
def execFallbackLoad (s : State) : Host.Outcome State Fault Refusal :=
  s.actLive fun t => t.fallbackLoad

/-- RELEASE_RANK (R458). -/
def execReleaseRank (s : State) : Host.Outcome State Fault Refusal :=
  s.actLive fun t => t.releaseRank

/-- RELEASE_PORTS (R458). -/
def execReleasePorts (s : State) : Host.Outcome State Fault Refusal :=
  s.actLive fun t => t.releasePorts

/-- RELEASE_PINS (R458). -/
def execReleasePins (s : State) : Host.Outcome State Fault Refusal :=
  s.actLive fun t => t.releasePins

/-- RELEASE_DONE (R458). -/
def execReleaseDone (tj : BitVec 16) (s : State) : Host.Outcome State Fault Refusal :=
  s.actLive fun t => t.releaseDone tj.toInt

/-- READBACK_CAPTURE (R410). -/
def execReadbackCapture (s : State) : Host.Outcome State Fault Refusal :=
  s.actTimed fun t => t.readbackCapture

/-- SCRUB_FRAME (R413). -/
def execScrubFrame (flips : BitVec 4096) (checkFlips : Word) (fetched : Bool) (s : State) : Host.Outcome State Fault Refusal :=
  s.actLive fun t => t.scrubFrame flips checkFlips fetched

/-- ESS_ACTION (R414). -/
def execEssAction (s : State) : Host.Outcome State Fault Refusal :=
  s.actLive fun t => t.essAction

end Sys2Proof.Machine
end

