-- ==== Sys2Proof/Machine/ExecLife.lean ====
section
/-! DEFINITION. Life cycle, debug and JTAG: the meaning of each command, one definition a row. -/

namespace Sys2Proof.Machine

/-- LC_TRANSITION (R516). -/
def execLcTransition (c : Call) (word : BitVec 8) (erased : BitVec 16) (loss : Bool) (tj : BitVec 16) (s : State) : Host.Outcome State Fault Refusal :=
  s.actCall 0x0601 c fun t => t.lcTransition c { word := word.toNat, erased := erased.toNat, loss } tj.toInt

/-- OTP_WRITE (R518). -/
def execOtpWrite (c : Call) (word : BitVec 8) (erased : BitVec 16) (loss : Bool) (tj : BitVec 16) (s : State) : Host.Outcome State Fault Refusal :=
  s.actCall 0x0601 c fun t => t.otpWriteCall c { word := word.toNat, erased := erased.toNat, loss } tj.toInt

/-- SVC_DEBUG_OPEN (R520). -/
def execSvcDebugOpen (c : Call) (s : State) : Host.Outcome State Fault Refusal :=
  s.actCall 0x0602 c fun t => t.debugOpenCall c

/-- SVC_DEBUG_CLOSE (R520). -/
def execSvcDebugClose (c : Call) (s : State) : Host.Outcome State Fault Refusal :=
  s.actCall 0x0603 c fun t => t.debugCloseCall c

/-- DEBUG_TIMEOUT (R521). -/
def execDebugTimeout (s : State) : Host.Outcome State Fault Refusal :=
  s.actLive fun t => t.debugTimeout

/-- IDCODE (R522). -/
def execIdcode (s : State) : Host.Outcome State Fault Refusal :=
  s.actWhen s.supplied fun t => t.jtagIr 0x01

/-- SAMPLE_PRELOAD (R522). -/
def execSamplePreload (cells : List (BitVec 10 × Bool × Bool)) (s : State) : Host.Outcome State Fault Refusal :=
  s.actWhen s.supplied fun t => t.jtagScan 0x02 cells

/-- EXTEST (R522). -/
def execExtest (cells : List (BitVec 10 × Bool × Bool)) (s : State) : Host.Outcome State Fault Refusal :=
  s.actWhen s.supplied fun t => t.jtagScan 0x03 cells

/-- CLAMP_INSTR (R522). -/
def execClampInstr (s : State) : Host.Outcome State Fault Refusal :=
  s.actWhen s.supplied fun t => t.jtagIr 0x04

/-- HIGHZ (R522). -/
def execHighz (s : State) : Host.Outcome State Fault Refusal :=
  s.actWhen s.supplied fun t => t.jtagIr 0x05

/-- BYPASS (R522). -/
def execBypass (code : BitVec 8) (s : State) : Host.Outcome State Fault Refusal :=
  s.actWhen s.supplied fun t => if jtagListed code.toNat then t else t.jtagIr code.toNat

/-- GUIDE_CALL (R523). -/
def execGuideCall (words : List Word) (s : State) : Host.Outcome State Fault Refusal :=
  s.actLive fun t => t.guideCall words

/-- DEBUG_ACCESS (R523). -/
def execDebugAccess (write : Bool) (ofs : BitVec 24) (v : Word) (s : State) : Host.Outcome State Fault Refusal :=
  s.actWhen s.supplied fun t => t.debugAccess write ofs v

end Sys2Proof.Machine
end

