-- ==== Sys2Proof/Machine/ExecLoop.lean ====
section
/-! DEFINITION. The loop engine: the meaning of each command, one definition a row. -/

namespace Sys2Proof.Machine

/-- LOOP_GRID_POINT (R218). -/
def execLoopGridPoint (n : BitVec 10) (ecc : BitVec 2) (s : State) : Host.Outcome State Fault Refusal :=
  s.actTimed fun t => t.loopGridPoint n.toNat ecc

/-- LOOP_EVENT_TRIGGER (R218). -/
def execLoopEventTrigger (n : BitVec 10) (ecc : BitVec 2) (s : State) : Host.Outcome State Fault Refusal :=
  s.actTimed fun t => t.eventTrigger n.toNat ecc

/-- LOOP_SAMPLE_TRIGGER (R218). -/
def execLoopSampleTrigger (n : BitVec 10) (ecc : BitVec 2) (s : State) : Host.Outcome State Fault Refusal :=
  s.actTimed fun t => t.sampleTrigger n.toNat ecc

/-- ABSEIL_TRIGGER (R218). -/
def execAbseilTrigger (n : BitVec 10) (ecc : BitVec 2) (s : State) : Host.Outcome State Fault Refusal :=
  s.actTimed fun t => t.abseilTrigger n.toNat ecc

/-- OUTPUT_APPLY (R216). -/
def execOutputApply (n : BitVec 10) (s : State) : Host.Outcome State Fault Refusal :=
  s.actTimed fun t => t.outputApply n.toNat

/-- FSLOT_WORD (R215). -/
def execFslotWord (q : BitVec 2) (w : BitVec 64) (s : State) : Host.Outcome State Fault Refusal :=
  s.actTimed fun t => t.fslotWord q.toNat w

/-- CTX_COMMIT (R225). -/
def execCtxCommit (r : ReqId) (v : Word) (s : State) : Host.Outcome State Fault Refusal :=
  s.actWrite r (aLOOP 0x24) (setBit v 31 true)

/-- ADMISSION_DONE (R224). -/
def execAdmissionDone (s : State) : Host.Outcome State Fault Refusal :=
  s.actTimed fun t => t.groupAdmission

/-- ABSEIL_ENTER (R229). -/
def execAbseilEnter (r : ReqId) (v : Word) (s : State) : Host.Outcome State Fault Refusal :=
  s.actWrite r (aLOOP 0x2C) (setFld v 31 30 1)

/-- ABSEIL_RELEASE (R231). -/
def execAbseilRelease (r : ReqId) (v : Word) (s : State) : Host.Outcome State Fault Refusal :=
  s.actWrite r (aLOOP 0x2C) (setFld v 31 30 2)

/-- HB_KICK (R230). -/
def execHbKick (r : ReqId) (v : Word) (s : State) : Host.Outcome State Fault Refusal :=
  s.actWrite r (aLOOP 0x38) (setBit v 0 true)

/-- HB1_KICK (R230). -/
def execHb1Kick (s : State) : Host.Outcome State Fault Refusal :=
  s.actTimed fun t => t.hbKick 1

/-- HB_MISS (R230). -/
def execHbMiss (h : BitVec 1) (s : State) : Host.Outcome State Fault Refusal :=
  s.actTimed fun t => t.hbMiss h.toNat

/-- STATE_WRITE (R237). -/
def execStateWrite (r : ReqId) (w : BitVec 4) (v : Word) (s : State) : Host.Outcome State Fault Refusal :=
  s.actWrite r (aLOOP (0x200 + 4 * w.toNat)) v

/-- MISSED_CLR (R209). -/
def execMissedClr (r : ReqId) (n : BitVec 10) (v : Word) (s : State) : Host.Outcome State Fault Refusal :=
  s.actWrite r (aCTX n.toNat 0xF4) (setBit v 15 true)

end Sys2Proof.Machine
end

