-- ==== Sys2Proof/Machine/ExecPins.lean ====
section
/-! DEFINITION. Pins: the meaning of each command, one definition a row. -/

namespace Sys2Proof.Machine

/-- PARK_END (R342). -/
def execParkEnd (n : BitVec 10) (s : State) : Host.Outcome State Fault Refusal :=
  s.act fun t => t.parkEnd n.toNat

/-- VCCIO_MEASURE (R334). -/
def execVccioMeasure (b : BitVec 5) (meas : BitVec 3) (settled : Bool) (s : State) : Host.Outcome State Fault Refusal :=
  s.actLive fun t => t.vccioMeasure b.toNat meas.toNat settled

/-- PIN_LOCK_ARM (R346). -/
def execPinLockArm (r : ReqId) (n : BitVec 10) (s : State) : Host.Outcome State Fault Refusal :=
  s.actWrite r (pg 0x522 0x20) (BitVec.ofNat 32 (0x5EED * 2 ^ 16 + n.toNat))

/-- PIN_LOCK_KEY (R346). -/
def execPinLockKey (r : ReqId) (n : BitVec 10) (s : State) : Host.Outcome State Fault Refusal :=
  s.actWrite r (pg 0x522 0x20) (BitVec.ofNat 32 (0xBA4C * 2 ^ 16 + n.toNat))

end Sys2Proof.Machine
end

