-- ==== Sys2Proof/Machine/ExecPitch.lean ====
section
/-! DEFINITION. Pitches: the meaning of each command, one definition a row. -/

namespace Sys2Proof.Machine

/-- PITCH_START (R499). -/
def execPitchStart (s : State) : Host.Outcome State Fault Refusal :=
  s.actLive fun t => t.pitchStart

/-- PITCH_DONE (R499). -/
def execPitchDone (misr : Word) (fails : List Word) (s : State) : Host.Outcome State Fault Refusal :=
  s.actLive fun t => t.pitchDone misr fails

/-- PERIODIC_PITCH (R500). -/
def execPeriodicPitch (late : Bool) (s : State) : Host.Outcome State Fault Refusal :=
  s.actLive fun t => t.periodicPitch late

/-- GRANT_TIMEOUT (R501). -/
def execGrantTimeout (s : State) : Host.Outcome State Fault Refusal :=
  s.actLive fun t => t.grantTimeout

/-- PITCH_RETRY (R496). -/
def execPitchRetry (e : Word) (s : State) : Host.Outcome State Fault Refusal :=
  s.actLive fun t => t.pitchRetry e

/-- HOLDOFF_END (R501). -/
def execHoldoffEnd (s : State) : Host.Outcome State Fault Refusal :=
  s.actLive fun t => t.holdoffEnd

/-- DBE_CHECK_TIMEOUT (R496). -/
def execDbeCheckTimeout (e : Word) (s : State) : Host.Outcome State Fault Refusal :=
  s.actLive fun t => t.dbeTimeout e

/-- LINK_CHECK_DONE (R496). -/
def execLinkCheckDone (port : RopePort) (bad : Bool) (s : State) : Host.Outcome State Fault Refusal :=
  s.actLive fun t => t.linkCheckDone (portPage port - 0x541) bad

/-- SVC_PITCH_RUN (R508). -/
def execSvcPitchRun (c : Call) (s : State) : Host.Outcome State Fault Refusal :=
  s.actCall 0x0701 c fun t => t.pitchRun c

/-- SVC_PITCH_SCHEDULE (R509). -/
def execSvcPitchSchedule (c : Call) (s : State) : Host.Outcome State Fault Refusal :=
  s.actCall 0x0702 c fun t => t.pitchSchedule c

end Sys2Proof.Machine
end

