-- ==== Sys2Proof/Machine/ExecPower.lean ====
section
/-! DEFINITION. Power, resets, modes and the calls of the system view: the meaning of each command, one definition a row. -/

namespace Sys2Proof.Machine

/-- VIN_GOOD (R465). -/
def execVinGood (vin : BitVec 16) (straps : BitVec 3) (s : State) : Host.Outcome State Fault Refusal :=
  s.act fun t => t.vinGood vin.toNat straps

/-- POWER_ON_RESET (R465). -/
def execPowerOnReset (s : State) : Host.Outcome State Fault Refusal :=
  s.act fun t => t.powerLost

/-- BRACE (R462). -/
def execBrace (vin : BitVec 16) (s : State) : Host.Outcome State Fault Refusal :=
  s.act fun t => t.brace vin.toNat

/-- HEART_BRACE_WRITE (R531). -/
def execHeartBraceWrite (tj : BitVec 16) (s : State) : Host.Outcome State Fault Refusal :=
  s.act fun t => t.heartBraceWrite tj.toInt

/-- VIN_LOW_ASLEEP (R465). -/
def execVinLowAsleep (s : State) : Host.Outcome State Fault Refusal :=
  s.act fun t => t.vinLowAsleep

/-- VIN_ABOVE_WARN (R487). -/
def execVinAboveWarn (vin : BitVec 16) (s : State) : Host.Outcome State Fault Refusal :=
  s.act fun t => t.vinAboveWarn vin.toNat

/-- VIN_OV (R465). -/
def execVinOv (s : State) : Host.Outcome State Fault Refusal :=
  s.act fun t => t.vinOv

/-- AUTO_HOLD_RELEASE (R24). -/
def execAutoHoldRelease (s : State) : Host.Outcome State Fault Refusal :=
  s.actLive fun t => t.autoRelease

/-- RAIL_FAULT (R468). -/
def execRailFault (rail : BitVec 2) (above : Bool) (s : State) : Host.Outcome State Fault Refusal :=
  s.act fun t => t.railFault rail.toNat above

/-- RAIL_RETRY (R468). -/
def execRailRetry (s : State) : Host.Outcome State Fault Refusal :=
  s.act fun t => t.railRetry

/-- PHASE_FAULT (R469). -/
def execPhaseFault (phase : BitVec 2) (s : State) : Host.Outcome State Fault Refusal :=
  s.act fun t => t.phaseFault phase.toNat

/-- K_MEASURE (R470). -/
def execKMeasure (k : BitVec 8) (vcore vaux vio icore vin : BitVec 16) (s : State) : Host.Outcome State Fault Refusal :=
  s.act fun t => t.kMeasure { k, vcore, vaux, vio, icore, vin }

/-- RST_N_ASSERT (R461). -/
def execRstNAssert (s : State) : Host.Outcome State Fault Refusal :=
  s.act fun t => t.rstN

/-- DEVICE_RESET_END (R461). -/
def execDeviceResetEnd (s : State) : Host.Outcome State Fault Refusal :=
  s.act fun t => t.resetEnd

/-- SVC_DEVICE_RESET (R461). -/
def execSvcDeviceReset (c : Call) (s : State) : Host.Outcome State Fault Refusal :=
  s.actCall 0x0002 c fun t => t.deviceReset c

/-- SVC_INFO (R565). -/
def execSvcInfo (c : Call) (s : State) : Host.Outcome State Fault Refusal :=
  s.actCall 0x0001 c fun t => t.svcInfo c

/-- SVC_PAGE_OWNER (R566). -/
def execSvcPageOwner (c : Call) (s : State) : Host.Outcome State Fault Refusal :=
  s.actCall 0x0003 c fun t => t.pageOwnerCall c

/-- SVC_PIN_OWNER (R345). -/
def execSvcPinOwner (c : Call) (s : State) : Host.Outcome State Fault Refusal :=
  s.actCall 0x0004 c fun t => t.pinOwnerCall c

/-- SVC_HOLD_ENTER (R20). -/
def execSvcHoldEnter (c : Call) (s : State) : Host.Outcome State Fault Refusal :=
  s.actCall 0x0101 c fun t => t.holdEnter c

/-- SVC_HOLD_RELEASE (R24). -/
def execSvcHoldRelease (c : Call) (s : State) : Host.Outcome State Fault Refusal :=
  s.actCall 0x0102 c fun t => t.holdRelease c

/-- SVC_SERVICE_ENTER (R20). -/
def execSvcServiceEnter (c : Call) (s : State) : Host.Outcome State Fault Refusal :=
  s.actCall 0x0103 c fun t => t.serviceEnter c

/-- SVC_SERVICE_EXIT (R461). -/
def execSvcServiceExit (c : Call) (s : State) : Host.Outcome State Fault Refusal :=
  s.actCall 0x0104 c fun t => t.serviceExit c

/-- GUIDE_WAIT (R472). -/
def execGuideWait (s : State) : Host.Outcome State Fault Refusal :=
  s.actLive fun t => t.guideWait

/-- GUIDE_TAKE_REQUEST (R329). -/
def execGuideTakeRequest (s : State) : Host.Outcome State Fault Refusal :=
  s.actLive fun t => t.takeRequest

/-- GUIDE_RESPONSE_POST (R329). -/
def execGuideResponsePost (m : BitVec 5) (s : State) : Host.Outcome State Fault Refusal :=
  s.actLive fun t => t.responsePost m.toNat

/-- GUIDE_REPLY_RETRY (R329). -/
def execGuideReplyRetry (s : State) : Host.Outcome State Fault Refusal :=
  s.actLive fun t => t.replyRetry

/-- SVC_PWR_ENTER (R474). -/
def execSvcPwrEnter (c : Call) (passed : BitVec 3) (tj : BitVec 16) (s : State) : Host.Outcome State Fault Refusal :=
  s.actLive fun t => if t.bist.running.any (fun p => !p.waitGrant) then t else t.serve 0x0501 c fun u => u.pwrEnter c passed.toNat tj.toInt

/-- SVC_PWR_POLICY (R484). -/
def execSvcPwrPolicy (c : Call) (s : State) : Host.Outcome State Fault Refusal :=
  s.actCall 0x0502 c fun t => t.pwrPolicy c

/-- ENTRY_UNDO (R475). -/
def execEntryUndo (s : State) : Host.Outcome State Fault Refusal :=
  s.actLive fun t => t.entryUndo

/-- TIME_LATCH (R481). -/
def execTimeLatch (sub : BitVec 15) (s : State) : Host.Outcome State Fault Refusal :=
  s.act fun t => t.timeLatch sub.toNat

/-- WAKE_N (R479). -/
def execWakeN (fails : BitVec 16) (s : State) : Host.Outcome State Fault Refusal :=
  s.act fun t => t.wakeN fails

/-- PIN_WAKE (R479). -/
def execPinWake (n : BitVec 10) (rising : Bool) (fails : BitVec 16) (s : State) : Host.Outcome State Fault Refusal :=
  s.act fun t => t.pinWakeEdge n.toNat rising fails

/-- VIN_RESTORE (R479). -/
def execVinRestore (fails : BitVec 16) (s : State) : Host.Outcome State Fault Refusal :=
  s.act fun t => t.vinRestore fails

/-- TIME_RECONSTRUCT (R481). -/
def execTimeReconstruct (sub : BitVec 15) (s : State) : Host.Outcome State Fault Refusal :=
  s.act fun t => t.timeReconstruct sub.toNat

/-- BUDGET_STEP (R482). -/
def execBudgetStep (s : State) : Host.Outcome State Fault Refusal :=
  s.act fun t => t.budgetStep

/-- BUDGET_REFILL (R482). -/
def execBudgetRefill (s : State) : Host.Outcome State Fault Refusal :=
  s.act fun t => t.budgetRefill

end Sys2Proof.Machine
end

