-- ==== Sys2Proof/Machine/ExecRegs.lean ====
section
/-! DEFINITION. Register writes, reads and commits: the meaning of each command, one definition a row. -/

namespace Sys2Proof.Machine

/-- REGISTER_WRITE (R53). -/
def execRegisterWrite (r : ReqId) (addr : BitVec 24) (v : Word) (full : Bool) (dwords : BitVec 8) (poisoned : Bool) (s : State) : Host.Outcome State Fault Refusal :=
  s.act fun t => if t.reaches r.toNat then t.tlp r.toNat dwords.toNat poisoned false (fun u => (u.writeReg r.toNat addr.toNat full v).2) else t

/-- SNAPSHOT_READ (R47). -/
def execSnapshotRead (r : ReqId) (addr : BitVec 24) (dwords : BitVec 8) (s : State) : Host.Outcome State Fault Refusal :=
  s.act fun t => t.tlp r.toNat dwords.toNat false true (fun u => u.localRead r.toNat addr.toNat)

/-- COMMIT (R41). -/
def execCommit (r : ReqId) (p : BitVec 12) (v : Word) (s : State) : Host.Outcome State Fault Refusal :=
  s.actWrite r (pg p.toNat 0x004) (setBit v 1 true)

/-- COMMIT_TRANSFER (R41). -/
def execCommitTransfer (p : BitVec 12) (s : State) : Host.Outcome State Fault Refusal :=
  s.actLive fun t => t.commitUpdate p.toNat

/-- LOCK (R52). -/
def execLock (r : ReqId) (p : BitVec 12) (v : Word) (s : State) : Host.Outcome State Fault Refusal :=
  s.actWrite r (pg p.toNat 0x004) (setBit v 2 true)

end Sys2Proof.Machine
end

