-- ==== Sys2Proof/Machine/ExecRope.lean ====
section
/-! DEFINITION. The rope: joining, cycles, rates, hops: the meaning of each command, one definition a row. -/

namespace Sys2Proof.Machine

/-- ROPE_ENABLE (R268). -/
def execRopeEnable (r : ReqId) (v : Word) (s : State) : Host.Outcome State Fault Refusal :=
  s.actWrite r (pg 0x540 0x004) (setBit v 0 true)

/-- ROPE_LOCK (R268). -/
def execRopeLock (rate : Bool) (s : State) : Host.Outcome State Fault Refusal :=
  s.actLive fun t => t.ropeLock rate

/-- JOIN_CHECK (R269). -/
def execJoinCheck (f : CycleFrame) (west : Bool) (s : State) : Host.Outcome State Fault Refusal :=
  s.actLive fun t => t.joinCheck f west

/-- JOIN_OPEN (R268). -/
def execJoinOpen (s : State) : Host.Outcome State Fault Refusal :=
  s.actLive fun t => t.joinOpen

/-- JOINED (R268). -/
def execJoined (s : State) : Host.Outcome State Fault Refusal :=
  s.actLive fun t => t.joined

/-- JOIN_TIMEOUT (R268). -/
def execJoinTimeout (s : State) : Host.Outcome State Fault Refusal :=
  s.actLive fun t => t.joinTimeout

/-- LEADING_START (R268). -/
def execLeadingStart (br : Bool) (s : State) : Host.Outcome State Fault Refusal :=
  s.actLive fun t => t.leadingStart br

/-- BELAY (R270). -/
def execBelay (r : ReqId) (v : Word) (s : State) : Host.Outcome State Fault Refusal :=
  s.actWrite r (aROPE 0x28) (setBit v 0 true)

/-- LEAVE_DONE (R270). -/
def execLeaveDone (s : State) : Host.Outcome State Fault Refusal :=
  s.actLive fun t => t.leaveDone

/-- CYCLE_START (R257). -/
def execCycleStart (br : Bool) (tc : DevTime) (s : State) : Host.Outcome State Fault Refusal :=
  s.actTimed fun t => t.cycleStart br tc

/-- CYCLE_FRAME_RX (R260). -/
def execCycleFrameRx (f : CycleFrame) (west : Bool) (ta : DevTime) (fwd : Word) (w : Wire) (s : State) : Host.Outcome State Fault Refusal :=
  s.actTimed fun t => (t.cycleFrameRx f west ta fwd.toNat w).linkChecks t

/-- CYCLE_FRAME_RETURN (R260). -/
def execCycleFrameReturn (port : RopePort) (f : CycleFrame) (a : Arrival) (s : State) : Host.Outcome State Fault Refusal :=
  s.actTimed fun t => t.frameIn port (cycleCheck f a.wire) true (fun u => u.cycleReturn (port == .branch) (port == .west) f a.time)

/-- SUB_STALE (R289). -/
def execSubStale (e : BitVec 8) (s : State) : Host.Outcome State Fault Refusal :=
  s.actLive fun t => t.subStale e.toNat

/-- PORT_FAULT (R263). -/
def execPortFault (p : RopePort) (cause : PortCause) (s : State) : Host.Outcome State Fault Refusal :=
  s.actLive fun t => (t.portFault p cause).linkChecks t

/-- WRAP_NR_CLEAR (R264). -/
def execWrapNrClear (s : State) : Host.Outcome State Fault Refusal :=
  s.actLive fun t => t.wrapNrClear

/-- UNWRAP (R264). -/
def execUnwrap (s : State) : Host.Outcome State Fault Refusal :=
  s.actLive fun t => t.unwrap

/-- RATE_RETURN (R265). -/
def execRateReturn (br : Bool) (s : State) : Host.Outcome State Fault Refusal :=
  s.actLive fun t => t.rateReturn br

/-- RATE_SWITCH (R265). -/
def execRateSwitch (br : Bool) (s : State) : Host.Outcome State Fault Refusal :=
  s.actLive fun t => t.rateSwitch br

/-- SYNC_LOST (R266). -/
def execSyncLost (s : State) : Host.Outcome State Fault Refusal :=
  s.actLive fun t => t.syncLost

/-- LISTEN_TIMEOUT (R266). -/
def execListenTimeout (s : State) : Host.Outcome State Fault Refusal :=
  s.actLive fun t => t.listenTimeout

/-- HOP_SEND (R276). -/
def execHopSend (t3 : DevTime) (s : State) : Host.Outcome State Fault Refusal :=
  s.actTimed fun t => (t.reach t3).hopSend t3

/-- HOP_RX (R276). -/
def execHopRx (br : Bool) (seq : BitVec 12) (turn : Word) (t4 : DevTime) (w : Wire) (s : State) : Host.Outcome State Fault Refusal :=
  s.actTimed fun t => t.frameIn (if br then .branch else .east) (checkFrame w (hopHead (headSrc w) seq) (bytesOf 4 turn.toNat)) true (fun u => (u.reach t4).hopRx br seq turn t4)

/-- HOP_HOLD (R276). -/
def execHopHold (br : Bool) (s : State) : Host.Outcome State Fault Refusal :=
  s.actTimed fun t => t.onRope (·.hopHold br)

/-- PORT_CNT_CLR (R274). -/
def execPortCntClr (r : ReqId) (p : RopePort) (v : Word) (s : State) : Host.Outcome State Fault Refusal :=
  s.actWrite r (pg (portPage p) 0x34) (setBit v 0 true)

end Sys2Proof.Machine
end

