-- ==== Sys2Proof/Machine/ExecSdf.lean ====
section
/-! DEFINITION. Sigma-delta channels: the meaning of each command, one definition a row. -/

namespace Sys2Proof.Machine

/-- SDF_START (R197). -/
def execSdfStart (r : ReqId) (ch : BitVec 6) (v : Word) (s : State) : Host.Outcome State Fault Refusal :=
  s.actWrite r (aSDF ch.toNat 0) (setBit v 0 true)

/-- SDF_STOP (R197). -/
def execSdfStop (r : ReqId) (ch : BitVec 6) (v : Word) (s : State) : Host.Outcome State Fault Refusal :=
  s.actWrite r (aSDF ch.toNat 0) (setBit v 0 false)

/-- SDF_STOP_DONE (R197). -/
def execSdfStopDone (ch : BitVec 6) (s : State) : Host.Outcome State Fault Refusal :=
  s.actTimed fun t => (t.sdfStopDone ch.toNat).settlePin (t.sdfClkPin ch.toNat)

/-- SDF_OUTPUT (R201). -/
def execSdfOutput (ch : BitVec 6) (s : State) : Host.Outcome State Fault Refusal :=
  s.actTimed fun t => t.sdfPublish ch.toNat

/-- SDF_CMP_TRIP (R203). -/
def execSdfCmpTrip (ch : BitVec 6) (high : Bool) (s : State) : Host.Outcome State Fault Refusal :=
  s.actTimed fun t => t.sdfTrip ch.toNat high

/-- SDF_CLK_FAULT (R199). -/
def execSdfClkFault (ch : BitVec 6) (gap : Bool) (at_ : DevTime) (s : State) : Host.Outcome State Fault Refusal :=
  s.actTimed fun t => (t.reach at_).sdfClkFault ch.toNat gap

/-- SDF_RUN_FAULT (R198). -/
def execSdfRunFault (ch : BitVec 6) (s : State) : Host.Outcome State Fault Refusal :=
  s.actTimed fun t => t.sdfRunFault ch.toNat

/-- SDF_BIT_SAMPLE (R199). -/
def execSdfBitSample (ch : BitVec 6) (b : Bool) (at_ : DevTime) (s : State) : Host.Outcome State Fault Refusal :=
  s.actTimed fun t => (if (t.sdfDriver ch.toNat).isNone then t.reach at_ else t).sdfBit ch.toNat b

end Sys2Proof.Machine
end

