-- ==== Sys2Proof/Machine/ExecSettings.lean ====
section
/-! DEFINITION. The settings store: the meaning of each command, one definition a row. -/

namespace Sys2Proof.Machine

/-- SVC_SETTINGS_READ (R448). -/
def execSvcSettingsRead (c : Call) (s : State) : Host.Outcome State Fault Refusal :=
  s.actCall 0x0401 c fun t => t.settingsRead c

/-- SVC_SETTINGS_STAGE (R444). -/
def execSvcSettingsStage (c : Call) (s : State) : Host.Outcome State Fault Refusal :=
  s.actCall 0x0402 c fun t => t.settingsStage c

/-- SVC_SETTINGS_COMMIT (R443). -/
def execSvcSettingsCommit (c : Call) (tj : BitVec 16) (s : State) : Host.Outcome State Fault Refusal :=
  s.actCall 0x0403 c fun t => t.settingsCommit c tj.toInt

/-- SVC_SETTINGS_ABORT (R444). -/
def execSvcSettingsAbort (c : Call) (s : State) : Host.Outcome State Fault Refusal :=
  s.actCall 0x0404 c fun t => t.settingsAbort c

/-- SVC_CLAMP_LOG (R448). -/
def execSvcClampLog (c : Call) (s : State) : Host.Outcome State Fault Refusal :=
  s.actCall 0x0405 c fun t => t.clampLogCall c

/-- DEFERRED_COMMIT_WRITE (R445). -/
def execDeferredCommitWrite (tj : BitVec 16) (s : State) : Host.Outcome State Fault Refusal :=
  s.actLive fun t => (t.writeDeferred tj.toInt).showBootPend

/-- COMPACTION (R446). -/
def execCompaction (tj : BitVec 16) (s : State) : Host.Outcome State Fault Refusal :=
  s.actLive fun t => (t.sampleTj tj.toInt).compaction

end Sys2Proof.Machine
end

