-- ==== Sys2Proof/Machine/ExecTime.lean ====
section
/-! DEFINITION. The time base: the meaning of each command, one definition a row. -/

namespace Sys2Proof.Machine

/-- TIME_STEP_COMMIT (R172). -/
def execTimeStepCommit (s : State) : Host.Outcome State Fault Refusal :=
  s.actLive fun t => t.timeOp 1

/-- TIME_SLEW_COMMIT (R172). -/
def execTimeSlewCommit (s : State) : Host.Outcome State Fault Refusal :=
  s.actLive fun t => t.timeOp 2

/-- STEP_APPLY (R171). -/
def execStepApply (s : State) : Host.Outcome State Fault Refusal :=
  s.actTimed fun t => t.applyStep

/-- SERVO_MEASURE (R170). -/
def execServoMeasure (s : State) : Host.Outcome State Fault Refusal :=
  s.actTimed fun t => t.servoMeasure

/-- REF_LOST (R173). -/
def execRefLost (s : State) : Host.Outcome State Fault Refusal :=
  s.actTimed fun t => if t.servoRuns && !t.time.refLost then t.loseReference else t

/-- PPS_EDGE (R169). -/
def execPpsEdge (at_ : DevTime) (s : State) : Host.Outcome State Fault Refusal :=
  s.actTimed fun t => (t.reach at_).ppsEdge at_

/-- TIME_WRAP (R165). -/
def execTimeWrap (s : State) : Host.Outcome State Fault Refusal :=
  s.actTimed fun t => t.reach 0

/-- BOUND_UPDATE (R175). -/
def execBoundUpdate (s : State) : Host.Outcome State Fault Refusal :=
  s.actTimed fun t => t.updateBound

/-- TIME_STAT_READ (R168). -/
def execTimeStatRead (r : ReqId) (s : State) : Host.Outcome State Fault Refusal :=
  s.actRead r (aTIME 0x24)

end Sys2Proof.Machine
end

