-- ==== Sys2Proof/Machine/Dispatch.lean ====
section
/-! DEFINITION. The dispatch of a command to its meaning: one arm per constructor of Instr. -/

namespace Sys2Proof.Machine

def exec (i : Instr) (s : State) : Host.Outcome State Fault Refusal :=
  match i with
  | .vinGood vin straps => Sys2Proof.Machine.execVinGood vin straps s
  | .brace vin => Sys2Proof.Machine.execBrace vin s
  | .heartBraceWrite tj => Sys2Proof.Machine.execHeartBraceWrite tj s
  | .vinAboveWarn vin => Sys2Proof.Machine.execVinAboveWarn vin s
  | .railFault rail above => Sys2Proof.Machine.execRailFault rail above s
  | .phaseFault phase => Sys2Proof.Machine.execPhaseFault phase s
  | .kMeasure k vcore vaux vio icore vin => Sys2Proof.Machine.execKMeasure k vcore vaux vio icore vin s
  | .svcDeviceReset c => Sys2Proof.Machine.execSvcDeviceReset c s
  | .svcInfo c => Sys2Proof.Machine.execSvcInfo c s
  | .svcPageOwner c => Sys2Proof.Machine.execSvcPageOwner c s
  | .svcPinOwner c => Sys2Proof.Machine.execSvcPinOwner c s
  | .svcHoldEnter c => Sys2Proof.Machine.execSvcHoldEnter c s
  | .svcHoldRelease c => Sys2Proof.Machine.execSvcHoldRelease c s
  | .svcServiceEnter c => Sys2Proof.Machine.execSvcServiceEnter c s
  | .svcServiceExit c => Sys2Proof.Machine.execSvcServiceExit c s
  | .guideResponsePost m => Sys2Proof.Machine.execGuideResponsePost m s
  | .registerWrite r addr v full dwords poisoned => Sys2Proof.Machine.execRegisterWrite r addr v full dwords poisoned s
  | .snapshotRead r addr dwords => Sys2Proof.Machine.execSnapshotRead r addr dwords s
  | .commit r p v => Sys2Proof.Machine.execCommit r p v s
  | .commitTransfer p => Sys2Proof.Machine.execCommitTransfer p s
  | .lock r p v => Sys2Proof.Machine.execLock r p v s
  | .boughFreeze r b v => Sys2Proof.Machine.execBoughFreeze r b v s
  | .boughResume r b v => Sys2Proof.Machine.execBoughResume r b v s
  | .cadClr r b v => Sys2Proof.Machine.execCadClr r b v s
  | .cadenceWindow b => Sys2Proof.Machine.execCadenceWindow b s
  | .hsRequest b j => Sys2Proof.Machine.execHsRequest b j s
  | .channelPush b ch => Sys2Proof.Machine.execChannelPush b ch s
  | .channelValid b ch => Sys2Proof.Machine.execChannelValid b ch s
  | .channelPop b ch => Sys2Proof.Machine.execChannelPop b ch s
  | .crossingEvent k => Sys2Proof.Machine.execCrossingEvent k s
  | .bramEccError b n row dbe => Sys2Proof.Machine.execBramEccError b n row dbe s
  | .pllEnable r p v => Sys2Proof.Machine.execPllEnable r p v s
  | .pllDisable r p v => Sys2Proof.Machine.execPllDisable r p v s
  | .pllLock p => Sys2Proof.Machine.execPllLock p s
  | .pllLossOfLock p => Sys2Proof.Machine.execPllLossOfLock p s
  | .clockSwitch r k v => Sys2Proof.Machine.execClockSwitch r k v s
  | .clockSwitchDone k => Sys2Proof.Machine.execClockSwitchDone k s
  | .divWrite r b ch v => Sys2Proof.Machine.execDivWrite r b ch v s
  | .bclkGate r b ch v => Sys2Proof.Machine.execBclkGate r b ch v s
  | .rootGate r n v => Sys2Proof.Machine.execRootGate r n v s
  | .xmergeClr r b v => Sys2Proof.Machine.execXmergeClr r b v s
  | .ppsEdge at_ => Sys2Proof.Machine.execPpsEdge at_ s
  | .timeStatRead r => Sys2Proof.Machine.execTimeStatRead r s
  | .eqLo r p v => Sys2Proof.Machine.execEqLo r p v s
  | .eqHi r p v => Sys2Proof.Machine.execEqHi r p v s
  | .queueEdge p => Sys2Proof.Machine.execQueueEdge p s
  | .edgeDisable r p v => Sys2Proof.Machine.execEdgeDisable r p v s
  | .edgeEnable r p v => Sys2Proof.Machine.execEdgeEnable r p v s
  | .pwmPeriodStart p => Sys2Proof.Machine.execPwmPeriodStart p s
  | .pwmEdge p rising => Sys2Proof.Machine.execPwmEdge p rising s
  | .captureEdge p falling at_ => Sys2Proof.Machine.execCaptureEdge p falling at_ s
  | .capLoRead r p => Sys2Proof.Machine.execCapLoRead r p s
  | .grpCommit r v => Sys2Proof.Machine.execGrpCommit r v s
  | .calCycleStart k => Sys2Proof.Machine.execCalCycleStart k s
  | .lineCalDone p ok => Sys2Proof.Machine.execLineCalDone p ok s
  | .lineSwap p => Sys2Proof.Machine.execLineSwap p s
  | .swapAbandon p => Sys2Proof.Machine.execSwapAbandon p s
  | .bootCalDone k => Sys2Proof.Machine.execBootCalDone k s
  | .sdfStart r ch v => Sys2Proof.Machine.execSdfStart r ch v s
  | .sdfStop r ch v => Sys2Proof.Machine.execSdfStop r ch v s
  | .sdfStopDone ch => Sys2Proof.Machine.execSdfStopDone ch s
  | .sdfOutput ch => Sys2Proof.Machine.execSdfOutput ch s
  | .sdfCmpTrip ch high => Sys2Proof.Machine.execSdfCmpTrip ch high s
  | .sdfClkFault ch gap at_ => Sys2Proof.Machine.execSdfClkFault ch gap at_ s
  | .sdfRunFault ch => Sys2Proof.Machine.execSdfRunFault ch s
  | .loopGridPoint n ecc => Sys2Proof.Machine.execLoopGridPoint n ecc s
  | .loopEventTrigger n ecc => Sys2Proof.Machine.execLoopEventTrigger n ecc s
  | .loopSampleTrigger n ecc => Sys2Proof.Machine.execLoopSampleTrigger n ecc s
  | .abseilTrigger n ecc => Sys2Proof.Machine.execAbseilTrigger n ecc s
  | .outputApply n => Sys2Proof.Machine.execOutputApply n s
  | .fslotWord q w => Sys2Proof.Machine.execFslotWord q w s
  | .ctxCommit r v => Sys2Proof.Machine.execCtxCommit r v s
  | .abseilEnter r v => Sys2Proof.Machine.execAbseilEnter r v s
  | .abseilRelease r v => Sys2Proof.Machine.execAbseilRelease r v s
  | .hbKick r v => Sys2Proof.Machine.execHbKick r v s
  | .hbMiss h => Sys2Proof.Machine.execHbMiss h s
  | .stateWrite r w v => Sys2Proof.Machine.execStateWrite r w v s
  | .missedClr r n v => Sys2Proof.Machine.execMissedClr r n v s
  | .ropeEnable r v => Sys2Proof.Machine.execRopeEnable r v s
  | .ropeLock rate => Sys2Proof.Machine.execRopeLock rate s
  | .joinCheck f west => Sys2Proof.Machine.execJoinCheck f west s
  | .leadingStart br => Sys2Proof.Machine.execLeadingStart br s
  | .belay r v => Sys2Proof.Machine.execBelay r v s
  | .cycleStart br tc => Sys2Proof.Machine.execCycleStart br tc s
  | .cycleFrameRx f west ta fwd w => Sys2Proof.Machine.execCycleFrameRx f west ta fwd w s
  | .cycleFrameReturn port f a => Sys2Proof.Machine.execCycleFrameReturn port f a s
  | .subStale e => Sys2Proof.Machine.execSubStale e s
  | .portFault p cause => Sys2Proof.Machine.execPortFault p cause s
  | .rateReturn br => Sys2Proof.Machine.execRateReturn br s
  | .rateSwitch br => Sys2Proof.Machine.execRateSwitch br s
  | .hopSend t3 => Sys2Proof.Machine.execHopSend t3 s
  | .hopRx br seq turn t4 w => Sys2Proof.Machine.execHopRx br seq turn t4 w s
  | .hopHold br => Sys2Proof.Machine.execHopHold br s
  | .remoteAccess r n addr full k dwords poisoned => Sys2Proof.Machine.execRemoteAccess r n addr full k dwords poisoned s
  | .rdReqRx port f w => Sys2Proof.Machine.execRdReqRx port f w s
  | .wrReqRx port f w => Sys2Proof.Machine.execWrReqRx port f w s
  | .mbxRx port f w => Sys2Proof.Machine.execMbxRx port f w s
  | .rdRspRx port f w => Sys2Proof.Machine.execRdRspRx port f w s
  | .wrAckRx port f w => Sys2Proof.Machine.execWrAckRx port f w s
  | .mbxAckRx port f w => Sys2Proof.Machine.execMbxAckRx port f w s
  | .nakRx port f w => Sys2Proof.Machine.execNakRx port f w s
  | .retxTimeout n => Sys2Proof.Machine.execRetxTimeout n s
  | .pos0Pass br f => Sys2Proof.Machine.execPos0Pass br f s
  | .frameForward fromBranch f => Sys2Proof.Machine.execFrameForward fromBranch f s
  | .portCntClr r p v => Sys2Proof.Machine.execPortCntClr r p v s
  | .msixSend n => Sys2Proof.Machine.execMsixSend n s
  | .msixPendClear r k v => Sys2Proof.Machine.execMsixPendClear r k v s
  | .fabricEvent j => Sys2Proof.Machine.execFabricEvent j s
  | .sw0Raise r v => Sys2Proof.Machine.execSw0Raise r v s
  | .sw1Raise r v => Sys2Proof.Machine.execSw1Raise r v s
  | .txWord r m w v => Sys2Proof.Machine.execTxWord r m w v s
  | .txPost r m v => Sys2Proof.Machine.execTxPost r m v s
  | .rxInfo0Read r m => Sys2Proof.Machine.execRxInfo0Read r m s
  | .mbLockRead r m => Sys2Proof.Machine.execMbLockRead r m s
  | .mbLockWrite r m v => Sys2Proof.Machine.execMbLockWrite r m v s
  | .mbTimeout m => Sys2Proof.Machine.execMbTimeout m s
  | .linkChange up gen width l1 => Sys2Proof.Machine.execLinkChange up gen width l1 s
  | .retrain r v => Sys2Proof.Machine.execRetrain r v s
  | .bar4Access ofs write be data mark => Sys2Proof.Machine.execBar4Access ofs write be data mark s
  | .i2cAddressMatch fails => Sys2Proof.Machine.execI2cAddressMatch fails s
  | .i2cWrite bytes => Sys2Proof.Machine.execI2cWrite bytes s
  | .parkEnd n => Sys2Proof.Machine.execParkEnd n s
  | .vccioMeasure b meas settled => Sys2Proof.Machine.execVccioMeasure b meas settled s
  | .pinLockArm r n => Sys2Proof.Machine.execPinLockArm r n s
  | .pinLockKey r n => Sys2Proof.Machine.execPinLockKey r n s
  | .dramRequest p a write line be data close fence tag => Sys2Proof.Machine.execDramRequest p a write line be data close fence tag s
  | .dramIssue ready => Sys2Proof.Machine.execDramIssue ready s
  | .dramReadDone seq ups => Sys2Proof.Machine.execDramReadDone seq ups s
  | .agePromote seq => Sys2Proof.Machine.execAgePromote seq s
  | .rowIdleClose bank => Sys2Proof.Machine.execRowIdleClose bank s
  | .refresh rank postpone => Sys2Proof.Machine.execRefresh rank postpone s
  | .retrim lanes => Sys2Proof.Machine.execRetrim lanes s
  | .dramEnable r v => Sys2Proof.Machine.execDramEnable r v s
  | .dramDisable r v => Sys2Proof.Machine.execDramDisable r v s
  | .trainingDone sweeps => Sys2Proof.Machine.execTrainingDone sweeps s
  | .portClkMeasure p fast => Sys2Proof.Machine.execPortClkMeasure p fast s
  | .svcImageLoad c => Sys2Proof.Machine.execSvcImageLoad c s
  | .svcImageSwitch c => Sys2Proof.Machine.execSvcImageSwitch c s
  | .svcImageVerify c cause usercode => Sys2Proof.Machine.execSvcImageVerify c cause usercode s
  | .svcGroveLoad c => Sys2Proof.Machine.execSvcGroveLoad c s
  | .svcReadback c => Sys2Proof.Machine.execSvcReadback c s
  | .svcBootBank c tj => Sys2Proof.Machine.execSvcBootBank c tj s
  | .nop header tagOk => Sys2Proof.Machine.execNop header tagOk s
  | .deviceId header tagOk => Sys2Proof.Machine.execDeviceId header tagOk s
  | .wregMode header tagOk => Sys2Proof.Machine.execWregMode header tagOk s
  | .wregUsercode header tagOk => Sys2Proof.Machine.execWregUsercode header tagOk s
  | .frame header tagOk d check => Sys2Proof.Machine.execFrame header tagOk d check s
  | .keyRoll header tagOk => Sys2Proof.Machine.execKeyRoll header tagOk s
  | .end_ header tagOk crc digestOk => Sys2Proof.Machine.execEnd_ header tagOk crc digestOk s
  | .releaseDone tj => Sys2Proof.Machine.execReleaseDone tj s
  | .scrubFrame flips checkFlips fetched => Sys2Proof.Machine.execScrubFrame flips checkFlips fetched s
  | .svcFlashRead c => Sys2Proof.Machine.execSvcFlashRead c s
  | .svcFlashProgram c tj => Sys2Proof.Machine.execSvcFlashProgram c tj s
  | .svcFlashErase c tj => Sys2Proof.Machine.execSvcFlashErase c tj s
  | .svcFlashSuspend c => Sys2Proof.Machine.execSvcFlashSuspend c s
  | .svcFlashResume c => Sys2Proof.Machine.execSvcFlashResume c s
  | .svcFlashBlankCheck c => Sys2Proof.Machine.execSvcFlashBlankCheck c s
  | .svcFlashStatus c => Sys2Proof.Machine.execSvcFlashStatus c s
  | .erasePulseDone pass tj => Sys2Proof.Machine.execErasePulseDone pass tj s
  | .programPulseDone pass tj => Sys2Proof.Machine.execProgramPulseDone pass tj s
  | .eraseTempResume tj => Sys2Proof.Machine.execEraseTempResume tj s
  | .svcSettingsRead c => Sys2Proof.Machine.execSvcSettingsRead c s
  | .svcSettingsStage c => Sys2Proof.Machine.execSvcSettingsStage c s
  | .svcSettingsCommit c tj => Sys2Proof.Machine.execSvcSettingsCommit c tj s
  | .svcSettingsAbort c => Sys2Proof.Machine.execSvcSettingsAbort c s
  | .svcClampLog c => Sys2Proof.Machine.execSvcClampLog c s
  | .deferredCommitWrite tj => Sys2Proof.Machine.execDeferredCommitWrite tj s
  | .compaction tj => Sys2Proof.Machine.execCompaction tj s
  | .svcPwrEnter c passed tj => Sys2Proof.Machine.execSvcPwrEnter c passed tj s
  | .svcPwrPolicy c => Sys2Proof.Machine.execSvcPwrPolicy c s
  | .timeLatch sub => Sys2Proof.Machine.execTimeLatch sub s
  | .wakeN fails => Sys2Proof.Machine.execWakeN fails s
  | .pinWake n rising fails => Sys2Proof.Machine.execPinWake n rising fails s
  | .vinRestore fails => Sys2Proof.Machine.execVinRestore fails s
  | .timeReconstruct sub => Sys2Proof.Machine.execTimeReconstruct sub s
  | .pitchDone misr fails => Sys2Proof.Machine.execPitchDone misr fails s
  | .periodicPitch late => Sys2Proof.Machine.execPeriodicPitch late s
  | .pitchRetry e => Sys2Proof.Machine.execPitchRetry e s
  | .dbeCheckTimeout e => Sys2Proof.Machine.execDbeCheckTimeout e s
  | .linkCheckDone port bad => Sys2Proof.Machine.execLinkCheckDone port bad s
  | .svcPitchRun c => Sys2Proof.Machine.execSvcPitchRun c s
  | .svcPitchSchedule c => Sys2Proof.Machine.execSvcPitchSchedule c s
  | .lcTransition c word erased loss tj => Sys2Proof.Machine.execLcTransition c word erased loss tj s
  | .otpWrite c word erased loss tj => Sys2Proof.Machine.execOtpWrite c word erased loss tj s
  | .svcDebugOpen c => Sys2Proof.Machine.execSvcDebugOpen c s
  | .svcDebugClose c => Sys2Proof.Machine.execSvcDebugClose c s
  | .samplePreload cells => Sys2Proof.Machine.execSamplePreload cells s
  | .extest cells => Sys2Proof.Machine.execExtest cells s
  | .bypass code => Sys2Proof.Machine.execBypass code s
  | .guideCall words => Sys2Proof.Machine.execGuideCall words s
  | .debugAccess write ofs v => Sys2Proof.Machine.execDebugAccess write ofs v s
  | .svcHeartRead c => Sys2Proof.Machine.execSvcHeartRead c s
  | .svcCalendarSet c tj => Sys2Proof.Machine.execSvcCalendarSet c tj s
  | .calendarSecond tj => Sys2Proof.Machine.execCalendarSecond tj s
  | .alarm fails => Sys2Proof.Machine.execAlarm fails s
  | .heartCountWrite tj => Sys2Proof.Machine.execHeartCountWrite tj s
  | .heartDeferredWrite tj => Sys2Proof.Machine.execHeartDeferredWrite tj s
  | .heartRebase tj => Sys2Proof.Machine.execHeartRebase tj s
  | .activeClockEdge edges balls => Sys2Proof.Machine.execActiveClockEdge edges balls s
  | .sdfBitSample ch b at_ => Sys2Proof.Machine.execSdfBitSample ch b at_ s
  | .configurationSpaceWrite d3hot en mask => Sys2Proof.Machine.execConfigurationSpaceWrite d3hot en mask s
  | .powerOnReset => Sys2Proof.Machine.execPowerOnReset s
  | .vinLowAsleep => Sys2Proof.Machine.execVinLowAsleep s
  | .vinOv => Sys2Proof.Machine.execVinOv s
  | .autoHoldRelease => Sys2Proof.Machine.execAutoHoldRelease s
  | .railRetry => Sys2Proof.Machine.execRailRetry s
  | .rstNAssert => Sys2Proof.Machine.execRstNAssert s
  | .deviceResetEnd => Sys2Proof.Machine.execDeviceResetEnd s
  | .guideWait => Sys2Proof.Machine.execGuideWait s
  | .guideTakeRequest => Sys2Proof.Machine.execGuideTakeRequest s
  | .guideReplyRetry => Sys2Proof.Machine.execGuideReplyRetry s
  | .refclkLoss => Sys2Proof.Machine.execRefclkLoss s
  | .tpllRelock => Sys2Proof.Machine.execTpllRelock s
  | .timingPllLock => Sys2Proof.Machine.execTimingPllLock s
  | .xtalStart => Sys2Proof.Machine.execXtalStart s
  | .xtalFail => Sys2Proof.Machine.execXtalFail s
  | .timeStepCommit => Sys2Proof.Machine.execTimeStepCommit s
  | .timeSlewCommit => Sys2Proof.Machine.execTimeSlewCommit s
  | .stepApply => Sys2Proof.Machine.execStepApply s
  | .servoMeasure => Sys2Proof.Machine.execServoMeasure s
  | .refLost => Sys2Proof.Machine.execRefLost s
  | .timeWrap => Sys2Proof.Machine.execTimeWrap s
  | .boundUpdate => Sys2Proof.Machine.execBoundUpdate s
  | .admissionDone => Sys2Proof.Machine.execAdmissionDone s
  | .hb1Kick => Sys2Proof.Machine.execHb1Kick s
  | .joinOpen => Sys2Proof.Machine.execJoinOpen s
  | .joined => Sys2Proof.Machine.execJoined s
  | .joinTimeout => Sys2Proof.Machine.execJoinTimeout s
  | .leaveDone => Sys2Proof.Machine.execLeaveDone s
  | .wrapNrClear => Sys2Proof.Machine.execWrapNrClear s
  | .unwrap => Sys2Proof.Machine.execUnwrap s
  | .syncLost => Sys2Proof.Machine.execSyncLost s
  | .listenTimeout => Sys2Proof.Machine.execListenTimeout s
  | .accessFrameSend => Sys2Proof.Machine.execAccessFrameSend s
  | .ropeEventSend => Sys2Proof.Machine.execRopeEventSend s
  | .perstNAssert => Sys2Proof.Machine.execPerstNAssert s
  | .perstNRelease => Sys2Proof.Machine.execPerstNRelease s
  | .hotReset => Sys2Proof.Machine.execHotReset s
  | .flr => Sys2Proof.Machine.execFlr s
  | .i2cRead => Sys2Proof.Machine.execI2cRead s
  | .dramScrubRead => Sys2Proof.Machine.execDramScrubRead s
  | .wipeDone => Sys2Proof.Machine.execWipeDone s
  | .fallbackLoad => Sys2Proof.Machine.execFallbackLoad s
  | .releaseRank => Sys2Proof.Machine.execReleaseRank s
  | .releasePorts => Sys2Proof.Machine.execReleasePorts s
  | .releasePins => Sys2Proof.Machine.execReleasePins s
  | .readbackCapture => Sys2Proof.Machine.execReadbackCapture s
  | .essAction => Sys2Proof.Machine.execEssAction s
  | .eraseTempTimeout => Sys2Proof.Machine.execEraseTempTimeout s
  | .entryUndo => Sys2Proof.Machine.execEntryUndo s
  | .budgetStep => Sys2Proof.Machine.execBudgetStep s
  | .budgetRefill => Sys2Proof.Machine.execBudgetRefill s
  | .pitchStart => Sys2Proof.Machine.execPitchStart s
  | .grantTimeout => Sys2Proof.Machine.execGrantTimeout s
  | .holdoffEnd => Sys2Proof.Machine.execHoldoffEnd s
  | .debugTimeout => Sys2Proof.Machine.execDebugTimeout s
  | .idcode => Sys2Proof.Machine.execIdcode s
  | .clampInstr => Sys2Proof.Machine.execClampInstr s
  | .highz => Sys2Proof.Machine.execHighz s

end Sys2Proof.Machine
end

