-- ==== Sys2Proof/WellFormed.lean ====
section
/-! DEFINITION. Which commands are well formed: the bounds the spec gives for operands that their types leave wider. -/

namespace Sys2Proof

/-- The requester IDs of a local access: the host, the Guide, the debug port and the eight fabric bus ports (R30, R32). -/
def reqOk (r : ReqId) : Bool :=
  decide (r.toNat = 1) || decide (r.toNat = 2) || decide (r.toNat = 3) || (decide (8 ≤ r.toNat) && decide (r.toNat ≤ 15))

/-- The 640 user pins (R333). -/
def pinOk (n : BitVec 10) : Bool := decide (n.toNat < 640)

/-- A controller, or a wrapper of a block memory or a MAC block (R97, R120). -/
def stageOk (j : BitVec 9) : Bool := decide (j.toNat < 256) || (decide (288 ≤ j.toNat) && decide (j.toNat < 300))

/-- A caller of the Guide (R328): the JTAG path, a local requester, or a remote node. -/
def callOk (c : Call) : Bool := if c.jtag then decide (c.caller.toNat = 3) else reqOk c.caller || decide (0x200 ≤ c.caller.toNat)

/-- The instructions of the JTAG port that have a command of their own (R521). -/
def jtagNamed (code : BitVec 8) : Bool := [0x01, 0x02, 0x03, 0x04, 0x05, 0x20, 0x21].contains code.toNat

/-- A message carries eight words, and a read response at most four latched ones (R294). -/
def frameOk (f : AccFrame) : Bool :=
  match f.body with
  | .mbx _ _ _ words => decide (words.length = 8)
  | .rdRsp _ _ latched _ => decide (latched.length ≤ 4)
  | _ => true

/-- A cycle frame: keys of samples lie below 64 × 32 (R258). -/
def cycleOk (f : CycleFrame) : Bool := (f.valid.all fun e => decide (e.1 < 2048)) && f.data.all fun e => decide (e.1 < 2048)

/-- A link that is up runs at Gen 1 to 4 and a width of 1, 2 or 4 lanes (R347). -/
def linkOk (up : Bool) (gen width : BitVec 3) : Bool :=
  !up || (decide (1 ≤ gen.toNat) && decide (gen.toNat ≤ 4) && [1, 2, 4].contains width.toNat)

/-- The command is well formed. -/
def Instr.wf (i : Instr) : Bool :=
  match i with
  | .vinGood _ _ => true
  | .powerOnReset => true
  | .brace _ => true
  | .heartBraceWrite _ => true
  | .vinLowAsleep => true
  | .vinAboveWarn _ => true
  | .vinOv => true
  | .autoHoldRelease => true
  | .railFault rail _ => rail != 0
  | .railRetry => true
  | .phaseFault _ => true
  | .kMeasure _ _ _ _ _ _ => true
  | .rstNAssert => true
  | .deviceResetEnd => true
  | .svcDeviceReset c => callOk c
  | .svcInfo c => callOk c
  | .svcPageOwner c => callOk c
  | .svcPinOwner c => callOk c
  | .svcHoldEnter c => callOk c
  | .svcHoldRelease c => callOk c
  | .svcServiceEnter c => callOk c
  | .svcServiceExit c => callOk c
  | .guideWait => true
  | .guideTakeRequest => true
  | .guideResponsePost _ => true
  | .guideReplyRetry => true
  | .svcPwrEnter c passed _ => callOk c && decide (passed.toNat ≤ 5)
  | .svcPwrPolicy c => callOk c
  | .entryUndo => true
  | .timeLatch _ => true
  | .wakeN _ => true
  | .pinWake n _ _ => pinOk n
  | .vinRestore _ => true
  | .timeReconstruct _ => true
  | .budgetStep => true
  | .budgetRefill => true
  | .registerWrite r _ _ _ _ _ => reqOk r
  | .snapshotRead r _ _ => reqOk r
  | .commit r _ _ => reqOk r
  | .commitTransfer _ => true
  | .lock r _ _ => reqOk r
  | .boughFreeze r _ _ => reqOk r
  | .boughResume r _ _ => reqOk r
  | .cadClr r _ _ => reqOk r
  | .cadenceWindow _ => true
  | .hsRequest _ j => stageOk j
  | .channelPush _ _ => true
  | .channelValid _ _ => true
  | .channelPop _ _ => true
  | .crossingEvent _ => true
  | .bramEccError _ _ _ _ => true
  | .activeClockEdge edges balls => !edges.isEmpty && balls.all fun e => pinOk e.1
  | .pllEnable r _ _ => reqOk r
  | .pllDisable r _ _ => reqOk r
  | .pllLock _ => true
  | .pllLossOfLock _ => true
  | .refclkLoss => true
  | .tpllRelock => true
  | .timingPllLock => true
  | .xtalStart => true
  | .xtalFail => true
  | .clockSwitch r _ _ => reqOk r
  | .clockSwitchDone _ => true
  | .divWrite r _ _ _ => reqOk r
  | .bclkGate r _ _ _ => reqOk r
  | .rootGate r _ _ => reqOk r
  | .xmergeClr r _ _ => reqOk r
  | .timeStepCommit => true
  | .timeSlewCommit => true
  | .stepApply => true
  | .servoMeasure => true
  | .refLost => true
  | .ppsEdge _ => true
  | .timeWrap => true
  | .boundUpdate => true
  | .timeStatRead r => reqOk r
  | .eqLo r _ _ => reqOk r
  | .eqHi r _ _ => reqOk r
  | .queueEdge _ => true
  | .edgeDisable r _ _ => reqOk r
  | .edgeEnable r _ _ => reqOk r
  | .pwmPeriodStart _ => true
  | .pwmEdge _ _ => true
  | .captureEdge _ _ _ => true
  | .capLoRead r _ => reqOk r
  | .grpCommit r _ => reqOk r
  | .calCycleStart _ => true
  | .lineCalDone _ _ => true
  | .lineSwap _ => true
  | .swapAbandon _ => true
  | .bootCalDone _ => true
  | .sdfStart r _ _ => reqOk r
  | .sdfStop r _ _ => reqOk r
  | .sdfStopDone _ => true
  | .sdfOutput _ => true
  | .sdfCmpTrip _ _ => true
  | .sdfClkFault _ _ _ => true
  | .sdfRunFault _ => true
  | .sdfBitSample _ _ _ => true
  | .loopGridPoint _ ecc => ecc != 3
  | .loopEventTrigger _ ecc => ecc != 3
  | .loopSampleTrigger _ ecc => ecc != 3
  | .abseilTrigger _ ecc => ecc != 3
  | .outputApply _ => true
  | .fslotWord _ _ => true
  | .ctxCommit r _ => reqOk r
  | .admissionDone => true
  | .abseilEnter r _ => reqOk r
  | .abseilRelease r _ => reqOk r
  | .hbKick r _ => reqOk r
  | .hb1Kick => true
  | .hbMiss _ => true
  | .stateWrite r _ _ => reqOk r
  | .missedClr r _ _ => reqOk r
  | .ropeEnable r _ => reqOk r
  | .ropeLock _ => true
  | .joinCheck f _ => cycleOk f
  | .joinOpen => true
  | .joined => true
  | .joinTimeout => true
  | .leadingStart _ => true
  | .belay r _ => reqOk r
  | .leaveDone => true
  | .cycleStart _ _ => true
  | .cycleFrameRx f _ _ _ _ => cycleOk f
  | .cycleFrameReturn _ f _ => cycleOk f
  | .subStale _ => true
  | .portFault _ _ => true
  | .wrapNrClear => true
  | .unwrap => true
  | .rateReturn _ => true
  | .rateSwitch _ => true
  | .syncLost => true
  | .listenTimeout => true
  | .hopSend _ => true
  | .hopRx _ _ _ _ _ => true
  | .hopHold _ => true
  | .portCntClr r _ _ => reqOk r
  | .remoteAccess r _ _ _ _ _ _ => reqOk r
  | .accessFrameSend => true
  | .rdReqRx _ f _ => frameOk f
  | .wrReqRx _ f _ => frameOk f
  | .mbxRx _ f _ => frameOk f
  | .rdRspRx _ f _ => frameOk f
  | .wrAckRx _ f _ => frameOk f
  | .mbxAckRx _ f _ => frameOk f
  | .nakRx _ f _ => frameOk f
  | .retxTimeout _ => true
  | .pos0Pass _ f => frameOk f
  | .frameForward _ f => frameOk f
  | .msixSend _ => true
  | .msixPendClear r _ _ => reqOk r
  | .ropeEventSend => true
  | .fabricEvent _ => true
  | .sw0Raise r _ => reqOk r
  | .sw1Raise r _ => reqOk r
  | .txWord r _ _ _ => reqOk r
  | .txPost r _ _ => reqOk r
  | .rxInfo0Read r _ => reqOk r
  | .mbLockRead r _ => reqOk r
  | .mbLockWrite r _ _ => reqOk r
  | .mbTimeout _ => true
  | .perstNAssert => true
  | .perstNRelease => true
  | .hotReset => true
  | .flr => true
  | .linkChange up gen width _ => linkOk up gen width
  | .retrain r _ => reqOk r
  | .bar4Access _ _ _ _ _ => true
  | .i2cAddressMatch _ => true
  | .i2cWrite _ => true
  | .i2cRead => true
  | .configurationSpaceWrite _ _ _ => true
  | .parkEnd n => pinOk n
  | .vccioMeasure b _ _ => decide (b.toNat < 20)
  | .pinLockArm r n => reqOk r && pinOk n
  | .pinLockKey r n => reqOk r && pinOk n
  | .dramRequest _ _ _ _ _ _ _ _ _ => true
  | .dramIssue _ => true
  | .dramReadDone _ ups => decide (ups.length ≤ 8)
  | .agePromote _ => true
  | .rowIdleClose _ => true
  | .refresh _ _ => true
  | .retrim lanes => decide (lanes.length ≤ 16)
  | .dramEnable r _ => reqOk r
  | .dramDisable r _ => reqOk r
  | .trainingDone sweeps => decide (sweeps.length ≤ 16)
  | .dramScrubRead => true
  | .portClkMeasure _ _ => true
  | .svcImageLoad c => callOk c
  | .svcImageSwitch c => callOk c
  | .svcImageVerify c _ _ => callOk c
  | .svcGroveLoad c => callOk c
  | .svcReadback c => callOk c
  | .svcBootBank c _ => callOk c
  | .wipeDone => true
  | .nop _ _ => true
  | .deviceId _ _ => true
  | .wregMode _ _ => true
  | .wregUsercode _ _ => true
  | .frame _ _ _ _ => true
  | .keyRoll _ _ => true
  | .end_ _ _ _ _ => true
  | .fallbackLoad => true
  | .releaseRank => true
  | .releasePorts => true
  | .releasePins => true
  | .releaseDone _ => true
  | .readbackCapture => true
  | .scrubFrame _ _ _ => true
  | .essAction => true
  | .svcFlashRead c => callOk c
  | .svcFlashProgram c _ => callOk c
  | .svcFlashErase c _ => callOk c
  | .svcFlashSuspend c => callOk c
  | .svcFlashResume c => callOk c.call
  | .svcFlashBlankCheck c => callOk c
  | .svcFlashStatus c => callOk c
  | .erasePulseDone _ _ => true
  | .programPulseDone _ _ => true
  | .eraseTempResume _ => true
  | .eraseTempTimeout => true
  | .svcSettingsRead c => callOk c
  | .svcSettingsStage c => callOk c
  | .svcSettingsCommit c _ => callOk c
  | .svcSettingsAbort c => callOk c
  | .svcClampLog c => callOk c
  | .deferredCommitWrite _ => true
  | .compaction _ => true
  | .lcTransition c _ _ _ _ => callOk c
  | .otpWrite c _ _ _ _ => callOk c
  | .svcDebugOpen c => callOk c
  | .svcDebugClose c => callOk c
  | .debugTimeout => true
  | .idcode => true
  | .samplePreload cells => cells.all fun e => pinOk e.1
  | .extest cells => cells.all fun e => pinOk e.1
  | .clampInstr => true
  | .highz => true
  | .bypass code => !jtagNamed code
  | .guideCall words => decide (words.length = 8)
  | .debugAccess _ ofs _ => decide (ofs.toNat % 4 = 0)
  | .pitchStart => true
  | .pitchDone _ _ => true
  | .periodicPitch _ => true
  | .grantTimeout => true
  | .pitchRetry _ => true
  | .holdoffEnd => true
  | .dbeCheckTimeout _ => true
  | .linkCheckDone _ _ => true
  | .svcPitchRun c => callOk c
  | .svcPitchSchedule c => callOk c
  | .svcHeartRead c => callOk c
  | .svcCalendarSet c _ => callOk c
  | .calendarSecond _ => true
  | .alarm _ => true
  | .heartCountWrite _ => true
  | .heartDeferredWrite _ => true
  | .heartRebase _ => true

end Sys2Proof
end

