-- ==== Sys2Proof/Safety.lean ====
section
/-! DEFINITION. The terms in which claims speak of a run: a command that completes, a queue and memories in good order. -/

namespace Sys2Proof.Machine

/-- Command c, carried out in state s, answers a next state, and that state satisfies P. -/
def Completes (c : Instr) (s : State) (P : State → Prop) : Prop := ∃ t, exec c s = .next t ∧ P t

/-- Command c, carried out in state s, answers state t, its queue aside: no command changes the queue that waits. -/
def Answers (c : Instr) (s t : State) : Prop := exec c s = .next (t.withPending s.pending)

/-- Requester r reaches the registers, offset a holds one, and a write of v to it passes every check of R40. -/
abbrev Accepted (s : State) (r : ReqId) (a : Nat) (v : Word) : Prop :=
  s.reaches r.toNat = true ∧ (regSpec a).isSome = true ∧ (s.checkWrite a r.toNat true v).pass = true

/-- Requester r reads registers: it reaches them, and the debug port has a session (R48, R521). -/
abbrev Readable (s : State) (r : ReqId) : Prop := s.reaches r.toNat = true ∧ (r.toNat ≠ rDebug ∨ s.debugOpen = true)

/-- The state in which the Guide begins a call: IDLE has ended, and the request no longer waits. -/
def State.begun (s : State) (svc : Nat) (c : Call) : State :=
  s.wakeGuide.updGuide fun g => { g with taken := if g.taken = some (svc, c) then none else g.taken }

/-- The Guide carries the call out: it is awake, the call can be answered, and neither its path nor a running long call
refuses it (R328, R329, R510). -/
abbrev Called (s : State) (svc : Nat) (c : Call) : Prop :=
  s.awake = true ∧ s.callWaits svc c = false ∧ (c.mbx.toNat < 16 ∨ c.jtag = true ∨ 16 ≤ c.replyMbx.toNat) ∧
    (s.begun svc c).callRefusal svc c = none

/-- The header h, of operation op and body length len, is stored as that of the packet that comes next in the stream of load l, whose bytes
can be read and are d (R388, R389, R416). -/
abbrev PacketNext (s : State) (l : Load) (h : BitVec 64) (op len : Nat) (d : List Byte) : Prop :=
  s.awake = true ∧ s.cfg.load = some l ∧ l.phase = .stream ∧ (l.image.src = 3 → s.dramWaits = false) ∧ pktOp h = op ∧ packetLen op = some len ∧
  pktLen h = len ∧ l.pos + 24 + len ≤ l.image.streamLen ∧
  (l.image.src = 3 ∨ (s.rangeOpen l.at_ 8 = false ∧ s.rangeOpen l.at_ (24 + len) = false)) ∧
  (s.srcRead l.image.src l.at_ 8).1.map ofBytes = some h.toNat ∧ (s.srcRead l.image.src l.at_ (24 + len)).1 = some d

/-- The state once the bytes of the next packet of load l, with len bytes of body, have been read from its source. -/
def State.afterPacket (s : State) (l : Load) (len : Nat) : State := (s.srcRead l.image.src l.at_ (24 + len)).2

/-- The commands that act on a device that is unpowered, in reset, or in OFF, BIVOUAC or SLEEP: supplies and resets, wakes and the time they
latch, the wake budget, the crystal oscillator and the TIMING PLL, the fabric's edges, the sideband port, pins and JTAG, and what the calendar
drives. -/
def outsideModes (c : Instr) : Bool :=
  match c with
  | .vinGood _ _ | .powerOnReset | .vinLowAsleep | .vinAboveWarn _ | .vinOv | .railFault _ _ | .railRetry | .rstNAssert | .deviceResetEnd
  | .phaseFault _ | .kMeasure _ _ _ _ _ _ | .brace _ | .heartBraceWrite _ | .timeLatch _ | .wakeN _ | .pinWake _ _ _ | .vinRestore _
  | .timeReconstruct _ | .budgetStep | .budgetRefill | .xtalStart | .xtalFail | .timingPllLock | .activeClockEdge _ _
  | .perstNAssert | .perstNRelease | .i2cAddressMatch _ | .i2cWrite _ | .i2cRead | .parkEnd _ | .idcode | .samplePreload _ | .extest _
  | .clampInstr | .highz | .bypass _ | .guideCall _ | .debugAccess _ _ _ | .calendarSecond _ | .alarm _ | .heartCountWrite _
  | .heartDeferredWrite _ | .heartRebase _ => true
  | _ => false

/-- The pages whose registers raising an event may change: EVT 0 and 1, CLK_XHARD and HOST. -/
def evtPage (a : Nat) : Bool := a / 0x1000 == 0x010 || a / 0x1000 == 0x011 || a / 0x1000 == 0x026 || a / 0x1000 == 0x600

/-- How often event e has occurred since the counts were last cleared (R308). -/
def State.count (s : State) (e : Nat) : Word := SMap.get (fun _ => 0) s.evt.counts e

/-- Every command that waits is well formed. -/
def QueueOk (s : State) : Prop := s.pending.all Instr.wf = true

/-- The canonical form of the addressed memories: the DRAM content, the flash bytes, the OTP words and their shadow. -/
def Memory.wf (s : State) : Bool :=
  SMap.wf (fun _ => 0) s.dramMem && SMap.wf (fun _ => 0xFF) s.flash.bytes && SMap.wf (Config.otpShipped s.otp.variant) s.otp.words
    && SMap.wf (Config.otpShipped s.otp.variant) s.otp.shadow

/-- Every OTP bit that is 1 in s is 1 in t (R437). -/
def OtpKept (s t : State) : Prop := ∀ w, s.otpCell w &&& t.otpCell w = s.otpCell w

/-- The state after the commands at the front of the queue have been carried out, n of them. -/
def State.afterFront (s : State) (n : Nat) : State :=
  match n with
  | 0 => s
  | k + 1 =>
    match s.pending with
    | [] => s
    | c :: rest =>
      match exec c (s.withPending rest) with
      | .next t => State.afterFront t k
      | .fault _ => s
      | .refused _ => s

/-- Nothing but the named parts differs: registers, events, what the host port has sent, and the rope messages that wait for a slot, whose
content a later occurrence of their event renews (the page errors and the events that a command raises act there). -/
def SameOutside (s t : State) : Prop := t = { s with
  regs := t.regs, evt := t.evt, host := t.host, freeIx := t.freeIx
  rope := { s.rope with pairs := t.rope.pairs, waiting := t.rope.waiting, stalled := t.rope.stalled } }

end Sys2Proof.Machine
end

