-- ==== Sys2Proof/Certificates/Slice0/Obligations.lean ====
section
/-! DEFINITION. The statements for the provers. Each clause names the rule it rests on. -/

open Sys2Proof Sys2Proof.Machine

/-! ### The queue, reset and the whole machine -/

/-- A step runs the command at the front of the queue on the state with the queue's rest (log 2). -/
def Obligations.StepRunsFront : Prop :=
  ∀ (c : Instr) (rest : List Instr) (s : State), s.pending = c :: rest → step s = exec c (s.withPending rest)

/-- The model's choice (log 2): with an empty queue a step lets one cycle of the TIMING PLL pass; without device time nothing
changes. -/
def Obligations.IdleStepTicks : Prop :=
  (∀ s : State, s.pending = [] → s.time.running = true → step s = .next (s.reach (s.time.now + ns 1))) ∧
  (∀ s : State, s.pending = [] → s.time.running = false → step s = .next s) ∧
  (∀ s : State, s.pending = [] → s.time.running = true → s.time.now.toNat + 256 < 2 ^ 72 →
    ∃ t, step s = .next t ∧ t.time.now = s.time.now + 256 ∧ t.pending = [])

/-- The model's choice (log 3): every command answers a next state and leaves the queue that waits as it stands. -/
def Obligations.EveryCommandAnswers : Prop := ∀ (c : Instr) (s : State), ∃ t, exec c s = .next t ∧ t.pending = s.pending

/-- Commands are carried out first in, first out, and a run of n steps never stops: it ends in the state that the first n commands leave,
with the rest of the queue (log 2). -/
def Obligations.QueueInOrder : Prop :=
  ∀ (s : State) (n : Nat), n ≤ s.pending.length →
    Host.Core.run Sys2Proof.core n s = .next (s.afterFront n) ∧ (s.afterFront n).pending = s.pending.drop n

/-- The machine after reset: every register and shadow reads its reset value, the device is in reset without supply, and every
queue and memory is empty, but that the OTP holds what a device is shipped with: the words of the groups of TEST and PROVISION, and what the maker programs.
What it rests on besides the rules: the model's choices of log 6, 87. -/
def Obligations.ResetState : Prop :=
  (∀ a, State.reset.reg a = regReset a ∧ State.reset.shadow a = regReset a) ∧
  State.reset.power.inReset = true ∧ State.reset.power.cold = true ∧ State.reset.awake = false ∧ State.reset.time.running = false ∧
  State.reset.pending = [] ∧ State.reset.dram.queue = [] ∧ (∀ m, (State.reset.mb m).msgs = []) ∧
  (∀ a n, State.reset.dramGet a n = List.replicate n 0) ∧ (∀ a, State.reset.flashByte a = 0xFF) ∧ (∀ w, State.reset.otpWord w = Config.otpShipped .i w ∧ State.reset.otpCell w = Config.otpShipped .i w) ∧
  (∀ w, w < 6 → State.reset.otpWord w = 0xFFFFFFFFFFFFFFFF) ∧ (∀ w, 80 ≤ w → State.reset.otpWord w = 0)

/-- At reset the queue and the memories are in good order. -/
def Obligations.ResetInGoodOrder : Prop := QueueOk State.reset ∧ Memory.wf State.reset = true

/-- Every step keeps the commands that wait well formed. -/
def Obligations.QueueStaysWellFormed : Prop := ∀ s t : State, QueueOk s → step s = .next t → QueueOk t

/-- Every step keeps the canonical form of the DRAM content, the flash and the OTP. -/
def Obligations.MemoryStaysCanonical : Prop := ∀ s t : State, Memory.wf s = true → step s = .next t → Memory.wf t = true

/-- No step clears an OTP bit (R437). -/
def Obligations.OtpBitsStay : Prop := ∀ s t : State, step s = .next t → OtpKept s t

/-- A device that is unpowered, in reset, or in OFF, BIVOUAC or SLEEP is changed only by the commands of its supplies, wakes, clocks, pins,
sideband and JTAG ports, and calendar: no call, no register write, and no block acts (R17, R18, R48, R476). -/
def Obligations.AsleepNothingElseActs : Prop :=
  ∀ (c : Instr) (s : State), s.awake = false → outsideModes c = false → Answers c s s

/-- R22, with the end of the abseil as R228 gives it: while a loop context is running without AT_SAFE, SVC_PWR_ENTER answers LOOPS_ACTIVE and changes
nothing else; with AT_SAFE in every running context an entry to SLEEP starts. The conditions of R473 that come before it do not hold: another
target code, another mode, a transition, a long call. -/
def Obligations.LoopsActiveRefusesEntry : Prop :=
  ∀ (s : State) (c : Call) (tj : BitVec 16), Called s 0x0501 c → (s.bist.running.any fun p => !p.waitGrant) = false →
    let u := (s.begun 0x0501 c).sampleTj tj.toInt
    u.inTransition = false → u.mode = mRUN ∨ u.mode = mHOLD →
    (∀ (passed : BitVec 3) (n : BitVec 10), fld c.w2 1 0 ≠ 3 → u.rb (aCTX n.toNat 0xF0) 30 = true → u.rb (aCTX n.toNat 0xF0) 28 = false →
      Answers (.svcPwrEnter c passed tj) s (u.longOnce 0x0501 c rcLOOPS_ACTIVE 0 [])) ∧
    (fld c.w2 1 0 = 2 → (∀ n ∈ u.runningCtxs, u.rb (aCTX n 0xF0) 28 = true) →
      Answers (.svcPwrEnter c 0 tj) s ((u.startLong 0x0501 c).enterStart 2 c))

/-- R60: F equals bit i of TT with i = A + 2 × B + 4 × C + 8 × D, and the functions of its table; an input that the table
ignores may be fed from any source, an undetermined one (none) included. -/
def Obligations.LutOutput : Prop :=
  (∀ (tt : BitVec 16) (a b c d : Bool),
    lutVal tt (some a) (some b) (some c) (some d) = some (tt.getLsbD (a.toNat + 2 * b.toNat + 4 * c.toNat + 8 * d.toNat))) ∧
  (∀ a b c d : Bool,
    lutVal 0x0000 (some a) (some b) (some c) (some d) = some false ∧ lutVal 0xAAAA (some a) (some b) (some c) (some d) = some a ∧
    lutVal 0x8888 (some a) (some b) (some c) (some d) = some (a && b) ∧ lutVal 0xEEEE (some a) (some b) (some c) (some d) = some (a || b) ∧
    lutVal 0x6666 (some a) (some b) (some c) (some d) = some (a ^^ b) ∧
    lutVal 0x6996 (some a) (some b) (some c) (some d) = some (a ^^ b ^^ c ^^ d) ∧
    lutVal 0xCCAA (some a) (some b) (some c) (some d) = some (if d then b else a)) ∧
  (∀ (tt : BitVec 16) (x y z : Bool),
    let ix (a b c d : Bool) : Nat := a.toNat + 2 * b.toNat + 4 * c.toNat + 8 * d.toNat
    (tt.getLsbD (ix false x y z) = tt.getLsbD (ix true x y z) →
      ∀ a, lutVal tt a (some x) (some y) (some z) = some (tt.getLsbD (ix false x y z))) ∧
    (tt.getLsbD (ix x false y z) = tt.getLsbD (ix x true y z) →
      ∀ b, lutVal tt (some x) b (some y) (some z) = some (tt.getLsbD (ix x false y z))) ∧
    (tt.getLsbD (ix x y false z) = tt.getLsbD (ix x y true z) →
      ∀ c, lutVal tt (some x) (some y) c (some z) = some (tt.getLsbD (ix x y false z))) ∧
    (tt.getLsbD (ix x y z false) = tt.getLsbD (ix x y z true) →
      ∀ d, lutVal tt (some x) (some y) (some z) d = some (tt.getLsbD (ix x y z false)))) ∧
  (∀ (s : State) (ev : Node → Option Bool) (b l : Nat),
    let k := (s.bough b).cfg.leafAt l
    let at_ (x : BitVec 6) := ev (.twig b (l / 16) x.toNat)
    nodeStep s ev (.f b l) = lutVal k.tt (at_ k.selA) (at_ k.selB) (at_ k.selC) (at_ k.selD))

/-- R61: from P = F, G = A and CIN a leaf forms S = P XOR CIN and COUT = CIN when P = 1, and G when P = 0, whatever its configuration; O and D take S
where they select it, O of a leaf on no combinational loop (R75). -/
def Obligations.CarryCell : Prop :=
  ∀ (s : State) (ev : Node → Option Bool) (b l : Nat) (p g cin : Bool),
    let k := (s.bough b).cfg.leafAt l
    ev (.f b l) = some p → ev (.twig b (l / 16) k.selA.toNat) = some g → ev (.cin b l) = some cin →
    nodeStep s ev (.cout b l) = some (if p then cin else g) ∧
    (k.osel = 1 → (∀ e ∈ (s.bough b).loop, e.1 ≠ l) → nodeStep s ev (.o b l) = some (p ^^ cin)) ∧
    (k.dsel = true → nodeStep s ev (.d b l) = some (p ^^ cin))

/-- R42: while COMMIT_PENDING = 1, a write to a register that holds an RWS field is refused and sets PENDING_WR: no other page's register and no
shadow changes; a write to a register without RWS fields does not fail this check. -/
def Obligations.PendingRefusesShadowWrites : Prop :=
  (∀ (s : State) (r : ReqId) (a : BitVec 24) (v : Word), a.toNat % 4 = 0 → s.reaches r.toNat = true → r.toNat ≠ rHost →
    (regSpec a.toNat).isSome = true → rwsMask a.toNat ≠ 0 → s.commitPending (a.toNat / 0x1000) = true →
    let t := (s.disarm a.toNat r.toNat).recordChecks a.toNat r.toNat v (s.checkWrite a.toNat r.toNat true v)
    Answers (.registerWrite r a v true 1 false) s t ∧
      t.rb (pg (a.toNat / 0x1000) 0x00C) 3 = true ∧ (∀ x, t.shadow x = s.shadow x)) ∧
  (∀ (s : State) (r a : Nat) (full : Bool) (v : Word), rwsMask a = 0 → (s.checkWrite a r full v).pending = false)

/-- Events (R308, R309, R314, R39, R53). Raising an event counts it, and changes no register but those of the event pages, CLK_XHARD and HOST, and nothing else
but what the host port has sent; setting a PAGE_ERR bit changes besides these that register alone. -/
def Obligations.EventsTouchOnlyTheirPages : Prop :=
  (∀ (s : State) (e a : Nat), e < 320 → evtPage a = false → (s.raise e).reg a = s.reg a) ∧
  (∀ (s : State) (e a : Nat), (s.raise e).shadow a = s.shadow a) ∧
  (∀ (s : State) (e : Nat), e ≠ 104 → (s.raise e).count e = s.count e + 1) ∧
  (∀ (s : State) (e : Nat), SameOutside s (s.raise e)) ∧
  (∀ (s : State) (p b a : Nat), p < 0x1000 → b < 32 → evtPage a = false → a ≠ pg p 0x00C → (s.setErr p b).reg a = s.reg a) ∧
  (∀ (s : State) (p b : Nat), p < 0x1000 → b < 32 → evtPage (pg p 0x00C) = false →
    (s.setErr p b).reg (pg p 0x00C) = setBit (s.reg (pg p 0x00C)) b true) ∧
  (∀ (s : State) (p b : Nat), SameOutside s (s.setErr p b))

/-! ### Power, resets and modes -/

/-- Loss of VIN and the device reset (R461, R465, R467, R468). POWER_ON_RESET leaves every register at its reset value, the DRAM with no
content and the OTP as it was. RST_N_ASSERT of a device that has started leaves it in reset, with what the AON file holds, the OTP and
the DRAM in self-refresh kept, and a rail fault does the same after it has noted the rail. RAIL_RETRY ends the wait of the rails, and
VIN_GOOD and DEVICE_RESET_END start the domains. -/
def Obligations.ResetsAndRails : Prop :=
  (∀ s : State, let t := ((s.cleared false false).updPower fun p => { p with level := 4000000 }).settlePins
    Answers .powerOnReset s t ∧ (∀ a, t.reg a = regReset a) ∧ t.power.inReset = true ∧ t.power.cold = true ∧ t.dramMem = [] ∧ t.otp = s.otp ∧
    t.flash = s.flashCut.flash ∧ t.settings.txs = s.settings.txs ∧ t.awake = false) ∧
  (∀ s : State, s.power.cold = false → let t := s.resetAssert
    Answers .rstNAssert s t ∧ (∀ a, a ≠ aMODE → t.reg a = SMap.get regReset (keepBits aonBits s.regs.act) a) ∧
    t.reg aMODE = BitVec.ofNat 32 (mRUN * 2 ^ 12 + s.mode * 2 ^ 8 + mLOAD) ∧ t.power.inReset = true ∧ t.power.cold = false ∧
    t.dramMem = (if s.dram.selfRefresh then s.dramMem else []) ∧ t.otp = s.otp ∧ t.flash = s.flashCut.flash ∧
    t.settings.txs = s.settings.txs ∧ t.awake = false) ∧
  (∀ (s : State) (rail : BitVec 2) (above : Bool), s.power.inReset = false → s.mode ≠ mBIVOUAC → s.mode ≠ mOFF → rail ≠ 0 →
    let t := ((s.noteRailFault rail.toNat above).resetAssert).updPower fun p => { p with railsDown := true }
    Answers (.railFault rail above) s t ∧
      t.power.inReset = true ∧ t.power.railsDown = true ∧ t.power.faults = s.power.faults + 1 ∧ t.otp = s.otp ∧
      t.dramMem = (if s.dram.selfRefresh then s.dramMem else []) ∧ t.awake = false) ∧
  (∀ s : State, s.power.inReset = true → s.power.railsDown = true → s.power.cold = false →
    Answers .railRetry s { s with power := { s.power with railsDown := false } }) ∧
  (∀ (s : State) (vin : BitVec 16) (straps : BitVec 3), s.power.inReset = true → s.power.cold = true → s.power.next = none →
    Answers (.vinGood vin straps) s
      ((((s.setF (aSUP 0x24) 15 0 vin.toNat).setF (aSUP 0x2C) 18 16 straps.toNat).updPower fun p => { p with railsDown := false }).startDomains
        .cold)) ∧
  (∀ s : State, s.power.inReset = true → s.power.cold = false → s.power.railsDown = false → s.power.next = none →
    Answers .deviceResetEnd s (s.startDomains .reset))

/-- What the supply monitors note (R465, R469, R487). In SLEEP or BIVOUAC VIN below VIN_WARN sets VIN_LOW; VIN above VIN_WARN again clears
BELOW and, after a brace, ends its condition and raises event 12; VIN above 41 V raises event 15 once and sets PAGE_ERR bit 20 of SUPPLY; a failed phase is marked and is in
service no longer.
What it rests on besides the rules: the model's choices of log 46. -/
def Obligations.SupplyMonitors : Prop :=
  (∀ s : State, s.power.inReset = false → s.mode = mSLEEP ∨ s.mode = mBIVOUAC →
    Answers .vinLowAsleep s (s.setB (aSUP 0x24) 18 true)) ∧
  (∀ (s : State) (vin : BitVec 16), s.awake = true → s.power.belowWarn = true →
    let t := (((s.setF (aSUP 0x24) 15 0 vin.toNat).setB (aSUP 0x24) 16 false).updPower fun p => { p with belowWarn := false }).raise 12
    Answers (.vinAboveWarn vin) s t ∧
      t.power.belowWarn = false ∧ t.rf (aSUP 0x24) 15 0 = vin.toNat ∧ t.rb (aSUP 0x24) 16 = false ∧ t.count 12 = s.count 12 + 1 ∧
      t.power = { s.power with belowWarn := false }) ∧
  (∀ (s : State) (vin : BitVec 16), s.awake = true → s.power.belowWarn = false →
    Answers (.vinAboveWarn vin) s ((s.setF (aSUP 0x24) 15 0 vin.toNat).setB (aSUP 0x24) 16 false)) ∧
  (∀ s : State, s.awake = true → s.rb (pg 0x002 0x00C) 20 = false →
    let t := ((s.setErr 0x002 20).raise 15).heartVin 4
    Answers .vinOv s t ∧ t.rb (pg 0x002 0x00C) 20 = true ∧ t.count 15 = s.count 15 + 1 ∧ t.power = s.power ∧ t.dramMem = s.dramMem ∧ t.otp = s.otp) ∧
  (∀ s : State, s.power.inReset = false → s.awake = false → Answers .vinOv s (s.setB (pg 0x002 0x00C) 20 true)) ∧
  (∀ (s : State) (k : BitVec 2), s.awake = true → s.boardVcore = false → s.rb (aSUP 0x3C) (20 + k.toNat) = false →
    let s1 := (s.setB (aSUP 0x3C) (20 + k.toNat) true).setErr 0x002 19
    let t := s1.setF (aSUP 0x3C) 19 16
      (min (s1.rf (aSUP 0x3C) 19 16) (4 - ((List.range 4).filter fun j => s1.rb (aSUP 0x3C) (20 + j)).length))
    Answers (.phaseFault k) s t ∧
      t.rb (aSUP 0x3C) (20 + k.toNat) = true ∧ t.rb (pg 0x002 0x00C) 19 = true ∧ t.rf (aSUP 0x3C) 19 16 ≤ 3 ∧ t.power = s.power)

/-- A brace and the measurements of the supply (R24, R462, R470, R531). BRACE marks the condition, counts it, raises event 11, stops an entry, a
load, a flash operation, a pitch and a read-back, ends the long call with ABORTED, and enters HOLD with the cause BRACE, the DRAM in
self-refresh; before it is armed only VIN_STAT shows the crossing. HEART_BRACE_WRITE writes the entry that is due. AUTO_HOLD_RELEASE clears the cause and leaves HOLD. K_MEASURE takes the
measured values; the switching phases in service follow the current.
What it rests on besides the rules: the model's choices of log 27, 46. -/
def Obligations.BraceAndMeasure : Prop :=
  (∀ (s : State) (vin : BitVec 16), s.awake = true → s.braceArmed = true → s.power.belowWarn = false →
    let due := match s.power.braceDue with | some d => d | none => (s.time.now, vin.toNat)
    let s1 := (((s.setF (aSUP 0x24) 15 0 vin.toNat).setB (aSUP 0x24) 16 true).satAdd (aSUP 0x34) 31 16 1).updPower fun p =>
      { p with belowWarn := true, braceDue := some due }
    let s2 := ((s1.setErr 0x002 16).raise 11).heartVin 0
    let s3 := match s2.power.entry with
      | some e => (s2.undoEntry e true).endLong rcABORTED e.passed []
      | none => s2
    let s4 := s3.flashBrace.pitchStop.braceLoad.updCfg fun c => { c with readback := none }
    Answers (.brace vin) s (s4.abortLong.setHoldCause 18 true).toHold.dramBrace) ∧
  (∀ (s : State) (vin : BitVec 16), s.awake = true → s.braceArmed = false → s.power.belowWarn = false →
    Answers (.brace vin) s ((s.setF (aSUP 0x24) 15 0 vin.toNat).setB (aSUP 0x24) 16 true)) ∧
  (∀ (s : State) (tj : BitVec 16) (t0 : DevTime) (vin : Nat), s.power.braceDue = some (t0, vin) →
    Completes (.heartBraceWrite tj) s fun t => t.power.braceDue = none ∧
      t = (((s.sampleTj tj.toInt).heartBrace t0 vin).updPower fun p => { p with braceDue := none }).withPending s.pending) ∧
  (∀ s : State, s.awake = true → s.mode = mHOLD → s.rb (aPMU 0x2C) 1 = true → s.cause 18 = true → s.power.belowWarn = false →
    s.inTransition = false → Answers .autoHoldRelease s (s.setHoldCause 18 false).leaveHold) ∧
  (∀ (s : State) (k : BitVec 8) (vcore vaux vio icore vin : BitVec 16), s.awake = true → s.boardVcore = true →
    let t := s.kMeasure { k, vcore, vaux, vio, icore, vin }
    Answers (.kMeasure k vcore vaux vio icore vin) s t ∧
      t.rf (aSUP 0x24) 15 0 = vin.toNat ∧ t.rf (aSUP 0x2C) 31 24 = k.toNat ∧ t.rf (aSUP 0x2C) 15 0 = vcore.toNat ∧
      t.reg (aSUP 0x30) = BitVec.ofNat 32 (vaux.toNat + vio.toNat * 2 ^ 16) ∧ t.rf (aSUP 0x3C) 15 0 = icore.toNat ∧
      t.rf (aSUP 0x3C) 19 16 = 0 ∧ SameOutside s t) ∧
  (∀ (s : State) (k : BitVec 8) (vcore vaux vio icore vin : BitVec 16), s.awake = true → s.boardVcore = false →
    s.rb (aSUP 0x28) 0 = false →
    let t := s.kMeasure { k, vcore, vaux, vio, icore, vin }
    Answers (.kMeasure k vcore vaux vio icore vin) s t ∧
      t.rf (aSUP 0x24) 15 0 = vin.toNat ∧ t.rf (aSUP 0x2C) 31 24 = k.toNat ∧ t.rf (aSUP 0x3C) 15 0 = icore.toNat ∧
      t.rf (aSUP 0x3C) 19 16 ≤ 4 ∧ SameOutside s t)

/-- The calls of the system view (R23, R24, R330, R332, R461). Each answers as its rule says: SVC_INFO the six words of the device's identity,
the owner calls BAD_ARG, FIXED, NOT_PERMITTED or the new owner, the mode calls BUSY during a transition, BAD_STATE in another mode, and
else the transition. SVC_DEVICE_RESET starts its long call, takes the DRAM into self-refresh and asserts the reset.
What it rests on besides the rules: the model's choices of log 14, 42. -/
def Obligations.SystemCalls : Prop :=
  (∀ (s : State) (c : Call), Called s 0x0001 c → let u := s.begun 0x0001 c
    Answers (.svcInfo c) s (u.answerCall 0x0001 c rcOK 0
      [Config.romVersion, if u.flash.patchSlot = 0 then 0 else u.flash.patchVersion, u.reg (aLC 0x20) &&& 0xF07, u.reg aMODE,
       BitVec.ofNat 32 idcode, 0])) ∧
  (∀ (s : State) (c : Call), Called s 0x0002 c → let u := s.begun 0x0002 c
    Completes (.svcDeviceReset c) s fun t =>
      t = (((u.startLong 0x0002 c).selfRefresh false).resetAssert).withPending s.pending ∧ t.power.inReset = true ∧ t.otp = s.otp ∧
      t.rf aMODE 3 0 = mLOAD) ∧
  (∀ (s : State) (c : Call), Called s 0x0003 c → let u := s.begun 0x0003 c
    let p := fld c.w2 11 0
    let id := fld c.w3 9 0
    let words := [c.w2, u.reg (pg p 0x014)]
    (pageAssigned p = false ∨ fld c.w2 31 12 ≠ 0 ∨ fld c.w3 31 10 ≠ 0 ∨ ownerBad id = true →
      Answers (.svcPageOwner c) s (u.answerCall 0x0003 c rcBAD_ARG 0 words)) ∧
    (pageAssigned p = true → fld c.w2 31 12 = 0 → fld c.w3 31 10 = 0 → ownerBad id = false →
      ((pageInfo p).fixed = true → Answers (.svcPageOwner c) s (u.answerCall 0x0003 c rcFIXED 0 words)) ∧
      ((pageInfo p).fixed = false → u.pageOwner p ≠ 0 → u.pageOwner p ≠ c.caller.toNat →
        Answers (.svcPageOwner c) s (u.answerCall 0x0003 c rcNOT_PERMITTED 0 words)) ∧
      ((pageInfo p).fixed = false → u.pageOwner p = 0 ∨ u.pageOwner p = c.caller.toNat →
        Answers (.svcPageOwner c) s
          ((u.setF (pg p 0x014) 9 0 id).answerCall 0x0003 c rcOK 0 [c.w2, (u.setF (pg p 0x014) 9 0 id).reg (pg p 0x014)])))) ∧
  (∀ (s : State) (c : Call), Called s 0x0004 c → let u := s.begun 0x0004 c
    let o := u.pinOwners (fld c.w2 9 0) (fld c.w2 25 16) (fld c.w3 2 0)
    (o.1 = rcBAD_ARG → Answers (.svcPinOwner c) s (o.2.2.2.answerCall 0x0004 c rcBAD_ARG 0 [])) ∧
    (o.1 ≠ rcBAD_ARG → Answers (.svcPinOwner c) s
      (o.2.2.2.settlePins.answerCall 0x0004 c o.1 0 [BitVec.ofNat 32 o.2.1, BitVec.ofNat 32 o.2.2.1]))) ∧
  (∀ (s : State) (c : Call), Called s 0x0101 c → let u := s.begun 0x0101 c
    (∀ r, u.modeRefusal [mRUN] = some r → Answers (.svcHoldEnter c) s (u.longOnce 0x0101 c r 0 [])) ∧
    (u.inTransition = false → u.mode = mRUN →
      Answers (.svcHoldEnter c) s ((u.setB aMODE 19 true).toHold.longOnce 0x0101 c rcOK 0 []))) ∧
  (∀ (s : State) (c : Call), Called s 0x0102 c → let u := s.begun 0x0102 c
    (∀ r, u.modeRefusal [mHOLD] = some r → Answers (.svcHoldRelease c) s (u.longOnce 0x0102 c r 0 [])) ∧
    (u.inTransition = false → u.mode = mHOLD → u.rb aMODE 17 = true →
      Answers (.svcHoldRelease c) s (u.longOnce 0x0102 c rcNO_IMAGE 0 [])) ∧
    (u.inTransition = false → u.mode = mHOLD → u.rb aMODE 17 = false →
      Answers (.svcHoldRelease c) s ((((u.setB aMODE 18 false).setB aMODE 19 false).leaveHold).longOnce 0x0102 c rcOK 0 []))) ∧
  (∀ (s : State) (c : Call), Called s 0x0103 c → let u := s.begun 0x0103 c
    (∀ r, u.modeRefusal [mRUN, mHOLD] = some r → Answers (.svcServiceEnter c) s (u.longOnce 0x0103 c r 0 [])) ∧
    (u.inTransition = false → u.mode = mRUN ∨ u.mode = mHOLD →
      Answers (.svcServiceEnter c) s (((u.updCfg fun g => { g with fallbackFrom := none }).toService).longOnce 0x0103 c rcOK 0 []))) ∧
  (∀ (s : State) (c : Call), Called s 0x0104 c → let u := s.begun 0x0104 c
    (∀ r, u.modeRefusal [mSERVICE] = some r → Answers (.svcServiceExit c) s (u.longOnce 0x0104 c r 0 [])) ∧
    (u.inTransition = false → u.mode = mSERVICE →
      let u1 := (u.startLong 0x0104 c).updPower fun p => { p with loopGroupDue := true, loopCommitDue := true }
      Answers (.svcServiceExit c) s (u1.loadBank u1.presentBank true)))

/-- The Guide between calls (R17, R20, R329). With nothing left to do in RUN and IDLE enabled it enters IDLE, which raises event 0; it takes
the request that was posted first; a held response is posted once its mailbox has room; a refused rope reply is sent again with SYNC. -/
def Obligations.GuideWork : Prop :=
  (∀ s : State, s.awake = true → s.mode = mRUN → s.rb (aPMU 0x2C) 0 = true → s.guideIdle = true → s.flash.op = none → s.cfg.load = none →
    s.cfg.readback = none → s.bist.running = none → s.bist.request = none →
    (∀ c ∈ s.bist.queue, c.waits = true ∨ (elemKind c.elem < 5 ∧ (s.pitchBlocked = true ∨ s.pitchWaits c.elem = true))) →
    s.power.braceDue = none → s.cfg.essBough = [] → s.power.lockWait = none →
    let t := (((s.setF aMODE 11 8 mRUN).setF aMODE 3 0 mIDLE).setF aMODE 15 12 mIDLE).raise 0
    Answers .guideWait s t ∧ t.rf aMODE 3 0 = mIDLE ∧ t.rf aMODE 15 12 = mIDLE ∧ t.rf aMODE 11 8 = mRUN ∧
      t.count 0 = s.count 0 + 1 ∧ SameOutside s t) ∧
  (∀ (s : State) (m : Nat) (q : Nat) (h : Msg) (rest : List Msg), s.awake = true → s.guide.taken = none → s.nextRequest = some (q, m) →
    (∀ x, s.guide.jtagReq = some x → q ≤ x.1) →
    (s.mb m).msgs = h :: rest →
    Answers .guideTakeRequest s
      (((s.wakeGuide.rxTake m rGuide).2).admitCall (callOf m false h.src.toNat h.words).1 (callOf m false h.src.toNat h.words).2)) ∧
  (∀ (s : State) (w : List Word) (qj : Nat), s.awake = true → s.guide.taken = none → (∀ x, s.nextRequest = some x → qj < x.1) →
    s.guide.jtagReq = some (qj, w) →
    Answers .guideTakeRequest s
      ((s.wakeGuide.updGuide fun g => { g with jtagReq := none }).admitCall (callOf 0 true rDebug w).1 (callOf 0 true rDebug w).2)) ∧
  (∀ (s : State) (m : BitVec 5) (r : Reply), s.awake = true → s.guide.held.find? (fun h => h.call.mbx.toNat == m.toNat) = some r →
    let k := m.toNat + 1
    s.mbLockReq k = false ∨ (s.mb k).lock.toNat = rGuide → (s.mb k).msgs.length < 8 →
    Answers (.guideResponsePost m) s
      (((s.mbTryPost k rGuide (s.mb k).txEpoch r.words).2).updGuide fun g => { g with held := g.held.erase r })) ∧
  (∀ (s : State) (r : Reply) (rest : List Reply), s.awake = true → s.guide.ropeHeld = r :: rest →
    let n := r.call.replyNode.toNat
    let s1 := s.updGuide fun g => { g with ropeHeld := rest }
    Answers .guideReplyRetry s ((s1.setPair n { s1.pair n with sync := true }).ropeMessage n r.call.replyMbx.toNat rGuide r.words (some (r.call, true))))

/-- Power states, wakes and the wake budget (R473 to R486). An entry that is not refused starts its call and clears the record of the latest
sleep; with `passed` 0 it waits before its first abort point, and ENTRY_UNDO ends it with ABORTED. A policy write that names no listed register,
sets a reserved bit or holds a code that its field does not have answers BAD_ARG. TIME_LATCH holds the device time of the entry; a wake source in SLEEP or BIVOUAC records its cause, latches the time where that
is still due, and starts the domains; during a wake it adds its cause. A budget step starts once the level covers it; the level refills up to
CAP.
What it rests on besides the rules: the model's choices of log 16, 47, 48, 54. -/
def Obligations.SleepAndWake : Prop :=
  (∀ (s : State) (c : Call) (passed : BitVec 3) (tj : BitVec 16), Called s 0x0501 c → s.bist.running = none →
    let u := (s.begun 0x0501 c).sampleTj tj.toInt
    (fld c.w2 1 0 = 3 → Answers (.svcPwrEnter c passed tj) s (u.longOnce 0x0501 c rcBAD_ARG 0 [])) ∧
    (∀ r, fld c.w2 1 0 ≠ 3 → u.enterRefusal (fld c.w2 1 0) = some r →
      Answers (.svcPwrEnter c passed tj) s (u.longOnce 0x0501 c r 0 [])) ∧
    (fld c.w2 1 0 ≠ 3 → u.enterRefusal (fld c.w2 1 0) = none → passed = 0 →
      Answers (.svcPwrEnter c passed tj) s ((u.startLong 0x0501 c).enterStart (fld c.w2 1 0) c)) ∧
    (fld c.w2 1 0 ≠ 3 → u.enterRefusal (fld c.w2 1 0) = none → passed = 5 →
      let s2 := ((u.startLong 0x0501 c).enterStart (fld c.w2 1 0) c).enterLoop
      let s6 := ((s2.enterPins.enterDram (fld c.w2 1 0)).enterCopy (fld c.w2 1 0)).enterArm
      s2.loopsActive = false → ∀ e, s6.power.entry = some e → Answers (.svcPwrEnter c passed tj) s (s6.powerDown e)) ∧
    (fld c.w2 1 0 ≠ 3 → u.enterRefusal (fld c.w2 1 0) = none →
      let s2 := ((u.startLong 0x0501 c).enterStart (fld c.w2 1 0) c).enterLoop
      s2.loopsActive = false →
      (passed = 1 → Answers (.svcPwrEnter c passed tj) s s2.enterPins) ∧
      (passed = 2 → Answers (.svcPwrEnter c passed tj) s (s2.enterPins.enterDram (fld c.w2 1 0))) ∧
      (passed = 3 → Answers (.svcPwrEnter c passed tj) s ((s2.enterPins.enterDram (fld c.w2 1 0)).enterCopy (fld c.w2 1 0))) ∧
      (passed = 4 → Answers (.svcPwrEnter c passed tj) s ((s2.enterPins.enterDram (fld c.w2 1 0)).enterCopy (fld c.w2 1 0)).enterArm))) ∧
  (∀ (s : State) (c : Call), Called s 0x0502 c → let u := s.begun 0x0502 c
    let a := (if bit c.w2 8 then pg 0x002 0 else pg 0x001 0) + fld c.w2 7 0
    (fld c.w2 31 16 ≠ 0 ∨ policyRegs.contains a = false ∨ (fieldRules a c.w3).any (fun r => r.breaks c.w3) = true ∨
        c.w3 &&& ~~~((match regSpec a with | some r => BitVec.ofNat 32 r.writable | none => 0) ||| BitVec.ofNat 32 (roBits a)) ≠ 0 →
      Answers (.svcPwrPolicy c) s (u.answerCall 0x0502 c rcBAD_ARG 0 (c.w2 :: (if (regSpec a).isSome then [u.reg a] else [])))) ∧
    (fld c.w2 31 16 = 0 → policyRegs.contains a = true → (fieldRules a c.w3).any (fun r => r.breaks c.w3) = false →
      c.w3 &&& ~~~((match regSpec a with | some r => BitVec.ofNat 32 r.writable | none => 0) ||| BitVec.ofNat 32 (roBits a)) = 0 →
      let u1 := u.applyWrite a rGuide c.w3 false
      (a ≠ aSUP 0x28 → Answers (.svcPwrPolicy c) s (u1.answerCall 0x0502 c rcOK 0 [c.w2, u1.reg a])) ∧
      (a = aSUP 0x28 → Answers (.svcPwrPolicy c) s (u1.railCfgWritten.answerCall 0x0502 c rcOK 0 [c.w2, u1.railCfgWritten.reg a])))) ∧
  (∀ (s : State) (e : Entry), s.awake = true → s.power.entry = some e →
    Answers .entryUndo s ((s.undoEntry e false).endLong rcABORTED e.passed [])) ∧
  (∀ (s : State) (sub : BitVec 15), s.mode = mSLEEP ∨ s.mode = mBIVOUAC → s.power.latched = none →
    let u := s.rtcAdvance sub.toNat
    let t := { u with power := { u.power with latched := some (u.time.now, u.ticks, u.rb aSRC_STAT 3), xtalLapse := false },
                      time := { now := u.time.now } }
    Answers (.timeLatch sub) s t ∧
      t.power.latched = some (s.time.now, (s.rtcAdvance sub.toNat).ticks, s.rb aSRC_STAT 3) ∧ t.time.now = s.time.now ∧
      t.time.running = false) ∧
  (∀ (s : State) (sub : BitVec 15), s.power.rebuildTime = true → s.rb aSRC_STAT 4 = true →
    Answers (.timeReconstruct sub) s (s.rtcAdvance sub.toNat).rebuild.clockCheck) ∧
  (∀ (s : State) (fails : BitVec 16), s.power.inReset = false → s.power.waking = false → s.mode = mSLEEP → s.power.latched.isSome = true →
    let s1 := ((((s.setReg (aPMU 0x28) 0).setB (aPMU 0x28) 0 true).setB (aPMU 0x28) 31 true)).updPower fun p =>
      { p with waking := true, wakeFails := fails, rebuildTime := true }
    Answers (.wakeN fails) s (s1.startDomains .wakeSleep)) ∧
  (∀ (s : State) (fails : BitVec 16), s.power.waking = true →
    Answers (.wakeN fails) s ((s.setB (aPMU 0x28) 0 true).setB (aPMU 0x28) 31 true)) ∧
  (∀ (s : State) (n : BitVec 10) (rising : Bool) (fails : BitVec 16), n.toNat < 640 → s.sleepPins = true → s.rb (aPMU 0x24) 3 = true →
    s.wakeSelects n.toNat rising = true → Answers (.pinWake n rising fails) s (s.wakeSource 4 (some n.toNat) fails)) ∧
  (∀ (s : State) (fails : BitVec 16), s.mode = mSLEEP ∨ s.mode = mBIVOUAC ∨ s.power.sleeper.isSome = true → s.rb (aSUP 0x24) 18 = true → s.rb (aPMU 0x24) 2 = true →
    Answers (.vinRestore fails) s (s.wakeSource 3 none fails)) ∧
  (∀ (s : State) (cost : Nat), s.power.waiting = [cost] → s.power.next = none → s.budgetCovers cost = true →
    let t := ((s.updPower fun p => { p with waiting := [] }).budgetDebit cost).showBudgetStat
    Answers .budgetStep s t ∧ t.power = { s.power with waiting := [], level := s.power.level - cost * 1000 } ∧
      t.rf (aPMU 0x3C) 23 16 = 0) ∧
  (∀ s : State, let t := (s.updPower fun p => { p with level := min (p.level + s.budgetRate) (s.budgetCap * 1000) }).showBudgetStat
    Answers .budgetRefill s t ∧ t.power = { s.power with level := min (s.power.level + s.budgetRate) (s.budgetCap * 1000) })

/-! ### Register writes and reads, commits -/

/-- The register commands (R34, R40, R41, R47, R48, R53, R348, R353). A write that passes every check stores its bits and has its block's effect;
one that fails a check other than the lock alone changes no register but the record of its refusal; one that fails the lock alone still
writes what the lock leaves open. A read of a requester that reaches the register answers its word. A host TLP that is poisoned or longer than 16
dwords only sets its PAGE_ERR bit of HOST. COMMIT marks the page, LOCK locks it, and at the update event the commit transfers.
What it rests on besides the rules: the model's choices of log 70. -/
def Obligations.RegisterCommands : Prop :=
  (∀ (s : State) (r : ReqId) (addr : BitVec 24) (v : Word) (full : Bool) (dwords : BitVec 8),
    s.reaches r.toNat = true → r.toNat ≠ rHost ∨ dwords.toNat ≤ 16 → byteAddressed r.toNat = false ∨ addr.toNat % 4 = 0 →
    let a := addr.toNat / 4 * 4
    let k := s.checkWrite a r.toNat full v
    (regSpec a = none → Answers (.registerWrite r addr v full dwords false) s s) ∧
    ((regSpec a).isSome = true → k.pass = true →
      Answers (.registerWrite r addr v full dwords false) s (s.applyWrite a r.toNat v false)) ∧
    ((regSpec a).isSome = true → k.pass = false → k.onlyLock = false →
      Answers (.registerWrite r addr v full dwords false) s ((s.disarm a r.toNat).recordChecks a r.toNat v k)) ∧
    ((regSpec a).isSome = true → k.pass = false → k.onlyLock = true →
      Answers (.registerWrite r addr v full dwords false) s ((s.applyWrite a r.toNat v true).recordChecks a r.toNat v k))) ∧
  (∀ (s : State) (r : ReqId) (addr : BitVec 24) (v : Word) (full poisoned : Bool) (dwords : BitVec 8),
    r.toNat = rHost → s.reaches rHost = true →
    (16 < dwords.toNat → Answers (.registerWrite r addr v full dwords poisoned) s (s.setErr 0x600 20)) ∧
    (dwords.toNat ≤ 16 → poisoned = true → Answers (.registerWrite r addr v full dwords poisoned) s (s.setErr 0x600 19))) ∧
  (∀ (s : State) (r : ReqId) (addr : BitVec 24) (dwords : BitVec 8), Readable s r → r.toNat ≠ rHost ∨ dwords.toNat ≤ 16 →
    Answers (.snapshotRead r addr dwords) s
      { (s.readReg r.toNat addr.toNat).2 with lastRead := (s.readReg r.toNat addr.toNat).1, lastUr := false }) ∧
  (∀ (s : State) (r : ReqId) (addr : BitVec 24) (dwords : BitVec 8), r.toNat = rHost → s.reaches rHost = true → 16 < dwords.toNat →
    Answers (.snapshotRead r addr dwords) s { s.setErr 0x600 20 with lastUr := true }) ∧
  (∀ (s : State) (r : ReqId) (p : BitVec 12) (v : Word), Accepted s r (pg p.toNat 0x004) (setBit v 1 true) →
    Answers (.commit r p v) s (s.writeCtl p.toNat (setBit v 1 true) false)) ∧
  (∀ (s : State) (r : ReqId) (p : BitVec 12) (v : Word), Accepted s r (pg p.toNat 0x004) (setBit v 1 true) →
    s.pageEnable p.toNat = bit v 0 → bit v 2 = false → (pageInfo p.toNat).kind ≠ .loop → (pageInfo p.toNat).kind ≠ .loopctx →
    let t := s.writeCtl p.toNat (setBit v 1 true) false
    Answers (.commit r p v) s t ∧ t.rb (pg p.toNat 0x008) 1 = true ∧ SameOutside s t ∧
      (∀ a, a ≠ pg p.toNat 0x008 → t.reg a = s.reg a ∧ t.shadow a = s.shadow a)) ∧
  (∀ (s : State) (r : ReqId) (p : BitVec 12) (v : Word), Accepted s r (pg p.toNat 0x004) (setBit v 2 true) →
    s.pageEnable p.toNat = bit v 0 → bit v 1 = false →
    Answers (.lock r p v) s (s.setB (pg p.toNat 0x004) 2 true)) ∧
  (∀ (s : State) (r : ReqId) (p : BitVec 12) (v : Word), Accepted s r (pg p.toNat 0x004) (setBit v 2 true) →
    Answers (.lock r p v) s (s.writeCtl p.toNat (setBit v 2 true) false)) ∧
  (∀ (s : State) (p : BitVec 12), s.awake = true → s.commitPending p.toNat = true →
    Answers (.commitTransfer p) s (match (pageInfo p.toNat).kind with
      | .time => if s.timeAtOnce then s.timeTransfer else s
      | .edge => s.edgeCommit (p.toNat - 0x100)
      | .loop => s
      | .loopctx => s
      | .psel => (s.commitTransfer p.toNat).settlePins
      | .rtc => (s.commitTransfer p.toNat).alarmNow
      | _ => s.commitTransfer p.toNat))

/-! ### The fabric -/

/-- Boughs, crossings and block memories (R91, R92, R94, R95, R128, R155, R157, R162, R307, R308). A write that clears ENABLE of a handshake bough
freezes it: ENABLE reads 0 and FROZEN 1. One that sets ENABLE again lets it go on. Where the bough is not a handshake bough, or GLOBAL_HOLD is
asserted in it, a write of ENABLE changes nothing. CAD_CLR sets CAD_RANGE to MIN = 0xFFFF and MAX = 0 and clears VALID. A change that reaches an
EVENT down cell becomes one pulse at the second or third edge that follows, or, while one waits, merges with it, which XMERGE counts and PAGE_ERR
of the crossing page shows. A fabric event is launched unless it is masked, and merges with one not yet delivered; the event of a line is
delivered into the fabric. An error that a read of a block memory in ECC mode flags raises event 240 or 241, shows
as SBE or DBE with the latency of DOUT, and stays in the row.
What it rests on besides the rules: the model's choices of log 1, 22, 89, 122. -/
def Obligations.BoughsAndCrossings : Prop :=
  (∀ (s : State) (r : ReqId) (b : BitVec 7) (v : Word), s.handshake b.toNat = true → s.held b.toNat = false →
    s.pageEnable (0x040 + b.toNat) = true → bit v 1 = false → bit v 2 = false →
    Accepted s r (pg (0x040 + b.toNat) 0x004) (setBit v 0 false) →
    ∃ t, exec (.boughFreeze r b v) s = .next t ∧ t.rb (pg (0x040 + b.toNat) 0x004) 0 = false ∧ t.rb (aHS_STAT b.toNat) 1 = true ∧
      (s.commitPending (0x040 + b.toNat) = false → SameOutside s t)) ∧
  (∀ (s : State) (r : ReqId) (b : BitVec 7) (v : Word), s.handshake b.toNat = true → s.held b.toNat = false →
    s.pageEnable (0x040 + b.toNat) = false → bit v 1 = false → bit v 2 = false →
    Accepted s r (pg (0x040 + b.toNat) 0x004) (setBit v 0 true) →
    Answers (.boughResume r b v) s
      ((((s.setB (pg (0x040 + b.toNat) 0x004) 0 true).unitEnabled (0x040 + b.toNat) 0xFFFF).showFrozen b.toNat).settle)) ∧
  (∀ (s : State) (r : ReqId) (b : BitVec 7) (v : Word) (on : Bool), s.handshake b.toNat = false ∨ s.held b.toNat = true →
    bit v 1 = false → bit v 2 = false → Accepted s r (pg (0x040 + b.toNat) 0x004) (setBit v 0 on) →
    Answers (if on then .boughResume r b v else .boughFreeze r b v) s s) ∧
  (∀ (s : State) (r : ReqId) (b : BitVec 7) (v : Word), Accepted s r (aHS_CTL b.toNat) (setBit v 7 true) →
    ∃ t, exec (.cadClr r b v) s = .next t ∧ t.reg (aBOUGH b.toNat 0x30) = 0x0000FFFF ∧ t.rb (aBOUGH b.toNat 0x2C) 28 = false ∧
      t = (((s.storeWrite (aHS_CTL b.toNat) (setBit v 7 true) false).hsCtlWritten b.toNat (s.reg (aHS_CTL b.toNat)) (setBit v 7 true) false).withPending
        s.pending)) ∧
  (∀ (s : State) (b : BitVec 7) (u : BitVec 8), s.awake = true → s.countsEvents b.toNat u.toNat = true →
    let c := (s.bough b.toNat).syncAt u.toNat
    let s0 := s.updBough b.toNat fun x => x.setSync u.toNat { c with flight := c.flight - 1 }
    c.flight ≠ 0 →
    (c.pend = 0 → ∃ (t : State) (late : Bool), exec (.crossingEvent (.down b u)) s = .next t ∧
      (t.bough b.toNat).syncAt u.toNat = { c with flight := c.flight - 1, pend := if late then 3 else 2 } ∧ t.regs = s.regs) ∧
    (c.pend ≠ 0 → Answers (.crossingEvent (.down b u)) s
      (((s0.satAdd (aXMERGE b.toNat) 31 16 1).setF (aXMERGE b.toNat) 7 0 u.toNat).setErr (0x028 + b.toNat / 16) 16))) ∧
  (∀ (s : State) (b : BitVec 7) (u : BitVec 8), s.awake = true →
    s.countsEvents b.toNat u.toNat = false ∨ ((s.bough b.toNat).syncAt u.toNat).flight = 0 → Answers (.crossingEvent (.down b u)) s s) ∧
  (∀ (s : State) (j : BitVec 6), s.awake = true →
    (s.fabricMasked (256 + j.toNat) = true → Answers (.crossingEvent (.fabricEvent j)) s s) ∧
    (s.fabricMasked (256 + j.toNat) = false → SMap.get (fun _ => false) s.evt.launched (256 + j.toNat) = false →
      Answers (.crossingEvent (.fabricEvent j)) s
        { s with evt := { s.evt with launched := SMap.set (fun _ => false) s.evt.launched (256 + j.toNat) true } }) ∧
    (s.fabricMasked (256 + j.toNat) = false → SMap.get (fun _ => false) s.evt.launched (256 + j.toNat) = true →
      Answers (.crossingEvent (.fabricEvent j)) s
        ((s.setB (aFEV_MERGE (j.toNat / 32)) (j.toNat % 32) true).satAdd aXH_COUNT 31 16 1))) ∧
  (∀ (s : State) (j : BitVec 6), s.awake = true → SMap.get (fun _ => false) s.evt.lines j.toNat = true →
    let s1 := { s with evt := { s.evt with lines := SMap.set (fun _ => false) s.evt.lines j.toNat false } }
    let b := SMap.get (fun _ => 0) s.fabric.place.line j.toNat
    let u := SMap.get (fun _ => 0) s.fabric.place.lineCell j.toNat
    (u = 0 ∨ s.held b = true ∨ s.tmode b ≠ 1 → Answers (.crossingEvent (.line j)) s s1) ∧
    (u ≠ 0 → s.held b = false → s.tmode b = 1 → Answers (.crossingEvent (.line j)) s
      (s1.updBough b fun x => x.setSync (u - 1) { x.syncAt (u - 1) with out := true }).propagate)) ∧
  (∀ (s : State) (b : BitVec 7) (n : BitVec 3) (row : BitVec 9) (dbe : Bool), s.awake = true → s.eccLive b.toNat n.toNat = true →
    let u := s.eccReport b.toNat n.toNat row.toNat dbe
    let s1 := u.drawRow b.toNat n.toNat row.toNat
    let upset := upsetRow (rowAt ((s1.bough b.toNat).bramAt n.toNat).rows row.toNat) (s1.free 16).1.toNat dbe
    let lead := s.cascadeLead b.toNat n.toNat
    u.count (if dbe then 241 else 240) = s.count (if dbe then 241 else 240) + 1 ∧
    ∃ f : Bough → Bough, Answers (.bramEccError b n row dbe) s ((s1.free 16).2.updBough b.toNat f).propagate ∧
      (∀ x, ((f x).bramAt n.toNat).rows = SMap.set (fun _ => 0) (x.bramAt n.toNat).rows row.toNat upset) ∧
      (((s.bough b.toNat).cfg.bramAt lead).b.outReg = false ∨ s.handshake b.toNat = true →
        ∀ x, ((f x).bramAt lead).sbe = !dbe ∧ ((f x).bramAt lead).dbe = dbe) ∧
      (((s.bough b.toNat).cfg.bramAt lead).b.outReg = true → s.handshake b.toNat = false →
        ∀ x, ((f x).bramAt lead).sbeReg = !dbe ∧ ((f x).bramAt lead).dbeReg = dbe)) ∧
  (∀ (s : State) (b : BitVec 7) (n : BitVec 3) (row : BitVec 9) (dbe : Bool), s.awake = true → s.eccLive b.toNat n.toNat = false →
    Answers (.bramEccError b n row dbe) s s)

/-- Handshake controllers, channels and cadence windows (R87, R95, R97, R103, R111, R160, R161). A joined request rises after its matched delay and
the bough moves as far as it can; PUSH at an edge with RDY = 1 sends the word with one transition of the request; a request that arrives makes
VALID rise with the word that stands on the trunk routes; POP takes the word and sends the acknowledge. At the end of a cadence window its edges
are counted into CADENCE and, without a step of device time, CAD_MINMAX. At an instant of clock edges every bough and root acts from the values
before it; a root that does not run has no rising edge.
What it rests on besides the rules: the model's choices of log 1, 21, 22. -/
def Obligations.HandshakeAndChannels : Prop :=
  (∀ (s : State) (b : BitVec 7) (j : BitVec 9), s.awake = true → s.handshake b.toNat = true → s.held b.toNat = false →
    (s.bough b.toNat).cfg.stages.contains j.toNat = true → ((s.bough b.toNat).stageAt j.toNat).rin = false →
    ((s.bough b.toNat).cfg.stageAt j.toNat).inputs.isEmpty = false →
    ((s.bough b.toNat).cfg.stageAt j.toNat).inputs.all (s.request b.toNat j.toNat) = true →
    Answers (.hsRequest b j) s ((s.updBough b.toNat fun y =>
      y.setStage j.toNat { (s.bough b.toNat).stageAt j.toNat with rin := true }).settle)) ∧
  (∀ (s : State) (b : BitVec 7) (c : BitVec 5), s.awake = true → s.chanLive b.toNat ((s.bough b.toNat).cfg.ochAt c.toNat) = true →
    ((s.bough b.toNat).ochAt c.toNat).ready = true →
    (s.wire (.dest b.toNat (2560 + c.toNat)) = some true → Answers (.channelPush b c) s
      ((s.upWord b.toNat c.toNat s).2.updBough b.toNat fun x => x.setOch c.toNat
        { x.ochAt c.toNat with req := !(x.ochAt c.toNat).req, word := (s.upWord b.toNat c.toNat s).1 }).propagate) ∧
    (s.wire (.dest b.toNat (2560 + c.toNat)) = some false → Answers (.channelPush b c) s s)) ∧
  (∀ (s : State) (b : BitVec 7) (c : BitVec 5), s.awake = true → s.chanLive b.toNat ((s.bough b.toNat).cfg.ochAt c.toNat) = false ∨
    ((s.bough b.toNat).ochAt c.toNat).ready = false → Answers (.channelPush b c) s s) ∧
  (∀ (s : State) (b : BitVec 7) (c : BitVec 5) (level : Bool), s.awake = true → s.held b.toNat = false →
    ((s.bough b.toNat).cfg.ichAt c.toNat).en = true →
    s.handshake b.toNat = true ∨ s.chanLive b.toNat ((s.bough b.toNat).cfg.ichAt c.toNat) = true →
    ((s.bough b.toNat).ichAt c.toNat).next = none → ((s.bough b.toNat).ichAt c.toNat).valid = false →
    s.reqLevel b.toNat c.toNat = some level →
    (level = ((s.bough b.toNat).ichAt c.toNat).seen → Answers (.channelValid b c) s s) ∧
    (level ≠ ((s.bough b.toNat).ichAt c.toNat).seen → Answers (.channelValid b c) s
      ((s.downWord b.toNat c.toNat s).2.updBough b.toNat fun y => y.setIch c.toNat { (s.bough b.toNat).ichAt c.toNat with
        seen := level, valid := true, word := (s.downWord b.toNat c.toNat s).1 }).propagate)) ∧
  (∀ (s : State) (b : BitVec 7) (c : BitVec 5) (w : BitVec 64), s.awake = true → s.held b.toNat = false →
    ((s.bough b.toNat).cfg.ichAt c.toNat).en = true → s.handshake b.toNat = true →
    ((s.bough b.toNat).ichAt c.toNat).next = some w → ((s.bough b.toNat).ichAt c.toNat).valid = false →
    Answers (.channelValid b c) s (s.updBough b.toNat fun y => y.setIch c.toNat { (s.bough b.toNat).ichAt c.toNat with
      valid := true, word := w, next := none }).propagate) ∧
  (∀ (s : State) (b : BitVec 7) (c : BitVec 5), s.awake = true → s.chanLive b.toNat ((s.bough b.toNat).cfg.ichAt c.toNat) = true →
    ((s.bough b.toNat).ichAt c.toNat).valid = true →
    let s2 := (s.updBough b.toNat fun y => y.setIch c.toNat { (s.bough b.toNat).ichAt c.toNat with
      valid := false, ack := !((s.bough b.toNat).ichAt c.toNat).ack }).settle
    (s.wire (.dest b.toNat (2592 + c.toNat)) = some true → s2.slotAt b.toNat c.toNat = none → Answers (.channelPop b c) s s2) ∧
    (∀ q, s.wire (.dest b.toNat (2592 + c.toNat)) = some true → s2.slotAt b.toNat c.toNat = some q →
      Answers (.channelPop b c) s (s2.slotSend q)) ∧
    (s.wire (.dest b.toNat (2592 + c.toNat)) = some false → Answers (.channelPop b c) s s)) ∧
  (∀ (s : State) (b : BitVec 7), s.timed = true → s.tmode b.toNat ≠ 0 → s.cadenceEnd b.toNat = s.time.now →
    s.cadenceStep.contains b.toNat = false → s.regs.cadWhole.contains b.toNat = true →
    let n := min (s.bough b.toNat).cadCount 0xFFFF
    let t := s.cadenceWindow b.toNat
    Answers (.cadenceWindow b) s t ∧
      t.rf (aBOUGH b.toNat 0x2C) 15 0 = n ∧ t.rb (aBOUGH b.toNat 0x2C) 29 = false ∧ t.rb (aBOUGH b.toNat 0x2C) 28 = true ∧
      t.rf (aBOUGH b.toNat 0x30) 15 0 = min n (s.rf (aBOUGH b.toNat 0x30) 15 0) ∧
      t.rf (aBOUGH b.toNat 0x30) 31 16 = max n (s.rf (aBOUGH b.toNat 0x30) 31 16) ∧ (t.bough b.toNat).cadCount = 0) ∧
  (∀ (s : State) (b : BitVec 7), s.timed = true → s.tmode b.toNat ≠ 0 → s.cadenceEnd b.toNat = s.time.now →
    s.cadenceStep.contains b.toNat = true →
    let n := min (s.bough b.toNat).cadCount 0xFFFF
    let t := s.cadenceWindow b.toNat
    Answers (.cadenceWindow b) s t ∧
      t.rf (aBOUGH b.toNat 0x2C) 15 0 = n ∧ t.rb (aBOUGH b.toNat 0x2C) 29 = true ∧ t.reg (aBOUGH b.toNat 0x30) = s.reg (aBOUGH b.toNat 0x30) ∧
      (t.bough b.toNat).cadCount = 0) ∧
  (∀ (s : State) (b : BitVec 7), s.timed = true → s.tmode b.toNat = 0 →
    let t := s.cadenceWindow b.toNat
    Answers (.cadenceWindow b) s t ∧ t.rf (aBOUGH b.toNat 0x2C) 15 0 = 0 ∧ (t.bough b.toNat).cadCount = 0) ∧
  (∀ (s : State) (edges : List ClockEdge), (∀ e ∈ edges, e.falling = false ∧ s.levels.rootRuns e.root.toNat = false) →
    Answers (.activeClockEdge edges []) s (s.clockEdges [] [])) ∧
  (∀ (s : State) (edges : List ClockEdge) (balls : List (BitVec 10 × Option Bool)),
    Answers (.activeClockEdge edges balls) s (s.clockEdges edges (balls.map fun e => (e.1.toNat, e.2))))

/-! ### Clocks -/

/-- PLLs and sources (R142, R146, R147, R174). A write that sets EN starts the PLL and one that clears it stops it; PLL_LOCK shows LOCKED of an
enabled PLL whose setting is in range; loss of lock clears it, counts, and sets the PLL's PAGE_ERR bit. Loss of REFCLK takes the TIMING PLL into
holdover, and TPLL_RELOCK ends that. XTAL_START and XTAL_FAIL show in XTAL_OK and AON_SRC.
What it rests on besides the rules: the model's choices of log 52, 91. -/
def Obligations.PllsAndReference : Prop :=
  (∀ (s : State) (r : ReqId) (p : BitVec 3) (v : Word), Accepted s r (aPLL p.toNat 0) (setBit v 0 true) → s.rb (aPLL p.toNat 0) 0 = false →
    Answers (.pllEnable r p v) s
      (((s.storeWrite (aPLL p.toNat 0) (setBit v 0 true) false).unitEnabled (0x022 + p.toNat / 2) p.toNat).pllStart p.toNat)) ∧
  (∀ (s : State) (r : ReqId) (p : BitVec 3) (v : Word), Accepted s r (aPLL p.toNat 0) (setBit v 0 false) → s.rb (aPLL p.toNat 0) 0 = true →
    Completes (.pllDisable r p v) s fun t =>
      t = ((s.storeWrite (aPLL p.toNat 0) (setBit v 0 false) false).pllStop p.toNat).withPending s.pending ∧
      t.rb (aPLL p.toNat 0) 0 = false ∧ t.rb (aPLL p.toNat 0xC) 0 = false) ∧
  (∀ (s : State) (p : BitVec 3), s.awake = true → s.rb (aPLL p.toNat 0) 0 = true → s.fabric.clocks.badPll.contains p.toNat = false →
    s.power.lockWait = none → Answers (.pllLock p) s (s.setB (aPLL p.toNat 0xC) 0 true)) ∧
  (∀ (s : State) (p : BitVec 3), s.awake = true → s.rb (aPLL p.toNat 0xC) 0 = true →
    Answers (.pllLossOfLock p) s
      (((s.setB (aPLL p.toNat 0xC) 0 false).satAdd (aPLL p.toNat 0xC) 15 8 1).setErr (0x022 + p.toNat / 2) (16 + p.toNat % 2))) ∧
  (∀ s : State, s.awake = true → s.rb aSRC_STAT 1 = true →
    let s1 := (s.setB aSRC_STAT 1 false).setErr 0x020 16
    Answers .refclkLoss s
      (((List.range 8).foldl (fun t p => if t.rf (aPLL p 0) 17 16 = 0 then t.pllLoss p else t) s1).tpllHoldover)) ∧
  (∀ s : State, s.awake = true → s.time.holdover = false → Answers .tpllRelock s (s.setB aSRC_STAT 1 true)) ∧
  (∀ s : State, s.awake = true → s.time.holdover = true →
    let s1 := { (s.setB aSRC_STAT 1 true).setB aSRC_STAT 4 true with
      time := { s.time with holdover := false, leaderAtLoss := false, good := 0 } }
    let t := if s1.servoRuns then s1.setQuality qTRACKING else if s.time.leaderAtLoss then s1.setQuality qLEADER else s1
    Answers .tpllRelock s t ∧ t.time.holdover = false ∧ t.time.good = 0 ∧ t.rb aSRC_STAT 1 = true ∧ t.rb aSRC_STAT 4 = true ∧
      t.time.now = s.time.now) ∧
  (∀ s : State, s.time.running = false → s.power.lockWait.isSome = true →
    (s.power.rebuildTime = true → Answers .timingPllLock s (s.setB aSRC_STAT 4 true)) ∧
    (s.power.rebuildTime = false → Answers .timingPllLock s
      (({ s with time := { s.time with running := true, holdover := false, now := 0 } }.setB aSRC_STAT 4 true).clockCheck))) ∧
  (∀ s : State, s.rb aSRC_CTL 0 = true → s.fabric.clocks.xtalFailed = false → s.rb aSRC_STAT 3 = false →
    Answers .xtalStart s ((s.setB aSRC_STAT 2 true).setB aSRC_STAT 3 true)) ∧
  (∀ s : State, s.rb aSRC_STAT 3 = true → s.awake = true →
    let t := s.xtalFail.updPower fun p => { p with xtalLapse := true }
    Answers .xtalFail s t ∧ t.rb aSRC_STAT 2 = false ∧ t.rb aSRC_STAT 3 = false ∧ t.fabric.clocks.xtalFailed = true ∧
      t.rb (pg 0x020 0x00C) 17 = true ∧ t.power = { s.power with xtalLapse := true })

/-- Switches, dividers and gates (R148 to R154). A write of a clock site that names a new input, or a new divider, starts a switch or a restart, and
SW_BUSY reads 1 until it ends; once the old side is over the switch takes the new input, and SW_BUSY falls at once unless the divider starts at
A = 0; one away from an old input that shows no edge sets DEAD. While the new input shows no edge the output stays low and the switch waits; while
the old side goes on nothing changes. ROOT_GATE and BCLK_GATE store the gate bit; CLR of XMERGE clears its counts.
What it rests on besides the rules: the model's choices of log 92, 121. -/
def Obligations.ClockSites : Prop :=
  (∀ (s : State) (r : ReqId) (b : BitVec 7) (c : BitVec 3) (v : Word), Accepted s r (aBCLK b.toNat c.toNat) v →
    let a := aBCLK b.toNat c.toNat
    let t := (s.storeWrite a v false).bclkWritten b.toNat c.toNat (s.reg a)
    Answers (.clockSwitch r (.bclk b c) v) s t ∧ Answers (.divWrite r b c v) s t ∧ Answers (.bclkGate r b c v) s t) ∧
  (∀ (s : State) (r : ReqId) (n : BitVec 4) (v : Word), Accepted s r (aROOT n.toNat) v →
    let t := (s.storeWrite (aROOT n.toNat) v false).rootWritten n.toNat (s.reg (aROOT n.toNat))
    Answers (.clockSwitch r (.root n) v) s t ∧ Answers (.rootGate r n v) s t) ∧
  (∀ (s : State) (r : ReqId) (v : Word), Accepted s r aSRC_CTL v →
    Answers (.clockSwitch r .guide v) s ((s.storeWrite aSRC_CTL v false).srcCtlWritten (s.reg aSRC_CTL))) ∧
  (∀ (s : State) (r : ReqId) (b : BitVec 7) (c : BitVec 3) (v : Word), Accepted s r (aBCLK b.toNat c.toNat) v →
    Completes (.divWrite r b c v) s fun t => t.rf (aBCLK b.toNat c.toNat) 23 16 = fld v 23 16 ∧
      (fld (s.reg (aBCLK b.toNat c.toNat)) 23 16 ≠ fld v 23 16 → t.rb (aBCLK b.toNat c.toNat) 30 = true)) ∧
  (∀ (s : State) (b : BitVec 7) (c : BitVec 3), s.awake = true → let a := aBCLK b.toNat c.toNat
    s.rb a 30 = true →
    (s.oldSideOver b.toNat c.toNat = false → Answers (.clockSwitchDone (.bclk b c)) s s) ∧
    (s.oldSideOver b.toNat c.toNat = true → s.rootRuns (s.bclkWanted b.toNat c.toNat) = true →
      ∃ t, exec (.clockSwitchDone (.bclk b c)) s = .next t ∧ t.rf a 29 28 = s.rf a 27 26 ∧
      t.rb a 30 = s.startsAligned (s.bclkWanted b.toNat c.toNat) (s.rf a 23 16 + 1) ∧ t.clockSwitch (bclkKey b.toNat c.toNat) = none ∧
      (s.escapes b.toNat c.toNat = true → t.rb (pg (0x028 + b.toNat / 16) 0x00C) 17 = true)) ∧
    (s.oldSideOver b.toNat c.toNat = true → s.rootRuns (s.bclkWanted b.toNat c.toNat) = false → Answers (.clockSwitchDone (.bclk b c)) s (s.oldSideDone b.toNat c.toNat) ∧
      (s.oldSideDone b.toNat c.toNat).rb a 30 = true ∧
      (s.oldSideDone b.toNat c.toNat).fabric.clocks.high.contains (bclkKey b.toNat c.toNat) = false)) ∧
  (∀ (s : State) (b : BitVec 7) (c : BitVec 3), s.awake = true → s.rb (aBCLK b.toNat c.toNat) 30 = false →
    Answers (.clockSwitchDone (.bclk b c)) s s) ∧
  (∀ (s : State) (n : BitVec 4), s.awake = true → let a := aROOT n.toNat
    s.rb a 30 = true →
    (s.rootRuns n.toNat = true → Answers (.clockSwitchDone (.root n)) s s) ∧
    (s.rootRuns n.toNat = false → s.sourceRuns (s.rf a 5 0) = true → ∃ t, exec (.clockSwitchDone (.root n)) s = .next t ∧
      t.rf a 21 16 = s.rf a 5 0 ∧ t.rb a 30 = false ∧ t.clockSwitch (rootKey n.toNat) = none ∧
      t.fabric.clocks.high.contains (rootKey n.toNat) = false) ∧
    (s.rootRuns n.toNat = false → s.sourceRuns (s.rf a 5 0) = false → Answers (.clockSwitchDone (.root n)) s
      (s.setSwitch (rootKey n.toNat) ((s.clockSwitch (rootKey n.toNat)).map fun x => { x with low := true })))) ∧
  (∀ s : State, s.awake = true → s.fabric.clocks.guideSw = true → s.guideWanted ≠ 1 ∨ s.time.running = true →
    Answers (.clockSwitchDone .guide) s (s.updClocks fun c => { c with guideClk := s.guideWanted, guideSw := false })) ∧
  (∀ (s : State) (r : ReqId) (b : BitVec 7) (v : Word), Accepted s r (aXMERGE b.toNat) (setBit v 15 true) →
    let t := (s.storeWrite (aXMERGE b.toNat) (setBit v 15 true) false).xmergeClr b.toNat
    Answers (.xmergeClr r b v) s t ∧ t.rf (aXMERGE b.toNat) 31 16 = 0 ∧ t.rf (aXMERGE b.toNat) 7 0 = 0 ∧ SameOutside s t)

/-! ### The time base -/

/-- Commits, steps and the servo (R168 to R173, R175). A TIME commit with OP = 1 requests the step to the value of TGT and one with OP = 2 the slew of ADJ,
and OP returns to 0; the step takes effect at the next whole microsecond, and one that replaces a step not yet applied keeps its instant; a
measurement is taken while the servo runs on the PPS reference, of the edge TCTL.PPS_EDGE names; its loss makes HOLDOVER with f held. While the servo
runs a commit waits for a measurement.
What it rests on besides the rules: the model's choices of log 12, 97, 132. -/
def Obligations.TimeSteps : Prop :=
  (∀ s : State, s.awake = true → s.commitPending 0x018 = true → s.timeAtOnce = true → fld (s.shadow (aTIME 0x40)) 1 0 = 1 →
    let t := s.timeTransfer
    Answers .timeStepCommit s t ∧
      t.time = { s.time with
        step := some (.toValue (BitVec.ofNat 72
          (((s.shadow (aTIME 0x3C)).toNat * 2 ^ 32 + (s.shadow (aTIME 0x38)).toNat) * 256 + fld (s.shadow (aTIME 0x40)) 15 8)))
        stepAt := if s.time.step.isSome then s.time.stepAt else nextMicro s.time.now } ∧
      t.rf (aTIME 0x40) 1 0 = 0 ∧ fld (t.shadow (aTIME 0x40)) 1 0 = 0 ∧ SameOutside { s with time := t.time } t) ∧
  (∀ s : State, s.awake = true → s.commitPending 0x018 = true → s.timeAtOnce = true → fld (s.shadow (aTIME 0x40)) 1 0 = 2 →
    let t := s.timeTransfer
    Answers .timeSlewCommit s t ∧ t.rf (aTIME 0x40) 1 0 = 0 ∧
    (s.refSrc ≠ 0 → t.time = { s.time with adj := s.time.adj + s.adjShadow * 256 }) ∧
    (s.refSrc = 0 → s.adjShadow ≠ 0 →
      t.time = { s.time with slewUp := decide (s.adjShadow < 0), slewLeft := s.adjShadow.natAbs * 256 * 2500 })) ∧
  (∀ s : State, s.awake = true → s.timeAtOnce = false → Answers .timeStepCommit s s ∧ Answers .timeSlewCommit s s) ∧
  (∀ (s : State) (v : DevTime), s.timed = true → s.time.step = some (.toValue v) →
    let s1 := s.reach s.time.stepAt
    let s2 := s1.stepTo (v + (s1.time.now - s.time.stepAt))
    (s2.refSrc = 0 → Answers .stepApply s (s2.setQuality qLEADER)) ∧
    (s2.refSrc ≠ 0 → s2.quality = qUNSET → Answers .stepApply s (s2.setQuality qTRACKING)) ∧
    (s2.refSrc ≠ 0 → s2.quality ≠ qUNSET → Answers .stepApply s s2)) ∧
  (∀ (s : State) (d : Int), s.timed = true → s.time.step = some (.byUnits d) →
    let s1 := s.reach s.time.stepAt
    let s2 := s1.stepTo (BitVec.ofInt 72 ((s1.time.now.toNat : Int) + d))
    let s3 := { s2 with time := { s2.time with good := 0 } }
    (s2.servoRuns = true ∨ s2.quality = qUNSET → Answers .stepApply s (s3.setQuality qTRACKING)) ∧
    (s2.servoRuns = false → s2.quality ≠ qUNSET → Answers .stepApply s s3)) ∧
  (∀ s : State, s.timed = true → s.servoRuns = true → s.refSrc = 1 → s.rb (pg 0x548 0x020) 8 = false → s.commitPending 0x018 = false →
    let u := ((s.reg (aTIME 0x54)).toNat * 2 ^ 32 + (s.reg (aTIME 0x50)).toNat) * 256 + s.rf (aTIME 0x58) 7 0
    let e := s.ppsOffset u + s.time.adj
    2 ^ s.rf (aTIME 0x20) 11 8 * 1000 * 256 < e.natAbs →
    let s2 := { s.setReg (aTIME 0x4C) (BitVec.ofNat 32 (scode 32 (clampInt (-2147483648) 2147483647 e))) with
      time := { s.time with adj := 0, refLost := false, good := 0 } }
    Answers .servoMeasure s ((if s.quality = qUNSET then s2 else s2.setQuality qTRACKING).requestStep (.byUnits (-e)))) ∧
  (∀ s : State, s.timed = true → s.servoRuns = true → s.refSrc = 1 → s.rb (pg 0x548 0x020) 8 = false → s.commitPending 0x018 = false →
    let u := ((s.reg (aTIME 0x54)).toNat * 2 ^ 32 + (s.reg (aTIME 0x50)).toNat) * 256 + s.rf (aTIME 0x58) 7 0
    let e := s.ppsOffset u + s.time.adj
    let t := s.measure (s.ppsOffset u)
    let f := clampRat (-maxRate) maxRate (s.time.f - (e : Rat) / 256 / (256 * (s.servoInterval : Rat)))
    e.natAbs ≤ 2 ^ s.rf (aTIME 0x20) 11 8 * 1000 * 256 →
    Answers .servoMeasure s t ∧ t.time.f = f ∧ t.time.r = clampRat (-maxRate) maxRate (f - (e : Rat) / 256 / (16 * (s.servoInterval : Rat))) ∧
      t.time.good = (if e.natAbs ≤ 2 ^ s.rf (aTIME 0x20) 19 16 * 256 then s.time.good + 1 else 0) ∧
      t.quality = (if 16 ≤ t.time.good then qLOCKED else qTRACKING) ∧ t.time.now = s.time.now) ∧
  (∀ s : State, s.timed = true → s.servoRuns = true → s.refSrc = 1 →
    (s.rb (pg 0x548 0x020) 8 = false →
      let u := ((s.reg (aTIME 0x54)).toNat * 2 ^ 32 + (s.reg (aTIME 0x50)).toNat) * 256 + s.rf (aTIME 0x58) 7 0
      Answers .servoMeasure s (s.measure (s.ppsOffset u))) ∧
    (s.rb (pg 0x548 0x020) 8 = true →
      Answers .servoMeasure s ((s.free 72).2.measure ((s.free 72).2.ppsOffset (s.free 72).1.toNat)))) ∧
  (∀ s : State, s.timed = true → s.servoRuns = true → s.time.refLost = false → s.commitPending 0x018 = false →
    let t := ((({ s with time := { s.time with refLost := true, good := 0, r := s.time.f } }).showRate).setErr 0x018 16).setQuality qHOLDOVER
    Answers .refLost s t ∧ t.time.refLost = true ∧ t.time.good = 0 ∧ t.time.r = s.time.f ∧ t.time.f = s.time.f ∧
      t.rf aTIME_STAT 3 0 = qHOLDOVER ∧ t.rb (pg 0x018 0x00C) 16 = true)

/-- Instants of the time base (R47, R165, R169, R175). A PPS edge is stamped with its device time and raises event 83 with that time; time moves on to the wrap;
BOUND is recomputed; a read of TIME_STAT answers the register and clears STEP_SEEN. -/
def Obligations.TimeInstants : Prop :=
  (∀ (s : State) (e : DevTime), s.timed = true → laterThan e s.time.now = false →
    let t := (((s.setReg (aTIME 0x50) (BitVec.ofNat 32 (nsOf e))).setReg (aTIME 0x54) (BitVec.ofNat 32 (nsOf e / 2 ^ 32))).setReg (aTIME 0x58)
      (BitVec.ofNat 32 (fracOf e))).raiseAt 83 e
    Answers (.ppsEdge e) s t ∧ t.reg (aTIME 0x50) = BitVec.ofNat 32 (nsOf e) ∧ t.reg (aTIME 0x54) = BitVec.ofNat 32 (nsOf e / 2 ^ 32) ∧
      t.reg (aTIME 0x58) = BitVec.ofNat 32 (fracOf e) ∧ t.count 83 = s.count 83 + 1 ∧ SameOutside s t) ∧
  (∀ (s : State) (e : DevTime), s.timed = true → Answers (.ppsEdge e) s ((s.reach e).ppsEdge e)) ∧
  (∀ s : State, s.timed = true → Answers .timeWrap s (s.reach 0)) ∧
  (∀ s : State, s.timed = true → Answers .boundUpdate s (s.setReg (aTIME 0x2C) (BitVec.ofNat 32 s.boundNow))) ∧
  (∀ (s : State) (r : ReqId), Readable s r → s.snap (localSnap r.toNat (aTIME 0x24)) = none →
    Answers (.timeStatRead r) s { s.setB (aTIME 0x24) 8 false with lastRead := s.showReg r.toNat (aTIME 0x24), lastUr := false })

/-! ### Edge units -/

/-- The edge queue (R180 to R182, R184). EQ_LO stages the low word of its requester and EQ_HI pushes the entry formed with it; at its time the head entry
places its level and leaves the queue; a late head sets its PAGE_ERR bit, and is placed now unless LATE_DROP is 1. ENABLE cleared
empties the queue and stops PWM, ENABLE = 0 written to a disabled unit empties its queue too, and ENABLE set starts the unit; GRP_COMMIT requests the commits of its groups.
What it rests on besides the rules: the model's choice of log 135. -/
def Obligations.EdgeQueue : Prop :=
  (∀ (s : State) (r : ReqId) (p : BitVec 8) (v : Word), Accepted s r (aEDGE p.toNat 0x28) v →
    let t := (s.storeWrite (aEDGE p.toNat 0x28) v false).stageLow p.toNat r.toNat v
    Answers (.eqLo r p v) s t ∧ SMap.get (fun _ => 0) (t.edgeUnit p.toNat).stage r.toNat = v ∧
      (t.edgeUnit p.toNat).queue = (s.edgeUnit p.toNat).queue ∧ (t.edgeUnit p.toNat).level = (s.edgeUnit p.toNat).level ∧
      (∀ q, q ≠ p.toNat → t.edgeUnit q = s.edgeUnit q)) ∧
  (∀ (s : State) (r : ReqId) (p : BitVec 8) (v : Word), Accepted s r (aEDGE p.toNat 0x2C) v →
    let u := s.storeWrite (aEDGE p.toNat 0x2C) v false
    let lo := (SMap.get (fun _ => 0) (s.edgeUnit p.toNat).stage r.toNat).toNat
    Answers (.eqHi r p v) s
      (u.queuePush p.toNat { time := entryTime s.time.now (fld v 7 0 * 2 ^ 32 + lo) (fld v 23 16), level := bit v 31 })) ∧
  (∀ (s : State) (p : BitVec 8) (q : QueueEntry) (l : List QueueEntry), s.timed = true → s.edgeMode p.toNat = 1 → s.edgeOn p.toNat = true →
    (s.edgeUnit p.toNat).queue = q :: l →
    ((s.edgeUnit p.toNat).headLate = false →
      Answers (.queueEdge p) s (((s.reach q.time).placeEdge p.toNat q.time q.level).queuePop p.toNat)) ∧
    ((s.edgeUnit p.toNat).headLate = true → s.rb (aEDGE p.toNat 0x20) 16 = true →
      Answers (.queueEdge p) s ((s.setErr (0x100 + p.toNat) 16).queuePop p.toNat)) ∧
    ((s.edgeUnit p.toNat).headLate = true → s.rb (aEDGE p.toNat 0x20) 16 = false →
      Answers (.queueEdge p) s
        (((s.setErr (0x100 + p.toNat) 16).placeEdge p.toNat s.time.now q.level).queuePop p.toNat))) ∧
  (∀ (s : State) (r : ReqId) (p : BitVec 8) (v : Word), Accepted s r (pg (0x100 + p.toNat) 0x004) (setBit v 0 false) →
    s.pageEnable (0x100 + p.toNat) = true → bit v 1 = false → bit v 2 = false →
    Answers (.edgeDisable r p v) s
      (((s.setB (pg (0x100 + p.toNat) 0x004) 0 false).edgeStops p.toNat).settlePin p.toNat)) ∧
  (∀ (s : State) (r : ReqId) (p : BitVec 8) (v : Word), Accepted s r (pg (0x100 + p.toNat) 0x004) (setBit v 0 false) →
    s.pageEnable (0x100 + p.toNat) = false → bit v 1 = false → bit v 2 = false →
    let u := s.edgeUnit p.toNat
    let t := s.setEdge p.toNat { u with queue := [], headLate := false }
    Answers (.edgeDisable r p v) s t ∧ (t.edgeUnit p.toNat).queue = [] ∧ (∀ q, q ≠ p.toNat → t.edgeUnit q = s.edgeUnit q)) ∧
  (∀ (s : State) (r : ReqId) (p : BitVec 8) (v : Word), Accepted s r (pg (0x100 + p.toNat) 0x004) (setBit v 0 true) →
    s.pageEnable (0x100 + p.toNat) = false → bit v 1 = false → bit v 2 = false →
    Answers (.edgeEnable r p v) s
      ((((s.setB (pg (0x100 + p.toNat) 0x004) 0 true).unitEnabled (0x100 + p.toNat) 0xFFFF).edgeStarts p.toNat).settlePin p.toNat)) ∧
  (∀ (s : State) (r : ReqId) (v : Word), Accepted s r (pg 0x210 0x30) v → Answers (.grpCommit r v) s
    (((List.range 256).filter fun p => s.rf (aEDGE p 0x20) 31 27 ≠ 0 && bit v (s.rf (aEDGE p 0x20) 31 27)).foldl
      (fun t p => t.requestCommit (0x100 + p)) (s.storeWrite (pg 0x210 0x30) v false)))

/-- PWM and capture (R183, R184, R186, R187). A period boundary transfers a pending commit and starts the next period; each edge of the period is placed once, at the
period's start plus RISE or FALL; a captured edge enters the FIFO with its time, corrected by IN_OFS, and an edge that finds the FIFO full is counted
as lost, as is one that comes too soon after the one before; a read of CAP_LO takes the oldest capture. -/
def Obligations.PwmAndCapture : Prop :=
  (∀ (s : State) (p : BitVec 8) (n : DevTime), s.timed = true → s.edgeOn p.toNat = true → s.edgeMode p.toNat = 2 →
    (s.edgeUnit p.toNat).pwmNext = some n →
    let s1 := (s.pwmFinish p.toNat).reach n
    let s2 := if s1.commitPending (0x100 + p.toNat) then s1.edgeTransfer p.toNat else s1
    (s2.edgePer p.toNat = 0 → Answers (.pwmPeriodStart p) s s2) ∧
    (s2.edgePer p.toNat ≠ 0 → Answers (.pwmPeriodStart p) s (s2.setEdge p.toNat { s2.edgeUnit p.toNat with
      pwmStart := some n, pwmNext := some (n + BitVec.ofNat 72 (s2.edgePer p.toNat)), riseDone := false, fallDone := false }))) ∧
  (∀ (s : State) (p : BitVec 8) (st : DevTime), s.timed = true → (s.edgeUnit p.toNat).pwmStart = some st →
    ((s.edgeUnit p.toNat).riseDone = false → s.edgeRise p.toNat < s.edgePer p.toNat →
      let t := st + BitVec.ofNat 72 (s.edgeRise p.toNat)
      Answers (.pwmEdge p true) s (((s.reach t).setEdge p.toNat { s.edgeUnit p.toNat with riseDone := true }).placeEdge p.toNat t
        (s.edgeRise p.toNat != s.edgeFall p.toNat))) ∧
    ((s.edgeUnit p.toNat).fallDone = false → s.edgeFall p.toNat < s.edgePer p.toNat →
      let t := st + BitVec.ofNat 72 (s.edgeFall p.toNat)
      Answers (.pwmEdge p false) s (((s.reach t).setEdge p.toNat { s.edgeUnit p.toNat with fallDone := true }).placeEdge p.toNat t false))) ∧
  (∀ (s : State) (p : BitVec 8) (falling : Bool) (e : DevTime), s.timed = true → laterThan e s.time.now = false →
    s.capSelects p.toNat falling = true →
    let soon := (s.edgeUnit p.toNat).lastCapture.any fun c => shortSpacing s.time.now c
    (soon = false → (s.edgeUnit p.toNat).captures.length < 16 →
      let s1 := s.setEdge p.toNat { s.edgeUnit p.toNat with
        captures := (s.edgeUnit p.toNat).captures ++
          [{ time := s.time.now - s.inOfs p.toNat, falling := falling, quality := s.quality, lost := (s.edgeUnit p.toNat).captureLost }]
        lastCapture := some s.time.now, captureLost := false }
      let t := if (s.edgeUnit p.toNat).captures.isEmpty ∧ s.rb (aEDGE p.toNat 0x20) 20 then s1.raiseAt (128 + p.toNat / 4) s.time.now else s1
      Answers (.captureEdge p falling e) s t ∧
      (t.edgeUnit p.toNat).captures = (s.edgeUnit p.toNat).captures ++
        [{ time := s.time.now - s.inOfs p.toNat, falling := falling, quality := s.quality, lost := (s.edgeUnit p.toNat).captureLost }] ∧
      (t.edgeUnit p.toNat).captureLost = false ∧ (∀ q, q ≠ p.toNat → t.edgeUnit q = s.edgeUnit q)) ∧
    (soon = true ∨ 16 ≤ (s.edgeUnit p.toNat).captures.length →
      let t := ((s.setEdge p.toNat { s.edgeUnit p.toNat with captureLost := true }).satAdd (aEDGE p.toNat 0x5C) 31 0 1).edgeErr p.toNat 18
      Answers (.captureEdge p falling e) s t ∧
      (t.edgeUnit p.toNat).captures = (s.edgeUnit p.toNat).captures ∧ (t.edgeUnit p.toNat).captureLost = true ∧
      t.rb (pg (0x100 + p.toNat) 0x00C) 18 = true ∧ (∀ q, q ≠ p.toNat → t.edgeUnit q = s.edgeUnit q))) ∧
  (∀ (s : State) (r : ReqId) (p : BitVec 8) (c : Capture) (l : List Capture), Readable s r →
    s.snap (localSnap r.toNat (aEDGE p.toNat 0x50)) = none → (s.edgeUnit p.toNat).captures = c :: l →
    let t := { (s.readReg r.toNat (aEDGE p.toNat 0x50)).2 with lastRead := (s.readReg r.toNat (aEDGE p.toNat 0x50)).1, lastUr := false }
    Answers (.capLoRead r p) s t ∧ t.lastRead = c.words.1 ∧ (t.edgeUnit p.toNat).captures = l ∧ t.lastUr = false ∧
      (∀ q, q ≠ p.toNat → t.edgeUnit q = s.edgeUnit q))

/-- Calibration of the edge lines (R188 to R190). A background cycle begins CYCLE_MS after the start of the one before, or waits for that one to end; an
idle line that passes arms its swap and one that has failed stays out of service; the swap puts the idle line into service at a boundary with no output
edge within 2 ns of it, and 1 ms after it was armed it is abandoned; boot calibration marks its page done.
What it rests on besides the rules: the model's choices of log 98, 99. -/
def Obligations.EdgeCalibration : Prop :=
  (∀ (s : State) (i : BitVec 2), s.timed = true → s.rb (aCAL i.toNat 0x20) 16 = true → s.rb (aCAL i.toNat 0x24) 31 = true →
    let s1 := match (s.calEngine i.toNat).startedAt with
      | some t => s.reach (t + ns (1000000 * s.calPeriod i.toNat))
      | none => s
    ((s1.calEngine i.toNat).active = true →
      Answers (.calCycleStart i) s (s1.setCal i.toNat { s1.calEngine i.toNat with due := true })) ∧
    ((s1.calEngine i.toNat).active = false → Answers (.calCycleStart i) s
      ((s1.setCal i.toNat { active := true, handled := 0, due := false, startedAt := some s1.time.now }).setF (aCAL i.toNat 0x24) 21 16 0))) ∧
  (∀ (s : State) (p : BitVec 8), s.timed = true → (s.calEngine (p.toNat / 64)).active = true →
    (s.calEngine (p.toNat / 64)).handled = p.toNat % 64 →
    let i := p.toNat / 64
    let c := s.calEngine i
    let s1 := (s.setCal i { c with handled := c.handled + 1 }).setF (aCAL i 0x24) 21 16 (min 63 (c.handled + 1))
    ((s1.edgeUnit p.toNat).idleFailed = false → Answers (.lineCalDone p true) s
      ((s1.setEdge p.toNat { s1.edgeUnit p.toNat with armed := some s1.time.now }).calFinish i)) ∧
    ((s1.edgeUnit p.toNat).idleFailed = true → Answers (.lineCalDone p true) s (s1.calFinish i)) ∧
    Answers (.lineCalDone p false) s
      (((s1.setEdge p.toNat { s1.edgeUnit p.toNat with idleFailed := true }).setErr (0x210 + i) 16).calFinish i)) ∧
  (∀ (s : State) (p : BitVec 8) (t : DevTime), s.timed = true → (s.edgeUnit p.toNat).armed = some t →
    let near := (s.outEdges p.toNat).any fun e => (e - s.time.now).toNat ≤ 512 || (s.time.now - e).toNat ≤ 512
    (laterThan s.time.now (t + ns 1000000) = false → near = false → Answers (.lineSwap p) s
      (((s.setEdge p.toNat { s.edgeUnit p.toNat with
          armed := none, line := !(s.edgeUnit p.toNat).line, calValid := true, calLate := false, calAt := some s.time.now,
          calCycles := 0 }).setB (pg (0x100 + p.toNat) 0x00C) 19 false).calFinish (p.toNat / 64))) ∧
    (laterThan s.time.now (t + ns 1000000) = false → near = true → Answers (.lineSwap p) s s) ∧
    (laterThan s.time.now (t + ns 1000000) = true → Answers (.lineSwap p) s
      ((s.setEdge p.toNat { s.edgeUnit p.toNat with armed := none }).calFinish (p.toNat / 64))) ∧
    (let s1 := s.reach (t + ns 1000000)
     Answers (.swapAbandon p) s ((s1.setEdge p.toNat { s1.edgeUnit p.toNat with armed := none }).calFinish (p.toNat / 64)))) ∧
  (∀ (s : State) (i : BitVec 2), s.timed = true → s.rb (aCAL i.toNat 0x24) 31 = false → s.power.loopGroupDue = false →
    Answers (.bootCalDone i) s (s.bootCalDone i.toNat) ∧ (s.bootCalDone i.toNat).rb (aCAL i.toNat 0x24) 31 = true)

/-! ### Sigma-delta channels -/

/-- Channels start and stop (R196, R198, R201). SDF_START and SDF_STOP store EN and the channel follows; a stop completes with BUSY low, at the end of the period of a clock that
the channel generates; the output that
has been formed reaches CH_OUT with its timestamp and the next SEQ. -/
def Obligations.SigmaDeltaOutputs : Prop :=
  (∀ (s : State) (r : ReqId) (c : BitVec 6) (v : Word), Accepted s r (aSDF c.toNat 0) (setBit v 0 true) →
    s.rb (aSDF c.toNat 0) 0 = false →
    let s1 := (s.storeWrite (aSDF c.toNat 0) (setBit v 0 true) false).unitEnabled (sdfPage c.toNat) (c.toNat % 8)
    let s2 := if (s1.sdfChan c.toNat).started && s1.sdfReserved c.toNat then s1.markUndefined 2 (sdfPage c.toNat) (c.toNat % 8) else s1
    Answers (.sdfStart r c v) s ((s2.sdfFollow c.toNat).settlePin (s2.sdfClkPin c.toNat))) ∧
  (∀ (s : State) (r : ReqId) (c : BitVec 6) (v : Word), Accepted s r (aSDF c.toNat 0) (setBit v 0 false) →
    let s1 := s.storeWrite (aSDF c.toNat 0) (setBit v 0 false) false
    let s2 := if (s1.sdfChan c.toNat).started && s1.sdfReserved c.toNat then s1.markUndefined 2 (sdfPage c.toNat) (c.toNat % 8) else s1
    Answers (.sdfStop r c v) s ((s2.sdfFollow c.toNat).settlePin (s2.sdfClkPin c.toNat))) ∧
  (∀ (s : State) (c : BitVec 6), s.timed = true → (s.sdfChan c.toNat).started = false → s.rb (aSDF c.toNat 0x14) 0 = true →
    let done (u : State) := (u.setSdf c.toNat { s.sdfChan c.toNat with gen := none, stopEnd := none }).setB (aSDF c.toNat 0x14) 0 false
    ((s.sdfChan c.toNat).stopEnd = none → Answers (.sdfStopDone c) s ((done s).settlePin (s.sdfClkPin c.toNat))) ∧
    (∀ e, (s.sdfChan c.toNat).stopEnd = some e →
      Answers (.sdfStopDone c) s ((done (s.reach e)).settlePin (s.sdfClkPin c.toNat)))) ∧
  (∀ (s : State) (c : BitVec 6) (o : SdfOutput), s.timed = true → (s.sdfChan c.toNat).out = some o → laterThan o.due s.time.now = false →
    let t := s.sdfPublish c.toNat
    Answers (.sdfOutput c) s t ∧
      t.reg (aSDF c.toNat 0x1C) = o.value ∧ t.reg (aSDF c.toNat 0x20) = BitVec.ofNat 32 (nsOf o.stamp) ∧
      t.reg (aSDF c.toNat 0x24) = BitVec.ofNat 32 (nsOf o.stamp / 2 ^ 32) ∧
      t.rf (aSDF c.toNat 0x14) 31 16 = (s.rf (aSDF c.toNat 0x14) 31 16 + 1) % 2 ^ 16 ∧ t.rb (aSDF c.toNat 0x14) 1 = true ∧
      t.rf (aSDF c.toNat 0x28) 31 16 = (s.rf (aSDF c.toNat 0x14) 31 16 + 1) % 2 ^ 16 ∧
      t.rf (aSDF c.toNat 0x28) 7 0 = fracOf o.stamp ∧ (t.sdfChan c.toNat).out = none ∧
      (t.sdfChan c.toNat).arrival = some s.time.now ∧ (∀ k, k ≠ c.toNat → t.sdfChan k = s.sdfChan k))

/-- Bits, trips and faults (R196 to R199, R202, R203). A bit is taken at its clock edge, corrected by the offsets of the pin, compared and may form an
output; a comparator trip sets its flag with the time and QUALITY of its bit, and once; an external edge within 25 ns of the last accepted one, or 1 µs
without an edge, is a clock fault; a clock fault and a run fault set their flags, and the output is stale. -/
def Obligations.SigmaDeltaFaults : Prop :=
  (∀ (s : State) (c : BitVec 6) (t : DevTime) (q : Nat), s.timed = true →
    ((s.sdfChan c.toNat).hiTrip = some (t, q) → Answers (.sdfCmpTrip c true) s
      ((s.setSdf c.toNat { s.sdfChan c.toNat with hiTrip := none }).sdfFlag c.toNat 0 t q)) ∧
    ((s.sdfChan c.toNat).loTrip = some (t, q) → Answers (.sdfCmpTrip c false) s
      ((s.setSdf c.toNat { s.sdfChan c.toNat with loTrip := none }).sdfFlag c.toNat 1 t q))) ∧
  (∀ (s : State) (c : BitVec 6) (at_ : DevTime), s.timed = true → laterThan at_ s.time.now = false → (s.sdfChan c.toNat).started = true →
    s.sdfDriver c.toNat = none →
    (s.sdfEarly c.toNat = true → Answers (.sdfClkFault c false at_) s ((s.sdfFlag c.toNat 2 s.time.now s.quality).sdfStale c.toNat)) ∧
    (s.sdfEarly c.toNat = false → Answers (.sdfClkFault c false at_) s s) ∧
    (let s1 := s.reach ((s.sdfChan c.toNat).since + ns 1000)
     Answers (.sdfClkFault c true at_) s ((s1.sdfFlag c.toNat 2 s1.time.now s1.quality).sdfStale c.toNat))) ∧
  (∀ (s : State) (c : BitVec 6), s.timed = true → (s.sdfChan c.toNat).runTrip = true →
    let t := ((s.setSdf c.toNat { s.sdfChan c.toNat with runTrip := false }).sdfFlag c.toNat 3 s.time.now s.quality).setB (aSDF c.toNat 0x14) 2 true
    Answers (.sdfRunFault c) s t ∧ t.rb (aSDF c.toNat 0x14) 2 = true ∧ (t.sdfChan c.toNat).runTrip = false) ∧
  (∀ (s : State) (c : BitVec 6) (b : Bool) (at_ e : DevTime) (k : Nat), s.timed = true → (s.sdfChan c.toNat).started = true →
    s.sdfDriver c.toNat = some k → s.genEdge k (s.rb (aSDF c.toNat 0) 2) (s.sdfChan c.toNat).since = some e →
    let s1 (d : DevTime) := (s.reach d).setSdf c.toNat { s.sdfChan c.toNat with since := e }
    (s.sdfGen c.toNat = true → Answers (.sdfBitSample c b at_) s
      ((s1 (e + BitVec.ofNat 72 (64 * s.rf (aSDF c.toNat 4) 23 16))).sdfEnter c.toNat b e e)) ∧
    (s.sdfGen c.toNat = false → Answers (.sdfBitSample c b at_) s
      ((s1 e).sdfEnter c.toNat b (e + (s.reach e).outOfs (s.sdfClkPin c.toNat) - (s.reach e).inOfs (s.sdfClkPin c.toNat)) e))) ∧
  (∀ (s : State) (c : BitVec 6) (b : Bool) (at_ : DevTime), s.timed = true → laterThan at_ s.time.now = false →
    (s.sdfChan c.toNat).started = true → s.sdfDriver c.toNat = none →
    (s.sdfEarly c.toNat = true → Answers (.sdfBitSample c b at_) s ((s.sdfFlag c.toNat 2 s.time.now s.quality).sdfStale c.toNat)) ∧
    (s.sdfEarly c.toNat = false → Answers (.sdfBitSample c b at_) s
      ((s.setSdf c.toNat { s.sdfChan c.toNat with lastEdge := some s.time.now, since := s.time.now }).sdfEnter c.toNat b
        (s.time.now - s.inOfs (s.sdfClkPin c.toNat)) s.time.now)))

/-! ### The loop engine -/

/-- Triggers (R213, R216 to R220, R231, R308, R474, R494). A PERIODIC context updates at its next grid point, unless the wrap of NS on the way has
skipped it, an EVENT context at each occurrence of its event that reaches the engine, of which none merges with another, a SAMPLE context when a new value of its source arrives, and one of either kind in abseil at the engine's trigger; a trigger before PERIOD has
passed is missed; one correctable error of the record raises event 249, and a double-bit error ends the context. Once an entry to a power state has
passed AP0 no update starts. OUTPUT_APPLY applies the output at t_r + L with the OUT_DST and OUT_PAR of t_r.
What it rests on besides the rules: the model's choices of log 101, 102. -/
def Obligations.LoopTriggers : Prop :=
  (∀ (s : State) (n : BitVec 10), s.timed = true → s.cRunning n.toNat = true → s.cKind n.toNat = 0 →
    let c := s.ctx n.toNat
    let g := gridAt (s.cPeriod n.toNat) (s.reg (aCTX n.toNat 0x4C)).toNat (if laterThan c.notBefore s.time.now then c.notBefore else s.time.now)
    let s1 := s.reach g
    let s2 := s1.setCtx n.toNat { s1.ctx n.toNat with notBefore := g + ns 1 }
    let quiet := s2.power.entry.any fun e => decide (1 ≤ e.passed)
    let skipped := laterThan (s1.ctx n.toNat).notBefore g
    (skipped = true → ∀ ecc, Answers (.loopGridPoint n ecc) s s1) ∧
    (skipped = false → quiet = false → Answers (.loopGridPoint n 0) s (s2.loopUpdate n.toNat g false) ∧
      Answers (.loopGridPoint n 1) s (((s2.raiseAt 249 g).queueCheck (elemOf 2 n.toNat) 3).loopUpdate n.toNat g false) ∧
      Answers (.loopGridPoint n 2) s (s2.recordLost n.toNat g) ∧ Answers (.loopGridPoint n 3) s (s2.recordLost n.toNat g)) ∧
    (skipped = false → quiet = true → ∀ ecc, Answers (.loopGridPoint n ecc) s s2)) ∧
  (∀ (s : State) (n : BitVec 10) (ecc : BitVec 2), s.timed = true → s.cRunning n.toNat = true → s.cKind n.toNat = 1 →
    s.trigCount n.toNat ≠ (s.ctx n.toNat).eventSeen →
    let s1 := s.setCtx n.toNat { s.ctx n.toNat with eventSeen := (s.ctx n.toNat).eventSeen + 1 }
    let early := (s1.ctx n.toNat).lastTrigger.any fun t => laterThan (t + ns (s1.cPeriod n.toNat)) s.time.now
    (s1.inAbseil n.toNat = true ∨ laterThan (s1.ctx n.toNat).notBefore s.time.now = true → Answers (.loopEventTrigger n ecc) s s1) ∧
    (s1.inAbseil n.toNat = false → laterThan (s1.ctx n.toNat).notBefore s.time.now = false →
      (early = true → Answers (.loopEventTrigger n ecc) s ((s1.ctxMissed n.toNat).ctxFlag n.toNat 2)) ∧
      (early = false → Answers (.loopEventTrigger n ecc) s (s1.loopRead n.toNat s.time.now false ecc)))) ∧
  (∀ (s : State) (n : BitVec 10) (ecc : BitVec 2) (a : DevTime), s.timed = true → s.cRunning n.toNat = true → s.cKind n.toNat = 2 →
    s.trigArrival n.toNat = some a → (s.ctx n.toNat).sampleSeen ≠ some a →
    let s1 := s.takeTrigger n.toNat
    let early := (s1.ctx n.toNat).lastTrigger.any fun t => laterThan (t + ns (s1.cPeriod n.toNat)) a
    (s1.inAbseil n.toNat = true ∨ laterThan (s1.ctx n.toNat).notBefore a = true → Answers (.loopSampleTrigger n ecc) s s1) ∧
    (s1.inAbseil n.toNat = false → laterThan (s1.ctx n.toNat).notBefore a = false →
      (early = true → Answers (.loopSampleTrigger n ecc) s ((s1.ctxMissed n.toNat).ctxFlag n.toNat 2)) ∧
      (early = false → Answers (.loopSampleTrigger n ecc) s (s1.loopRead n.toNat a true ecc)))) ∧
  (∀ (s : State) (n : BitVec 10) (ecc : BitVec 2), s.timed = true → s.cRunning n.toNat = true →
    s.cKind n.toNat = 1 ∨ s.cKind n.toNat = 2 → s.inAbseil n.toNat = true →
    let t := s.engineTrigger n.toNat
    let s1 := (s.reach t).takeTrigger n.toNat
    Answers (.abseilTrigger n ecc) s (s1.loopRead n.toNat t false ecc) ∧
    (s1.power.entry = none → (ecc = 0 → Answers (.abseilTrigger n ecc) s (s1.loopUpdate n.toNat t false)) ∧
      (2 ≤ ecc.toNat → Answers (.abseilTrigger n ecc) s (s1.recordLost n.toNat t)))) ∧
  (∀ (s : State) (n : BitVec 10) (u : LoopUpdate), s.timed = true → (s.ctx n.toNat).update = some u → u.sat = false → u.enter = false →
    u.leave = false → s.cAbseil n.toNat = false → laterThan u.applyAt s.time.now = false →
    let s2 := s.setCtx n.toNat { s.ctx n.toNat with
      update := none, oPrev := u.o, lastNs := nsOf u.applyAt % 2 ^ 32, lastApplied := u.applyAt, arrival := some u.applyAt
      before := { value := s.cq n.toNat 0xF8, valid := true, arrival := (s.ctx n.toNat).arrival } }
    let s3 := (s2.setReg (aCTX n.toNat 0xF8) (BitVec.ofNat 32 (scode 48 u.o))).setReg (aCTX n.toNat 0xFC)
      (BitVec.ofNat 32 (scode 48 u.o / 2 ^ 32))
    s3.cAbseil n.toNat = false → Answers (.outputApply n) s ((s3.loopTarget n.toNat u.o u.dst u.par u.applyAt).loopLog n.toNat u)) ∧
  (∀ (s : State) (n : BitVec 10), Answers (.outputApply n) s (if s.timed = true then s.outputApply n.toNat else s))

/-- The engine's registers (R215, R225, R229 to R231, R236). A channel word enters its slot with VALID and its arrival; CTX_COMMIT and the end of the admission test end the commit
of the contexts; ABSEIL_CMD sets or clears the cause COMMAND of the contexts it names; MISSED clears; a write of LOOP:STATE sets a state
word of the context selected.
What it rests on besides the rules: the model's choices of log 103. -/
def Obligations.LoopCommands : Prop :=
  (∀ (s : State) (q : BitVec 2) (w : BitVec 64), s.timed = true → s.loop.held.contains q.toNat = false → s.runningCtxs = [] →
    Answers (.fslotWord q w) s { s with loop := { s.loop with
      slotsBefore := SMap.set (fun _ => {}) s.loop.slotsBefore (64 * q.toNat + (w.toNat / 2 ^ 48) % 64)
        (SMap.get (fun _ => {}) s.loop.slotsIn (64 * q.toNat + (w.toNat / 2 ^ 48) % 64))
      slotsIn := SMap.set (fun _ => {}) s.loop.slotsIn (64 * q.toNat + (w.toNat / 2 ^ 48) % 64)
        { value := sext 48 (w.toNat % 2 ^ 48), valid := w.getLsbD 63, arrival := some s.time.now } } }) ∧
  (∀ (s : State) (q : BitVec 2) (w : BitVec 64), s.timed = true → s.loop.held.contains q.toNat = true → Answers (.fslotWord q w) s s) ∧
  (∀ (s : State) (q : BitVec 2) (w : BitVec 64), s.timed = true → Answers (.fslotWord q w) s (s.fslotWord q.toNat w)) ∧
  (∀ (s : State) (r : ReqId) (v : Word), Accepted s r (aLOOP 0x24) (setBit v 31 true) →
    let u := s.storeWrite (aLOOP 0x24) (setBit v 31 true) false
    let w := u.reg (aLOOP 0x24)
    Answers (.ctxCommit r v) s (u.ctxCommit w) ∧
    (u.rb (aLOOP 0x28) 31 = true → Answers (.ctxCommit r v) s (u.setErr 0x300 20)) ∧
    (u.rb (aLOOP 0x28) 31 = false → bit w 30 = false → fld w 4 0 = 0 → Answers (.ctxCommit r v) s (u.setReg (aLOOP 0x28) 0x01000000)) ∧
    (u.rb (aLOOP 0x28) 31 = false → bit w 30 = true → ∃ t, exec (.ctxCommit r v) s = .next t ∧ t.rb (aLOOP 0x28) 31 = true ∧
      t.loop.commit = some { contexts := [fld w 25 16], pages := [0x400 + fld w 25 16 / 16], laneCtl := false, restart := false })) ∧
  (∀ s : State, s.timed = true → s.power.loopCommitDue = false → Answers .admissionDone s s.admissionDone) ∧
  (∀ s : State, s.timed = true → Answers .admissionDone s s.groupAdmission) ∧
  (∀ (s : State) (r : ReqId) (v : Word), Accepted s r (aLOOP 0x2C) (setFld v 31 30 1) →
    let w := setFld v 31 30 1
    let u := s.storeWrite (aLOOP 0x2C) w false
    Answers (.abseilEnter r v) s ((u.abseilNamed w).foldl (fun t n => t.setCause n 16) u)) ∧
  (∀ (s : State) (r : ReqId) (v : Word), Accepted s r (aLOOP 0x2C) (setFld v 31 30 2) →
    let w := setFld v 31 30 2
    let u := s.storeWrite (aLOOP 0x2C) w false
    Answers (.abseilRelease r v) s
      ((u.abseilNamed w).foldl (fun t n => (t.clearCause n 16).setCtx n { (t.clearCause n 16).ctx n with released := true }) u)) ∧
  (∀ (s : State) (r : ReqId) (w : BitVec 4) (v : Word), Accepted s r (aLOOP (0x200 + 4 * w.toNat)) v →
    let a := aLOOP (0x200 + 4 * w.toNat)
    let u := s.storeWrite a v false
    let n := u.rf (aLOOP 0x40) 9 0
    Answers (.stateWrite r w v) s ((u.setReg a 0).setCtx n ((u.ctx n).setWord w.toNat v u.time.now))) ∧
  (∀ (s : State) (r : ReqId) (n : BitVec 10) (v : Word), Accepted s r (aCTX n.toNat 0xF4) (setBit v 15 true) →
    let t := ((s.storeWrite (aCTX n.toNat 0xF4) (setBit v 15 true) false).setF (aCTX n.toNat 0xF4) 31 16 0).setB (aCTX n.toNat 0xF4) 15 false
    Answers (.missedClr r n v) s t ∧ t.rf (aCTX n.toNat 0xF4) 31 16 = 0 ∧ t.rb (aCTX n.toNat 0xF4) 15 = false ∧ t.loop = s.loop)

/-- Heartbeats (R230). A kick takes the present time and clears what the miss had set, that of HB1 with HB1_CTL.EN at 0 too; a miss at the first whole microsecond beyond TMO sets its bit, counts, and sets
the cause in every context that names the heartbeat. -/
def Obligations.Heartbeats : Prop :=
  (∀ (s : State) (r : ReqId) (v : Word), Accepted s r (aLOOP 0x38) (setBit v 0 true) → s.rb (aLOOP 0x3C) 0 = false →
    Completes (.hbKick r v) s fun t => t.loop = { s.loop with hb0 := { lastKick := s.time.now } } ∧ t.rb (aLOOP 0x3C) 0 = false) ∧
  (∀ (s : State) (r : ReqId) (v : Word), Accepted s r (aLOOP 0x38) (setBit v 0 true) →
    Answers (.hbKick r v) s ((s.storeWrite (aLOOP 0x38) (setBit v 0 true) false).hbKick 0)) ∧
  (∀ s : State, s.timed = true → s.rb (aLOOP 0x3C) 1 = false →
    Answers .hb1Kick s { s with loop := { s.loop with hb1 := { lastKick := s.time.now } } }) ∧
  (∀ s : State, s.timed = true → Answers .hb1Kick s (s.hbKick 1)) ∧
  (∀ s : State, s.timed = true → s.rb (aLOOP 0x30) 31 = true → s.rb (aLOOP 0x3C) 0 = false →
    let s1 := s.reach (nextMicro (s.loop.hb0.lastKick + ns (1000 * max 1 (fld (s.reg (aLOOP 0x30)) 19 0))))
    let s4 := ((s1.setB (aLOOP 0x3C) 0 true).satAdd (aLOOP 0x3C) 15 2 1).setErr 0x300 17
    Answers (.hbMiss 0) s
      (s4.runningCtxs.foldl (fun t n => if t.rb (aCTX n 0x40) 24 then t.setCause n 20 else t) s4)) ∧
  (∀ s : State, s.timed = true → s.rb (aLOOP 0x34) 31 = true → s.rb (aLOOP 0x3C) 1 = false → s.hb1Suspended = false →
    let s1 := s.reach (nextMicro (s.loop.hb1.lastKick + ns (1000 * max 1 (fld (s.reg (aLOOP 0x34)) 19 0))))
    let s4 := ((s1.setB (aLOOP 0x3C) 1 true).satAdd (aLOOP 0x3C) 31 16 1).setErr 0x300 18
    Answers (.hbMiss 1) s
      (s4.runningCtxs.foldl (fun t n => if t.rb (aCTX n 0x40) 25 then t.setCause n 21 else t) s4))

/-! ### The rope -/

/-- Joining (R252, R268 to R270). ENABLE makes the node listen with its bypass closed, or, while it leaves, once it has left; the receivers lock at the
rate found; a join check that finds a cause refuses the node with that cause and closes its bypass, and one that finds none lets it open at the next boundary, wrapped at a port
that is disabled or faulty; PRESENT makes it JOINED, and without it the node listens again; a leader, or an anchor on its branch, that hears no cycle frame
begins to lead.
What it rests on besides the rules: the model's choices of log 69, 105, 129. -/
def Obligations.RopeJoining : Prop :=
  (∀ (s : State) (r : ReqId) (v : Word), Accepted s r (pg 0x540 0x004) (setBit v 0 true) → s.pageEnable 0x540 = false →
    bit v 1 = false → bit v 2 = false → s.ropeRole ≠ 0 →
    let t := s.writeCtl 0x540 (setBit v 0 true) false
    (s.ropeState = rsLEAVING → Answers (.ropeEnable r v) s t ∧ t.rope.again = true ∧ t.rf (aROPE 0x2C) 3 0 = rsLEAVING) ∧
    (s.ropeState ≠ rsLEAVING → s.rb (aROPE 0x28) 0 = true → Answers (.ropeEnable r v) s t ∧ t.rf (aROPE 0x2C) 3 0 = rsBELAYED) ∧
    (s.ropeState ≠ rsLEAVING → s.rb (aROPE 0x28) 0 = false → Answers (.ropeEnable r v) s t ∧ t.rf (aROPE 0x2C) 3 0 = rsLISTEN ∧ t.rb (aROPE 0x2C) 9 = true ∧ t.rf (aROPE 0x2C) 31 28 = 0 ∧
      t.rb (pg 0x540 0x004) 0 = true ∧ t.rope.checked = false ∧ t.rope.own.stopped = false ∧ t.rope.br.stopped = false)) ∧
  (∀ (s : State) (rate : Bool), s.awake = true → s.ropeState = rsLISTEN →
    let t := s.ropeLock rate
    Answers (.ropeLock rate) s t ∧ t.rb (aROPE 0x2C) 13 = rate ∧
      (s.pageEnable 0x541 = true → t.rb (pg 0x541 0x24) 0 = true ∧ t.rb (pg 0x541 0x24) 1 = true ∧ t.rb (pg 0x541 0x24) 2 = rate) ∧
      (s.pageEnable 0x542 = true → t.rb (pg 0x542 0x24) 0 = true ∧ t.rb (pg 0x542 0x24) 1 = true ∧ t.rb (pg 0x542 0x24) 2 = rate) ∧
      SameOutside { s with rope := { s.rope with oldHop := t.rope.oldHop } } t) ∧
  (∀ (s : State) (f : CycleFrame) (west : Bool), s.awake = true → s.ropeState = rsLISTEN → s.ropeRole = 1 → s.pageEnable 0x540 = true →
    (s.joinRefusal f west = 0 →
      Answers (.joinCheck f west) s ((s.takeSync f).updRope fun r => { r with checked := true })) ∧
    (s.joinRefusal f west ≠ 0 → Answers (.joinCheck f west) s
      (((((s.takeSync f).setF (aROPE 0x2C) 31 28 (s.joinRefusal f west)).setF (aROPE 0x2C) 3 0 rsREFUSED).closeBypass).setErr 0x540 16))) ∧
  (∀ s : State, s.awake = true → s.rope.checked = true → s.ropeState = rsLISTEN →
    let t := ((s.setF (aROPE 0x2C) 3 0 rsJOINING).openBypass).updRope fun r => { r with checked := false }
    Answers .joinOpen s t ∧ t.rf (aROPE 0x2C) 3 0 = rsJOINING ∧ t.rb (aROPE 0x2C) 9 = false ∧ t.rope.checked = false ∧
      (s.pageEnable 0x541 = false ∨ s.rb (pg 0x541 0x24) 4 = true → t.rb (pg 0x541 0x24) 3 = true) ∧
      (s.pageEnable 0x542 = false ∨ s.rb (pg 0x542 0x24) 4 = true → t.rb (pg 0x542 0x24) 3 = true)) ∧
  (∀ s : State, s.awake = true → s.ropeState = rsJOINING → (s.present false).getLsbD s.ropePos = true →
    Answers .joined s (s.setF (aROPE 0x2C) 3 0 rsJOINED)) ∧
  (∀ s : State, s.awake = true → s.ropeState = rsJOINING →
    Answers .joinTimeout s (s.setF (aROPE 0x2C) 3 0 rsLISTEN).closeBypass) ∧
  (∀ s : State, s.awake = true → s.pageEnable 0x540 = true → s.ropeRole = 2 → s.ropeState = rsLISTEN → s.rope.own.stopped = false →
    let s1 := ((s.setF (aROPE 0x2C) 3 0 rsLEADING).setRate false s.startRate).openBypass
    let t := ((s1.setF (aROPE 0x2C) 15 14 (activeCyc s.startRate (s.rf (aROPE 0x20) 11 10))).setF (aROPE 0x2C) 21 16
      (s.rf (aROPE 0x20) 17 12)).showLimits
    Answers (.leadingStart false) s t ∧ t.rf (aROPE 0x2C) 3 0 = rsLEADING ∧ t.rb (aROPE 0x2C) 9 = false ∧
      t.rb (aROPE 0x2C) 13 = decide (s.rf (aROPE 0x20) 9 8 = 2) ∧ t.rf (aROPE 0x2C) 21 16 = s.rf (aROPE 0x20) 17 12) ∧
  (∀ s : State, s.awake = true → s.pageEnable 0x540 = true → s.isAnchor = true → s.pageEnable 0x543 = true → s.rope.br.stopped = false →
    s.rb (aROPE 0x44) 0 = false → s.ropeState ≠ rsOFF → s.ropeState ≠ rsLEAVING → s.ropeState ≠ rsBELAYED →
    let t := ((s.setB (aROPE 0x44) 0 true).setRate true s.startRate).showLimits
    Answers (.leadingStart true) s t ∧ t.rb (aROPE 0x44) 0 = true ∧ t.rb (aROPE 0x44) 13 = decide (s.rf (aROPE 0x20) 9 8 = 2) ∧
      SameOutside { s with rope := { s.rope with oldHopBr := t.rope.oldHopBr } } t)

/-- Leaving and losing the rope (R259, R264, R266, R270, R274). BELAY of an active node starts an orderly leave, which ends with the bypass closed in BELAYED or OFF; loss of
cycles makes the node listen; a further timeout closes the bypass; a faulty port wraps an active node, and 1 ms of clean symbols ends its WRAP_NR; the wrap
ends once HEAL has counted down, at a port that is enabled and clean; PORT_CNT_CLR clears the counts of a port.
What it rests on besides the rules: the model's choices of log 105, 114, 131. -/
def Obligations.RopeLeaving : Prop :=
  (∀ (s : State) (r : ReqId) (v : Word), Accepted s r (aROPE 0x28) (setBit v 0 true) → s.rb (aROPE 0x28) 0 = false →
    let u := s.storeWrite (aROPE 0x28) (setBit v 0 true) false
    (u.ropeState = rsREFUSED → Answers (.belay r v) s u) ∧ (u.ropeState ≠ rsREFUSED → Answers (.belay r v) s u.ropeLeave)) ∧
  (∀ s : State, s.awake = true → s.ropeState = rsLEAVING →
    let left := if s.pageEnable 0x540 = true ∧ s.rb (aROPE 0x28) 0 = true then rsBELAYED else rsOFF
    let t := (((s.closeBypass).setF (aROPE 0x2C) 3 0 left).setB (pg 0x540 0x008) 0 false).setB (aROPE 0x44) 0 false
    (s.rope.again = false ∨ s.pageEnable 0x540 = false → Answers .leaveDone s t ∧ t.rb (aROPE 0x2C) 9 = true ∧
      t.rf (aROPE 0x2C) 3 0 = left ∧ t.rb (aROPE 0x44) 0 = false ∧ t.dramMem = s.dramMem ∧ t.pub = s.pub) ∧
    (s.rope.again = true → s.pageEnable 0x540 = true → Answers .leaveDone s t.ropeListen)) ∧
  (∀ s : State, s.awake = true → s.ropeState = rsJOINED ∨ s.ropeState = rsJOINING →
    Answers .syncLost s ((s.setF (aROPE 0x2C) 3 0 rsLISTEN).setErr 0x540 17)) ∧
  (∀ s : State, s.awake = true → s.ropeState = rsLISTEN → s.rb (aROPE 0x2C) 9 = false →
    Answers .listenTimeout s s.closeBypass) ∧
  (∀ s : State, s.awake = true → s.rb (aROPE 0x2C) 9 = false → s.rb (pg 0x541 0x24) 3 = false →
    Completes (.portFault .west .noCstart) s fun t => t.rb (pg 0x541 0x24) 3 = true ∧ t.rb (pg 0x541 0x24) 4 = true ∧
      t.rb (aROPE 0x2C) 10 = true ∧ t.rb (pg 0x541 0x00C) 16 = true ∧ t.rope = { s.rope with nrWest := true, healNow := false } ∧
      t.bist = s.bist) ∧
  (∀ (s : State) (p : RopePort) (c : PortCause), s.awake = true → Answers (.portFault p c) s ((s.portFault p c).linkChecks s)) ∧
  (∀ s : State, s.awake = true → s.unclean = [] → Answers .wrapNrClear s s) ∧
  (∀ (s : State) (p : RopePort), s.awake = true → s.unclean = [p] →
    (s.rb (pg (portPage p) 0x24) 3 = true → Answers .wrapNrClear s
      ((s.heard p).updRope fun r => { r with nrWest := r.nrWest && p != .west, nrEast := r.nrEast && p != .east })) ∧
    (s.rb (pg (portPage p) 0x24) 3 = false → Answers .wrapNrClear s ((s.heard p).setB (pg (portPage p) 0x24) 4 false))) ∧
  (∀ s : State, s.awake = true → 2 ≤ s.unclean.length → ∃ p ∈ s.unclean, Answers .wrapNrClear s ((s.free 2).2.portClean p)) ∧
  (∀ s : State, s.awake = true → s.rope.healNow = true → s.rb (aROPE 0x2C) 10 = true → s.rb (aROPE 0x2C) 11 = false →
    (s.rope.nrWest = false → s.pageEnable 0x541 = true →
      let t := ((((s.setB (aROPE 0x2C) 10 false).setB (pg 0x541 0x24) 3 false).setB (pg 0x541 0x24) 4 false).setErr 0x541 17).updRope
        fun r => { r with healNow := false }
      Answers .unwrap s t ∧ t.rb (aROPE 0x2C) 10 = false ∧ t.rb (pg 0x541 0x24) 3 = false ∧ t.rb (pg 0x541 0x24) 4 = false ∧
        t.rb (pg 0x541 0x00C) 17 = true ∧ t.rope = { s.rope with healNow := false }) ∧
    (s.rope.nrWest = true ∨ s.pageEnable 0x541 = false → Answers .unwrap s (s.updRope fun r => { r with healNow := false }))) ∧
  (∀ (s : State) (r : ReqId) (p : RopePort) (v : Word), Accepted s r (pg (portPage p) 0x34) (setBit v 0 true) →
    let t := (((s.storeWrite (pg (portPage p) 0x34) (setBit v 0 true) false).setReg (pg (portPage p) 0x28) 0).setReg (pg (portPage p) 0x2C) 0).setReg
      (pg (portPage p) 0x30) 0
    Answers (.portCntClr r p v) s t ∧
      t.reg (pg (portPage p) 0x28) = 0 ∧ t.reg (pg (portPage p) 0x2C) = 0 ∧ t.reg (pg (portPage p) 0x30) = 0 ∧ SameOutside s t) ∧
  (∀ (s : State) (e : BitVec 8), s.awake = true → s.rb (aSUB e.toNat 0x300) 30 = false → s.rb (aSUB e.toNat 0x100) 31 = true →
    let t := ((s.setB (aSUB e.toNat 0x300) 30 true).setErr (0x551 + e.toNat / 64) 16).raise 72
    Answers (.subStale e) s t ∧ t.rb (aSUB e.toNat 0x300) 30 = true ∧ t.count 72 = s.count 72 + 1 ∧ SameOutside s t)

/-- Cycles, rates and hops (R256 to R258, R260, R265, R275, R276). The leader sends its cycle frame at whole multiples of the cycle length; a frame whose
header or CRC-32 fails counts in CRC_ERR of its port and does nothing else; the rates change at their counts; a HOP frame carries TURN, one for each CSTART,
and one received adds a measurement of the delay. A port that is disabled takes no frame, and one that receives shows SIG and LOCK.
What it rests on besides the rules: the model's choices of log 104, 106, 130. -/
def Obligations.RopeCycles : Prop :=
  (∀ (s : State) (br : Bool) (tc : DevTime), s.timed = true → Answers (.cycleStart br tc) s (s.cycleStart br tc)) ∧
  (∀ (s : State) (br : Bool) (tc : DevTime), s.timed = true → s.cycleInstant br tc = false → Answers (.cycleStart br tc) s s) ∧
  (∀ (s : State) (tc : DevTime), s.timed = true → laterThan tc s.time.now = false → s.ropeState = rsLEADING → s.rope.own.stopped = false →
    s.transmits false = true → s.cycleInstant false tc = true →
    Completes (.cycleStart false tc) s fun t => t.rope.own.cycleNo = s.rope.own.cycleNo + 1 ∧ t.rope.own.returned = none ∧
      t.rope.eastOut = some (s.rope.own.cycleNo.truncate 12, tc) ∧ t.dramMem = s.dramMem ∧ t.otp = s.otp) ∧
  (∀ (s : State) (f : CycleFrame) (west : Bool) (ta : DevTime) (fwd : Word) (w : Wire), s.timed = true → laterThan ta s.time.now = false →
    s.pageEnable 0x540 = true →
    let p : RopePort := if west then .west else .east
    (s.pageEnable (portPage p) = true → cycleCheck f w = .head ∨ cycleCheck f w = .body → Answers (.cycleFrameRx f west ta fwd w) s
      (((s.heard p).satAdd (pg (portPage p) 0x2C) 31 0 1).linkChecks s)) ∧
    (cycleCheck f w = .other → Answers (.cycleFrameRx f west ta fwd w) s (s.heard p)) ∧
    (s.pageEnable (portPage p) = false → Answers (.cycleFrameRx f west ta fwd w) s s)) ∧
  (∀ (s : State) (f : CycleFrame) (west : Bool) (ta : DevTime) (fwd : Word) (w : Wire), s.timed = true →
    Answers (.cycleFrameRx f west ta fwd w) s ((s.cycleFrameRx f west ta fwd.toNat w).linkChecks s)) ∧
  (∀ (s : State) (f : CycleFrame) (port : RopePort) (ta : DevTime) (w : Wire), s.timed = true → s.ropeOff = false →
    s.pageEnable (portPage port) = true →
    (cycleCheck f w = .whole → Answers (.cycleFrameReturn port f ⟨w, ta⟩) s
      (((s.heard port).cycleReturn (port == .branch) (port == .west) f ta).linkChecks s)) ∧
    (cycleCheck f w = .head ∨ cycleCheck f w = .body → Answers (.cycleFrameReturn port f ⟨w, ta⟩) s
      (((s.heard port).satAdd (pg (portPage port) 0x02C) 31 0 1).linkChecks s)) ∧
    (cycleCheck f w = .other → Answers (.cycleFrameReturn port f ⟨w, ta⟩) s s)) ∧
  (∀ s : State, s.awake = true → s.rf (aROPE 0x20) 9 8 = 0 → s.ropeState = rsLEADING → s.ropeRate = true → s.rf (aROPE 0x2C) 27 22 ≤ 3 →
    s.changing false = false → Answers (.rateReturn false) s (s.updRope fun r => { r with own := r.own.startChange false })) ∧
  (∀ s : State, s.awake = true → s.rf (aROPE 0x20) 9 8 = 0 → s.rb (aROPE 0x44) 0 = true → s.rb (aROPE 0x44) 13 = true →
    s.rf (aROPE 0x44) 11 6 ≤ 3 → s.changing true = false → Answers (.rateReturn true) s (s.updRope fun r => { r with br := r.br.startChange false })) ∧
  (∀ (s : State) (v : Bool), s.awake = true → s.rope.brRateTo = some v →
    let t := ((((s.setRate true v).setErr 0x540 18).updRope fun r => { r with brRateTo := none }).showLimits).showHop true
    Answers (.rateSwitch true) s t ∧ t.rb (aROPE 0x44) 13 = v ∧ t.rb (pg 0x543 0x24) 2 = v ∧ t.rb (pg 0x540 0x00C) 18 = true ∧
      t.rope.brRateTo = none ∧ t.rope.rateTo = s.rope.rateTo ∧ t.rope.hop = s.rope.hop) ∧
  (∀ (s : State) (v : Bool), s.awake = true → s.rope.rateTo = some v →
    let t := s.rateSwitch false
    Answers (.rateSwitch false) s t ∧ t.rb (aROPE 0x2C) 13 = v ∧ t.rb (pg 0x541 0x24) 2 = v ∧ t.rb (pg 0x542 0x24) 2 = v ∧
      t.rb (pg 0x540 0x00C) 18 = true ∧ t.rope.rateTo = none ∧ t.rope.brRateTo = s.rope.brRateTo ∧ t.rope.hop = s.rope.hop) ∧
  (∀ (s : State) (t3 t2 : DevTime) (n : BitVec 12), s.timed = true → laterThan t3 s.time.now = false → s.rope.westIn = some (n, t2) →
    s.rb (aROPE 0x2C) 9 = false → s.pageEnable 0x541 = true → (s.rope.hopSent.any fun h => h.1 == n) = false →
    let slot := (s.rope.own.sent.map fun f => f.wrapAny).getD false
    slot = false ∨ s.rope.filled < s.slotShare false →
    Answers (.hopSend t3) s (s.updRope fun r =>
      { r with hopSent := some (n, BitVec.ofNat 32 (t3 - t2).toNat), filled := r.filled + slot.toNat })) ∧
  (∀ (s : State) (seq : BitVec 12) (turn : Word) (t4 t1 : DevTime) (w : Wire), s.timed = true → laterThan t4 s.time.now = false →
    s.ropeOff = false → s.pageEnable 0x542 = true → s.rb (aROPE 0x2C) 9 = false → s.rope.eastOut = some (seq, t1) →
    checkFrame w (hopHead (headSrc w) seq) (bytesOf 4 turn.toNat) = .whole →
    let k := hopKey false s.ropeRate
    let l := ((((t4 - t1).toNat : Int) - turn.toNat) :: SMap.get (fun _ => []) s.rope.hop k).take 16
    let s1 := (s.heard .east).updRope fun r => { r with
      hop := SMap.set (fun _ => []) r.hop k l
      oldHop := r.oldHop && decide (l.length < 2 ^ min 4 (s.rf (aRT 0x20) 2 0)) }
    Answers (.hopRx false seq turn t4 w) s
      ((((s1.wrapAdd (aRT 0x48) 31 16 1).setB (aRT 0x24) 13 false).showHop false).linkChecks s)) ∧
  (∀ (s : State) (br : Bool) (seq : BitVec 12) (turn : Word) (t4 : DevTime) (w : Wire), s.timed = true → s.ropeOff = false →
    let c := checkFrame w (hopHead (headSrc w) seq) (bytesOf 4 turn.toNat)
    let p : RopePort := if br then .branch else .east
    s.pageEnable (portPage p) = true →
    (c = .whole → Answers (.hopRx br seq turn t4 w) s ((((s.heard p).reach t4).hopRx br seq turn t4).linkChecks s)) ∧
    (c = .head ∨ c = .body → Answers (.hopRx br seq turn t4 w) s
      (((s.heard p).satAdd (pg (portPage p) 0x02C) 31 0 1).linkChecks s))) ∧
  (∀ (s : State) (br : Bool), s.timed = true → s.ropeOff = false →
    Answers (.hopHold br) s ((s.setB (aRT 0x24) (if br then 12 else 13) true).setErr 0x548 16))

/-! ### Remote access -/

/-- What the origin does (R261, R293, R297 to R299, R302). An access to the node's own identifier is a local one; without a rope it fails with NO_ROUTE; else its frame waits, and goes
out in an access slot. A response ends its request; a request without one is sent again RETX_LIM times and then fails with TIMEOUT.
What it rests on besides the rules: the model's choices of log 41, 123. -/
def Obligations.RemoteOrigin : Prop :=
  (∀ (s : State) (r : ReqId) (n : BitVec 9) (a : BitVec 24) (full : Bool) (v : Word) (dw : BitVec 8), s.reaches r.toNat = true →
    (0x008 ≤ r.toNat ∧ r.toNat ≤ 0x00F) ∨ (r.toNat = rHost ∧ dw.toNat ≤ 16) →
    (s.isOwnId n.toNat = true →
      Answers (.remoteAccess r n a full .read dw false) s (s.localRead r.toNat a.toNat) ∧
      Answers (.remoteAccess r n a full (.write v) dw false) s (s.writeReg r.toNat a.toNat full v).2) ∧
    (s.isOwnId n.toNat = false → s.ropeOff = true →
      Answers (.remoteAccess r n a full .read dw false) s (s.accFail acNO_ROUTE r.toNat n.toNat a.toNat true) ∧
      Answers (.remoteAccess r n a full (.write v) dw false) s (s.accFail acNO_ROUTE r.toNat n.toNat a.toNat false)) ∧
    (s.isOwnId n.toNat = false → s.ropeOff = false →
      Answers (.remoteAccess r n a full .read dw false) s (s.remoteRead r.toNat n.toNat a.toNat)) ∧
    (s.isOwnId n.toNat = false → s.ropeOff = false → full = true →
      Answers (.remoteAccess r n a full (.write v) dw false) s (s.remoteWrite r.toNat n.toNat a.toNat v)) ∧
    (s.isOwnId n.toNat = false → s.ropeOff = false → full = false → Answers (.remoteAccess r n a full (.write v) dw false) s s)) ∧
  (∀ (s : State) (br : Bool) (f : AccFrame) (rest : List (Bool × AccFrame)), s.awake = true → s.ropeOff = false →
    s.rope.waiting = (br, f) :: rest → s.slotOpen br = true →
    let u := s.updRope fun r => { r with
      waiting := rest, sent := r.sent ++ [(br, f)], filled := r.filled + (!br).toNat, brFilled := r.brFilled + br.toNat }
    (f.src.toNat ≠ s.ownId → Answers .accessFrameSend s u) ∧
    (f.src.toNat = s.ownId → Answers .accessFrameSend s (u.setPair f.dst.toNat { u.pair f.dst.toNat with
      out := (u.pair f.dst.toNat).out.map fun q => if q.seq = f.seq && f.ack = 0 then { q with sends := q.sends + 1 } else q }))) ∧
  (∀ s : State, s.awake = true → s.ropeOff = false → (∀ x ∈ s.rope.waiting, s.slotOpen x.1 = false) → Answers .accessFrameSend s s) ∧
  (∀ (s : State) (p : RopePort) (f : AccFrame) (w : Wire) (d : Word) (x : BitVec 8) (l : List Word) (e : BitVec 16), s.awake = true → s.ropeOff = false →
    s.pageEnable (portPage p) = true → accCheck f w = .whole → s.forMe f = true → f.body = .rdRsp d x l e →
    Answers (.rdRspRx p f w) s (((s.heard p).rdRspRx f.src.toNat f.ack d l e).linkChecks s)) ∧
  (∀ (s : State) (p : RopePort) (f : AccFrame) (w : Wire) (x : BitVec 8) (e : BitVec 16), s.awake = true → s.ropeOff = false →
    s.pageEnable (portPage p) = true → accCheck f w = .whole → s.forMe f = true → f.body = .wrAck x e → Answers (.wrAckRx p f w) s (((s.heard p).wrAckRx f.src.toNat f.ack x.toNat e).linkChecks s)) ∧
  (∀ (s : State) (p : RopePort) (f : AccFrame) (w : Wire) (k : BitVec 8) (e : BitVec 16), s.awake = true → s.ropeOff = false →
    s.pageEnable (portPage p) = true → accCheck f w = .whole → s.forMe f = true → f.body = .nak k e → Answers (.nakRx p f w) s (((s.heard p).nakRx f.src.toNat f.ack k.toNat e).linkChecks s)) ∧
  (∀ (s : State) (p : RopePort) (f : AccFrame) (w : Wire), s.awake = true → s.ropeOff = false →
    s.pageEnable (portPage p) = true → accCheck f w = .whole → Answers (.mbxAckRx p f w) s (((s.heard p).mbxAckIn f).linkChecks s)) ∧
  (∀ (s : State) (n : BitVec 9) (q : RopeReq) (l : List RopeReq), s.awake = true → s.ropeOff = false → (s.pair n.toNat).out = q :: l →
    q.sends ≠ 0 →
    (s.rf (aACC 0x20) 7 4 < q.sends → Answers (.retxTimeout n) s (s.poison n.toNat acTIMEOUT [] (q :: l))) ∧
    (q.sends ≤ s.rf (aACC 0x20) 7 4 → Answers (.retxTimeout n) s (s.resend n.toNat (q :: l))))

/-- What the destination, the leader and an anchor do (R256, R262, R297, R301). A frame with a bad header is discarded and counts in CRC_ERR of its port, one with a bad CRC-32
only at its destination; a request for this node is taken and performed; position 0, while it sends, answers a request for an absent node with NAK NOT_PRESENT, removes a
frame that has passed before, and passes others on; an anchor queues a frame for another rope onto the rope that leads there.
What it rests on besides the rules: the model's choices of log 104, 123. -/
def Obligations.RemoteDestination : Prop :=
  (∀ (s : State) (p : RopePort) (f : AccFrame) (w : Wire), s.awake = true → s.ropeOff = false → s.pageEnable (portPage p) = true →
    let all (t : State) : Prop := Answers (.rdReqRx p f w) s t ∧ Answers (.wrReqRx p f w) s t ∧ Answers (.mbxRx p f w) s t ∧
      Answers (.rdRspRx p f w) s t ∧ Answers (.wrAckRx p f w) s t ∧ Answers (.mbxAckRx p f w) s t ∧ Answers (.nakRx p f w) s t
    (accCheck f w = .head → all (((s.heard p).satAdd (pg (portPage p) 0x02C) 31 0 1).linkChecks s)) ∧
    (accCheck f w = .body → s.forMe f = true → all (((s.heard p).satAdd (pg (portPage p) 0x02C) 31 0 1).linkChecks s)) ∧
    (accCheck f w = .body → s.forMe f = false → all (s.heard p)) ∧ (accCheck f w = .other → all s)) ∧
  (∀ (s : State) (p : RopePort) (f : AccFrame) (w : Wire) (a : BitVec 24) (sync : Bool) (e : BitVec 16), s.awake = true → s.ropeOff = false →
    s.pageEnable (portPage p) = true → accCheck f w = .whole → s.forMe f = true → f.body = .rdReq a sync e →
    Answers (.rdReqRx p f w) s (((s.heard p).takeRequestFrame f sync e (·.readRemote f.src.toNat a.toNat)).linkChecks s)) ∧
  (∀ (s : State) (p : RopePort) (f : AccFrame) (w : Wire) (a : BitVec 24) (v : Word) (sync : Bool) (pair : Option Word) (e : BitVec 16), s.awake = true →
    s.ropeOff = false → s.pageEnable (portPage p) = true → accCheck f w = .whole → s.forMe f = true → f.body = .wrReq a v sync pair e →
    Answers (.wrReqRx p f w) s (((s.heard p).takeRequestFrame f sync e (·.writeRemote f.src.toNat a.toNat v pair)).linkChecks s)) ∧
  (∀ (s : State) (p : RopePort) (f : AccFrame) (x : Wire) (m : BitVec 5) (sync : Bool) (e : BitVec 16) (w : List Word), s.awake = true →
    s.ropeOff = false → s.pageEnable (portPage p) = true → accCheck f x = .whole → s.forMe f = true → f.body = .mbx m sync e w →
    Answers (.mbxRx p f x) s (((s.heard p).takeRequestFrame f sync e (·.postRemote f.src.toNat m.toNat e w)).linkChecks s)) ∧
  (∀ (s : State) (br : Bool) (f : AccFrame), s.awake = true → s.ropeOff = false →
    (br = false ∧ s.ropeRole = 2 ∧ s.rope.own.stopped = false ∧ f.dst.toNat / 64 = s.ropeNo) ∨
      (br = true ∧ s.isAnchor = true ∧ s.rope.br.stopped = false ∧ f.dst.toNat / 64 = s.brRope) → s.transmits br = true →
    let there := (s.present br ||| 1).getLsbD (f.dst.toNat % 64)
    (bodyIsRequest f.body = true → there = false → Answers (.pos0Pass br f) s (s.answer f (.nak 3 s.ownEpoch))) ∧
    (bodyIsRequest f.body = false ∨ there = true → f.passed = true → Answers (.pos0Pass br f) s s) ∧
    (bodyIsRequest f.body = false ∨ there = true → f.passed = false → Answers (.pos0Pass br f) s
      (s.updRope fun x => { x with sent := x.sent ++ [(br, { f with passed := true })] }))) ∧
  (∀ (s : State) (br : Bool) (f : AccFrame), s.awake = true → s.ropeOff = false → s.transmits br = false → Answers (.pos0Pass br f) s s) ∧
  (∀ (s : State) (f : AccFrame), s.awake = true → s.ropeOff = false → s.ropeRole = 2 → s.isAnchor = false → f.dst.toNat / 64 ≠ s.ropeNo →
    s.transmits false = true → s.rope.own.stopped = false → f.passed = true → (bodyIsRequest f.body = true → Answers (.pos0Pass false f) s (s.answer f (.nak 4 s.ownEpoch))) ∧
      (bodyIsRequest f.body = false → Answers (.pos0Pass false f) s s)) ∧
  (∀ (s : State) (f : AccFrame), s.awake = true → s.ropeOff = false → s.isAnchor = true →
    let put (br : Bool) : State := s.updRope fun x => { x with waiting := x.waiting ++ [(br, { f with passed := false })] }
    (f.dst.toNat / 64 = s.brRope → Answers (.frameForward true f) s s ∧ Answers (.frameForward false f) s (put true)) ∧
    (f.dst.toNat / 64 ≠ s.brRope → Answers (.frameForward true f) s (put (s.rb (aROPE 0x24) (f.dst.toNat / 64)))) ∧
    (s.rb (aROPE 0x24) (f.dst.toNat / 64) = true → Answers (.frameForward false f) s (put true)) ∧
    (f.dst.toNat / 64 ≠ s.brRope → s.rb (aROPE 0x24) (f.dst.toNat / 64) = false → Answers (.frameForward false f) s s)) ∧
  (∀ (s : State) (br : Bool) (f : AccFrame), s.awake = true → s.ropeOff = false → s.isAnchor = false → Answers (.frameForward br f) s s)

/-! ### Events and mailboxes -/

/-- Events and messages (R307, R308, R309, R311, R351). The message of a vector that nothing holds back is sent and its PBA bit clears; bits written 1 to MSIX_PEND clear, with
their PBA bits; the oldest rope-routed record leaves as a mailbox message, or fails with NO_ROUTE without a rope; a fabric event that was launched is raised with the time of
its delivery, whatever is masked by then, and one
that was not launched raises nothing; the mask acts at the launch, and a second launch before the delivery merges; a write of SW_RAISE raises its events. -/
def Obligations.EventCommands : Prop :=
  (∀ (s : State) (n : BitVec 6), s.awake = true → s.rb (aPBA (n.toNat / 32)) (n.toNat % 32) = true → s.msixHeld n.toNat = false →
    let t := (s.setB (aPBA (n.toNat / 32)) (n.toNat % 32) false).sendHost
      (.msix n.toNat (s.reg64 (aMSIX n.toNat 0) (aMSIX n.toNat 4)) (s.reg (aMSIX n.toNat 8)))
    Answers (.msixSend n) s t ∧ t.rb (aPBA (n.toNat / 32)) (n.toNat % 32) = false ∧
      t.host.sent = s.host.sent ++ [.msix n.toNat (s.reg64 (aMSIX n.toNat 0) (aMSIX n.toNat 4)) (s.reg (aMSIX n.toNat 8))] ∧
      SameOutside s t) ∧
  (∀ (s : State) (r : ReqId) (k : BitVec 1) (v : Word), Accepted s r (aMSIX_PEND k.toNat) v →
    let t := (s.storeWrite (aMSIX_PEND k.toNat) v false).msixPendClear k.toNat v
    Answers (.msixPendClear r k v) s t ∧ t.reg (aPBA k.toNat) = s.reg (aPBA k.toNat) &&& ~~~v ∧
      t.reg (aMSIX_PEND k.toNat) &&& v = 0 ∧ SameOutside s t) ∧
  (∀ (s : State) (e : RopeEvent) (rest : List RopeEvent), s.awake = true → s.evt.ropeWait = e :: rest →
    Answers .ropeEventSend s (({ s with evt := { s.evt with ropeWait := rest } }).ropeMessage (fld (s.reg (aRTGT e.target)) 8 0)
      (fld (s.reg (aRTGT e.target)) 13 9) 0 e.words) ∧
    (s.ropeOff = true → Answers .ropeEventSend s (({ s with evt := { s.evt with ropeWait := rest } }).accFail acNO_ROUTE 0
      (fld (s.reg (aRTGT e.target)) 8 0) (aMB (fld (s.reg (aRTGT e.target)) 13 9) 0x40) false))) ∧
  (∀ (s : State) (j : BitVec 6), s.awake = true → SMap.get (fun _ => false) s.evt.launched (256 + j.toNat) = true →
    let t := ({ s with evt := { s.evt with launched := SMap.set (fun _ => false) s.evt.launched (256 + j.toNat) false } }).raiseAt (256 + j.toNat) s.time.now
    Answers (.fabricEvent j) s t ∧ t.count (256 + j.toNat) = s.count (256 + j.toNat) + 1 ∧
      SMap.get (fun _ => false) t.evt.launched (256 + j.toNat) = false ∧ SameOutside s t) ∧
  (∀ (s : State) (j : BitVec 6), s.awake = true → SMap.get (fun _ => false) s.evt.launched (256 + j.toNat) = false →
    Answers (.fabricEvent j) s s) ∧
  (∀ (s : State) (e : Nat), 256 ≤ e → e < 320 →
    (s.fabricMasked e = true → s.fabricEventLaunch e = s) ∧
    (s.fabricMasked e = false → SMap.get (fun _ => false) s.evt.launched e = false →
      s.fabricEventLaunch e = { s with evt := { s.evt with launched := SMap.set (fun _ => false) s.evt.launched e true } }) ∧
    (s.fabricMasked e = false → SMap.get (fun _ => false) s.evt.launched e = true →
      s.fabricEventLaunch e = (s.setB (aFEV_MERGE ((e - 256) / 32)) ((e - 256) % 32) true).satAdd aXH_COUNT 31 16 1)) ∧
  (∀ (s : State) (r : ReqId) (v : Word), Accepted s r aSW_RAISE (setBit v 0 true) → bit v 1 = false →
    let t := (s.storeWrite aSW_RAISE (setBit v 0 true) false).raise 246
    Answers (.sw0Raise r v) s t ∧ t.count 246 = s.count 246 + 1 ∧ t.count 247 = s.count 247 ∧ SameOutside s t) ∧
  (∀ (s : State) (r : ReqId) (v : Word), Accepted s r aSW_RAISE (setBit v 1 true) → bit v 0 = false →
    let t := (s.storeWrite aSW_RAISE (setBit v 1 true) false).raise 247
    Answers (.sw1Raise r v) s t ∧ t.count 247 = s.count 247 + 1 ∧ t.count 246 = s.count 246 ∧ SameOutside s t)

/-- Mailboxes (R317, R318, R319, R323). A write of TX_W stages its word for its requester alone; TX_POST to a mailbox 0 to 15 of which the requester is the sender, with room
and no lock in its way, appends the message, and a full one refuses it; a read of RX_INFO0 by the receiver takes the head; a lock is taken by a read
while it is free and given up by its holder's write; a head that stays unread sets its flag once. -/
def Obligations.MailboxCommands : Prop :=
  (∀ (s : State) (r : ReqId) (m : BitVec 5) (w : BitVec 3) (v : Word), Accepted s r (aMB m.toNat (0x20 + 4 * w.toNat)) v →
    let t := (s.storeWrite (aMB m.toNat (0x20 + 4 * w.toNat)) v false).txWord m.toNat r.toNat w.toNat v
    Answers (.txWord r m w v) s t ∧ SMap.get (fun _ => 0) (t.mb m.toNat).staged (r.toNat * 8 + w.toNat) = v ∧
      (t.mb m.toNat).msgs = (s.mb m.toNat).msgs ∧ (t.mb m.toNat).lock = (s.mb m.toNat).lock ∧
      (∀ k, k ≠ m.toNat → t.mb k = s.mb k)) ∧
  (∀ (s : State) (r : ReqId) (m : BitVec 5) (v : Word), Accepted s r (aMB m.toNat 0x40) v →
    Answers (.txPost r m v) s ((s.storeWrite (aMB m.toNat 0x40) v false).txPost m.toNat r.toNat (bit v 0))) ∧
  (∀ (s : State) (r : ReqId) (m : BitVec 5) (v : Word), Accepted s r (aMB m.toNat 0x40) v → m.toNat < 16 → s.mbTx m.toNat = r.toNat →
    s.mbLockReq m.toNat = false → (s.mb m.toNat).msgs.length < 8 → Completes (.txPost r m v) s fun t =>
      (t.mb m.toNat).msgs.length = (s.mb m.toNat).msgs.length + 1 ∧ (t.mb m.toNat).msgs.take (s.mb m.toNat).msgs.length = (s.mb m.toNat).msgs ∧
      fld (SMap.get (fun _ => 0) (t.mb m.toNat).result r.toNat) 7 0 = resOk) ∧
  (∀ (s : State) (r : ReqId) (m : BitVec 5) (v : Word), Accepted s r (aMB m.toNat 0x40) v → m.toNat < 16 → s.mbTx m.toNat = r.toNat →
    s.mbLockReq m.toNat = false → 8 ≤ (s.mb m.toNat).msgs.length → Completes (.txPost r m v) s fun t =>
      (t.mb m.toNat).msgs = (s.mb m.toNat).msgs ∧ fld (SMap.get (fun _ => 0) (t.mb m.toNat).result r.toNat) 7 0 = resFull) ∧
  (∀ (s : State) (r : ReqId) (m : BitVec 5) (h : Msg) (rest : List Msg), Readable s r → (s.mb m.toNat).msgs = h :: rest →
    s.mbRx m.toNat = r.toNat → let t := { (s.rxTake m.toNat r.toNat).2 with lastRead := (s.rxTake m.toNat r.toNat).1, lastUr := false }
    Answers (.rxInfo0Read r m) s t ∧
      t.lastRead = BitVec.ofNat 32 (2 ^ 31 + h.src.toNat * 2 ^ 16 + h.tag.toNat) ∧ (t.mb m.toNat).msgs = rest ∧
      (t.mb m.toNat).timedOut = false ∧ t.lastUr = false ∧ (∀ k, k ≠ m.toNat → t.mb k = s.mb k)) ∧
  (∀ (s : State) (r : ReqId) (m : BitVec 5), Readable s r →
    ((s.mb m.toNat).lock = 0 → Answers (.mbLockRead r m) s
      { s.setMb m.toNat { s.mb m.toNat with lock := r } with lastRead := 0, lastUr := false }) ∧
    ((s.mb m.toNat).lock ≠ 0 → (s.mb m.toNat).lock ≠ r →
      Answers (.mbLockRead r m) s { s with lastRead := BitVec.ofNat 32 (s.mb m.toNat).lock.toNat, lastUr := false })) ∧
  (∀ (s : State) (r : ReqId) (m : BitVec 5) (v : Word), Accepted s r (aMB m.toNat 0x0C) v →
    let u := s.storeWrite (aMB m.toNat 0x0C) v false
    ((s.mb m.toNat).lock = r → Answers (.mbLockWrite r m v) s (u.setMb m.toNat { u.mb m.toNat with lock := 0 })) ∧
    ((s.mb m.toNat).lock ≠ r → Answers (.mbLockWrite r m v) s u)) ∧
  (∀ (s : State) (m : BitVec 5), s.timed = true → s.rf (aMB m.toNat 0x10) 19 0 ≠ 0 → (s.mb m.toNat).msgs ≠ [] →
    (s.mb m.toNat).timedOut = false → let t := (s.setMb m.toNat { s.mb m.toNat with timedOut := true }).mbFlag m.toNat 2
    Answers (.mbTimeout m) s t ∧
      t.rb (aMB m.toNat 8) 2 = true ∧ (t.mb m.toNat).timedOut = true ∧ (t.mb m.toNat).msgs = (s.mb m.toNat).msgs)

/-! ### The host port, the sideband port and pins -/

/-- The link and its resets (R347, R350, R353, R354). PERST_N asserted, a hot reset and an FLR are host-side resets: the registers they name return to their reset values, RESETS
counts and event 106 is raised; a link that comes up by training, or changes within the MAX_GEN of its training, shows in LINK_STAT, and one that falls by itself is a loss; RETRAIN starts training; a write of
configuration space sets D3hot, the MSI-X enable and the function mask. -/
def Obligations.HostLink : Prop :=
  (∀ s : State, s.awake = true → Answers .perstNAssert s ((s.updPower fun p => { p with perst := true }).hostSideReset true)) ∧
  (∀ s : State, s.awake = false → Answers .perstNAssert s (s.updPower fun p => { p with perst := true })) ∧
  (∀ s : State, s.awake = true →
    Answers .perstNRelease s ((s.updPower fun p => { p with perst := false }).updHost fun h => { h with training := true })) ∧
  (∀ s : State, s.awake = false → Answers .perstNRelease s (s.updPower fun p => { p with perst := false })) ∧
  (∀ s : State, s.awake = true → s.linkUp = true →
    Answers .hotReset s (s.hostSideReset true) ∧ Answers .flr s (s.hostSideReset false)) ∧
  (∀ s : State, s.awake = true → s.linkUp = true → Completes .flr s fun t =>
    t.host.d3hot = false ∧ t.host.msixEnable = false ∧ t.host.functionMask = false ∧ t.count 106 = s.count 106 + 1 ∧ t.power = s.power ∧
    t.otp = s.otp ∧ t.dramMem = s.dramMem ∧ t.time = s.time) ∧
  (∀ (s : State) (gen width : BitVec 3) (l1 : Bool), s.awake = true → s.power.perst = false → gen ≠ 0 →
    (s.linkUp = false ∧ s.host.training = true ∧ gen.toNat ≤ s.maxGen) ∨ (s.linkUp = true ∧ gen.toNat ≤ s.host.trainedGen) →
    width = 1 ∨ width = 2 ∨ width = 4 →
    let t := (s.linkSet true gen.toNat width.toNat l1).updHost fun h =>
      { h with training := false, trainedGen := if s.linkUp then h.trainedGen else s.maxGen }
    Answers (.linkChange true gen width l1) s t ∧ t.rb aLINK_STAT 8 = true ∧ t.rf aLINK_STAT 2 0 = gen.toNat ∧
      t.rf aLINK_STAT 6 4 = width.toNat ∧ t.rb aLINK_STAT 9 = l1 ∧ t.host.training = false) ∧
  (∀ (s : State) (gen width : BitVec 3) (l1 : Bool), s.awake = true → s.linkUp = true →
    Answers (.linkChange false gen width l1) s
      ((((s.linkSet false 0 0 false).satAdd aLINK_STAT 31 16 1).setErr 0x600 18).updHost fun h => { h with training := true })) ∧
  (∀ (s : State) (r : ReqId) (v : Word), Accepted s r (pg 0x600 0x24) (setBit v 8 true) →
    Answers (.retrain r v) s ((s.storeWrite (pg 0x600 0x24) (setBit v 8 true) false).updHost fun h => { h with training := true })) ∧
  (∀ (s : State) (d3hot en mask : Bool), s.awake = true → s.linkUp = true →
    Answers (.configurationSpaceWrite d3hot en mask) s
      (s.updHost fun h => { h with d3hot := d3hot, msixEnable := en, functionMask := mask }))

/-- BAR4, the sideband port and pins (R342, R346, R349, R353, R356). An access through BAR4 is a request of class HOST to the DRAM, and a poisoned write is dropped and sets PAGE_ERR bit 19; the sideband port acknowledges its address,
takes the index, raises event 107 for the doorbell and reads the byte at the index; a park ends with the pad at the level of its source; a measured supply that
disagrees with the declared code shows MISMATCH; a pin is locked by its arming write and the key.
What it rests on besides the rules: the model's choices of log 70. -/
def Obligations.SidebandAndPins : Prop :=
  (∀ (s : State) (ofs : BitVec 28) (write : Bool) (be : BitVec 64) (data : BitVec 512) (tag : BitVec 6), s.awake = true → s.linkUp = true →
    s.host.d3hot = false →
    let a := (s.bar4Base + ofs.toNat % 2 ^ 28) / 64 * 64
    let u := s.dramRequest { port := 8, addr := a, write := write, line := true, be := be, data := data, close := true,
                             fence := false, tag := tag, cls := 1, seq := 0 }
    Answers (.bar4Access ofs write be data ⟨tag, false⟩) s u ∧
      (write = false → Answers (.bar4Access ofs write be data ⟨tag, true⟩) s u)) ∧
  (∀ (s : State) (ofs : BitVec 28) (be : BitVec 64) (data : BitVec 512) (tag : BitVec 6), s.awake = true → s.linkUp = true →
    s.host.d3hot = false → Answers (.bar4Access ofs true be data ⟨tag, true⟩) s (s.setErr 0x600 19)) ∧
  (∀ (s : State) (fails : BitVec 16), s.power.inReset = false → s.awake = true → s.rb aI2C_CFG 8 = true →
    Answers (.i2cAddressMatch fails) s
      ((((s.satAdd aI2C_STAT 15 0 1).setB aI2C_STAT 16 false).updHost fun h => { h with i2cAck := true }).lateCause 1
        (s.power.sleeper.isSome && s.rb aI2C_CFG 9 && s.rb (aPMU 0x24) 0))) ∧
  (∀ (s : State) (fails : BitVec 16), s.power.inReset = true →
    Answers (.i2cAddressMatch fails) s (s.updHost fun h => { h with i2cAck := false })) ∧
  (∀ (s : State) (i d : Byte) (rest : List Byte), s.awake = true → s.host.i2cAck = true →
    Answers (.i2cWrite [i]) s (s.updHost fun h => { h with i2cIndex := i }) ∧
    (i = 0x10 ∧ d = 0xA5 → Answers (.i2cWrite (i :: d :: rest)) s ((s.updHost fun h => { h with i2cIndex := i }).raise 107)) ∧
    (¬ (i = 0x10 ∧ d = 0xA5) → Answers (.i2cWrite (i :: d :: rest)) s (s.updHost fun h => { h with i2cIndex := i }))) ∧
  (∀ s : State, s.awake = true → s.host.i2cAck = true → Answers .i2cRead s
    (s.updHost fun h => { h with i2cByte := s.i2cAt h.i2cIndex.toNat, i2cIndex := h.i2cIndex + 1 })) ∧
  (∀ (s : State) (n : BitVec 10), (s.pinState n.toNat).park.isSome = true →
    Answers (.parkEnd n) s (s.setPin n.toNat { s.pinState n.toNat with now := s.pinTarget n.toNat, park := none })) ∧
  (∀ (s : State) (b : BitVec 5) (meas : BitVec 3), s.awake = true → b.toNat < 20 → meas.toNat < 5 →
    meas.toNat ≠ s.rf (aIOB b.toNat 0x20) 1 0 + 1 → s.rb (aIOB b.toNat 0x24) 8 = false →
    let t := (((s.setF (aIOB b.toNat 0x24) 2 0 meas.toNat).setB (aIOB b.toNat 0x24) 8 true).setErr (0x500 + b.toNat) 18).settlePins
    Answers (.vccioMeasure b meas false) s t ∧ t.rf (aIOB b.toNat 0x24) 2 0 = meas.toNat ∧ t.rb (aIOB b.toNat 0x24) 8 = true ∧
      t.rb (pg (0x500 + b.toNat) 0x00C) 18 = true) ∧
  (∀ (s : State) (r : ReqId) (n : BitVec 10), n.toNat < 640 →
    Accepted s r (pg 0x522 0x20) (BitVec.ofNat 32 (0x5EED * 2 ^ 16 + n.toNat)) →
    let u := s.storeWrite (pg 0x522 0x20) (BitVec.ofNat 32 (0x5EED * 2 ^ 16 + n.toNat)) false
    let t := { u with pins := { u.pins with armed := SMap.set (fun _ => 0) u.pins.armed r.toNat (n.toNat + 1) } }
    Answers (.pinLockArm r n) s t ∧ SMap.get (fun _ => 0) t.pins.armed r.toNat = n.toNat + 1 ∧
      (∀ k, k < 640 → t.rb (aPCFG k) 28 = s.rb (aPCFG k) 28)) ∧
  (∀ (s : State) (r : ReqId) (n : BitVec 10), n.toNat < 640 → SMap.get (fun _ => 0) s.pins.armed r.toNat = n.toNat + 1 →
    Accepted s r (pg 0x522 0x20) (BitVec.ofNat 32 (0xBA4C * 2 ^ 16 + n.toNat)) →
    let u := ((s.storeWrite (pg 0x522 0x20) (BitVec.ofNat 32 (0xBA4C * 2 ^ 16 + n.toNat)) false).setB (aPCFG n.toNat) 28 true).setB
      (aLOCKED (n.toNat / 32)) (n.toNat % 32) true
    let t := { u with pins := { u.pins with armed := SMap.set (fun _ => 0) u.pins.armed r.toNat 0 } }
    Answers (.pinLockKey r n) s t ∧ t.rb (aPCFG n.toNat) 28 = true ∧ t.rb (aLOCKED (n.toNat / 32)) (n.toNat % 32) = true ∧
      SMap.get (fun _ => 0) t.pins.armed r.toNat = 0)

/-! ### The DRAM controller -/

/-- Requests and commands (R362, R365, R366, R367, R370, R373, R374, R378). A request on an open port reaches the controller, a beat with its enables and its data in the half of its line that ADDR[5] names; in a cycle the
request that goes first issues its command, but none does until the re-trims after a wake are done; a read returns its line; a request past its age is promoted; an idle row closes under open-page policy; a rank is refreshed, or its refresh is
postponed while TIMED or HOST requests wait and fewer than 8 are postponed.
What it rests on besides the rules: the model's choices of log 33. -/
def Obligations.DramTraffic : Prop :=
  (∀ (s : State) (p : BitVec 3) (a : BitVec 31) (write line : Bool) (be : BitVec 64) (data : BitVec 512) (close fence : Bool) (tag : BitVec 6),
    s.awake = true → s.busPortOpen p.toNat = true → line = false ∨ 32 * a.toNat % 64 = 0 →
    Answers (.dramRequest p a write line be data close fence tag) s
      (s.dramRequest { port := p.toNat, addr := 32 * a.toNat, write := write, line := line,
                         be := if line then be else BitVec.ofNat 64 (be.toNat % 2 ^ 32 * 2 ^ (32 * (a.toNat % 2))),
                         data := if line then data else BitVec.ofNat 512 (data.toNat % 2 ^ 256 * 2 ^ (8 * (32 * (a.toNat % 2)))),
                         close := close, fence := fence, tag := tag, cls := s.rf (aPORTS (0x100 + 4 * p.toNat)) 1 0, seq := 0 })) ∧
  (∀ (s : State) (p : BitVec 3) (a : BitVec 31) (write line : Bool) (be : BitVec 64) (data : BitVec 512) (close fence : Bool) (tag : BitVec 6),
    s.awake = true → s.busPortOpen p.toNat = false → Answers (.dramRequest p a write line be data close fence tag) s s) ∧
  (∀ (s : State) (p : BitVec 3) (a : BitVec 31) (write : Bool) (be : BitVec 64) (data : BitVec 512) (close fence : Bool) (tag : BitVec 6),
    s.awake = true → s.busPortOpen p.toNat = true → 32 * a.toNat % 64 ≠ 0 → s.dram.atPort = [] → s.portStalls p.toNat = false →
    Answers (.dramRequest p a write true be data close fence tag) s
      (s.enqueue { port := p.toNat, addr := 32 * a.toNat, write := write, line := true, be := be, data := data, close := close,
                   fence := fence, tag := tag, cls := s.rf (aPORTS (0x100 + 4 * p.toNat)) 1 0, seq := 0 } true)) ∧
  (∀ (s : State) (ready : List Nat), s.awake = true → s.dram.wakeTrim ≠ [] → Answers (.dramIssue ready) s s) ∧
  (∀ (s : State) (ready : List Nat), s.awake = true → s.dramState = dREADY → s.dram.wakeTrim = [] →
    (s.dramPick ready = none → Answers (.dramIssue ready) s s) ∧
    (∀ r, s.dramPick ready = some r → Answers (.dramIssue ready) s (s.dramCommand r))) ∧
  (∀ (s : State) (seq : Nat) (ups : List (BitVec 3 × BitVec 72)) (r : DramReq), s.awake = true →
    s.dram.queue.find? (fun r => r.seq == seq && r.issued && !r.write && r.result.isNone) = some r → r.line = true →
    let x := (s.upsetWords (r.addr / 64 * 64) ups).readLine (r.addr / 64 * 64) (portRequester r.port)
    Answers (.dramReadDone seq ups) s (((x.2.2.updDram fun m => { m with
      queue := (m.queue.map fun q => if q.seq == seq then { q with result := some (x.1, x.2.1) } else q).filter
        fun q => !(q.answered && q.issued && q.result.isSome) }).answerPort r.port).admitWaiting)) ∧
  (∀ (s : State) (seq : Nat) (ups : List (BitVec 3 × BitVec 72)), s.awake = true → Answers (.dramReadDone seq ups) s (s.dramReadDone seq ups)) ∧
  (∀ (s : State) (seq : Nat) (r : DramReq), s.awake = true →
    s.dram.queue.find? (fun r => r.seq == seq && !r.issued && !r.promoted) = some r →
    s.rf (aDRAM (0x28 + 4 * (r.cls / 2))) (16 * (r.cls % 2) + 15) (16 * (r.cls % 2)) ≠ 0 →
    Answers (.agePromote seq) s ((s.updDram fun m => { m with
      queue := m.queue.map fun q => if q.seq == seq then { q with promoted := true } else q }).satAdd (aDRAM (0x30 + 4 * r.cls)) 31 0 1)) ∧
  (∀ (s : State) (bank : BitVec 5), s.awake = true → s.hintPolicy = false →
    Answers (.rowIdleClose bank) s (s.updDram fun m => { m with rows := SMap.set (fun _ => 0) m.rows bank.toNat 0 })) ∧
  (∀ (s : State) (rank : BitVec 1), s.awake = true → s.dramState = dREADY → rank.toNat < s.dramRanks →
    Answers (.refresh rank false) s (s.updDram fun m => { m with
      rows := SMap.keep (fun b => b / 16 ≠ rank.toNat) m.rows, postponed := SMap.set (fun _ => 0) m.postponed rank.toNat 0 }) ∧
    (s.dram.queue.any (fun r => !r.issued && (r.promoted || r.cls < 2)) = true → SMap.get (fun _ => 0) s.dram.postponed rank.toNat < 8 →
      Answers (.refresh rank true) s (s.updDram fun m => { m with
        postponed := SMap.set (fun _ => 0) m.postponed rank.toNat (SMap.get (fun _ => 0) s.dram.postponed rank.toNat + 1) }))) ∧
  (∀ s : State, s.awake = true → s.dramState = dREADY →
    let rank := s.dram.wakeTrim.headD (s.dram.trim % s.dramRanks)
    Answers (.retrim []) s ((s.refresh rank false).updDram fun m => { m with trim := rank + 1, wakeTrim := m.wakeTrim.drop 1 })) ∧
  (∀ (s : State) (lanes : List (BitVec 8 × BitVec 8 × BitVec 8 × BitVec 8)), s.awake = true → Answers (.retrim lanes) s
    (s.retrim (lanes.map fun l => (l.1.toInt, l.2.1.toInt, l.2.2.1.toNat, l.2.2.2.toNat))))

/-- The DRAM's states (R357, R362, R371, R372, R376, R377, R380). ENABLE starts training, and cleared it transfers a pending commit and takes a READY controller into self-refresh, while a training that runs ends first; requests that
wait at their ports are refused then; training that finds every lane ends in READY with event 99,
its content kept only from self-refresh; the scrubber reads its next line that is not reserved and counts its passes; a port clock that is too fast sets PAGE_ERR bit 20.
What it rests on besides the rules: the model's choices of log 6, 34, 58. -/
def Obligations.DramStates : Prop :=
  (∀ (s : State) (r : ReqId) (v : Word), Accepted s r (pg 0x640 0x004) (setBit v 0 true) → s.pageEnable 0x640 = false →
    bit v 1 = false → bit v 2 = false →
    Answers (.dramEnable r v) s
      ((((s.setB (pg 0x640 0x004) 0 true).unitEnabled 0x640 0xFFFF).unitEnabled 0x641 0).dramEnable)) ∧
  (∀ s : State, s.dramEnable.dramState = dTRAINING) ∧
  (∀ (s : State) (r : ReqId) (v : Word), Accepted s r (pg 0x640 0x004) (setBit v 0 false) → s.pageEnable 0x640 = true →
    bit v 1 = false → bit v 2 = false → let u := s.setB (pg 0x640 0x004) 0 false
    Answers (.dramDisable r v) s ((if u.commitPending 0x640 then u.commitTransfer 0x640 else u).dramDisable)) ∧
  (∀ s : State, s.dramState = dREADY → s.dramDisable = (s.selfRefresh false).refuseWaiting) ∧
  (∀ s : State, s.dramState = dTRAINING → s.dramDisable = s.refuseWaiting) ∧
  (∀ (s : State) (sweeps : List (BitVec 128 × BitVec 128)), s.awake = true → s.dramState = dTRAINING → s.dram.keep = false →
    s.dram.trainStopped = false → s.pageEnable 0x640 = true →
    Completes (.trainingDone sweeps) s fun t => t.dram.selfRefresh = false ∧ t.dram.keep = false ∧ t.dram.forBrace = false ∧ t.dramMem = [] ∧ t.otp = s.otp ∧
      (t.dramState = dREADY ∨ t.dramState = dTRAIN_FAIL)) ∧
  (∀ (s : State) (sweeps : List (BitVec 128 × BitVec 128)), s.awake = true → Answers (.trainingDone sweeps) s (s.trainingDone sweeps)) ∧
  (∀ s : State, s.awake = true → s.dramState = dREADY → s.rb (aECC 0x34) 16 = true →
    let n := (s.reg (aECC 0x38)).toNat
    let u := if s.dramOut (64 * n) then s else s.ownRequest (64 * n) false 0 0
    (s.scrubAfter n < s.dramSize / 64 → Answers .dramScrubRead s (u.setReg (aECC 0x38) (BitVec.ofNat 32 (s.scrubAfter n)))) ∧
    (s.dramSize / 64 ≤ s.scrubAfter n → Answers .dramScrubRead s ((u.setReg (aECC 0x38) 0).wrapAdd (aECC 0x3C) 31 0 1)) ∧
    (s.dramOut (64 * (n + 1)) = false → s.scrubAfter n = n + 1)) ∧
  (∀ (s : State) (p : BitVec 3), s.awake = true → 
    let t := (s.updDram fun m => { m with fast := if m.fast.contains p.toNat then m.fast else p.toNat :: m.fast }).setErr 0x640 20
    Answers (.portClkMeasure p true) s t ∧ t.dram.fast.contains p.toNat = true ∧ t.rb (pg 0x640 0x00C) 20 = true ∧ t.dram.queue = s.dram.queue) ∧
  (∀ (s : State) (p : BitVec 3), s.awake = true → Answers (.portClkMeasure p false) s
    ((s.updDram fun m => { m with fast := m.fast.filter (· ≠ p.toNat) }).admitWaiting))

/-! ### Configuration images -/

/-- The calls of images (R329, R402, R405 to R411, R415 to R418). Each answers BAD_ARG for words it does not allow, BUSY during a transition or a load, BAD_STATE in a mode
that does not allow it, and the cause of a header that fails; else the load begins, the check of the stored stream answers with what it finds or with the
image's words, the read-back waits for its instant, or the boot bank is shown.
What it rests on besides the rules: the model's choices of log 42, 49, 136. -/
def Obligations.ImageCalls : Prop :=
  (∀ (s : State) (c : Call), Called s 0x0301 c → let u := s.begun 0x0301 c
    (c.w2 &&& 0xFFFFFEFE ≠ 0 → Answers (.svcImageLoad c) s (u.longOnce 0x0301 c rcBAD_ARG 0 [])) ∧
    (c.w2 &&& 0xFFFFFEFE = 0 → zeroFrom c 3 = true → u.inTransition = false → u.mode = mRUN ∨ u.mode = mHOLD → u.cfg.load = none →
      let x := u.checkBank (fld c.w2 0 0)
      (x.1 ≠ 0 → Answers (.svcImageLoad c) s (x.2.2.longOnce 0x0301 c (headerResult x.1) x.1 x.2.2.imageWords)) ∧
      (x.1 = 0 → Answers (.svcImageLoad c) s (((x.2.2.startLong 0x0301 c).updCfg fun t => { t with fallbackFrom := none }).loadBegin
        { image := x.2.1, grove := none, svnCommit := bit c.w2 8, setBoot := false })))) ∧
  (∀ (s : State) (c : Call), Called s 0x0302 c → let u := s.begun 0x0302 c
    c.w2 &&& 0xFFFFFEFE = 0 → zeroFrom c 3 = true →
      (∀ r, u.modeRefusal [mRUN, mHOLD] = some r → Answers (.svcImageSwitch c) s (u.longOnce 0x0302 c r 0 [])) ∧
      (u.modeRefusal [mRUN, mHOLD] = none → u.cfg.load.isSome = true →
        Answers (.svcImageSwitch c) s (u.longOnce 0x0302 c rcBUSY 0 [])) ∧
      (u.modeRefusal [mRUN, mHOLD] = none → u.cfg.load = none →
        let x := u.checkBank (fld c.w2 0 0)
        x.1 = 0 → Answers (.svcImageSwitch c) s (((x.2.2.startLong 0x0302 c).updCfg fun t => { t with fallbackFrom := none }).loadBegin
          { image := x.2.1, grove := none, svnCommit := bit c.w2 8, setBoot := true }))) ∧
  (∀ (s : State) (c : Call) (cause : BitVec 4) (uc : Word), Called s 0x0303 c → let u := s.begun 0x0303 c
    c.w2 &&& 0xFFFFFFFC = 0 → badSource (fld c.w2 1 0) c = false → zeroFrom c 5 = true → u.modeRefusal [mRUN, mHOLD, mSERVICE] = none →
    u.cfg.load = none →
      let x := u.checkHeader (fld c.w2 1 0) (bufferOf c.w3 c.w4) none false
      let kind := hdrField x.2.2.1 0x0C 4
      let y := x.2.2.2.verifyStream x.2.1 x.2.2.1
      (x.1 ≠ 0 → Answers (.svcImageVerify c cause uc) s (x.2.2.2.longOnce 0x0303 c (headerResult x.1) x.1 [])) ∧
      (x.1 = 0 → y.1 ≠ 0 → Answers (.svcImageVerify c cause uc) s (y.2.2.longOnce 0x0303 c rcLOAD_FAIL y.1 [])) ∧
      (x.1 = 0 → y.1 = 0 → Answers (.svcImageVerify c cause uc) s (y.2.2.longOnce 0x0303 c rcOK 0
        [BitVec.ofNat 32 (kind % 2 + kind / 256 % 16 * 256 + x.2.1.svn * 2 ^ 16), x.2.1.iface, y.2.1]))) ∧
  (∀ (s : State) (c : Call), Called s 0x0304 c → let u := s.begun 0x0304 c
    c.w2 &&& 0xFFFFF0FC = 0 → 2 ≤ fld c.w2 1 0 → badSource (fld c.w2 1 0) c = false → zeroFrom c 5 = true →
    u.groveDefined (fld c.w2 11 8) = true → u.modeRefusal [mRUN] = none → u.cfg.load = none →
      let x := u.checkHeader (fld c.w2 1 0) (bufferOf c.w3 c.w4) (some (fld c.w2 11 8)) true
      (x.1 ≠ 0 → Answers (.svcGroveLoad c) s (x.2.2.2.longOnce 0x0304 c (headerResult x.1) x.1 [])) ∧
      (x.1 = 0 → Answers (.svcGroveLoad c) s ((x.2.2.2.startLong 0x0304 c).loadBegin { image := x.2.1, grove := some (fld c.w2 11 8) }))) ∧
  (∀ (s : State) (c : Call), Called s 0x0305 c → let u := s.begun 0x0305 c
    c.w2 &&& 0xFFFFFEF0 = 0 → bufferOf c.w3 c.w4 % 8 = 0 → zeroFrom c 5 = true → bit c.w2 8 = true ∨ u.groveDefined (fld c.w2 3 0) = true →
      (u.readbackRefused = true → Answers (.svcReadback c) s (u.longOnce 0x0305 c rcNOT_PERMITTED 0 [])) ∧
      (u.readbackRefused = false → u.modeRefusal [mRUN, mHOLD] = none → u.cfg.load = none →
        Answers (.svcReadback c) s (((u.startLong 0x0305 c).updCfg fun t => { t with
          readback := some { grove := if bit c.w2 8 then none else some (fld c.w2 3 0), buffer := bufferOf c.w3 c.w4,
                             tcap := u.time.now + ns 1000 } }).setCfgState 6))) ∧
  (∀ (s : State) (c : Call) (tj : BitVec 16), Called s 0x0306 c → let u := (s.begun 0x0306 c).sampleTj tj.toInt
    (c.w2 &&& 0xFFFFFEFE ≠ 0 → Answers (.svcBootBank c tj) s (u.answerCall 0x0306 c rcBAD_ARG 0 [])) ∧
    (c.w2 &&& 0xFFFFFEFE = 0 → zeroFrom c 3 = true → bit c.w2 8 = false →
      Answers (.svcBootBank c tj) s (u.answerCall 0x0306 c rcOK 0 [u.reg (aCFG 0x24)])) ∧
    (c.w2 &&& 0xFFFFFEFE = 0 → zeroFrom c 3 = true → bit c.w2 8 = true →
      Answers (.svcBootBank c tj) s ((u.setBootBank (fld c.w2 0 0)).2.answerCall 0x0306 c rcOK 0 [(u.setBootBank (fld c.w2 0 0)).2.reg (aCFG 0x24)])))

/-- The packets of a stream (R387 to R393, R397, R406, R415, R416). A packet that comes in its place and whose stored bytes open under the key of its segment
is taken, a frame whose check agrees writes its cells, KEY_ROLL brings the next key and nonce base, and one out of its place fails the load with the cause
R416 names, as one that does not open does; the wipe ends with the stream begun, and END with the release begun.
What it rests on besides the rules: the model's choices of log 20, 30, 43. -/
def Obligations.StreamPackets : Prop :=
  (∀ (s : State) (l : Load), s.awake = true → s.cfg.load = some l → l.phase = .wipe →
    Answers .wipeDone s ((match l.grove with | none => s.wipeAll.setCfgState 2 | some g => s.wipeGrove g).updLoad fun l =>
      { l with phase := .stream })) ∧
  (∀ (s : State) (l : Load) (h : BitVec 64) (d : List Byte), PacketNext s l h 0 0 d → let u := s.afterPacket l 0
    (l.opened d = none → Answers (.nop h false) s (u.failLoad l ccTAG none)) ∧
    (∀ b, l.opened d = some b →
      (2 ≤ l.pkt → l.rollDue = false → Answers (.nop h true) s ((u.updLoad fun _ => l).packetTaken 0 d)) ∧
      (l.pkt < 2 ∨ l.rollDue = true → Answers (.nop h true) s (u.failLoad l ccSEQUENCE none)))) ∧
  (∀ (s : State) (l : Load) (h : BitVec 64) (d b : List Byte), PacketNext s l h 1 0 d → l.opened d = some b → let u := s.afterPacket l 0
    (l.pkt = 0 → pktArg h = 0x10524AF3 → Answers (.deviceId h true) s ((u.updLoad fun _ => l).packetTaken 0 d)) ∧
    (l.pkt = 0 → pktArg h ≠ 0x10524AF3 → Answers (.deviceId h true) s (u.failLoad l ccDEVICE_ID none)) ∧
    (l.pkt ≠ 0 → Answers (.deviceId h true) s (u.failLoad l ccSEQUENCE none))) ∧
  (∀ (s : State) (l : Load) (h : BitVec 64) (d b : List Byte), PacketNext s l h 2 0 d → l.opened d = some b → let u := s.afterPacket l 0
    (pktReg h = 1 →
      (l.pkt = 1 → (pktArg h).toNat = modeWanted l → Answers (.wregMode h true) s ((u.updLoad fun _ => l).packetTaken 0 d)) ∧
      (l.pkt = 1 → (pktArg h).toNat ≠ modeWanted l → Answers (.wregMode h true) s (u.failLoad l ccIFACE none)) ∧
      (l.pkt ≠ 1 → Answers (.wregMode h true) s (u.failLoad l ccSEQUENCE none))) ∧
    (pktReg h = 2 →
      (2 ≤ l.pkt → l.total = 0 →
        Answers (.wregUsercode h true) s ((u.updLoad fun _ => { l with usercode := pktArg h }).packetTaken 0 d)) ∧
      (2 ≤ l.pkt → l.total ≠ 0 → Answers (.wregUsercode h true) s (u.failLoad l ccSEQUENCE none)))) ∧
  (∀ (s : State) (l : Load) (h : BitVec 64) (d b : List Byte), PacketNext s l h 5 40 d → l.opened d = some b → let u := s.afterPacket l 40
    (2 ≤ l.pkt → l.rollDue = true → Answers (.keyRoll h true) s ((u.updLoad fun _ =>
      { l with seg := 0, rollDue := false, key := b.take 32, nonce := b.drop 32, segStart := l.pkt + 1 }).packetTaken 40 d)) ∧
    (2 ≤ l.pkt → l.rollDue = false → Answers (.keyRoll h true) s (u.failLoad l ccSEQUENCE none))) ∧
  (∀ (s : State) (l : Load) (h : BitVec 64) (d b : List Byte), PacketNext s l h 3 516 d → l.opened d = some b → let u := s.afterPacket l 516
    let full := l.grove.isNone || l.fromFull
    (∀ ix, frameIndex (pktArg h) = some ix →
      (2 ≤ l.pkt → l.rollDue = false → l.outOfOrder full ix = false → l.fromFull = true ∨ l.grove.any (fun g => !u.inWindow g ix) = false →
        (frameChk b = frameCheck (pktArg h) (frameData b) → Answers (.frame h true (frameData b) (frameChk b)) s
          (((u.loadWrites l ix (frameData b)).updLoad fun _ => l.afterFrame ix (frameChk b)).packetTaken 516 d)) ∧
        (frameChk b ≠ frameCheck (pktArg h) (frameData b) →
          Answers (.frame h true (frameData b) (frameChk b)) s (u.failLoad l ccCHECK (some (pktArg h))))) ∧
      (l.rollDue = true ∨ l.last.any (fun k => decide (ix ≤ k)) = true ∨ (full = true ∧ ix ≠ (l.last.map (· + 1)).getD 0) →
        Answers (.frame h true (frameData b) (frameChk b)) s (u.failLoad l ccSEQUENCE (some (pktArg h))))) ∧
    (frameIndex (pktArg h) = none →
      Answers (.frame h true (frameData b) (frameChk b)) s (u.failLoad l ccBAD_PACKET (some (pktArg h))))) ∧
  (∀ (s : State) (l : Load) (h : BitVec 64) (d : List Byte) (x : BitVec 4096) (check : Word), PacketNext s l h 3 516 d → l.opened d = none →
    Answers (.frame h false x check) s ((s.afterPacket l 516).failLoad l ccTAG (some (pktArg h)))) ∧
  (∀ (s : State) (l : Load) (h : BitVec 64) (d b : List Byte), PacketNext s l h 7 4 d → l.opened d = some b → let u := s.afterPacket l 4
    let crc := BitVec.ofNat 32 (ofBytes b)
    (2 ≤ l.pkt → l.pos + 28 = l.image.streamLen → l.total = 0 ∨ l.seg ≠ 0 →
      ((pktArg h).toNat = l.total → crc = ~~~l.crc → l.digestPasses d = true → u.covered l = true →
        Answers (.end_ h true crc (l.digestPasses d)) s (u.updLoad fun _ => l).streamEnded) ∧
      ((pktArg h).toNat ≠ l.total ∨ crc ≠ ~~~l.crc ∨ l.digestPasses d = false ∨ u.covered l = false →
        Answers (.end_ h true crc (l.digestPasses d)) s (u.failLoad l ccFINAL none))) ∧
    (l.pos + 28 ≠ l.image.streamLen → Answers (.end_ h true crc (l.digestPasses d)) s (u.failLoad l ccSEQUENCE none))) ∧
  (∀ (t : State) (l : Load), t.cfg.load = some l →
    let t1 := t.updLoad fun l => { l with pos := l.pos + 28, pkt := l.pkt + 1, phase := .release }
    (l.grove = none → t.streamEnded = t1.setCfgState 4) ∧ (l.grove ≠ none → t.streamEnded = t1))

/-- The release and what follows a failure (R21, R398 to R401, R404). Ranks are released in turn, then the ports, then the pins, and the load is done; a load that failed is followed by the
load of the other bank, or by NO_IMAGE where its header fails, and either waits while a power-state entry is under way.
What it rests on besides the rules: the model's choices of log 49, 50. -/
def Obligations.ReleaseAndFallback : Prop :=
  (∀ (s : State) (l : Load), s.awake = true → s.cfg.load = some l → l.phase = .release →
    (l.ranks < 8 → Answers .releaseRank s
      ((((((s.loadBoughs l).filter fun b => s.rankOf b == l.ranks).foldl (fun (t : State) b => t.releaseHold b) s).updLoad fun l =>
        { l with ranks := l.ranks + 1 }).settle).settlePins)) ∧
    (8 ≤ l.ranks → l.portsDone = false → l.grove = none → Answers .releasePorts s
      (((List.range 4).foldl (fun (t : State) q => t.releasePort q) s.openPorts).updLoad fun l =>
        { l with portsDone := true })) ∧
    (∀ g, 8 ≤ l.ranks → l.portsDone = false → l.grove = some g → Answers .releasePorts s
      (((s.groveSlots g).foldl (fun (t : State) q => t.releasePort q) s).updLoad fun l => { l with portsDone := true })) ∧
    (l.portsDone = true → l.pinsDone = false → Answers .releasePins s ((s.updLoad fun l => { l with pinsDone := true }).settlePins)) ∧
    (∀ tj : BitVec 16, l.pinsDone = true → Answers (.releaseDone tj) s ((s.sampleTj tj.toInt).loadDone l))) ∧
  (∀ s : State, s.awake = true → s.power.entry.isSome = true → Answers .fallbackLoad s s) ∧
  (∀ (s : State) (b : Nat), s.awake = true → s.cfg.fallbackFrom = some b → s.power.entry = none →
    let x := (s.updCfg fun k => { k with fallbackFrom := none }).checkBank (1 - b)
    (x.1 = 0 → Answers .fallbackLoad s (x.2.2.loadBegin { image := x.2.1, grove := none, fallback := true })) ∧
    (x.1 ≠ 0 → Answers .fallbackLoad s ((x.2.2.failHold true).endFailed rcNO_IMAGE x.1 [])))

/-- Read-back and scrubbing (R410, R412 to R414). The capture is taken at T_CAP, or once the DRAM no longer has its requests wait, and a buffer that does not hold it answers BUFFER_FAULT; the scrubber reads the next frame, and finds an upset
when its check no longer agrees; the action of an essential upset waits for a call or a load in progress.
What it rests on besides the rules: the model's choices of log 50, 125. -/
def Obligations.ReadbackAndScrub : Prop :=
  (∀ (s : State) (r : Readback), s.timed = true → s.dramWaits = false → s.cfg.readback = some r → laterThan r.tcap s.time.now = false →
    let s1 := (s.updCfg fun t => { t with readback := none }).setCfgState 0
    let boughs := match r.grove with | none => List.range 128 | some g => s.groveBoughs g
    (s1.bufferOk r.buffer (16 + 520 * boughs.length) = false → Answers .readbackCapture s
      ((s1.bufferRange r.buffer (16 + 520 * boughs.length)).endCall [0x0305] rcBUFFER_FAULT 0 [])) ∧
    (s1.bufferOk r.buffer (16 + 520 * boughs.length) = true →
      let head := bytesOf 8 (nsOf r.tcap) ++ bytesOf 1 (fracOf r.tcap) ++ bytesOf 1 s1.quality ++ [0, 0] ++ bytesOf 4 boughs.length
      Answers .readbackCapture s ((s1.bufferFrames r.buffer (head ++ boughs.flatMap s1.captureBytes)).endCall [0x0305] rcOK 0
        [BitVec.ofNat 32 boughs.length, BitVec.ofNat 32 (nsOf r.tcap), BitVec.ofNat 32 (nsOf r.tcap / 2 ^ 32)]))) ∧
  (∀ s : State, s.timed = true → s.dramWaits = true → Answers .readbackCapture s s) ∧
  (∀ (s : State) (flips : BitVec 4096) (cf : Word) (fetched : Bool), s.awake = true → s.rb (aSCRUB 0x20) 0 = true → s.cfg.readback = none →
    let ix := scrubIndex s.cfg.scrubPos
    (s.scrubSkips ix = true → Answers (.scrubFrame flips cf fetched) s s.scrubNext) ∧
    (s.scrubSkips ix = false →
      let u := SMap.get (fun _ => 0) s.fabric.upset ix ^^^ flips
      let uc := SMap.get (fun _ => 0) s.fabric.upsetCheck ix ^^^ cf
      frameCheck (frameAddr ix) (s.frame ix ^^^ u) ≠ frameCheck (frameAddr ix) (s.frame ix) ^^^ uc →
      Answers (.scrubFrame flips cf fetched) s (s.scrubNext.upsetFound ix u uc fetched))) ∧
  (∀ (s : State) (b : Nat) (rest : List Nat), s.awake = true → s.cfg.essBough = b :: rest → s.guide.long = none → s.cfg.load = none → s.inTransition = false →
    (s.rf (aSCRUB 0x20) 2 1 = 0 → Answers .essAction s (s.updCfg fun c => { c with essBough := rest })) ∧
    (s.rf (aSCRUB 0x20) 2 1 = 2 → s.mode = mRUN ∨ s.mode = mIDLE →
      Answers .essAction s (((s.updCfg fun c => { c with essBough := rest }).wakeGuide.setB aMODE 19 true).toHold))) ∧
  (∀ s : State, s.awake = true → s.cfg.essBough = [] → Answers .essAction s s)

/-! ### The embedded flash and the settings store -/

/-- The calls of the flash (R424 to R429, R433, R434). Arguments out of range answer BAD_ARG; a program, an erase or a blank check that meets an operation answers BUSY; else a read answers its bytes, a program or
an erase starts, a suspend and a resume park the erase, its pulse abandoned, and resume it, which waits where it is too hot, a blank check finds the first line not blank, and the status shows the sector.
What it rests on besides the rules: the model's choices of log 42, 124, 138. -/
def Obligations.FlashCalls : Prop :=
  (∀ (s : State) (c : Call), Called s 0x0201 c → let u := s.begun 0x0201 c
    (c.w3 = 0 → Answers (.svcFlashRead c) s (u.answerCall 0x0201 c rcBAD_ARG 0 [])) ∧
    (c.w3.toNat ≠ 0 → c.w3.toNat ≤ 16 → bufferOf c.w4 c.w5 = 0 → readReaches c.w2.toNat c.w3.toNat = true →
      let v := u.suspectRead (u.rangeOpen c.w2.toNat c.w3.toNat)
      let p := v.putBuffer 0 (v.flashRead c.w2.toNat c.w3.toNat)
      let i := p.2.inlineWords (v.flashRead c.w2.toNat c.w3.toNat)
      let f := i.2.free 32
      p.1 = none → Answers (.svcFlashRead c) s (f.2.answerCall 0x0201 c rcOK 0
        ((if u.rangeOpen c.w2.toNat c.w3.toNat then 1 else 0) :: f.1 :: i.1)))) ∧
  (∀ (s : State) (c : Call) (tj : BitVec 16), Called s 0x0202 c → let u := s.begun 0x0202 c
    let n := fld c.w3 15 0
    (n = 0 → Answers (.svcFlashProgram c tj) s (u.longOnce 0x0202 c rcBAD_ARG 0 (progWords 0 none))) ∧
    (n ≠ 0 → n ≤ 2048 → bufferOf c.w4 c.w5 % 8 = 0 → bit c.w3 16 = false → c.w2.toNat % 32 = 0 →
      (∀ r, u.flashRefusal c c.w2.toNat (32 * n) = some r →
        Answers (.svcFlashProgram c tj) s (u.longOnce 0x0202 c r 0 (progWords 0 none))) ∧
      (u.flashRefusal c c.w2.toNat (32 * n) = none → u.flashBusy = true →
        Answers (.svcFlashProgram c tj) s (u.longOnce 0x0202 c rcBUSY 0 (progWords 0 none))) ∧
      (∀ data, u.flashRefusal c c.w2.toNat (32 * n) = none → u.flashBusy = false →
        (u.takeBuffer (bufferOf c.w4 c.w5) (32 * n)).1 = some data → Answers (.svcFlashProgram c tj) s
          (((u.takeBuffer (bufferOf c.w4 c.w5) (32 * n)).2.sampleTj tj.toInt).programStart c c.w2.toNat n data)))) ∧
  (∀ (s : State) (c : Call) (tj : BitVec 16), Called s 0x0203 c → let u := s.begun 0x0203 c
    (c.w2.toNat % 0x10000 ≠ 0 → Answers (.svcFlashErase c tj) s (u.longOnce 0x0203 c rcBAD_ARG 0 [0])) ∧
    (c.w2.toNat % 0x10000 = 0 → c.w3.toNat ≠ 0 → c.w3.toNat ≤ 160 → u.flashRefusal c c.w2.toNat (0x10000 * c.w3.toNat) = none →
      (u.flashBusy = true ∨ u.flash.parked.isSome = true → Answers (.svcFlashErase c tj) s (u.longOnce 0x0203 c rcBUSY 0 [0])) ∧
      (u.flashBusy = false → u.flash.parked = none →
        Answers (.svcFlashErase c tj) s ((u.sampleTj tj.toInt).eraseStart c c.w2.toNat c.w3.toNat)))) ∧
  (∀ (s : State) (c : Call), Called s 0x0204 c → let u := s.begun 0x0204 c
    (u.flash.op = none → Answers (.svcFlashSuspend c) s (u.answerCall 0x0204 c rcBAD_STATE 0 [])) ∧
    (∀ o, u.flash.op = some o → o.erase = false → Answers (.svcFlashSuspend c) s (u.answerCall 0x0204 c rcBAD_STATE 0 [])) ∧
    (∀ o, u.flash.op = some o → o.erase = true → o.detached = true → Answers (.svcFlashSuspend c) s
      ((((u.abandonPulse o).updFlash fun f => { f with op := none, parked := some { o with detached := true } }).showOp).answerCall 0x0204 c
        rcOK 0 [BitVec.ofNat 32 (o.addr / 0x10000)])) ∧
    (∀ o, u.flash.op = some o → o.erase = true → o.detached = false → Answers (.svcFlashSuspend c) s
      (((((u.abandonPulse o).updFlash fun f => { f with op := none, parked := some { o with detached := true } }).showOp).endLong rcOK 1
        o.eraseWords).answerCall 0x0204 c rcOK 0 [BitVec.ofNat 32 (o.addr / 0x10000)]))) ∧
  (∀ (s : State) (c : Call) (tj : BitVec 16), Called s 0x0205 c → let u := (s.begun 0x0205 c).sampleTj tj.toInt
    (u.flash.parked = none → Answers (.svcFlashResume ⟨c, tj⟩) s (u.answerCall 0x0205 c rcBAD_STATE 0 [])) ∧
    (∀ o, u.flash.parked = some o → u.flashBusy = true → Answers (.svcFlashResume ⟨c, tj⟩) s (u.answerCall 0x0205 c rcBUSY 0 [])) ∧
    (∀ o, u.flash.parked = some o → u.flashBusy = false →
      let wait := u.isHot || (o.tempWait && decide (cool < tj.toInt))
      let v := ((u.updFlash fun f => { f with op := some { o with tempWait := wait }, parked := none }).showOp).answerCall 0x0205 c
        rcOK 0 [BitVec.ofNat 32 (o.addr / 0x10000)]
      (o.retire = none ∨ wait = true → Answers (.svcFlashResume ⟨c, tj⟩) s v) ∧
      (o.retire ≠ none → wait = false → Answers (.svcFlashResume ⟨c, tj⟩) s (v.eraseGoesOn o)))) ∧
  (∀ (s : State) (c : Call), Called s 0x0206 c → let u := s.begun 0x0206 c
    let n := c.w3.toNat
    c.w2.toNat % 32 = 0 → n ≠ 0 → n ≤ 65536 → c.w2.toNat + 32 * n ≤ 0x2000000 →
      (partOf (c.w2.toNat / 0x10000) ≠ partOf ((c.w2.toNat + 32 * n - 1) / 0x10000) →
        Answers (.svcFlashBlankCheck c) s (u.longOnce 0x0206 c rcBAD_ARG 0 [])) ∧
      (partOf (c.w2.toNat / 0x10000) = partOf ((c.w2.toNat + 32 * n - 1) / 0x10000) →
        (u.flashBusy = true → Answers (.svcFlashBlankCheck c) s (u.longOnce 0x0206 c rcBUSY 0 [])) ∧
        (u.flashBusy = false → Answers (.svcFlashBlankCheck c) s (u.longOnce 0x0206 c rcOK 0
          [match u.firstNonBlank c.w2.toNat n with | some f => BitVec.ofNat 32 f | none => 0xFFFFFFFF])))) ∧
  (∀ (s : State) (c : Call), Called s 0x0207 c → let u := s.begun 0x0207 c
    let sec := c.w2.toNat / 0x10000
    (0x2000000 ≤ c.w2.toNat → Answers (.svcFlashStatus c) s (u.answerCall 0x0207 c rcBAD_ARG 0 [])) ∧
    (c.w2.toNat < 0x2000000 → Answers (.svcFlashStatus c) s (u.answerCall 0x0207 c rcOK 0
      [BitVec.ofNat 32 (u.sectorStatus sec + (if u.physSector sec ≠ sec then 4 else 0)), BitVec.ofNat 32 (u.eraseCount sec),
       u.reg (aFLASH 0x20)])))

/-- The pulses of the flash (R424, R425, R427, R435). An erase pulse that verifies erases its sector, counts it, and goes on to the next or ends; a pulse that does not verify leaves the
sector half erased, and the twentieth retires it, with its piece in the heartwood; a program pulse goes on to the next line, and the eighth that fails ends the call with FLASH_FAIL; an erase too
hot, or a retirement that falls due then, waits until the junction has cooled, or ends after 10 s with TEMP_INHIBIT.
What it rests on besides the rules: the model's choices of log 124, 138. -/
def Obligations.FlashPulses : Prop :=
  (∀ (s : State) (o : FlashOp) (tj : BitVec 16), s.awake = true → s.flash.op = some o → o.erase = true → o.tempWait = false →
    let sec := o.addr / 0x10000
    let o1 := { o with addr := o.addr + 0x10000, left := o.left - 1, done := o.done + 1, pulses := 0 }
    let u := s.sampleTj tj.toInt
    let v := (s.partErase sec).sampleTj tj.toInt
    let worn := decide (endurance (partOf sec) ≤ u.eraseCount sec + 1)
    (worn = false ∨ u.isHot = false → o.left = 1 →
      Answers (.erasePulseDone true tj) s (((u.eraseSector sec).heartErase sec).eraseEnd o1)) ∧
    (worn = false ∨ u.isHot = false → 1 < o.left →
      Answers (.erasePulseDone true tj) s (((u.eraseSector sec).heartErase sec).eraseBegin o1)) ∧
    (worn = true → u.isHot = true →
      Answers (.erasePulseDone true tj) s (u.setOp (some { o with tempWait := true, retire := some true }))) ∧
    (19 ≤ o.pulses → v.isHot = false → Answers (.erasePulseDone false tj) s
      (((((v.updFlash fun f => { f with fail := true }).setErr 0x700 16).retireSector sec).heartErase sec).endOp
        { o with pulses := o.pulses + 1 } rcFLASH_FAIL o.eraseWords)) ∧
    (19 ≤ o.pulses → v.isHot = true → Answers (.erasePulseDone false tj) s
      (v.setOp (some { o with pulses := o.pulses + 1, tempWait := true, retire := some false }))) ∧
    (o.pulses < 19 → Answers (.erasePulseDone false tj) s
      (v.setOp (some { o with pulses := o.pulses + 1, tempWait := v.isHot })))) ∧
  (∀ (s : State) (o : FlashOp) (tj : BitVec 16), s.awake = true → s.flash.op = some o → o.erase = false →
    Answers (.programPulseDone true tj) s (s.programNext o tj.toInt) ∧
    (7 ≤ o.pulses → Answers (.programPulseDone false tj) s
      ((((s.partPulse o.addr (o.data.take 32)).updFlash fun f => { f with fail := true }).setErr 0x700 16).endOp { o with pulses := o.pulses + 1 }
        rcFLASH_FAIL (progWords o.done none))) ∧
    (o.pulses < 7 → Answers (.programPulseDone false tj) s
      ((s.partPulse o.addr (o.data.take 32)).setOp (some { o with pulses := o.pulses + 1 })))) ∧
  (∀ (s : State) (o : FlashOp) (tj : BitVec 16), s.awake = true → s.flash.op = some o →
    (o.tempWait = true → tj.toInt ≤ cool → Answers (.eraseTempResume tj) s ((s.sampleTj tj.toInt).eraseGoesOn o)) ∧
    (∀ t : State, t.eraseGoesOn o = match o.retire with
      | some true => t.eraseVerified { o with tempWait := false, retire := none }
      | some false => t.eraseFailed { o with tempWait := false, retire := none }
      | none => t.setOp (some { o with tempWait := false, retire := none })) ∧
    (cool < tj.toInt → Answers (.eraseTempResume tj) s (s.sampleTj tj.toInt)) ∧
    (o.tempWait = true → Answers .eraseTempTimeout s (s.tempErr.endOp o rcTEMP_INHIBIT o.eraseWords)))

/-- The settings store (R403, R440 to R445, R448, R453). A read answers the latest committed record or ABSENT; a record is staged for its caller, replacing one of the same ID; a commit without staged records answers
0, and else commits them and unstages them unless the store has no space; an abort drops the caller's staged records; deferred commits are written oldest first once the junction
has cooled; compaction runs while fewer than 3 sectors are erased.
What it rests on besides the rules: the model's choices of log 42. -/
def Obligations.SettingsCommands : Prop :=
  (∀ (s : State) (c : Call), Called s 0x0401 c → let u := s.begun 0x0401 c
    let id := fld c.w2 15 0
    (badRecId id = true → Answers (.svcSettingsRead c) s (u.answerCall 0x0401 c rcBAD_ARG 0 [])) ∧
    (badRecId id = false → findRec u.settings.txs id = none → Answers (.svcSettingsRead c) s (u.answerCall 0x0401 c rcOK 0 [0x80000000])) ∧
    (∀ tsn r, badRecId id = false → findRec u.settings.txs id = some (tsn, r) → r.delete = true →
      Answers (.svcSettingsRead c) s (u.answerCall 0x0401 c rcOK 0 [0x80000000, tsn])) ∧
    (∀ tsn r, badRecId id = false → findRec u.settings.txs id = some (tsn, r) → r.delete = false →
      let p := u.putBuffer (bufferOf c.w3 c.w4) r.data
      let i := p.2.inlineWords r.data
      p.1 = none → Answers (.svcSettingsRead c) s (i.2.answerCall 0x0401 c rcOK 0 (BitVec.ofNat 32 r.data.length :: tsn :: i.1)))) ∧
  (∀ (s : State) (c : Call), Called s 0x0402 c → let u := s.begun 0x0402 c
    let id := fld c.w2 15 0
    (badRecId id = true → Answers (.svcSettingsStage c) s (u.answerCall 0x0402 c rcBAD_ARG 0 [])) ∧
    (badRecId id = false → bit c.w2 31 = true → fld c.w2 25 16 ≤ 512 → 0x0C40 ≤ id ∨ fabricCaller c = false → u.settings.staged = [] →
      Answers (.svcSettingsStage c) s (((u.updSettings fun t => { t with staged := [(callerOf c, [stageRec c])] }).showSettings).answerCall 0x0402 c rcOK 0
        [1, BitVec.ofNat 32 (stageRec c).size]))) ∧
  (∀ (s : State) (c : Call) (tj : BitVec 16), Called s 0x0403 c → let u := (s.begun 0x0403 c).sampleTj tj.toInt
    let found := u.settings.staged.find? fun (e : Nat × List StageRec) => e.1 == callerOf c
    (found = none → Answers (.svcSettingsCommit c tj) s (u.longOnce 0x0403 c rcOK 0 [0])) ∧
    (∀ k l, found = some (k, l) → (u.readStaged l).1 = none →
      Answers (.svcSettingsCommit c tj) s ((u.readStaged l).2.longOnce 0x0403 c rcBUFFER_FAULT 0 [])) ∧
    (∀ k l recs, found = some (k, l) → (u.readStaged l).1 = some recs →
      let x := (u.readStaged l).2.commitRecs (callerOf c) recs
      (x.1 = rcNO_SPACE → Answers (.svcSettingsCommit c tj) s (x.2.2.longOnce 0x0403 c rcNO_SPACE 0 x.2.1)) ∧
      (x.1 ≠ rcNO_SPACE → Answers (.svcSettingsCommit c tj) s
        (((x.2.2.updSettings fun t => { t with staged := t.staged.filter fun (e : Nat × List StageRec) => e.1 ≠ callerOf c }).showSettings).longOnce
          0x0403 c x.1 0 x.2.1)))) ∧
  (∀ (s : State) (c : Call), Called s 0x0404 c → let u := s.begun 0x0404 c
    Answers (.svcSettingsAbort c) s
      (((u.updSettings fun t => { t with staged := t.staged.filter fun (e : Nat × List StageRec) => e.1 ≠ callerOf c }).showSettings).answerCall 0x0404 c
        rcOK 0 [])) ∧
  (∀ (s : State) (c : Call), Called s 0x0405 c → let u := s.begun 0x0405 c
    let i := fld c.w2 5 0
    let p := u.putBuffer (bufferOf c.w3 c.w4) ((u.settings.clampLog.drop i).flatMap clampBytes)
    (∀ k, p.1 = some k → Answers (.svcClampLog c) s (p.2.answerCall 0x0405 c k 0 [])) ∧
    (p.1 = none → Answers (.svcClampLog c) s ((p.2.free 32).2.answerCall 0x0405 c rcOK 0
      (BitVec.ofNat 32 (u.settings.clampLog.length * 2 ^ 16 + u.rf (aSET 0x30) 15 0) :: (p.2.free 32).1 :: (u.settings.clampLog[i]?).getD [])))) ∧
  (∀ (s : State) (tj : BitVec 16), s.awake = true →
    ((s.sampleTj tj.toInt).settings.deferred = [] ∨ cool < tj.toInt → Answers (.deferredCommitWrite tj) s (s.sampleTj tj.toInt).showBootPend) ∧
    ((s.sampleTj tj.toInt).settings.deferred ≠ [] → tj.toInt ≤ cool → Answers (.deferredCommitWrite tj) s
      (((((s.sampleTj tj.toInt).settings.deferred.foldl (fun (t : State) d => t.writeCommit d.2) (s.sampleTj tj.toInt)).updSettings fun t =>
        { t with deferred := [] }).showSettings).showBootPend))) ∧
  (∀ (s : State) (tj : BitVec 16), s.awake = true → let u := s.sampleTj tj.toInt
    (u.storeErased < 3 → u.isHot = false → Answers (.compaction tj) s u.compact) ∧
    (3 ≤ u.storeErased ∨ u.isHot = true → Answers (.compaction tj) s u))

/-! ### Life cycle, debug and JTAG -/

/-- Life cycle and debug sessions (R437, R438, R511 to R523). A transition or an OTP write that is refused answers its cause; the cell of a transition that passes its token runs; an OTP write programs its words in
order; a session opens for a trusted caller, and closes on its call or at its timeout.
What it rests on besides the rules: the model's choices of log 55. -/
def Obligations.LifeCycle : Prop :=
  (∀ (s : State) (c : Call) (word : BitVec 8) (erased : BitVec 16) (loss : Bool) (tj : BitVec 16), Called s 0x0601 c →
    let u := (s.begun 0x0601 c).sampleTj tj.toInt
    let cut : Cut := { word := word.toNat, erased := erased.toNat, loss }
    (1 < fld c.w2 31 28 → Answers (.lcTransition c word erased loss tj) s (u.longOnce 0x0601 c rcBAD_ARG 0 [])) ∧
    (fld c.w2 31 28 = 0 →
      (∀ r, u.transitionRefusal c = some r → Answers (.lcTransition c word erased loss tj) s (u.longOnce 0x0601 c r 0 [])) ∧
      (u.transitionRefusal c = none → u.rf (aLC 0x20) 2 0 ≠ lSCRAP →
        let x := u.tokenCheck c (tokenSlot (fld c.w2 2 0))
        (∀ k, x.1 = some k → Answers (.lcTransition c word erased loss tj) s (x.2.longOnce 0x0601 c k 0 x.2.lcWords)) ∧
        (x.1 = none → Answers (.lcTransition c word erased loss tj) s (x.2.runTransition c (fld c.w2 2 0) cut)))) ∧
    (fld c.w2 31 28 = 1 →
      (∀ r, u.otpRefusal c = some r → Answers (.otpWrite c word erased loss tj) s (u.longOnce 0x0601 c r 0 [])) ∧
      (∀ bytes, u.otpRefusal c = none → (u.takeBuffer (bufferOf c.w3 c.w4) (8 * fld c.w2 14 8)).1 = some bytes → fld c.w2 14 8 < word.toNat →
        let v := (List.range (fld c.w2 14 8)).foldl (fun (t : State) k =>
          t.otpWrite (fld c.w2 6 0 + k) (BitVec.ofNat 64 (ofBytes ((bytes.drop (8 * k)).take 8))))
          (u.takeBuffer (bufferOf c.w3 c.w4) (8 * fld c.w2 14 8)).2
        Answers (.otpWrite c word erased loss tj) s (v.longOnce 0x0601 c rcOK 0 [BitVec.ofNat 32 (fld c.w2 14 8)])))) ∧
  (∀ (s : State) (c : Call), Called s 0x0602 c → let u := s.begun 0x0602 c
    (trustedCaller c = false → Answers (.svcDebugOpen c) s (u.answerCall 0x0602 c rcNOT_PERMITTED 0 [])) ∧
    (trustedCaller c = true → u.rf (aLC 0x20) 2 0 ≠ lFIELD →
      let remain := if fld c.w2 31 16 = 0 then 0xFFFF else fld c.w2 31 16
      let w : Nat := 1 + (bit c.w2 0).toNat * 2 + (bit c.w2 1).toNat * 4 + c.jtag.toNat * 8 + remain * 2 ^ 16
      let v := (u.setReg (aLC 0x28) (BitVec.ofNat 32 w)).raise 114
      Answers (.svcDebugOpen c) s (v.answerCall 0x0602 c rcOK 0 [v.reg (aLC 0x28)])) ∧
    (trustedCaller c = true → u.rf (aLC 0x20) 2 0 = lFIELD → fld c.w2 31 16 = 0 →
      Answers (.svcDebugOpen c) s (u.answerCall 0x0602 c rcBAD_ARG 0 [])) ∧
    (∀ k, trustedCaller c = true → u.rf (aLC 0x20) 2 0 = lFIELD → fld c.w2 31 16 ≠ 0 → (u.tokenCheck c 46).1 = some k →
      Answers (.svcDebugOpen c) s ((u.tokenCheck c 46).2.answerCall 0x0602 c k 0 [(u.tokenCheck c 46).2.reg (aLC 0x28)]))) ∧
  (∀ (s : State) (c : Call), Called s 0x0603 c → Answers (.svcDebugClose c) s ((s.begun 0x0603 c).debugEnd.answerCall 0x0603 c rcOK 0 [])) ∧
  (∀ s : State, s.awake = true → s.rb (aLC 0x28) 0 = true → s.debugTimed = true → Answers .debugTimeout s s.debugEnd)

/-- The JTAG port (R1, R522, R523). Each instruction is held in the instruction register, its data register takes what it captures, which is 0x10524AF3 for
IDCODE, and the pins follow it; a scan of GUIDE_CALL takes the response and posts its request unless one is
pending; an access of DEBUG_ACCESS without a session is refused, and one with a session acts as requester DEBUG.
What it rests on besides the rules: the model's choices of log 42. -/
def Obligations.JtagPort : Prop :=
  (∀ s : State, s.supplied = true →
    let held (t : State) (code : Nat) : State :=
      ({ t with pins := { t.pins with scan := { t.pins.scan with ir := code, dr := t.jtagCapture code } } }).settlePins
    Answers .idcode s (held s 0x01) ∧ Answers .clampInstr s (held s 0x04) ∧ Answers .highz s (held s 0x05) ∧
    (∀ code : BitVec 8, jtagListed code.toNat = false → Answers (.bypass code) s (held s code.toNat)) ∧
    (∀ cells, Answers (.samplePreload cells) s (held (s.scanUpdate (cells.map fun c => (c.1.toNat, c.2))) 0x02) ∧
      Answers (.extest cells) s (held (s.scanUpdate (cells.map fun c => (c.1.toNat, c.2))) 0x03))) ∧
  (∀ s : State, s.supplied = true → Completes .idcode s fun t => t.pins.scan.dr = some 0x10524AF3 ∧ t.pins.scan.ir = 0x01 ∧ t.regs = s.regs) ∧
  (∀ s : State, s.supplied = true → Completes .highz s fun t => t.pins.scan.ir = 0x05 ∧ t.regs = s.regs ∧ t.fabric = s.fabric ∧ t.otp = s.otp ∧
    t.dramMem = s.dramMem ∧ t.guide = s.guide) ∧
  (∀ (s : State) (w : List Word), s.awake = true → s.guide.jtagReq = none → s.guide.taken = none →
    let u := ({ s with pins := { s.pins with scan := { s.pins.scan with ir := 0x20, dr := s.jtagCapture 0x20 } } }).settlePins
    Answers (.guideCall w) s
      { u with guide := { s.guide with jtagRespValid := false, jtagReq := some (s.mbSeq, w) }, mbSeq := s.mbSeq + 1 }) ∧
  (∀ (s : State) (w : List Word), s.awake = true → s.guide.jtagReq.isSome = true →
    let u := ({ s with pins := { s.pins with scan := { s.pins.scan with ir := 0x20, dr := s.jtagCapture 0x20 } } }).settlePins
    Answers (.guideCall w) s { u with guide := { s.guide with jtagRespValid := false } }) ∧
  (∀ (s : State) (write : Bool) (ofs : BitVec 24) (v : Word), s.supplied = true → s.debugOpen = false ∨ s.regsOn = false →
    let u := ({ s with pins := { s.pins with scan := { s.pins.scan with ir := 0x21, dr := s.jtagCapture 0x21 } } }).settlePins
    Answers (.debugAccess write ofs v) s { (u.free 32).2 with debug := { done := true, refused := true, data := (u.free 32).1 } }) ∧
  (∀ (s : State) (ofs : BitVec 24) (v : Word), s.supplied = true → s.debugOpen = true → s.regsOn = true → let u := s.jtagIr 0x21
    Answers (.debugAccess false ofs v) s
      { (u.readReg rDebug ofs.toNat).2 with debug := { done := true, refused := false, data := (u.readReg rDebug ofs.toNat).1 } } ∧
    (let x := u.writeReg rDebug ofs.toNat true v
     Answers (.debugAccess true ofs v) s
      { (x.2.free 32).2 with debug := { done := true, refused := x.1 == 1, data := (x.2.free 32).1 } }))

/-! ### Pitches, the heartwood and the calendar -/

/-- Pitches (R493 to R509). The engine starts the targeted check that waited longest, then the request, then the periodic pitch that is due; a pitch ends with its result, repairs or retires each failing row, by OTP words too in a full run, and answers its call; a
check that did not run waits for its retry; a holdoff ends; a line without its rewrite is UNTESTED; the calls start a pitch or set the schedule.
What it rests on besides the rules: the model's choices of log 26, 31, 53, 88. -/
def Obligations.Pitches : Prop :=
  (∀ s : State, s.awake = true → (s.pitchBlocked = true → Answers .pitchStart s s) ∧
    (∀ c, s.pitchBlocked = false → s.bist.running = none →
      s.bist.queue.find? (fun c => !c.waits && decide (elemKind c.elem < 5) && !s.pitchWaits c.elem) = some c →
      Answers .pitchStart s ((s.dropCheck c.elem).beginPitch { elem := c.elem, source := c.source, targeted := true, tries := c.tries })) ∧
    (∀ p, s.pitchBlocked = false → s.bist.running = none →
      s.bist.queue.find? (fun c => !c.waits && decide (elemKind c.elem < 5) && !s.pitchWaits c.elem) = none → s.bist.request = some p →
      s.runWaits p.elem = false → Answers .pitchStart s ((s.updBist fun b => { b with request := none }).beginPitch p)) ∧
    (s.pitchBlocked = false → s.bist.running = none → s.bist.request = none →
      s.bist.queue.find? (fun c => !c.waits && decide (elemKind c.elem < 5) && !s.pitchWaits c.elem) = none →
      (∀ late, s.bist.due = some late → Answers .pitchStart s (s.periodicStart late)) ∧
      (s.bist.due = none → Answers .pitchStart s s.fullStart)) ∧
    (∀ p, s.pitchBlocked = false → s.bist.running = some p → p.waitGrant = true → Answers .pitchStart s (s.pitchGrant p))) ∧
  (∀ (s : State) (p : Pitch) (fails : List Word), s.awake = true → s.bist.running = some p → p.waitGrant = false →
    let exp := Config.bistSignature (elemKind p.elem)
    let s1 := (s.showPitch p.elem false false).updBist fun b => { b with
      running := none, full := b.full && !b.fullStops, fullStops := false }
    let answer (t : State) : State := if p.source = 10 then t.pitchAnswer else t
    Answers (.pitchDone exp fails) s (answer (s1.checkResult p.elem p.source (if p.targeted then rTRANSIENT else rPASS) p.targeted exp exp)) ∧
    (∀ misr, misr ≠ exp → Answers (.pitchDone misr fails) s (answer ((p.rows fails).foldl (fun (t : State) e =>
      (t.failElem e p.source).2.checkResult e p.source (t.failElem e p.source).1 p.targeted misr exp) s1.fuseRepair)))) ∧
  (∀ (s : State) (late : Bool), s.awake = true → s.rb (aPITCH 0x20) 16 = true →
    Answers (.periodicPitch late) s ((s.updBist fun b => { b with due := some late }).pitchStart)) ∧
  (∀ (s : State) (p : Pitch), s.awake = true → s.bist.running = some p → p.waitGrant = true → Answers .grantTimeout s (s.pitchNotRun p)) ∧
  (∀ (s : State) (e : Word) (c : Check), s.awake = true → s.bist.queue.find? (fun c => c.waits && c.elem == e) = some c →
    Answers (.pitchRetry e) s (s.updBist fun b => { b with queue := (b.queue.filter fun x => x.elem != e) ++ [{ c with waits := false }] })) ∧
  (∀ s : State, s.awake = true → Answers .holdoffEnd s { s with bist := { s.bist with holdoff := none } }) ∧
  (∀ (s : State) (e : Word) (c : Check), s.awake = true → s.bist.queue.find? (fun c => c.elem == e && c.source == 8 && !c.ready) = some c →
    Answers (.dbeCheckTimeout e) s ((s.dropCheck e).checkResult e c.source rUNTESTED true 0 0)) ∧
  (∀ (s : State) (port : RopePort) (bad : Bool) (c : Check), s.awake = true →
    s.bist.queue.find? (fun c => c.elem == elemOf 6 (portPage port - 0x541)) = some c →
    Answers (.linkCheckDone port bad) s (s.endCheck c.elem c.source bad)) ∧
  (∀ (s : State) (c : Call), Called s 0x0701 c → let u := s.begun 0x0701 c
    ([mRUN, mHOLD, mSERVICE].contains u.mode = false → Answers (.svcPitchRun c) s (u.longOnce 0x0701 c rcBAD_STATE 0 [])) ∧
    ([mRUN, mHOLD, mSERVICE].contains u.mode = true → pitchable c.w2 = false → Answers (.svcPitchRun c) s (u.longOnce 0x0701 c rcBAD_ARG 0 [])) ∧
    ([mRUN, mHOLD, mSERVICE].contains u.mode = true → pitchable c.w2 = true → u.groupRetired c.w2 = false →
      Answers (.svcPitchRun c) s ((u.startLong 0x0701 c).updBist fun b =>
        { b with request := some { elem := c.w2, source := 10, targeted := false } }))) ∧
  (∀ (s : State) (c : Call), Called s 0x0702 c → let u := s.begun 0x0702 c
    (bit c.w2 31 = true → fld c.w2 15 0 = 0 → Answers (.svcPitchSchedule c) s (u.answerCall 0x0702 c rcBAD_ARG 0 [])) ∧
    (bit c.w2 31 = false → bit c.w3 31 = false →
      Answers (.svcPitchSchedule c) s (u.answerCall 0x0702 c rcOK 0 [u.reg (aPITCH 0x20), u.holdoffLeft])) ∧
    (bit c.w2 31 = true → fld c.w2 15 0 ≠ 0 → bit c.w2 16 = true → bit c.w3 31 = false →
      let v := u.setReg (aPITCH 0x20) (c.w2 &&& 0x0001FFFF)
      Answers (.svcPitchSchedule c) s (v.answerCall 0x0702 c rcOK 0 [v.reg (aPITCH 0x20), v.holdoffLeft])))

/-- The heartwood and the calendar (R524, R526 to R533, R536 to R539). A part is read by its selector; the calendar is set with its quality and event 119; each second advances it, up to its end; the alarm fires once and disarms itself; the
entries that are due are written.
What it rests on besides the rules: the model's choices of log 19, 51, 59. -/
def Obligations.HeartAndCalendar : Prop :=
  (∀ (s : State) (c : Call), Called s 0x0801 c → let u := s.begun 0x0801 c
    (u.heartPart (fld c.w2 3 0) (fld c.w2 15 8) = none → Answers (.svcHeartRead c) s (u.answerCall 0x0801 c rcBAD_ARG 0 [])) ∧
    (∀ d, u.heartPart (fld c.w2 3 0) (fld c.w2 15 8) = some d → bufferOf c.w3 c.w4 ≠ 0 →
      let p := u.putBuffer (bufferOf c.w3 c.w4) d
      (∀ k, p.1 = some k → Answers (.svcHeartRead c) s (p.2.answerCall 0x0801 c k 0 [])) ∧
      (p.1 = none → Answers (.svcHeartRead c) s (p.2.answerCall 0x0801 c rcOK 0 [BitVec.ofNat 32 d.length, u.heart.seq]))) ∧
    (∀ d, u.heartPart (fld c.w2 3 0) (fld c.w2 15 8) = some d → bufferOf c.w3 c.w4 = 0 →
      Answers (.svcHeartRead c) s ((u.inlineWords d).2.answerCall 0x0801 c rcOK 0
        ([BitVec.ofNat 32 (min 16 d.length), u.heart.seq] ++ (u.inlineWords d).1)))) ∧
  (∀ (s : State) (c : Call) (tj : BitVec 16), Called s 0x0802 c → let u := (s.begun 0x0802 c).sampleTj tj.toInt
    (fld c.w3 31 8 ≠ 0 → Answers (.svcCalendarSet c tj) s (u.answerCall 0x0802 c rcBAD_ARG 0 [])) ∧
    (fld c.w3 31 8 = 0 →
      let v := (u.setCalendar (c.w2.toNat + fld c.w3 7 0 * 2 ^ 32)).setTicks ((u.ticks + 1) % 2 ^ 48)
      let w := (((v.setReg (aRTC 0x30) 0).setReg (aRTC 0x24) 1).raise 119).alarmNow
      Answers (.svcCalendarSet c tj) s ((w.heartCount false).answerCall 0x0802 c rcOK 0 [w.reg (aRTC 0x28), w.reg (aRTC 0x2C)]))) ∧
  (∀ (s : State) (tj : BitVec 16), s.power.cold = false → s.awake = false → s.calendar + 1 < maxCalendar →
    Answers (.calendarSecond tj) s
      ((((s.setTicks ((s.ticks + (32768 - s.rf (aRTC 0x30) 14 0)) % 2 ^ 48)).setReg (aRTC 0x30) 0).setCalendar (s.calendar + 1)).setB (aRTC 0x24) 3 false)) ∧
  (∀ (s : State) (tj : BitVec 16), s.power.cold = false → s.awake = true → s.calendar + 1 < maxCalendar →
    Answers (.calendarSecond tj) s
      ((((((((s.setTicks ((s.ticks + (32768 - s.rf (aRTC 0x30) 14 0)) % 2 ^ 48)).setReg (aRTC 0x30) 0).setCalendar (s.calendar + 1)).setB
        (aRTC 0x24) 3 false)).sampleTj tj.toInt).heartSecond).debugSecond)) ∧
  (∀ (s : State) (tj : BitVec 16), s.power.cold = true → Answers (.calendarSecond tj) s s) ∧
  (∀ (s : State) (fails : BitVec 16), s.awake = true → s.rb (aRTC 0x20) 0 = true → s.alarmAt ≤ s.calendar →
    let t := (((s.setB (aRTC 0x20) 0 false).setErr 0x003 16).raise 118).lateCause 2 (s.rb (aPMU 0x24) 1)
    Answers (.alarm fails) s t ∧ t.rb (aRTC 0x20) 0 = false ∧ t.count 118 = s.count 118 + 1 ∧ t.rb (pg 0x003 0x00C) 16 = true ∧
      SameOutside s t) ∧
  (∀ (s : State) (fails : BitVec 16), s.awake = true → s.rb (aRTC 0x20) 0 = false → Answers (.alarm fails) s s) ∧
  (∀ (s : State) (fails : BitVec 16), s.power.inReset = false → s.awake = false → s.rb (aRTC 0x20) 0 = true → s.alarmAt ≤ s.calendar →
    let s1 := (s.setB (aRTC 0x20) 0 false).setB (pg 0x003 0x00C) 16 true
    Answers (.alarm fails) s (if s1.rb (aPMU 0x24) 1 then s1.wakeSource 2 none fails else s1)) ∧
  (∀ (s : State) (tj : BitVec 16), s.awake = true →
    Answers (.heartCountWrite tj) s ((s.sampleTj tj.toInt).heartCount false) ∧
    Answers (.heartDeferredWrite tj) s (s.sampleTj tj.toInt).heartLate ∧
    (s.heartFree < 128 → Answers (.heartRebase tj) s ((s.sampleTj tj.toInt).heartWrite State.heartRebase)) ∧
    (128 ≤ s.heartFree → Answers (.heartRebase tj) s s))

/-! ### Every fabric, clock and timed command completes: what is seen of it -/

/-- Fabric and clock commands complete (R91, R94, R111, R103, R160, R307, R308, R128, R142, R146, R151, R154): under conditions on the state and the operands
alone each answers a next state in which its own effect is seen. FROZEN and ENABLE of a bough follow its writes, CAD_CLR shows in CAD_RANGE, a window in CADENCE; a
request rises at its stage, a word leaves, is seen and is popped; a fabric event is launched, a memory error counted; a PLL's EN and LOCKED, a clock site's new
selection, its switch, gate and divider, and the crystal show in their registers.
What it rests on besides the rules: the model's choices of log 1, 22, 92. -/
def Obligations.FabricAndClocksComplete : Prop :=
  (∀ (s : State) (r : ReqId) (b : BitVec 7) (v : Word), s.handshake b.toNat = true → s.held b.toNat = false →
    s.pageEnable (0x040 + b.toNat) = true → bit v 1 = false → bit v 2 = false →
    Accepted s r (pg (0x040 + b.toNat) 0x004) (setBit v 0 false) →
    Completes (.boughFreeze r b v) s fun t => t.rb (pg (0x040 + b.toNat) 0x004) 0 = false ∧ t.rb (aHS_STAT b.toNat) 1 = true) ∧
  (∀ (s : State) (r : ReqId) (b : BitVec 7) (v : Word), s.handshake b.toNat = true → s.held b.toNat = false →
    s.pageEnable (0x040 + b.toNat) = false → bit v 1 = false → bit v 2 = false →
    Accepted s r (pg (0x040 + b.toNat) 0x004) (setBit v 0 true) →
    Answers (.boughResume r b v) s
      ((((s.setB (pg (0x040 + b.toNat) 0x004) 0 true).unitEnabled (0x040 + b.toNat) 0xFFFF).showFrozen b.toNat).settle)) ∧
  (∀ (s : State) (r : ReqId) (b : BitVec 7) (v : Word), Accepted s r (aHS_CTL b.toNat) (setBit v 7 true) →
    Completes (.cadClr r b v) s fun t => t.reg (aBOUGH b.toNat 0x30) = 0x0000FFFF ∧ t.rb (aBOUGH b.toNat 0x2C) 28 = false) ∧
  (∀ (s : State) (b : BitVec 7), s.timed = true → s.tmode b.toNat ≠ 0 → s.cadenceEnd b.toNat = s.time.now →
    Completes (.cadenceWindow b) s fun t => t.rf (aBOUGH b.toNat 0x2C) 15 0 = min (s.bough b.toNat).cadCount 0xFFFF ∧
      (t.bough b.toNat).cadCount = 0) ∧
  (∀ (s : State) (b : BitVec 7) (j : BitVec 9), s.awake = true → s.handshake b.toNat = true → s.held b.toNat = false →
    (s.bough b.toNat).cfg.stages.contains j.toNat = true → ((s.bough b.toNat).stageAt j.toNat).rin = false →
    ((s.bough b.toNat).cfg.stageAt j.toNat).inputs.isEmpty = false →
    ((s.bough b.toNat).cfg.stageAt j.toNat).inputs.all (s.request b.toNat j.toNat) = true →
    Answers (.hsRequest b j) s ((s.updBough b.toNat fun y =>
      y.setStage j.toNat { (s.bough b.toNat).stageAt j.toNat with rin := true }).settle)) ∧
  (∀ (s : State) (b : BitVec 7) (c : BitVec 5), s.awake = true → s.chanLive b.toNat ((s.bough b.toNat).cfg.ochAt c.toNat) = true →
    ((s.bough b.toNat).ochAt c.toNat).ready = true → s.wire (.dest b.toNat (2560 + c.toNat)) = some true →
    Answers (.channelPush b c) s
      ((s.upWord b.toNat c.toNat s).2.updBough b.toNat fun x => x.setOch c.toNat
        { x.ochAt c.toNat with req := !(x.ochAt c.toNat).req, word := (s.upWord b.toNat c.toNat s).1 }).propagate) ∧
  (∀ (s : State) (b : BitVec 7) (c : BitVec 5) (level : Bool), s.awake = true →
    s.chanLive b.toNat ((s.bough b.toNat).cfg.ichAt c.toNat) = true → s.held b.toNat = false →
    ((s.bough b.toNat).cfg.ichAt c.toNat).en = true →
    ((s.bough b.toNat).ichAt c.toNat).next = none → ((s.bough b.toNat).ichAt c.toNat).valid = false →
    s.reqLevel b.toNat c.toNat = some level → level ≠ ((s.bough b.toNat).ichAt c.toNat).seen →
    Answers (.channelValid b c) s
      ((s.downWord b.toNat c.toNat s).2.updBough b.toNat fun y => y.setIch c.toNat { (s.bough b.toNat).ichAt c.toNat with
        seen := level, valid := true, word := (s.downWord b.toNat c.toNat s).1 }).propagate) ∧
  (∀ (s : State) (b : BitVec 7) (c : BitVec 5), s.awake = true → s.chanLive b.toNat ((s.bough b.toNat).cfg.ichAt c.toNat) = true →
    ((s.bough b.toNat).ichAt c.toNat).valid = true → s.wire (.dest b.toNat (2592 + c.toNat)) = some true →
    let s2 := (s.updBough b.toNat fun y => y.setIch c.toNat { (s.bough b.toNat).ichAt c.toNat with
      valid := false, ack := !((s.bough b.toNat).ichAt c.toNat).ack }).settle
    s2.slotAt b.toNat c.toNat = none → Answers (.channelPop b c) s s2) ∧
  (∀ (s : State) (j : BitVec 6), s.awake = true → s.fabricMasked (256 + j.toNat) = false →
    SMap.get (fun _ => false) s.evt.launched (256 + j.toNat) = false →
    Completes (.crossingEvent (.fabricEvent j)) s fun t => SMap.get (fun _ => false) t.evt.launched (256 + j.toNat) = true ∧ t.regs = s.regs) ∧
  (∀ (s : State) (b : BitVec 7) (n : BitVec 3) (row : BitVec 9) (dbe : Bool), s.awake = true → s.eccLive b.toNat n.toNat = true →
    Completes (.bramEccError b n row dbe) s fun t => t.count (if dbe then 241 else 240) = s.count (if dbe then 241 else 240) + 1) ∧
  (∀ (s : State) (edges : List ClockEdge), (∀ e ∈ edges, e.falling = false ∧ s.levels.rootRuns e.root.toNat = false) →
    Answers (.activeClockEdge edges []) s (s.clockEdges [] [])) ∧
  (∀ (s : State) (r : ReqId) (p : BitVec 3) (v : Word), Accepted s r (aPLL p.toNat 0) (setBit v 0 true) → s.rb (aPLL p.toNat 0) 0 = false →
    Answers (.pllEnable r p v) s
      (((s.storeWrite (aPLL p.toNat 0) (setBit v 0 true) false).unitEnabled (0x022 + p.toNat / 2) p.toNat).pllStart p.toNat)) ∧
  (∀ (s : State) (r : ReqId) (p : BitVec 3) (v : Word), Accepted s r (aPLL p.toNat 0) (setBit v 0 false) → s.rb (aPLL p.toNat 0) 0 = true →
    Completes (.pllDisable r p v) s fun t => t.rb (aPLL p.toNat 0) 0 = false ∧ t.rb (aPLL p.toNat 0xC) 0 = false) ∧
  (∀ (s : State) (p : BitVec 3), s.awake = true → s.rb (aPLL p.toNat 0) 0 = true → s.fabric.clocks.badPll.contains p.toNat = false →
    s.power.lockWait = none → Completes (.pllLock p) s fun t => t.rb (aPLL p.toNat 0xC) 0 = true) ∧
  (∀ (s : State) (p : BitVec 3), s.awake = true → s.rb (aPLL p.toNat 0xC) 0 = true →
    Completes (.pllLossOfLock p) s fun t => t.rb (aPLL p.toNat 0xC) 0 = false ∧ t.rb (pg (0x022 + p.toNat / 2) 0x00C) (16 + p.toNat % 2) = true) ∧
  (∀ (s : State) (r : ReqId) (n : BitVec 4) (v : Word), Accepted s r (aROOT n.toNat) v →
    (Completes (.clockSwitch r (.root n) v) s fun t => t.rf (aROOT n.toNat) 5 0 = fld v 5 0 ∧
      (fld (s.reg (aROOT n.toNat)) 5 0 ≠ fld v 5 0 → t.rb (aROOT n.toNat) 30 = true)) ∧
    Completes (.rootGate r n v) s fun t => t.rb (aROOT n.toNat) 31 = bit v 31) ∧
  (∀ (s : State) (n : BitVec 4), s.awake = true → s.rb (aROOT n.toNat) 30 = true → s.rootRuns n.toNat = false →
    s.sourceRuns (s.rf (aROOT n.toNat) 5 0) = true →
    Completes (.clockSwitchDone (.root n)) s fun t => t.rf (aROOT n.toNat) 21 16 = s.rf (aROOT n.toNat) 5 0 ∧ t.rb (aROOT n.toNat) 30 = false) ∧
  (∀ (s : State) (r : ReqId) (b : BitVec 7) (c : BitVec 3) (v : Word), Accepted s r (aBCLK b.toNat c.toNat) v →
    (Completes (.divWrite r b c v) s fun t => t.rf (aBCLK b.toNat c.toNat) 23 16 = fld v 23 16) ∧
    Completes (.bclkGate r b c v) s fun t => t.rb (aBCLK b.toNat c.toNat) 31 = bit v 31) ∧
  (∀ (s : State) (r : ReqId) (b : BitVec 7) (v : Word), Accepted s r (aXMERGE b.toNat) (setBit v 15 true) →
    Completes (.xmergeClr r b v) s fun t => t.rf (aXMERGE b.toNat) 31 16 = 0 ∧ t.rf (aXMERGE b.toNat) 7 0 = 0) ∧
  (∀ s : State, s.rb aSRC_CTL 0 = true → s.fabric.clocks.xtalFailed = false → s.rb aSRC_STAT 3 = false →
    Completes .xtalStart s fun t => t.rb aSRC_STAT 2 = true ∧ t.rb aSRC_STAT 3 = true) ∧
  (∀ s : State, s.rb aSRC_STAT 3 = true → s.awake = true →
    Completes .xtalFail s fun t => t.rb aSRC_STAT 2 = false ∧ t.rb aSRC_STAT 3 = false ∧ t.fabric.clocks.xtalFailed = true)

/-- The commands of the time base, the edge units, the sigma-delta channels and the loop engine complete (R165, R169, R171, R181, R183, R186, R188, R189, R201, R203, R217,
R230): under conditions on the state and the operands alone each answers a next state in which its own effect is seen, a step requested or taken, a PPS edge recorded, an entry
staged, placed or emptied, a period begun, an edge placed, a capture taken or read, a cycle begun, a line that swaps, an output published, a flag set, an update begun, a commit or a cause.
What it rests on besides the rules: the model's choices of log 97, 98. -/
def Obligations.TimedUnitsComplete : Prop :=
  (∀ s : State, s.awake = true → s.commitPending 0x018 = true → s.timeAtOnce = true → fld (s.shadow (aTIME 0x40)) 1 0 = 1 →
    Completes .timeStepCommit s fun t => t.time.step.isSome = true ∧ t.rf (aTIME 0x40) 1 0 = 0) ∧
  (∀ s : State, s.awake = true → s.commitPending 0x018 = true → s.timeAtOnce = true → fld (s.shadow (aTIME 0x40)) 1 0 = 2 → s.refSrc ≠ 0 →
    Completes .timeSlewCommit s fun t => t.time.adj = s.time.adj + s.adjShadow * 256 ∧ t.rf (aTIME 0x40) 1 0 = 0) ∧
  (∀ (s : State) (v : DevTime), s.timed = true → s.time.step = some (.toValue v) →
    Completes .stepApply s fun t => t.time.now = v + ((s.reach s.time.stepAt).time.now - s.time.stepAt) ∧ t.time.step = none) ∧
  (∀ s : State, s.timed = true → s.servoRuns = true → s.refSrc = 1 → s.commitPending 0x018 = false →
    Completes .servoMeasure s fun t => t.time.adj = 0 ∧ t.time.refLost = false ∧ t.time.now = s.time.now) ∧
  (∀ s : State, s.timed = true → s.servoRuns = true → s.time.refLost = false → s.commitPending 0x018 = false →
    Completes .refLost s fun t => t.time.refLost = true ∧ t.time.r = s.time.f ∧ t.rb (pg 0x018 0x00C) 16 = true) ∧
  (∀ (s : State) (e : DevTime), s.timed = true → laterThan e s.time.now = false →
    Completes (.ppsEdge e) s fun t => t.reg (aTIME 0x50) = BitVec.ofNat 32 (nsOf e) ∧ t.reg (aTIME 0x58) = BitVec.ofNat 32 (fracOf e)) ∧
  (∀ s : State, s.timed = true → Completes .boundUpdate s fun t => t.reg (aTIME 0x2C) = BitVec.ofNat 32 s.boundNow) ∧
  (∀ (s : State) (r : ReqId) (p : BitVec 8) (v : Word), Accepted s r (aEDGE p.toNat 0x28) v →
    Completes (.eqLo r p v) s fun t => SMap.get (fun _ => 0) (t.edgeUnit p.toNat).stage r.toNat = v) ∧
  (∀ (s : State) (r : ReqId) (p : BitVec 8) (v : Word), Accepted s r (aEDGE p.toNat 0x2C) v → (s.edgeUnit p.toNat).queue.length < 16 →
    Completes (.eqHi r p v) s fun t => (t.edgeUnit p.toNat).queue.length = (s.edgeUnit p.toNat).queue.length + 1) ∧
  (∀ (s : State) (r : ReqId) (p : BitVec 8) (v : Word), Accepted s r (pg (0x100 + p.toNat) 0x004) (setBit v 0 false) →
    s.pageEnable (0x100 + p.toNat) = true → bit v 1 = false → bit v 2 = false →
    Completes (.edgeDisable r p v) s fun t => (t.edgeUnit p.toNat).queue = [] ∧ (t.edgeUnit p.toNat).pwmStart = none) ∧
  (∀ (s : State) (p : BitVec 8) (t : DevTime), s.timed = true → (s.edgeUnit p.toNat).armed = some t → laterThan s.time.now (t + ns 1000000) = false →
    ((s.outEdges p.toNat).any fun e => (e - s.time.now).toNat ≤ 512 || (s.time.now - e).toNat ≤ 512) = false →
    Completes (.lineSwap p) s fun u => (u.edgeUnit p.toNat).line = !(s.edgeUnit p.toNat).line ∧ (u.edgeUnit p.toNat).armed = none) ∧
  (∀ (s : State) (p : BitVec 8) (t : DevTime), s.timed = true → (s.edgeUnit p.toNat).armed = some t →
    Completes (.swapAbandon p) s fun u => (u.edgeUnit p.toNat).line = (s.edgeUnit p.toNat).line ∧ (u.edgeUnit p.toNat).armed = none) ∧
  (∀ (s : State) (i : BitVec 2), s.timed = true → s.rb (aCAL i.toNat 0x24) 31 = false → s.power.loopGroupDue = false →
    Completes (.bootCalDone i) s fun t => t.rb (aCAL i.toNat 0x24) 31 = true) ∧
  (∀ (s : State) (r : ReqId) (c : BitVec 6) (v : Word), Accepted s r (aSDF c.toNat 0) (setBit v 0 false) →
    let s1 := s.storeWrite (aSDF c.toNat 0) (setBit v 0 false) false
    let s2 := if (s1.sdfChan c.toNat).started && s1.sdfReserved c.toNat then s1.markUndefined 2 (sdfPage c.toNat) (c.toNat % 8) else s1
    Answers (.sdfStop r c v) s ((s2.sdfFollow c.toNat).settlePin (s2.sdfClkPin c.toNat))) ∧
  (∀ (s : State) (c : BitVec 6) (o : SdfOutput), s.timed = true → (s.sdfChan c.toNat).out = some o → laterThan o.due s.time.now = false →
    Completes (.sdfOutput c) s fun t => t.reg (aSDF c.toNat 0x1C) = o.value ∧ t.rb (aSDF c.toNat 0x14) 1 = true ∧ (t.sdfChan c.toNat).out = none) ∧
  (∀ (s : State) (c : BitVec 6), s.timed = true → (s.sdfChan c.toNat).runTrip = true →
    Completes (.sdfRunFault c) s fun t => t.rb (aSDF c.toNat 0x14) 2 = true ∧ (t.sdfChan c.toNat).runTrip = false) ∧
  (∀ (s : State) (q : BitVec 2) (w : BitVec 64), s.timed = true → s.loop.held.contains q.toNat = false → s.runningCtxs = [] →
    Completes (.fslotWord q w) s fun t => SMap.get (fun _ => {}) t.loop.slotsIn (64 * q.toNat + (w.toNat / 2 ^ 48) % 64) =
      { value := sext 48 (w.toNat % 2 ^ 48), valid := w.getLsbD 63, arrival := some s.time.now }) ∧
  (∀ (s : State) (r : ReqId) (v : Word), Accepted s r (aLOOP 0x38) (setBit v 0 true) → s.rb (aLOOP 0x3C) 0 = false →
    Completes (.hbKick r v) s fun t => t.loop.hb0.lastKick = s.time.now) ∧
  (∀ (s : State) (r : ReqId) (n : BitVec 10) (v : Word), Accepted s r (aCTX n.toNat 0xF4) (setBit v 15 true) →
    Completes (.missedClr r n v) s fun t => t.rf (aCTX n.toNat 0xF4) 31 16 = 0)
end

