-- ==== Sys2Proof/Laws/Acts.lean ====
section
/-! SUPPORT. How the commands of each class answer: completion, accepted writes, calls and packets. -/

namespace Sys2Proof.Machine

@[simp] theorem State.reg_withPending (s : State) (q) (a) : (s.withPending q).reg a = s.reg a := rfl
@[simp] theorem State.shadow_withPending (s : State) (q) (a) : (s.withPending q).shadow a = s.shadow a := rfl
@[simp] theorem State.rb_withPending (s : State) (q) (a i) : (s.withPending q).rb a i = s.rb a i := rfl
@[simp] theorem State.rf_withPending (s : State) (q) (a i j) : (s.withPending q).rf a i j = s.rf a i j := rfl
@[simp] theorem State.count_withPending (s : State) (q) (a) : (s.withPending q).count a = s.count a := rfl
@[simp] theorem State.awake_withPending (s : State) (q) : (s.withPending q).awake = s.awake := rfl
/-- How a command of each class completes, and what it answers: its effect where its condition holds. -/
theorem Completes.act {c : Instr} {s : State} {P : State → Prop} {f : State → State} (h : exec c s = s.act f)
   (hp : P ((f s).withPending s.pending)) : Completes c s P := ⟨_, h, hp⟩
theorem Completes.live {c : Instr} {s : State} {P : State → Prop} {f : State → State} (h : exec c s = s.actLive f) (ha : s.awake = true)
   (hp : P ((f s).withPending s.pending)) : Completes c s P := ⟨_, h, by simpa [State.actLive, State.actWhen, State.act, ha] using hp⟩
theorem Completes.timed {c : Instr} {s : State} {P : State → Prop} {f : State → State} (h : exec c s = s.actTimed f) (ha : s.timed = true)
   (hp : P ((f s).withPending s.pending)) : Completes c s P := ⟨_, h, by simpa [State.actTimed, State.actWhen, State.act, ha] using hp⟩
theorem Answers.act {c : Instr} {s t : State} {f : State → State} (h : exec c s = s.act f) (hp : f s = t) : Answers c s t := by
  unfold Answers; rw [h, ← hp]; rfl
theorem Answers.live {c : Instr} {s t : State} {f : State → State} (h : exec c s = s.actLive f) (ha : s.awake = true) (hp : f s = t) : Answers c s t := by
  unfold Answers; rw [h, ← hp]; simp [State.actLive, State.actWhen, State.act, ha]
theorem Answers.timed {c : Instr} {s t : State} {f : State → State} (h : exec c s = s.actTimed f) (ha : s.timed = true) (hp : f s = t) : Answers c s t := by
  unfold Answers; rw [h, ← hp]; simp [State.actTimed, State.actWhen, State.act, ha]
theorem Answers.supplied {c : Instr} {s t : State} {f : State → State} (h : exec c s = s.actWhen s.supplied f) (ha : s.supplied = true)
    (hp : f s = t) : Answers c s t := by
  unfold Answers; rw [h, ← hp]; simp [State.actWhen, State.act, ha]
/-- A command whose condition does not hold changes nothing. -/
theorem actWhen_off (s : State) (f : State → State) : s.actWhen false f = .next (s.withPending s.pending) := by
  simp [State.actWhen, State.act]
@[simp] theorem State.withPending_self (s : State) : s.withPending s.pending = s := rfl
@[simp] theorem State.withPending_pending (s : State) (q : List Instr) : (s.withPending q).pending = q := rfl
@[simp] theorem State.withPending_withPending (s : State) (p q : List Instr) : (s.withPending p).withPending q = s.withPending q := rfl
/-- A command answers a next state, and the queue stands as it was. -/
theorem State.act_next (s : State) (f : State → State) : ∃ t, s.act f = .next t ∧ t.pending = s.pending := ⟨_, rfl, rfl⟩
/-- A call that the Guide carries out answers what its body makes of the state in which it begins. -/
theorem begun_call {c : Instr} {s t : State} {svc : Nat} {k : Call} {f : State → State} (h : exec c s = s.actCall svc k f)
   (hc : Called s svc k) (hf : f (s.begun svc k) = t) : Answers c s t := by
  obtain ⟨h1, h0, h2, h3⟩ := hc
  unfold Answers; rw [h, ← hf]
  have hn : (16 ≤ k.mbx.toNat && !k.jtag && decide (k.replyMbx.toNat < 16)) = false := by
    rcases h2 with h2 | h2 | h2
    · have : ¬ 16 ≤ k.mbx.toNat := by omega
      simp [this]
    · simp [h2]
    · have : ¬ k.replyMbx.toNat < 16 := by omega
      simp [this]
  have hs : s.serve svc k f = f (s.begun svc k) := by
    unfold State.serve
    rw [h0]
    show (if (16 ≤ k.mbx.toNat && !k.jtag && decide (k.replyMbx.toNat < 16)) = true then s.begun svc k else
      match (s.begun svc k).callRefusal svc k with | some r => (s.begun svc k).answerCall svc k r 0 [] | none => f (s.begun svc k)) = _
    rw [hn, h3]; rfl
  simp only [State.actCall, State.actLive, State.actWhen, State.act, h1, if_true, hs]

/-- A register write that is accepted answers the state in which the write is applied. -/
theorem Accepted.answers {c : Instr} {s : State} {r : ReqId} {a : Nat} {v : Word} (h : exec c s = s.actWrite r a v) (ha : a % 4 = 0)
   (hc : Accepted s r a v) : Answers c s (s.applyWrite a r.toNat v false) := by
  obtain ⟨h1, h2, h3⟩ := hc
  unfold Answers; rw [h]
  have e : a / 4 * 4 = a := by omega
  have n : (regSpec a).isNone = false := by cases hh : regSpec a <;> simp_all
  simp [State.actWrite, State.act, State.localWrite, h1, State.writeReg, e, ha, n]
  simp [h3]
/-- Only the words of the LOOP:STATE window stand in a context; every other register is its own value. -/
theorem State.stored_reg (s : State) (a : Nat) (h : a / 0x1000 ≠ 0x300) : s.stored a = s.reg a := by
  unfold State.stored State.stateWord aLOOP pg
  rw [if_neg (by omega)]

theorem Accepted.stored {c : Instr} {s : State} {r : ReqId} {a : Nat} {v : Word} (h : exec c s = s.actWrite r a v) (ha : a % 4 = 0)
   (hp : a % 0x1000 ≠ 4) (hc : Accepted s r a v) : Answers c s ((s.storeWrite a v false).blockWritten a r.toNat (s.stored a) v false) := by
  have := hc.answers h ha
  have n : (regSpec a).isNone = false := by obtain ⟨_, h2, _⟩ := hc; cases hh : regSpec a <;> simp_all
  simpa [State.applyWrite, n, hp] using this
theorem Accepted.ctl {c : Instr} {s : State} {r : ReqId} {p : Nat} {v : Word} (h : exec c s = s.actWrite r (pg p 4) v) 
   (hc : Accepted s r (pg p 4) v) : Answers c s (s.writeCtl p v false) := by
  have ha : pg p 4 % 4 = 0 := by unfold pg; omega
  have hp : pg p 4 % 0x1000 = 4 := by unfold pg; omega
  have hd : pg p 4 / 0x1000 = p := by unfold pg; omega
  have := hc.answers h ha
  have n : (regSpec (pg p 4)).isNone = false := by obtain ⟨_, h2, _⟩ := hc; cases hh : regSpec (pg p 4) <;> simp_all
  simpa [State.applyWrite, n, hp, hd] using this

/-- The packet that comes next and agrees with its command acts with its plain body; one whose tag fails ends the load with TAG. -/
theorem PacketNext.take {s : State} {l : Load} {h : BitVec 64} {op len : Nat} {d : List Byte} (hn : PacketNext s l h op len d)
    (reg : Option Nat) (hr : reg.any (fun r => pktReg h != r) = false) (h2 : op = 2 → pktReg h = 1 ∨ pktReg h = 2)
    (agrees : Load → List Byte → Option (List Byte) → Bool) (ha : agrees l d (l.opened d) = true) (write : Load → List Byte → State → State) :
    s.takePacket h op reg agrees write = match l.opened d with
      | none => (s.afterPacket l len).failLoad l ccTAG (pktFa h)
      | some b => (s.afterPacket l len).packetActs l h d b (write l b) := by
  obtain ⟨_, hl, hp, hw, hop, hpl, hlen, hpos, hsrc, hhd, hget⟩ := hn
  have e0 : ¬ (l.phase ≠ .stream ∨ (l.image.src = 3 ∧ s.dramWaits = true)) := by
    rintro (a | ⟨a, b⟩)
    · exact a hp
    · rw [hw a] at b; cases b
  have e1 : ¬ l.image.streamLen < l.pos + 24 := by omega
  have e2 : l.headFault h = 0 := by
    unfold Load.headFault
    rw [hop, hpl]
    have n2 : ¬ ((op = 2 ∧ pktReg h ≠ 1 ∧ pktReg h ≠ 2) ∨ pktLen h ≠ len) := by
      rintro (⟨a, b, c⟩ | a)
      · rcases h2 a with d | d <;> contradiction
      · exact a hlen
    have n3 : ¬ l.image.streamLen < l.pos + 24 + len := by omega
    simp only [if_neg n2, if_neg n3]
  have e3 : ¬ (l.image.src ≠ 3 ∧ s.rangeOpen l.at_ 8 = true) := by
    rintro ⟨a, b⟩; rcases hsrc with d | d
    · contradiction
    · rw [b] at d; cases d.1
  have e4 : ¬ (l.image.src ≠ 3 ∧ s.rangeOpen l.at_ (24 + len) = true) := by
    rintro ⟨a, b⟩; rcases hsrc with d | d
    · contradiction
    · rw [b] at d; cases d.2
  obtain ⟨hd, hh1, hh2⟩ := Option.map_eq_some_iff.mp hhd
  unfold State.takePacket State.afterPacket
  rw [hl]
  simp only [if_neg e0, if_neg e1, if_neg e3, hh1, hh2, e2, hop, hr, hlen, if_neg e4, hget, ha, ne_eq, not_true_eq_false, if_false, Bool.not_true,
    Bool.false_eq_true, false_or] <;> cases l.opened d <;> rfl

end Sys2Proof.Machine
end

