-- ==== Sys2Proof/Laws/Stores.lean ====
section
/-! SUPPORT. Laws of the sparse stores: read after write, and the canonical form kept by every operation on them. -/

namespace Sys2Proof.Machine

variable {α : Type}

theorem SMap.get_erase (d : Nat → α) (m : SMap α) (k j : Nat) :
    SMap.get d (SMap.erase m k) j = if j = k then d j else SMap.get d m j := by
  induction m with
  | nil => simp [SMap.erase, SMap.get]
  | cons e t ih =>
    obtain ⟨i, v⟩ := e
    by_cases h : i = k
    · subst h
      by_cases hj : j = i
      · subst hj; simp [SMap.erase, ih]
      · simp [SMap.erase, SMap.get, ih, hj, Ne.symm hj]
    · by_cases hj : i = j
      · subst hj; simp [SMap.erase, SMap.get, h]
      · simp [SMap.erase, SMap.get, h, hj, ih]

theorem SMap.get_insert (d : Nat → α) (m : SMap α) (k j : Nat) (v : α) :
    SMap.get d (SMap.insert m k v) j = if j = k then v else SMap.get d m j := by
  induction m with
  | nil => by_cases h : k = j <;> simp [SMap.insert, SMap.get, h, eq_comm]
  | cons e t ih =>
    obtain ⟨i, w⟩ := e
    simp only [SMap.insert]
    split
    · by_cases h : k = j
      · simp [SMap.get, h]
      · simp [SMap.get, h, Ne.symm h]
    · split
      · rename_i h
        subst h
        by_cases hj : i = j
        · simp [SMap.get, hj]
        · simp [SMap.get, hj, Ne.symm hj]
      · rename_i h
        by_cases hj : i = j
        · subst hj; simp [SMap.get, h]
        · simp [SMap.get, hj, ih]

/-- A read after a write to the same key gives the value written; a write leaves every other key alone. -/
theorem SMap.get_set [DecidableEq α] (d : Nat → α) (m : SMap α) (k j : Nat) (v : α) :
    SMap.get d (SMap.set d m k v) j = if j = k then v else SMap.get d m j := by
  unfold SMap.set
  split
  · rename_i h
    rw [SMap.get_erase]
    by_cases hj : j = k <;> simp [hj, h]
  · exact SMap.get_insert d m k j v

theorem SMap.above_erase (m : SMap α) (k n : Nat) (h : SMap.above m n = true) : SMap.above (SMap.erase m k) n = true := by
  induction m with
  | nil => rfl
  | cons e t ih =>
    obtain ⟨i, v⟩ := e
    simp only [SMap.above, List.all_cons, Bool.and_eq_true, decide_eq_true_eq] at h
    simp only [SMap.erase]
    split
    · exact ih (by simpa [SMap.above] using h.2)
    · simp only [SMap.above, List.all_cons, Bool.and_eq_true, decide_eq_true_eq]
      exact ⟨h.1, by simpa [SMap.above] using ih (by simpa [SMap.above] using h.2)⟩

theorem SMap.above_insert (m : SMap α) (k n : Nat) (v : α) (h : SMap.above m n = true) (hk : n < k) :
    SMap.above (SMap.insert m k v) n = true := by
  induction m with
  | nil => simp [SMap.insert, SMap.above, hk]
  | cons e t ih =>
    obtain ⟨i, w⟩ := e
    simp only [SMap.above, List.all_cons, Bool.and_eq_true, decide_eq_true_eq] at h
    simp only [SMap.insert]
    split
    · simp [SMap.above, hk, h.1] ; simpa [SMap.above] using h.2
    · split
      · simp [SMap.above, hk]; simpa [SMap.above] using h.2
      · simp only [SMap.above, List.all_cons, Bool.and_eq_true, decide_eq_true_eq]
        exact ⟨h.1, by simpa [SMap.above] using ih (by simpa [SMap.above] using h.2)⟩

theorem SMap.above_mono (m : SMap α) (j k : Nat) (h : SMap.above m k = true) (hj : j ≤ k) : SMap.above m j = true := by
  simp only [SMap.above, List.all_eq_true, decide_eq_true_eq] at *
  intro e he
  exact Nat.lt_of_le_of_lt hj (h e he)

theorem SMap.wf_erase [DecidableEq α] (d : Nat → α) (m : SMap α) (k : Nat) (h : SMap.wf d m = true) :
    SMap.wf d (SMap.erase m k) = true := by
  induction m with
  | nil => rfl
  | cons e t ih =>
    obtain ⟨i, v⟩ := e
    simp only [SMap.wf, Bool.and_eq_true] at h
    simp only [SMap.erase]
    split
    · exact ih h.2
    · simp only [SMap.wf, Bool.and_eq_true]
      exact ⟨⟨SMap.above_erase t k i h.1.1, h.1.2⟩, ih h.2⟩

theorem SMap.wf_insert [DecidableEq α] (d : Nat → α) (m : SMap α) (k : Nat) (v : α) (h : SMap.wf d m = true) (hv : v ≠ d k) :
    SMap.wf d (SMap.insert m k v) = true := by
  induction m with
  | nil => simp [SMap.insert, SMap.wf, SMap.above, hv]
  | cons e t ih =>
    obtain ⟨i, w⟩ := e
    have h0 := h
    simp only [SMap.wf, Bool.and_eq_true] at h
    simp only [SMap.insert]
    split
    · rename_i hk
      simp only [SMap.wf, Bool.and_eq_true, decide_eq_true_eq]
      refine ⟨⟨?_, hv⟩, ⟨⟨h.1.1, by simpa using h.1.2⟩, h.2⟩⟩
      simp only [SMap.above, List.all_cons, Bool.and_eq_true, decide_eq_true_eq]
      exact ⟨hk, by simpa [SMap.above] using SMap.above_mono t k i h.1.1 (Nat.le_of_lt hk)⟩
    · split
      · rename_i hk
        subst hk
        simp only [SMap.wf, Bool.and_eq_true, decide_eq_true_eq]
        exact ⟨⟨h.1.1, hv⟩, h.2⟩
      · simp only [SMap.wf, Bool.and_eq_true]
        exact ⟨⟨SMap.above_insert t k i v h.1.1 (by omega), h.1.2⟩, ih h.2⟩

/-- A write keeps the canonical form. -/
theorem SMap.wf_set [DecidableEq α] (d : Nat → α) (m : SMap α) (k : Nat) (v : α) (h : SMap.wf d m = true) :
    SMap.wf d (SMap.set d m k v) = true := by
  unfold SMap.set
  split
  · exact SMap.wf_erase d m k h
  · rename_i hv
    exact SMap.wf_insert d m k v h hv

end Sys2Proof.Machine
end

