-- ==== Sys2Proof/Laws/Regs.lean ====
section
/-! SUPPORT. Laws of bit fields and of the register file: a read after a write, and what a write leaves alone. -/

namespace Sys2Proof.Machine

/-! ### Bits and fields of a word -/

theorem bit_setFld (w : Word) (hi lo v j : Nat) (hj : j < 32) :
    bit (setFld w hi lo v) j = if lo ≤ j ∧ j < lo + (hi - lo + 1) then v.testBit (j - lo) else bit w j := by
  simp only [bit, setFld, BitVec.getLsbD_or, BitVec.getLsbD_and, BitVec.getLsbD_not, BitVec.getLsbD_ofNat, hj, decide_true,
    Bool.true_and, Nat.testBit_shiftLeft, Nat.testBit_two_pow_sub_one, Nat.testBit_mod_two_pow]
  by_cases h1 : lo ≤ j
  · by_cases h2 : j < lo + (hi - lo + 1)
    · have h3 : j - lo < hi - lo + 1 := by omega
      simp [h1, h2, h3]
    · have h3 : ¬ j - lo < hi - lo + 1 := by omega
      simp [h1, h2, h3]
  · simp [h1]

/-- The bit written reads back; every other bit is as it was. -/
theorem bit_setBit (w : Word) (i j : Nat) (b : Bool) (hj : j < 32) : bit (setBit w i b) j = if j = i then b else bit w j := by
  rw [setBit, bit_setFld w i i b.toNat j hj]
  by_cases h : j = i
  · subst h; cases b <;> simp
  · rw [if_neg (by omega), if_neg h]

theorem bit_setBit_same (w : Word) (i : Nat) (b : Bool) (h : i < 32) : bit (setBit w i b) i = b := by simp [bit_setBit, h]

theorem fld_testBit (w : Word) (hi lo k : Nat) : (fld w hi lo).testBit k = (decide (k < hi - lo + 1) && bit w (lo + k)) := by
  simp [fld, bit, BitVec.getLsbD, Nat.testBit_mod_two_pow, Nat.testBit_shiftRight]

theorem fld_lt (w : Word) (hi lo : Nat) : fld w hi lo < 2 ^ (hi - lo + 1) := Nat.mod_lt _ (Nat.two_pow_pos _)

/-- The field written reads back. -/
theorem fld_setFld (w : Word) (hi lo v : Nat) (h : hi < 32) (hl : lo ≤ hi) : fld (setFld w hi lo v) hi lo = v % 2 ^ (hi - lo + 1) := by
  apply Nat.eq_of_testBit_eq
  intro k
  rw [fld_testBit, Nat.testBit_mod_two_pow]
  by_cases hk : k < hi - lo + 1
  · rw [bit_setFld _ _ _ _ _ (by omega), if_pos (by omega)]
    simp
  · simp [hk]

/-- A field that shares no bit with the one written is as it was. -/
theorem fld_setFld_ne (w : Word) (hi lo v hi' lo' : Nat) (h : hi' < 32) (hl : lo ≤ hi) (hl' : lo' ≤ hi') (hd : hi < lo' ∨ hi' < lo) :
    fld (setFld w hi lo v) hi' lo' = fld w hi' lo' := by
  apply Nat.eq_of_testBit_eq
  intro k
  rw [fld_testBit, fld_testBit]
  by_cases hk : k < hi' - lo' + 1
  · rw [bit_setFld _ _ _ _ _ (by omega), if_neg (by omega)]
  · simp [hk]

/-- A field outside the bit written is as it was. -/
theorem fld_setBit_ne (w : Word) (i hi lo : Nat) (b : Bool) (h : hi < 32) (hl : lo ≤ hi) (hd : i < lo ∨ hi < i) :
    fld (setBit w i b) hi lo = fld w hi lo := fld_setFld_ne w i i _ hi lo h (Nat.le_refl i) hl hd

/-! ### The register file -/

theorem State.reg_setReg (s : State) (a b : Nat) (v : Word) : (s.setReg a v).reg b = if b = a then v else s.reg b :=
  SMap.get_set regReset s.regs.act a b v

@[simp] theorem State.reg_setReg_same (s : State) (a : Nat) (v : Word) : (s.setReg a v).reg a = v := by simp [State.reg_setReg]

theorem State.reg_setReg_ne (s : State) (a b : Nat) (v : Word) (h : b ≠ a) : (s.setReg a v).reg b = s.reg b := by
  simp [State.reg_setReg, h]

@[simp] theorem State.reg_setShadow (s : State) (a b : Nat) (v : Word) : (s.setShadow a v).reg b = s.reg b := rfl

@[simp] theorem State.shadow_setReg (s : State) (a b : Nat) (v : Word) : (s.setReg a v).shadow b = s.shadow b := rfl

theorem State.shadow_setShadow (s : State) (a b : Nat) (v : Word) : (s.setShadow a v).shadow b = if b = a then v else s.shadow b :=
  SMap.get_set regReset s.regs.shd a b v

theorem State.reg_setB (s : State) (a i c : Nat) (b : Bool) :
    (s.setB a i b).reg c = if c = a then setBit (s.reg a) i b else s.reg c := State.reg_setReg s a c _

theorem State.reg_setF (s : State) (a hi lo v c : Nat) :
    (s.setF a hi lo v).reg c = if c = a then setFld (s.reg a) hi lo v else s.reg c := State.reg_setReg s a c _

@[simp] theorem State.shadow_setB (s : State) (a i c : Nat) (b : Bool) : (s.setB a i b).shadow c = s.shadow c := rfl

@[simp] theorem State.shadow_setF (s : State) (a hi lo v c : Nat) : (s.setF a hi lo v).shadow c = s.shadow c := rfl

theorem State.rb_setB_same (s : State) (a i : Nat) (b : Bool) (h : i < 32) : (s.setB a i b).rb a i = b := by
  simp [State.rb, State.reg_setB, bit_setBit_same, h]

theorem State.rb_setB_ne (s : State) (a i c j : Nat) (b : Bool) (hj : j < 32) (h : c ≠ a ∨ j ≠ i) :
    (s.setB a i b).rb c j = s.rb c j := by
  simp only [State.rb, State.reg_setB]
  by_cases hc : c = a
  · subst hc
    have : j ≠ i := by simpa using h
    simp [bit_setBit, hj, this]
  · simp [hc]

theorem State.rf_setF_same (s : State) (a hi lo v : Nat) (h : hi < 32) (hl : lo ≤ hi) :
    (s.setF a hi lo v).rf a hi lo = v % 2 ^ (hi - lo + 1) := by
  simp [State.rf, State.reg_setF, fld_setFld, h, hl]

theorem State.rf_lt (s : State) (a hi lo : Nat) : s.rf a hi lo < 2 ^ (hi - lo + 1) := fld_lt _ _ _

/-! ### The canonical form of the register file -/

/-- The register file keeps its canonical form under a write of the live or active copy. -/
theorem State.setReg_wf (s : State) (a : Nat) (v : Word) (h : SMap.wf regReset s.regs.act = true) :
    SMap.wf regReset (s.setReg a v).regs.act = true := SMap.wf_set regReset _ a v h

/-- The same of the shadow copy. -/
theorem State.setShadow_wf (s : State) (a : Nat) (v : Word) (h : SMap.wf regReset s.regs.shd = true) :
    SMap.wf regReset (s.setShadow a v).regs.shd = true := SMap.wf_set regReset _ a v h

end Sys2Proof.Machine
end

