-- ==== Sys2Proof/Laws/State.lean ====
section
/-! SUPPORT. What each update of one part of the state leaves alone: one lemma a part and update, true by rfl. -/

namespace Sys2Proof.Machine

/-! ### State.withPending -/

@[simp] theorem State.withPending_freeIx (s : State) (q : List Instr) : (State.withPending s q).freeIx = s.freeIx := rfl
@[simp] theorem State.withPending_regs (s : State) (q : List Instr) : (State.withPending s q).regs = s.regs := rfl
@[simp] theorem State.withPending_lastRead (s : State) (q : List Instr) : (State.withPending s q).lastRead = s.lastRead := rfl
@[simp] theorem State.withPending_evt (s : State) (q : List Instr) : (State.withPending s q).evt = s.evt := rfl
@[simp] theorem State.withPending_mbx (s : State) (q : List Instr) : (State.withPending s q).mbx = s.mbx := rfl
@[simp] theorem State.withPending_mbSeq (s : State) (q : List Instr) : (State.withPending s q).mbSeq = s.mbSeq := rfl
@[simp] theorem State.withPending_host (s : State) (q : List Instr) : (State.withPending s q).host = s.host := rfl
@[simp] theorem State.withPending_cadenceStep (s : State) (q : List Instr) : (State.withPending s q).cadenceStep = s.cadenceStep := rfl
@[simp] theorem State.withPending_time (s : State) (q : List Instr) : (State.withPending s q).time = s.time := rfl
@[simp] theorem State.withPending_edge (s : State) (q : List Instr) : (State.withPending s q).edge = s.edge := rfl
@[simp] theorem State.withPending_cal (s : State) (q : List Instr) : (State.withPending s q).cal = s.cal := rfl
@[simp] theorem State.withPending_sdf (s : State) (q : List Instr) : (State.withPending s q).sdf = s.sdf := rfl
@[simp] theorem State.withPending_loop (s : State) (q : List Instr) : (State.withPending s q).loop = s.loop := rfl
@[simp] theorem State.withPending_dramMem (s : State) (q : List Instr) : (State.withPending s q).dramMem = s.dramMem := rfl
@[simp] theorem State.withPending_pub (s : State) (q : List Instr) : (State.withPending s q).pub = s.pub := rfl
@[simp] theorem State.withPending_fabric (s : State) (q : List Instr) : (State.withPending s q).fabric = s.fabric := rfl
@[simp] theorem State.withPending_pins (s : State) (q : List Instr) : (State.withPending s q).pins = s.pins := rfl
@[simp] theorem State.withPending_power (s : State) (q : List Instr) : (State.withPending s q).power = s.power := rfl
@[simp] theorem State.withPending_dram (s : State) (q : List Instr) : (State.withPending s q).dram = s.dram := rfl
@[simp] theorem State.withPending_cfg (s : State) (q : List Instr) : (State.withPending s q).cfg = s.cfg := rfl
@[simp] theorem State.withPending_flash (s : State) (q : List Instr) : (State.withPending s q).flash = s.flash := rfl
@[simp] theorem State.withPending_otp (s : State) (q : List Instr) : (State.withPending s q).otp = s.otp := rfl
@[simp] theorem State.withPending_settings (s : State) (q : List Instr) : (State.withPending s q).settings = s.settings := rfl
@[simp] theorem State.withPending_bist (s : State) (q : List Instr) : (State.withPending s q).bist = s.bist := rfl
@[simp] theorem State.withPending_debug (s : State) (q : List Instr) : (State.withPending s q).debug = s.debug := rfl
@[simp] theorem State.withPending_otpOpen (s : State) (q : List Instr) : (State.withPending s q).otpOpen = s.otpOpen := rfl
@[simp] theorem State.withPending_heart (s : State) (q : List Instr) : (State.withPending s q).heart = s.heart := rfl
@[simp] theorem State.withPending_rope (s : State) (q : List Instr) : (State.withPending s q).rope = s.rope := rfl
@[simp] theorem State.withPending_lastUr (s : State) (q : List Instr) : (State.withPending s q).lastUr = s.lastUr := rfl
@[simp] theorem State.withPending_guide (s : State) (q : List Instr) : (State.withPending s q).guide = s.guide := rfl

/-! ### State.setReg -/

@[simp] theorem State.setReg_pending (s : State) (a : Nat) (v : Word) : (State.setReg s a v).pending = s.pending := rfl
@[simp] theorem State.setReg_freeIx (s : State) (a : Nat) (v : Word) : (State.setReg s a v).freeIx = s.freeIx := rfl
@[simp] theorem State.setReg_lastRead (s : State) (a : Nat) (v : Word) : (State.setReg s a v).lastRead = s.lastRead := rfl
@[simp] theorem State.setReg_evt (s : State) (a : Nat) (v : Word) : (State.setReg s a v).evt = s.evt := rfl
@[simp] theorem State.setReg_mbx (s : State) (a : Nat) (v : Word) : (State.setReg s a v).mbx = s.mbx := rfl
@[simp] theorem State.setReg_mbSeq (s : State) (a : Nat) (v : Word) : (State.setReg s a v).mbSeq = s.mbSeq := rfl
@[simp] theorem State.setReg_host (s : State) (a : Nat) (v : Word) : (State.setReg s a v).host = s.host := rfl
@[simp] theorem State.setReg_cadenceStep (s : State) (a : Nat) (v : Word) : (State.setReg s a v).cadenceStep = s.cadenceStep := rfl
@[simp] theorem State.setReg_time (s : State) (a : Nat) (v : Word) : (State.setReg s a v).time = s.time := rfl
@[simp] theorem State.setReg_edge (s : State) (a : Nat) (v : Word) : (State.setReg s a v).edge = s.edge := rfl
@[simp] theorem State.setReg_cal (s : State) (a : Nat) (v : Word) : (State.setReg s a v).cal = s.cal := rfl
@[simp] theorem State.setReg_sdf (s : State) (a : Nat) (v : Word) : (State.setReg s a v).sdf = s.sdf := rfl
@[simp] theorem State.setReg_loop (s : State) (a : Nat) (v : Word) : (State.setReg s a v).loop = s.loop := rfl
@[simp] theorem State.setReg_dramMem (s : State) (a : Nat) (v : Word) : (State.setReg s a v).dramMem = s.dramMem := rfl
@[simp] theorem State.setReg_pub (s : State) (a : Nat) (v : Word) : (State.setReg s a v).pub = s.pub := rfl
@[simp] theorem State.setReg_fabric (s : State) (a : Nat) (v : Word) : (State.setReg s a v).fabric = s.fabric := rfl
@[simp] theorem State.setReg_pins (s : State) (a : Nat) (v : Word) : (State.setReg s a v).pins = s.pins := rfl
@[simp] theorem State.setReg_power (s : State) (a : Nat) (v : Word) : (State.setReg s a v).power = s.power := rfl
@[simp] theorem State.setReg_dram (s : State) (a : Nat) (v : Word) : (State.setReg s a v).dram = s.dram := rfl
@[simp] theorem State.setReg_cfg (s : State) (a : Nat) (v : Word) : (State.setReg s a v).cfg = s.cfg := rfl
@[simp] theorem State.setReg_flash (s : State) (a : Nat) (v : Word) : (State.setReg s a v).flash = s.flash := rfl
@[simp] theorem State.setReg_otp (s : State) (a : Nat) (v : Word) : (State.setReg s a v).otp = s.otp := rfl
@[simp] theorem State.setReg_settings (s : State) (a : Nat) (v : Word) : (State.setReg s a v).settings = s.settings := rfl
@[simp] theorem State.setReg_bist (s : State) (a : Nat) (v : Word) : (State.setReg s a v).bist = s.bist := rfl
@[simp] theorem State.setReg_debug (s : State) (a : Nat) (v : Word) : (State.setReg s a v).debug = s.debug := rfl
@[simp] theorem State.setReg_otpOpen (s : State) (a : Nat) (v : Word) : (State.setReg s a v).otpOpen = s.otpOpen := rfl
@[simp] theorem State.setReg_heart (s : State) (a : Nat) (v : Word) : (State.setReg s a v).heart = s.heart := rfl
@[simp] theorem State.setReg_rope (s : State) (a : Nat) (v : Word) : (State.setReg s a v).rope = s.rope := rfl
@[simp] theorem State.setReg_lastUr (s : State) (a : Nat) (v : Word) : (State.setReg s a v).lastUr = s.lastUr := rfl
@[simp] theorem State.setReg_guide (s : State) (a : Nat) (v : Word) : (State.setReg s a v).guide = s.guide := rfl

/-! ### State.setShadow -/

@[simp] theorem State.setShadow_pending (s : State) (a : Nat) (v : Word) : (State.setShadow s a v).pending = s.pending := rfl
@[simp] theorem State.setShadow_freeIx (s : State) (a : Nat) (v : Word) : (State.setShadow s a v).freeIx = s.freeIx := rfl
@[simp] theorem State.setShadow_lastRead (s : State) (a : Nat) (v : Word) : (State.setShadow s a v).lastRead = s.lastRead := rfl
@[simp] theorem State.setShadow_evt (s : State) (a : Nat) (v : Word) : (State.setShadow s a v).evt = s.evt := rfl
@[simp] theorem State.setShadow_mbx (s : State) (a : Nat) (v : Word) : (State.setShadow s a v).mbx = s.mbx := rfl
@[simp] theorem State.setShadow_mbSeq (s : State) (a : Nat) (v : Word) : (State.setShadow s a v).mbSeq = s.mbSeq := rfl
@[simp] theorem State.setShadow_host (s : State) (a : Nat) (v : Word) : (State.setShadow s a v).host = s.host := rfl
@[simp] theorem State.setShadow_cadenceStep (s : State) (a : Nat) (v : Word) : (State.setShadow s a v).cadenceStep = s.cadenceStep := rfl
@[simp] theorem State.setShadow_time (s : State) (a : Nat) (v : Word) : (State.setShadow s a v).time = s.time := rfl
@[simp] theorem State.setShadow_edge (s : State) (a : Nat) (v : Word) : (State.setShadow s a v).edge = s.edge := rfl
@[simp] theorem State.setShadow_cal (s : State) (a : Nat) (v : Word) : (State.setShadow s a v).cal = s.cal := rfl
@[simp] theorem State.setShadow_sdf (s : State) (a : Nat) (v : Word) : (State.setShadow s a v).sdf = s.sdf := rfl
@[simp] theorem State.setShadow_loop (s : State) (a : Nat) (v : Word) : (State.setShadow s a v).loop = s.loop := rfl
@[simp] theorem State.setShadow_dramMem (s : State) (a : Nat) (v : Word) : (State.setShadow s a v).dramMem = s.dramMem := rfl
@[simp] theorem State.setShadow_pub (s : State) (a : Nat) (v : Word) : (State.setShadow s a v).pub = s.pub := rfl
@[simp] theorem State.setShadow_fabric (s : State) (a : Nat) (v : Word) : (State.setShadow s a v).fabric = s.fabric := rfl
@[simp] theorem State.setShadow_pins (s : State) (a : Nat) (v : Word) : (State.setShadow s a v).pins = s.pins := rfl
@[simp] theorem State.setShadow_power (s : State) (a : Nat) (v : Word) : (State.setShadow s a v).power = s.power := rfl
@[simp] theorem State.setShadow_dram (s : State) (a : Nat) (v : Word) : (State.setShadow s a v).dram = s.dram := rfl
@[simp] theorem State.setShadow_cfg (s : State) (a : Nat) (v : Word) : (State.setShadow s a v).cfg = s.cfg := rfl
@[simp] theorem State.setShadow_flash (s : State) (a : Nat) (v : Word) : (State.setShadow s a v).flash = s.flash := rfl
@[simp] theorem State.setShadow_otp (s : State) (a : Nat) (v : Word) : (State.setShadow s a v).otp = s.otp := rfl
@[simp] theorem State.setShadow_settings (s : State) (a : Nat) (v : Word) : (State.setShadow s a v).settings = s.settings := rfl
@[simp] theorem State.setShadow_bist (s : State) (a : Nat) (v : Word) : (State.setShadow s a v).bist = s.bist := rfl
@[simp] theorem State.setShadow_debug (s : State) (a : Nat) (v : Word) : (State.setShadow s a v).debug = s.debug := rfl
@[simp] theorem State.setShadow_otpOpen (s : State) (a : Nat) (v : Word) : (State.setShadow s a v).otpOpen = s.otpOpen := rfl
@[simp] theorem State.setShadow_heart (s : State) (a : Nat) (v : Word) : (State.setShadow s a v).heart = s.heart := rfl
@[simp] theorem State.setShadow_rope (s : State) (a : Nat) (v : Word) : (State.setShadow s a v).rope = s.rope := rfl
@[simp] theorem State.setShadow_lastUr (s : State) (a : Nat) (v : Word) : (State.setShadow s a v).lastUr = s.lastUr := rfl
@[simp] theorem State.setShadow_guide (s : State) (a : Nat) (v : Word) : (State.setShadow s a v).guide = s.guide := rfl

/-! ### State.clearUndefined -/

@[simp] theorem State.clearUndefined_pending (s : State) (c p ch : Nat) : (State.clearUndefined s c p ch).pending = s.pending := rfl
@[simp] theorem State.clearUndefined_freeIx (s : State) (c p ch : Nat) : (State.clearUndefined s c p ch).freeIx = s.freeIx := rfl
@[simp] theorem State.clearUndefined_lastRead (s : State) (c p ch : Nat) : (State.clearUndefined s c p ch).lastRead = s.lastRead := rfl
@[simp] theorem State.clearUndefined_evt (s : State) (c p ch : Nat) : (State.clearUndefined s c p ch).evt = s.evt := rfl
@[simp] theorem State.clearUndefined_mbx (s : State) (c p ch : Nat) : (State.clearUndefined s c p ch).mbx = s.mbx := rfl
@[simp] theorem State.clearUndefined_mbSeq (s : State) (c p ch : Nat) : (State.clearUndefined s c p ch).mbSeq = s.mbSeq := rfl
@[simp] theorem State.clearUndefined_host (s : State) (c p ch : Nat) : (State.clearUndefined s c p ch).host = s.host := rfl
@[simp] theorem State.clearUndefined_cadenceStep (s : State) (c p ch : Nat) : (State.clearUndefined s c p ch).cadenceStep = s.cadenceStep := rfl
@[simp] theorem State.clearUndefined_time (s : State) (c p ch : Nat) : (State.clearUndefined s c p ch).time = s.time := rfl
@[simp] theorem State.clearUndefined_edge (s : State) (c p ch : Nat) : (State.clearUndefined s c p ch).edge = s.edge := rfl
@[simp] theorem State.clearUndefined_cal (s : State) (c p ch : Nat) : (State.clearUndefined s c p ch).cal = s.cal := rfl
@[simp] theorem State.clearUndefined_sdf (s : State) (c p ch : Nat) : (State.clearUndefined s c p ch).sdf = s.sdf := rfl
@[simp] theorem State.clearUndefined_loop (s : State) (c p ch : Nat) : (State.clearUndefined s c p ch).loop = s.loop := rfl
@[simp] theorem State.clearUndefined_dramMem (s : State) (c p ch : Nat) : (State.clearUndefined s c p ch).dramMem = s.dramMem := rfl
@[simp] theorem State.clearUndefined_pub (s : State) (c p ch : Nat) : (State.clearUndefined s c p ch).pub = s.pub := rfl
@[simp] theorem State.clearUndefined_fabric (s : State) (c p ch : Nat) : (State.clearUndefined s c p ch).fabric = s.fabric := rfl
@[simp] theorem State.clearUndefined_pins (s : State) (c p ch : Nat) : (State.clearUndefined s c p ch).pins = s.pins := rfl
@[simp] theorem State.clearUndefined_power (s : State) (c p ch : Nat) : (State.clearUndefined s c p ch).power = s.power := rfl
@[simp] theorem State.clearUndefined_dram (s : State) (c p ch : Nat) : (State.clearUndefined s c p ch).dram = s.dram := rfl
@[simp] theorem State.clearUndefined_cfg (s : State) (c p ch : Nat) : (State.clearUndefined s c p ch).cfg = s.cfg := rfl
@[simp] theorem State.clearUndefined_flash (s : State) (c p ch : Nat) : (State.clearUndefined s c p ch).flash = s.flash := rfl
@[simp] theorem State.clearUndefined_otp (s : State) (c p ch : Nat) : (State.clearUndefined s c p ch).otp = s.otp := rfl
@[simp] theorem State.clearUndefined_settings (s : State) (c p ch : Nat) : (State.clearUndefined s c p ch).settings = s.settings := rfl
@[simp] theorem State.clearUndefined_bist (s : State) (c p ch : Nat) : (State.clearUndefined s c p ch).bist = s.bist := rfl
@[simp] theorem State.clearUndefined_debug (s : State) (c p ch : Nat) : (State.clearUndefined s c p ch).debug = s.debug := rfl
@[simp] theorem State.clearUndefined_otpOpen (s : State) (c p ch : Nat) : (State.clearUndefined s c p ch).otpOpen = s.otpOpen := rfl
@[simp] theorem State.clearUndefined_heart (s : State) (c p ch : Nat) : (State.clearUndefined s c p ch).heart = s.heart := rfl
@[simp] theorem State.clearUndefined_rope (s : State) (c p ch : Nat) : (State.clearUndefined s c p ch).rope = s.rope := rfl
@[simp] theorem State.clearUndefined_lastUr (s : State) (c p ch : Nat) : (State.clearUndefined s c p ch).lastUr = s.lastUr := rfl
@[simp] theorem State.clearUndefined_guide (s : State) (c p ch : Nat) : (State.clearUndefined s c p ch).guide = s.guide := rfl

/-! ### State.sendHost -/

@[simp] theorem State.sendHost_pending (s : State) (m : HostTlp) : (State.sendHost s m).pending = s.pending := rfl
@[simp] theorem State.sendHost_freeIx (s : State) (m : HostTlp) : (State.sendHost s m).freeIx = s.freeIx := rfl
@[simp] theorem State.sendHost_regs (s : State) (m : HostTlp) : (State.sendHost s m).regs = s.regs := rfl
@[simp] theorem State.sendHost_lastRead (s : State) (m : HostTlp) : (State.sendHost s m).lastRead = s.lastRead := rfl
@[simp] theorem State.sendHost_evt (s : State) (m : HostTlp) : (State.sendHost s m).evt = s.evt := rfl
@[simp] theorem State.sendHost_mbx (s : State) (m : HostTlp) : (State.sendHost s m).mbx = s.mbx := rfl
@[simp] theorem State.sendHost_mbSeq (s : State) (m : HostTlp) : (State.sendHost s m).mbSeq = s.mbSeq := rfl
@[simp] theorem State.sendHost_cadenceStep (s : State) (m : HostTlp) : (State.sendHost s m).cadenceStep = s.cadenceStep := rfl
@[simp] theorem State.sendHost_time (s : State) (m : HostTlp) : (State.sendHost s m).time = s.time := rfl
@[simp] theorem State.sendHost_edge (s : State) (m : HostTlp) : (State.sendHost s m).edge = s.edge := rfl
@[simp] theorem State.sendHost_cal (s : State) (m : HostTlp) : (State.sendHost s m).cal = s.cal := rfl
@[simp] theorem State.sendHost_sdf (s : State) (m : HostTlp) : (State.sendHost s m).sdf = s.sdf := rfl
@[simp] theorem State.sendHost_loop (s : State) (m : HostTlp) : (State.sendHost s m).loop = s.loop := rfl
@[simp] theorem State.sendHost_dramMem (s : State) (m : HostTlp) : (State.sendHost s m).dramMem = s.dramMem := rfl
@[simp] theorem State.sendHost_pub (s : State) (m : HostTlp) : (State.sendHost s m).pub = s.pub := rfl
@[simp] theorem State.sendHost_fabric (s : State) (m : HostTlp) : (State.sendHost s m).fabric = s.fabric := rfl
@[simp] theorem State.sendHost_pins (s : State) (m : HostTlp) : (State.sendHost s m).pins = s.pins := rfl
@[simp] theorem State.sendHost_power (s : State) (m : HostTlp) : (State.sendHost s m).power = s.power := rfl
@[simp] theorem State.sendHost_dram (s : State) (m : HostTlp) : (State.sendHost s m).dram = s.dram := rfl
@[simp] theorem State.sendHost_cfg (s : State) (m : HostTlp) : (State.sendHost s m).cfg = s.cfg := rfl
@[simp] theorem State.sendHost_flash (s : State) (m : HostTlp) : (State.sendHost s m).flash = s.flash := rfl
@[simp] theorem State.sendHost_otp (s : State) (m : HostTlp) : (State.sendHost s m).otp = s.otp := rfl
@[simp] theorem State.sendHost_settings (s : State) (m : HostTlp) : (State.sendHost s m).settings = s.settings := rfl
@[simp] theorem State.sendHost_bist (s : State) (m : HostTlp) : (State.sendHost s m).bist = s.bist := rfl
@[simp] theorem State.sendHost_debug (s : State) (m : HostTlp) : (State.sendHost s m).debug = s.debug := rfl
@[simp] theorem State.sendHost_otpOpen (s : State) (m : HostTlp) : (State.sendHost s m).otpOpen = s.otpOpen := rfl
@[simp] theorem State.sendHost_heart (s : State) (m : HostTlp) : (State.sendHost s m).heart = s.heart := rfl
@[simp] theorem State.sendHost_rope (s : State) (m : HostTlp) : (State.sendHost s m).rope = s.rope := rfl
@[simp] theorem State.sendHost_lastUr (s : State) (m : HostTlp) : (State.sendHost s m).lastUr = s.lastUr := rfl
@[simp] theorem State.sendHost_guide (s : State) (m : HostTlp) : (State.sendHost s m).guide = s.guide := rfl

/-! ### State.setEdge -/

@[simp] theorem State.setEdge_pending (s : State) (p : Nat) (u : EdgeUnit) : (State.setEdge s p u).pending = s.pending := rfl
@[simp] theorem State.setEdge_freeIx (s : State) (p : Nat) (u : EdgeUnit) : (State.setEdge s p u).freeIx = s.freeIx := rfl
@[simp] theorem State.setEdge_regs (s : State) (p : Nat) (u : EdgeUnit) : (State.setEdge s p u).regs = s.regs := rfl
@[simp] theorem State.setEdge_lastRead (s : State) (p : Nat) (u : EdgeUnit) : (State.setEdge s p u).lastRead = s.lastRead := rfl
@[simp] theorem State.setEdge_evt (s : State) (p : Nat) (u : EdgeUnit) : (State.setEdge s p u).evt = s.evt := rfl
@[simp] theorem State.setEdge_mbx (s : State) (p : Nat) (u : EdgeUnit) : (State.setEdge s p u).mbx = s.mbx := rfl
@[simp] theorem State.setEdge_mbSeq (s : State) (p : Nat) (u : EdgeUnit) : (State.setEdge s p u).mbSeq = s.mbSeq := rfl
@[simp] theorem State.setEdge_host (s : State) (p : Nat) (u : EdgeUnit) : (State.setEdge s p u).host = s.host := rfl
@[simp] theorem State.setEdge_cadenceStep (s : State) (p : Nat) (u : EdgeUnit) : (State.setEdge s p u).cadenceStep = s.cadenceStep := rfl
@[simp] theorem State.setEdge_time (s : State) (p : Nat) (u : EdgeUnit) : (State.setEdge s p u).time = s.time := rfl
@[simp] theorem State.setEdge_cal (s : State) (p : Nat) (u : EdgeUnit) : (State.setEdge s p u).cal = s.cal := rfl
@[simp] theorem State.setEdge_sdf (s : State) (p : Nat) (u : EdgeUnit) : (State.setEdge s p u).sdf = s.sdf := rfl
@[simp] theorem State.setEdge_loop (s : State) (p : Nat) (u : EdgeUnit) : (State.setEdge s p u).loop = s.loop := rfl
@[simp] theorem State.setEdge_dramMem (s : State) (p : Nat) (u : EdgeUnit) : (State.setEdge s p u).dramMem = s.dramMem := rfl
@[simp] theorem State.setEdge_pub (s : State) (p : Nat) (u : EdgeUnit) : (State.setEdge s p u).pub = s.pub := rfl
@[simp] theorem State.setEdge_fabric (s : State) (p : Nat) (u : EdgeUnit) : (State.setEdge s p u).fabric = s.fabric := rfl
@[simp] theorem State.setEdge_pins (s : State) (p : Nat) (u : EdgeUnit) : (State.setEdge s p u).pins = s.pins := rfl
@[simp] theorem State.setEdge_power (s : State) (p : Nat) (u : EdgeUnit) : (State.setEdge s p u).power = s.power := rfl
@[simp] theorem State.setEdge_dram (s : State) (p : Nat) (u : EdgeUnit) : (State.setEdge s p u).dram = s.dram := rfl
@[simp] theorem State.setEdge_cfg (s : State) (p : Nat) (u : EdgeUnit) : (State.setEdge s p u).cfg = s.cfg := rfl
@[simp] theorem State.setEdge_flash (s : State) (p : Nat) (u : EdgeUnit) : (State.setEdge s p u).flash = s.flash := rfl
@[simp] theorem State.setEdge_otp (s : State) (p : Nat) (u : EdgeUnit) : (State.setEdge s p u).otp = s.otp := rfl
@[simp] theorem State.setEdge_settings (s : State) (p : Nat) (u : EdgeUnit) : (State.setEdge s p u).settings = s.settings := rfl
@[simp] theorem State.setEdge_bist (s : State) (p : Nat) (u : EdgeUnit) : (State.setEdge s p u).bist = s.bist := rfl
@[simp] theorem State.setEdge_debug (s : State) (p : Nat) (u : EdgeUnit) : (State.setEdge s p u).debug = s.debug := rfl
@[simp] theorem State.setEdge_otpOpen (s : State) (p : Nat) (u : EdgeUnit) : (State.setEdge s p u).otpOpen = s.otpOpen := rfl
@[simp] theorem State.setEdge_heart (s : State) (p : Nat) (u : EdgeUnit) : (State.setEdge s p u).heart = s.heart := rfl
@[simp] theorem State.setEdge_rope (s : State) (p : Nat) (u : EdgeUnit) : (State.setEdge s p u).rope = s.rope := rfl
@[simp] theorem State.setEdge_lastUr (s : State) (p : Nat) (u : EdgeUnit) : (State.setEdge s p u).lastUr = s.lastUr := rfl
@[simp] theorem State.setEdge_guide (s : State) (p : Nat) (u : EdgeUnit) : (State.setEdge s p u).guide = s.guide := rfl

/-! ### State.setSdf -/

@[simp] theorem State.setSdf_pending (s : State) (c : Nat) (u : SdfChannel) : (State.setSdf s c u).pending = s.pending := rfl
@[simp] theorem State.setSdf_freeIx (s : State) (c : Nat) (u : SdfChannel) : (State.setSdf s c u).freeIx = s.freeIx := rfl
@[simp] theorem State.setSdf_regs (s : State) (c : Nat) (u : SdfChannel) : (State.setSdf s c u).regs = s.regs := rfl
@[simp] theorem State.setSdf_lastRead (s : State) (c : Nat) (u : SdfChannel) : (State.setSdf s c u).lastRead = s.lastRead := rfl
@[simp] theorem State.setSdf_evt (s : State) (c : Nat) (u : SdfChannel) : (State.setSdf s c u).evt = s.evt := rfl
@[simp] theorem State.setSdf_mbx (s : State) (c : Nat) (u : SdfChannel) : (State.setSdf s c u).mbx = s.mbx := rfl
@[simp] theorem State.setSdf_mbSeq (s : State) (c : Nat) (u : SdfChannel) : (State.setSdf s c u).mbSeq = s.mbSeq := rfl
@[simp] theorem State.setSdf_host (s : State) (c : Nat) (u : SdfChannel) : (State.setSdf s c u).host = s.host := rfl
@[simp] theorem State.setSdf_cadenceStep (s : State) (c : Nat) (u : SdfChannel) : (State.setSdf s c u).cadenceStep = s.cadenceStep := rfl
@[simp] theorem State.setSdf_time (s : State) (c : Nat) (u : SdfChannel) : (State.setSdf s c u).time = s.time := rfl
@[simp] theorem State.setSdf_edge (s : State) (c : Nat) (u : SdfChannel) : (State.setSdf s c u).edge = s.edge := rfl
@[simp] theorem State.setSdf_cal (s : State) (c : Nat) (u : SdfChannel) : (State.setSdf s c u).cal = s.cal := rfl
@[simp] theorem State.setSdf_loop (s : State) (c : Nat) (u : SdfChannel) : (State.setSdf s c u).loop = s.loop := rfl
@[simp] theorem State.setSdf_dramMem (s : State) (c : Nat) (u : SdfChannel) : (State.setSdf s c u).dramMem = s.dramMem := rfl
@[simp] theorem State.setSdf_pub (s : State) (c : Nat) (u : SdfChannel) : (State.setSdf s c u).pub = s.pub := rfl
@[simp] theorem State.setSdf_fabric (s : State) (c : Nat) (u : SdfChannel) : (State.setSdf s c u).fabric = s.fabric := rfl
@[simp] theorem State.setSdf_pins (s : State) (c : Nat) (u : SdfChannel) : (State.setSdf s c u).pins = s.pins := rfl
@[simp] theorem State.setSdf_power (s : State) (c : Nat) (u : SdfChannel) : (State.setSdf s c u).power = s.power := rfl
@[simp] theorem State.setSdf_dram (s : State) (c : Nat) (u : SdfChannel) : (State.setSdf s c u).dram = s.dram := rfl
@[simp] theorem State.setSdf_cfg (s : State) (c : Nat) (u : SdfChannel) : (State.setSdf s c u).cfg = s.cfg := rfl
@[simp] theorem State.setSdf_flash (s : State) (c : Nat) (u : SdfChannel) : (State.setSdf s c u).flash = s.flash := rfl
@[simp] theorem State.setSdf_otp (s : State) (c : Nat) (u : SdfChannel) : (State.setSdf s c u).otp = s.otp := rfl
@[simp] theorem State.setSdf_settings (s : State) (c : Nat) (u : SdfChannel) : (State.setSdf s c u).settings = s.settings := rfl
@[simp] theorem State.setSdf_bist (s : State) (c : Nat) (u : SdfChannel) : (State.setSdf s c u).bist = s.bist := rfl
@[simp] theorem State.setSdf_debug (s : State) (c : Nat) (u : SdfChannel) : (State.setSdf s c u).debug = s.debug := rfl
@[simp] theorem State.setSdf_otpOpen (s : State) (c : Nat) (u : SdfChannel) : (State.setSdf s c u).otpOpen = s.otpOpen := rfl
@[simp] theorem State.setSdf_heart (s : State) (c : Nat) (u : SdfChannel) : (State.setSdf s c u).heart = s.heart := rfl
@[simp] theorem State.setSdf_rope (s : State) (c : Nat) (u : SdfChannel) : (State.setSdf s c u).rope = s.rope := rfl
@[simp] theorem State.setSdf_lastUr (s : State) (c : Nat) (u : SdfChannel) : (State.setSdf s c u).lastUr = s.lastUr := rfl
@[simp] theorem State.setSdf_guide (s : State) (c : Nat) (u : SdfChannel) : (State.setSdf s c u).guide = s.guide := rfl

/-! ### State.setCtx -/

@[simp] theorem State.setCtx_pending (s : State) (n : Nat) (c : LoopCtx) : (State.setCtx s n c).pending = s.pending := rfl
@[simp] theorem State.setCtx_freeIx (s : State) (n : Nat) (c : LoopCtx) : (State.setCtx s n c).freeIx = s.freeIx := rfl
@[simp] theorem State.setCtx_regs (s : State) (n : Nat) (c : LoopCtx) : (State.setCtx s n c).regs = s.regs := rfl
@[simp] theorem State.setCtx_lastRead (s : State) (n : Nat) (c : LoopCtx) : (State.setCtx s n c).lastRead = s.lastRead := rfl
@[simp] theorem State.setCtx_evt (s : State) (n : Nat) (c : LoopCtx) : (State.setCtx s n c).evt = s.evt := rfl
@[simp] theorem State.setCtx_mbx (s : State) (n : Nat) (c : LoopCtx) : (State.setCtx s n c).mbx = s.mbx := rfl
@[simp] theorem State.setCtx_mbSeq (s : State) (n : Nat) (c : LoopCtx) : (State.setCtx s n c).mbSeq = s.mbSeq := rfl
@[simp] theorem State.setCtx_host (s : State) (n : Nat) (c : LoopCtx) : (State.setCtx s n c).host = s.host := rfl
@[simp] theorem State.setCtx_cadenceStep (s : State) (n : Nat) (c : LoopCtx) : (State.setCtx s n c).cadenceStep = s.cadenceStep := rfl
@[simp] theorem State.setCtx_time (s : State) (n : Nat) (c : LoopCtx) : (State.setCtx s n c).time = s.time := rfl
@[simp] theorem State.setCtx_edge (s : State) (n : Nat) (c : LoopCtx) : (State.setCtx s n c).edge = s.edge := rfl
@[simp] theorem State.setCtx_cal (s : State) (n : Nat) (c : LoopCtx) : (State.setCtx s n c).cal = s.cal := rfl
@[simp] theorem State.setCtx_sdf (s : State) (n : Nat) (c : LoopCtx) : (State.setCtx s n c).sdf = s.sdf := rfl
@[simp] theorem State.setCtx_dramMem (s : State) (n : Nat) (c : LoopCtx) : (State.setCtx s n c).dramMem = s.dramMem := rfl
@[simp] theorem State.setCtx_pub (s : State) (n : Nat) (c : LoopCtx) : (State.setCtx s n c).pub = s.pub := rfl
@[simp] theorem State.setCtx_fabric (s : State) (n : Nat) (c : LoopCtx) : (State.setCtx s n c).fabric = s.fabric := rfl
@[simp] theorem State.setCtx_pins (s : State) (n : Nat) (c : LoopCtx) : (State.setCtx s n c).pins = s.pins := rfl
@[simp] theorem State.setCtx_power (s : State) (n : Nat) (c : LoopCtx) : (State.setCtx s n c).power = s.power := rfl
@[simp] theorem State.setCtx_dram (s : State) (n : Nat) (c : LoopCtx) : (State.setCtx s n c).dram = s.dram := rfl
@[simp] theorem State.setCtx_cfg (s : State) (n : Nat) (c : LoopCtx) : (State.setCtx s n c).cfg = s.cfg := rfl
@[simp] theorem State.setCtx_flash (s : State) (n : Nat) (c : LoopCtx) : (State.setCtx s n c).flash = s.flash := rfl
@[simp] theorem State.setCtx_otp (s : State) (n : Nat) (c : LoopCtx) : (State.setCtx s n c).otp = s.otp := rfl
@[simp] theorem State.setCtx_settings (s : State) (n : Nat) (c : LoopCtx) : (State.setCtx s n c).settings = s.settings := rfl
@[simp] theorem State.setCtx_bist (s : State) (n : Nat) (c : LoopCtx) : (State.setCtx s n c).bist = s.bist := rfl
@[simp] theorem State.setCtx_debug (s : State) (n : Nat) (c : LoopCtx) : (State.setCtx s n c).debug = s.debug := rfl
@[simp] theorem State.setCtx_otpOpen (s : State) (n : Nat) (c : LoopCtx) : (State.setCtx s n c).otpOpen = s.otpOpen := rfl
@[simp] theorem State.setCtx_heart (s : State) (n : Nat) (c : LoopCtx) : (State.setCtx s n c).heart = s.heart := rfl
@[simp] theorem State.setCtx_rope (s : State) (n : Nat) (c : LoopCtx) : (State.setCtx s n c).rope = s.rope := rfl
@[simp] theorem State.setCtx_lastUr (s : State) (n : Nat) (c : LoopCtx) : (State.setCtx s n c).lastUr = s.lastUr := rfl
@[simp] theorem State.setCtx_guide (s : State) (n : Nat) (c : LoopCtx) : (State.setCtx s n c).guide = s.guide := rfl

/-! ### State.markCadence -/

@[simp] theorem State.markCadence_pending (s : State) : (State.markCadence s).pending = s.pending := rfl
@[simp] theorem State.markCadence_freeIx (s : State) : (State.markCadence s).freeIx = s.freeIx := rfl
@[simp] theorem State.markCadence_regs (s : State) : (State.markCadence s).regs = s.regs := rfl
@[simp] theorem State.markCadence_lastRead (s : State) : (State.markCadence s).lastRead = s.lastRead := rfl
@[simp] theorem State.markCadence_evt (s : State) : (State.markCadence s).evt = s.evt := rfl
@[simp] theorem State.markCadence_mbx (s : State) : (State.markCadence s).mbx = s.mbx := rfl
@[simp] theorem State.markCadence_mbSeq (s : State) : (State.markCadence s).mbSeq = s.mbSeq := rfl
@[simp] theorem State.markCadence_host (s : State) : (State.markCadence s).host = s.host := rfl
@[simp] theorem State.markCadence_time (s : State) : (State.markCadence s).time = s.time := rfl
@[simp] theorem State.markCadence_edge (s : State) : (State.markCadence s).edge = s.edge := rfl
@[simp] theorem State.markCadence_cal (s : State) : (State.markCadence s).cal = s.cal := rfl
@[simp] theorem State.markCadence_sdf (s : State) : (State.markCadence s).sdf = s.sdf := rfl
@[simp] theorem State.markCadence_loop (s : State) : (State.markCadence s).loop = s.loop := rfl
@[simp] theorem State.markCadence_dramMem (s : State) : (State.markCadence s).dramMem = s.dramMem := rfl
@[simp] theorem State.markCadence_pub (s : State) : (State.markCadence s).pub = s.pub := rfl
@[simp] theorem State.markCadence_fabric (s : State) : (State.markCadence s).fabric = s.fabric := rfl
@[simp] theorem State.markCadence_pins (s : State) : (State.markCadence s).pins = s.pins := rfl
@[simp] theorem State.markCadence_power (s : State) : (State.markCadence s).power = s.power := rfl
@[simp] theorem State.markCadence_dram (s : State) : (State.markCadence s).dram = s.dram := rfl
@[simp] theorem State.markCadence_cfg (s : State) : (State.markCadence s).cfg = s.cfg := rfl
@[simp] theorem State.markCadence_flash (s : State) : (State.markCadence s).flash = s.flash := rfl
@[simp] theorem State.markCadence_otp (s : State) : (State.markCadence s).otp = s.otp := rfl
@[simp] theorem State.markCadence_settings (s : State) : (State.markCadence s).settings = s.settings := rfl
@[simp] theorem State.markCadence_bist (s : State) : (State.markCadence s).bist = s.bist := rfl
@[simp] theorem State.markCadence_debug (s : State) : (State.markCadence s).debug = s.debug := rfl
@[simp] theorem State.markCadence_otpOpen (s : State) : (State.markCadence s).otpOpen = s.otpOpen := rfl
@[simp] theorem State.markCadence_heart (s : State) : (State.markCadence s).heart = s.heart := rfl
@[simp] theorem State.markCadence_rope (s : State) : (State.markCadence s).rope = s.rope := rfl
@[simp] theorem State.markCadence_lastUr (s : State) : (State.markCadence s).lastUr = s.lastUr := rfl
@[simp] theorem State.markCadence_guide (s : State) : (State.markCadence s).guide = s.guide := rfl

/-! ### State.requestStep -/

@[simp] theorem State.requestStep_pending (s : State) (q : StepReq) : (State.requestStep s q).pending = s.pending := rfl
@[simp] theorem State.requestStep_freeIx (s : State) (q : StepReq) : (State.requestStep s q).freeIx = s.freeIx := rfl
@[simp] theorem State.requestStep_regs (s : State) (q : StepReq) : (State.requestStep s q).regs = s.regs := rfl
@[simp] theorem State.requestStep_lastRead (s : State) (q : StepReq) : (State.requestStep s q).lastRead = s.lastRead := rfl
@[simp] theorem State.requestStep_evt (s : State) (q : StepReq) : (State.requestStep s q).evt = s.evt := rfl
@[simp] theorem State.requestStep_mbx (s : State) (q : StepReq) : (State.requestStep s q).mbx = s.mbx := rfl
@[simp] theorem State.requestStep_mbSeq (s : State) (q : StepReq) : (State.requestStep s q).mbSeq = s.mbSeq := rfl
@[simp] theorem State.requestStep_host (s : State) (q : StepReq) : (State.requestStep s q).host = s.host := rfl
@[simp] theorem State.requestStep_cadenceStep (s : State) (q : StepReq) : (State.requestStep s q).cadenceStep = s.cadenceStep := rfl
@[simp] theorem State.requestStep_edge (s : State) (q : StepReq) : (State.requestStep s q).edge = s.edge := rfl
@[simp] theorem State.requestStep_cal (s : State) (q : StepReq) : (State.requestStep s q).cal = s.cal := rfl
@[simp] theorem State.requestStep_sdf (s : State) (q : StepReq) : (State.requestStep s q).sdf = s.sdf := rfl
@[simp] theorem State.requestStep_loop (s : State) (q : StepReq) : (State.requestStep s q).loop = s.loop := rfl
@[simp] theorem State.requestStep_dramMem (s : State) (q : StepReq) : (State.requestStep s q).dramMem = s.dramMem := rfl
@[simp] theorem State.requestStep_pub (s : State) (q : StepReq) : (State.requestStep s q).pub = s.pub := rfl
@[simp] theorem State.requestStep_fabric (s : State) (q : StepReq) : (State.requestStep s q).fabric = s.fabric := rfl
@[simp] theorem State.requestStep_pins (s : State) (q : StepReq) : (State.requestStep s q).pins = s.pins := rfl
@[simp] theorem State.requestStep_power (s : State) (q : StepReq) : (State.requestStep s q).power = s.power := rfl
@[simp] theorem State.requestStep_dram (s : State) (q : StepReq) : (State.requestStep s q).dram = s.dram := rfl
@[simp] theorem State.requestStep_cfg (s : State) (q : StepReq) : (State.requestStep s q).cfg = s.cfg := rfl
@[simp] theorem State.requestStep_flash (s : State) (q : StepReq) : (State.requestStep s q).flash = s.flash := rfl
@[simp] theorem State.requestStep_otp (s : State) (q : StepReq) : (State.requestStep s q).otp = s.otp := rfl
@[simp] theorem State.requestStep_settings (s : State) (q : StepReq) : (State.requestStep s q).settings = s.settings := rfl
@[simp] theorem State.requestStep_bist (s : State) (q : StepReq) : (State.requestStep s q).bist = s.bist := rfl
@[simp] theorem State.requestStep_debug (s : State) (q : StepReq) : (State.requestStep s q).debug = s.debug := rfl
@[simp] theorem State.requestStep_otpOpen (s : State) (q : StepReq) : (State.requestStep s q).otpOpen = s.otpOpen := rfl
@[simp] theorem State.requestStep_heart (s : State) (q : StepReq) : (State.requestStep s q).heart = s.heart := rfl
@[simp] theorem State.requestStep_rope (s : State) (q : StepReq) : (State.requestStep s q).rope = s.rope := rfl
@[simp] theorem State.requestStep_lastUr (s : State) (q : StepReq) : (State.requestStep s q).lastUr = s.lastUr := rfl
@[simp] theorem State.requestStep_guide (s : State) (q : StepReq) : (State.requestStep s q).guide = s.guide := rfl

/-! ### State.setBough -/

@[simp] theorem State.setBough_pending (s : State) (b : Nat) (x : Bough) : (State.setBough s b x).pending = s.pending := rfl
@[simp] theorem State.setBough_freeIx (s : State) (b : Nat) (x : Bough) : (State.setBough s b x).freeIx = s.freeIx := rfl
@[simp] theorem State.setBough_regs (s : State) (b : Nat) (x : Bough) : (State.setBough s b x).regs = s.regs := rfl
@[simp] theorem State.setBough_lastRead (s : State) (b : Nat) (x : Bough) : (State.setBough s b x).lastRead = s.lastRead := rfl
@[simp] theorem State.setBough_evt (s : State) (b : Nat) (x : Bough) : (State.setBough s b x).evt = s.evt := rfl
@[simp] theorem State.setBough_mbx (s : State) (b : Nat) (x : Bough) : (State.setBough s b x).mbx = s.mbx := rfl
@[simp] theorem State.setBough_mbSeq (s : State) (b : Nat) (x : Bough) : (State.setBough s b x).mbSeq = s.mbSeq := rfl
@[simp] theorem State.setBough_host (s : State) (b : Nat) (x : Bough) : (State.setBough s b x).host = s.host := rfl
@[simp] theorem State.setBough_cadenceStep (s : State) (b : Nat) (x : Bough) : (State.setBough s b x).cadenceStep = s.cadenceStep := rfl
@[simp] theorem State.setBough_time (s : State) (b : Nat) (x : Bough) : (State.setBough s b x).time = s.time := rfl
@[simp] theorem State.setBough_edge (s : State) (b : Nat) (x : Bough) : (State.setBough s b x).edge = s.edge := rfl
@[simp] theorem State.setBough_cal (s : State) (b : Nat) (x : Bough) : (State.setBough s b x).cal = s.cal := rfl
@[simp] theorem State.setBough_sdf (s : State) (b : Nat) (x : Bough) : (State.setBough s b x).sdf = s.sdf := rfl
@[simp] theorem State.setBough_loop (s : State) (b : Nat) (x : Bough) : (State.setBough s b x).loop = s.loop := rfl
@[simp] theorem State.setBough_dramMem (s : State) (b : Nat) (x : Bough) : (State.setBough s b x).dramMem = s.dramMem := rfl
@[simp] theorem State.setBough_pub (s : State) (b : Nat) (x : Bough) : (State.setBough s b x).pub = s.pub := rfl
@[simp] theorem State.setBough_pins (s : State) (b : Nat) (x : Bough) : (State.setBough s b x).pins = s.pins := rfl
@[simp] theorem State.setBough_power (s : State) (b : Nat) (x : Bough) : (State.setBough s b x).power = s.power := rfl
@[simp] theorem State.setBough_dram (s : State) (b : Nat) (x : Bough) : (State.setBough s b x).dram = s.dram := rfl
@[simp] theorem State.setBough_cfg (s : State) (b : Nat) (x : Bough) : (State.setBough s b x).cfg = s.cfg := rfl
@[simp] theorem State.setBough_flash (s : State) (b : Nat) (x : Bough) : (State.setBough s b x).flash = s.flash := rfl
@[simp] theorem State.setBough_otp (s : State) (b : Nat) (x : Bough) : (State.setBough s b x).otp = s.otp := rfl
@[simp] theorem State.setBough_settings (s : State) (b : Nat) (x : Bough) : (State.setBough s b x).settings = s.settings := rfl
@[simp] theorem State.setBough_bist (s : State) (b : Nat) (x : Bough) : (State.setBough s b x).bist = s.bist := rfl
@[simp] theorem State.setBough_debug (s : State) (b : Nat) (x : Bough) : (State.setBough s b x).debug = s.debug := rfl
@[simp] theorem State.setBough_otpOpen (s : State) (b : Nat) (x : Bough) : (State.setBough s b x).otpOpen = s.otpOpen := rfl
@[simp] theorem State.setBough_heart (s : State) (b : Nat) (x : Bough) : (State.setBough s b x).heart = s.heart := rfl
@[simp] theorem State.setBough_rope (s : State) (b : Nat) (x : Bough) : (State.setBough s b x).rope = s.rope := rfl
@[simp] theorem State.setBough_lastUr (s : State) (b : Nat) (x : Bough) : (State.setBough s b x).lastUr = s.lastUr := rfl
@[simp] theorem State.setBough_guide (s : State) (b : Nat) (x : Bough) : (State.setBough s b x).guide = s.guide := rfl

/-! ### State.setPin -/

@[simp] theorem State.setPin_pending (s : State) (n : Nat) (p : PinState) : (State.setPin s n p).pending = s.pending := rfl
@[simp] theorem State.setPin_freeIx (s : State) (n : Nat) (p : PinState) : (State.setPin s n p).freeIx = s.freeIx := rfl
@[simp] theorem State.setPin_regs (s : State) (n : Nat) (p : PinState) : (State.setPin s n p).regs = s.regs := rfl
@[simp] theorem State.setPin_lastRead (s : State) (n : Nat) (p : PinState) : (State.setPin s n p).lastRead = s.lastRead := rfl
@[simp] theorem State.setPin_evt (s : State) (n : Nat) (p : PinState) : (State.setPin s n p).evt = s.evt := rfl
@[simp] theorem State.setPin_mbx (s : State) (n : Nat) (p : PinState) : (State.setPin s n p).mbx = s.mbx := rfl
@[simp] theorem State.setPin_mbSeq (s : State) (n : Nat) (p : PinState) : (State.setPin s n p).mbSeq = s.mbSeq := rfl
@[simp] theorem State.setPin_host (s : State) (n : Nat) (p : PinState) : (State.setPin s n p).host = s.host := rfl
@[simp] theorem State.setPin_cadenceStep (s : State) (n : Nat) (p : PinState) : (State.setPin s n p).cadenceStep = s.cadenceStep := rfl
@[simp] theorem State.setPin_time (s : State) (n : Nat) (p : PinState) : (State.setPin s n p).time = s.time := rfl
@[simp] theorem State.setPin_edge (s : State) (n : Nat) (p : PinState) : (State.setPin s n p).edge = s.edge := rfl
@[simp] theorem State.setPin_cal (s : State) (n : Nat) (p : PinState) : (State.setPin s n p).cal = s.cal := rfl
@[simp] theorem State.setPin_sdf (s : State) (n : Nat) (p : PinState) : (State.setPin s n p).sdf = s.sdf := rfl
@[simp] theorem State.setPin_loop (s : State) (n : Nat) (p : PinState) : (State.setPin s n p).loop = s.loop := rfl
@[simp] theorem State.setPin_dramMem (s : State) (n : Nat) (p : PinState) : (State.setPin s n p).dramMem = s.dramMem := rfl
@[simp] theorem State.setPin_pub (s : State) (n : Nat) (p : PinState) : (State.setPin s n p).pub = s.pub := rfl
@[simp] theorem State.setPin_fabric (s : State) (n : Nat) (p : PinState) : (State.setPin s n p).fabric = s.fabric := rfl
@[simp] theorem State.setPin_power (s : State) (n : Nat) (p : PinState) : (State.setPin s n p).power = s.power := rfl
@[simp] theorem State.setPin_dram (s : State) (n : Nat) (p : PinState) : (State.setPin s n p).dram = s.dram := rfl
@[simp] theorem State.setPin_cfg (s : State) (n : Nat) (p : PinState) : (State.setPin s n p).cfg = s.cfg := rfl
@[simp] theorem State.setPin_flash (s : State) (n : Nat) (p : PinState) : (State.setPin s n p).flash = s.flash := rfl
@[simp] theorem State.setPin_otp (s : State) (n : Nat) (p : PinState) : (State.setPin s n p).otp = s.otp := rfl
@[simp] theorem State.setPin_settings (s : State) (n : Nat) (p : PinState) : (State.setPin s n p).settings = s.settings := rfl
@[simp] theorem State.setPin_bist (s : State) (n : Nat) (p : PinState) : (State.setPin s n p).bist = s.bist := rfl
@[simp] theorem State.setPin_debug (s : State) (n : Nat) (p : PinState) : (State.setPin s n p).debug = s.debug := rfl
@[simp] theorem State.setPin_otpOpen (s : State) (n : Nat) (p : PinState) : (State.setPin s n p).otpOpen = s.otpOpen := rfl
@[simp] theorem State.setPin_heart (s : State) (n : Nat) (p : PinState) : (State.setPin s n p).heart = s.heart := rfl
@[simp] theorem State.setPin_rope (s : State) (n : Nat) (p : PinState) : (State.setPin s n p).rope = s.rope := rfl
@[simp] theorem State.setPin_lastUr (s : State) (n : Nat) (p : PinState) : (State.setPin s n p).lastUr = s.lastUr := rfl
@[simp] theorem State.setPin_guide (s : State) (n : Nat) (p : PinState) : (State.setPin s n p).guide = s.guide := rfl

/-! ### State.updRope -/

@[simp] theorem State.updRope_pending (s : State) (f : Rope → Rope) : (State.updRope s f).pending = s.pending := rfl
@[simp] theorem State.updRope_freeIx (s : State) (f : Rope → Rope) : (State.updRope s f).freeIx = s.freeIx := rfl
@[simp] theorem State.updRope_regs (s : State) (f : Rope → Rope) : (State.updRope s f).regs = s.regs := rfl
@[simp] theorem State.updRope_lastRead (s : State) (f : Rope → Rope) : (State.updRope s f).lastRead = s.lastRead := rfl
@[simp] theorem State.updRope_evt (s : State) (f : Rope → Rope) : (State.updRope s f).evt = s.evt := rfl
@[simp] theorem State.updRope_mbx (s : State) (f : Rope → Rope) : (State.updRope s f).mbx = s.mbx := rfl
@[simp] theorem State.updRope_mbSeq (s : State) (f : Rope → Rope) : (State.updRope s f).mbSeq = s.mbSeq := rfl
@[simp] theorem State.updRope_host (s : State) (f : Rope → Rope) : (State.updRope s f).host = s.host := rfl
@[simp] theorem State.updRope_cadenceStep (s : State) (f : Rope → Rope) : (State.updRope s f).cadenceStep = s.cadenceStep := rfl
@[simp] theorem State.updRope_time (s : State) (f : Rope → Rope) : (State.updRope s f).time = s.time := rfl
@[simp] theorem State.updRope_edge (s : State) (f : Rope → Rope) : (State.updRope s f).edge = s.edge := rfl
@[simp] theorem State.updRope_cal (s : State) (f : Rope → Rope) : (State.updRope s f).cal = s.cal := rfl
@[simp] theorem State.updRope_sdf (s : State) (f : Rope → Rope) : (State.updRope s f).sdf = s.sdf := rfl
@[simp] theorem State.updRope_loop (s : State) (f : Rope → Rope) : (State.updRope s f).loop = s.loop := rfl
@[simp] theorem State.updRope_dramMem (s : State) (f : Rope → Rope) : (State.updRope s f).dramMem = s.dramMem := rfl
@[simp] theorem State.updRope_pub (s : State) (f : Rope → Rope) : (State.updRope s f).pub = s.pub := rfl
@[simp] theorem State.updRope_fabric (s : State) (f : Rope → Rope) : (State.updRope s f).fabric = s.fabric := rfl
@[simp] theorem State.updRope_pins (s : State) (f : Rope → Rope) : (State.updRope s f).pins = s.pins := rfl
@[simp] theorem State.updRope_power (s : State) (f : Rope → Rope) : (State.updRope s f).power = s.power := rfl
@[simp] theorem State.updRope_dram (s : State) (f : Rope → Rope) : (State.updRope s f).dram = s.dram := rfl
@[simp] theorem State.updRope_cfg (s : State) (f : Rope → Rope) : (State.updRope s f).cfg = s.cfg := rfl
@[simp] theorem State.updRope_flash (s : State) (f : Rope → Rope) : (State.updRope s f).flash = s.flash := rfl
@[simp] theorem State.updRope_otp (s : State) (f : Rope → Rope) : (State.updRope s f).otp = s.otp := rfl
@[simp] theorem State.updRope_settings (s : State) (f : Rope → Rope) : (State.updRope s f).settings = s.settings := rfl
@[simp] theorem State.updRope_bist (s : State) (f : Rope → Rope) : (State.updRope s f).bist = s.bist := rfl
@[simp] theorem State.updRope_debug (s : State) (f : Rope → Rope) : (State.updRope s f).debug = s.debug := rfl
@[simp] theorem State.updRope_otpOpen (s : State) (f : Rope → Rope) : (State.updRope s f).otpOpen = s.otpOpen := rfl
@[simp] theorem State.updRope_heart (s : State) (f : Rope → Rope) : (State.updRope s f).heart = s.heart := rfl
@[simp] theorem State.updRope_lastUr (s : State) (f : Rope → Rope) : (State.updRope s f).lastUr = s.lastUr := rfl
@[simp] theorem State.updRope_guide (s : State) (f : Rope → Rope) : (State.updRope s f).guide = s.guide := rfl
@[simp] theorem State.updRope_rope (s : State) (f : Rope → Rope) : (State.updRope s f).rope = f s.rope := rfl

/-! ### State.pubCycle -/

@[simp] theorem State.pubCycle_pending (s : State) (tc : DevTime) : (State.pubCycle s tc).pending = s.pending := rfl
@[simp] theorem State.pubCycle_freeIx (s : State) (tc : DevTime) : (State.pubCycle s tc).freeIx = s.freeIx := rfl
@[simp] theorem State.pubCycle_regs (s : State) (tc : DevTime) : (State.pubCycle s tc).regs = s.regs := rfl
@[simp] theorem State.pubCycle_lastRead (s : State) (tc : DevTime) : (State.pubCycle s tc).lastRead = s.lastRead := rfl
@[simp] theorem State.pubCycle_evt (s : State) (tc : DevTime) : (State.pubCycle s tc).evt = s.evt := rfl
@[simp] theorem State.pubCycle_mbx (s : State) (tc : DevTime) : (State.pubCycle s tc).mbx = s.mbx := rfl
@[simp] theorem State.pubCycle_mbSeq (s : State) (tc : DevTime) : (State.pubCycle s tc).mbSeq = s.mbSeq := rfl
@[simp] theorem State.pubCycle_host (s : State) (tc : DevTime) : (State.pubCycle s tc).host = s.host := rfl
@[simp] theorem State.pubCycle_cadenceStep (s : State) (tc : DevTime) : (State.pubCycle s tc).cadenceStep = s.cadenceStep := rfl
@[simp] theorem State.pubCycle_time (s : State) (tc : DevTime) : (State.pubCycle s tc).time = s.time := rfl
@[simp] theorem State.pubCycle_edge (s : State) (tc : DevTime) : (State.pubCycle s tc).edge = s.edge := rfl
@[simp] theorem State.pubCycle_cal (s : State) (tc : DevTime) : (State.pubCycle s tc).cal = s.cal := rfl
@[simp] theorem State.pubCycle_sdf (s : State) (tc : DevTime) : (State.pubCycle s tc).sdf = s.sdf := rfl
@[simp] theorem State.pubCycle_loop (s : State) (tc : DevTime) : (State.pubCycle s tc).loop = s.loop := rfl
@[simp] theorem State.pubCycle_dramMem (s : State) (tc : DevTime) : (State.pubCycle s tc).dramMem = s.dramMem := rfl
@[simp] theorem State.pubCycle_fabric (s : State) (tc : DevTime) : (State.pubCycle s tc).fabric = s.fabric := rfl
@[simp] theorem State.pubCycle_pins (s : State) (tc : DevTime) : (State.pubCycle s tc).pins = s.pins := rfl
@[simp] theorem State.pubCycle_power (s : State) (tc : DevTime) : (State.pubCycle s tc).power = s.power := rfl
@[simp] theorem State.pubCycle_dram (s : State) (tc : DevTime) : (State.pubCycle s tc).dram = s.dram := rfl
@[simp] theorem State.pubCycle_cfg (s : State) (tc : DevTime) : (State.pubCycle s tc).cfg = s.cfg := rfl
@[simp] theorem State.pubCycle_flash (s : State) (tc : DevTime) : (State.pubCycle s tc).flash = s.flash := rfl
@[simp] theorem State.pubCycle_otp (s : State) (tc : DevTime) : (State.pubCycle s tc).otp = s.otp := rfl
@[simp] theorem State.pubCycle_settings (s : State) (tc : DevTime) : (State.pubCycle s tc).settings = s.settings := rfl
@[simp] theorem State.pubCycle_bist (s : State) (tc : DevTime) : (State.pubCycle s tc).bist = s.bist := rfl
@[simp] theorem State.pubCycle_debug (s : State) (tc : DevTime) : (State.pubCycle s tc).debug = s.debug := rfl
@[simp] theorem State.pubCycle_otpOpen (s : State) (tc : DevTime) : (State.pubCycle s tc).otpOpen = s.otpOpen := rfl
@[simp] theorem State.pubCycle_heart (s : State) (tc : DevTime) : (State.pubCycle s tc).heart = s.heart := rfl
@[simp] theorem State.pubCycle_rope (s : State) (tc : DevTime) : (State.pubCycle s tc).rope = s.rope := rfl
@[simp] theorem State.pubCycle_lastUr (s : State) (tc : DevTime) : (State.pubCycle s tc).lastUr = s.lastUr := rfl
@[simp] theorem State.pubCycle_guide (s : State) (tc : DevTime) : (State.pubCycle s tc).guide = s.guide := rfl

/-! ### State.setMb -/

@[simp] theorem State.setMb_pending (s : State) (m : Nat) (x : Mailbox) : (State.setMb s m x).pending = s.pending := rfl
@[simp] theorem State.setMb_freeIx (s : State) (m : Nat) (x : Mailbox) : (State.setMb s m x).freeIx = s.freeIx := rfl
@[simp] theorem State.setMb_regs (s : State) (m : Nat) (x : Mailbox) : (State.setMb s m x).regs = s.regs := rfl
@[simp] theorem State.setMb_lastRead (s : State) (m : Nat) (x : Mailbox) : (State.setMb s m x).lastRead = s.lastRead := rfl
@[simp] theorem State.setMb_evt (s : State) (m : Nat) (x : Mailbox) : (State.setMb s m x).evt = s.evt := rfl
@[simp] theorem State.setMb_mbSeq (s : State) (m : Nat) (x : Mailbox) : (State.setMb s m x).mbSeq = s.mbSeq := rfl
@[simp] theorem State.setMb_host (s : State) (m : Nat) (x : Mailbox) : (State.setMb s m x).host = s.host := rfl
@[simp] theorem State.setMb_cadenceStep (s : State) (m : Nat) (x : Mailbox) : (State.setMb s m x).cadenceStep = s.cadenceStep := rfl
@[simp] theorem State.setMb_time (s : State) (m : Nat) (x : Mailbox) : (State.setMb s m x).time = s.time := rfl
@[simp] theorem State.setMb_edge (s : State) (m : Nat) (x : Mailbox) : (State.setMb s m x).edge = s.edge := rfl
@[simp] theorem State.setMb_cal (s : State) (m : Nat) (x : Mailbox) : (State.setMb s m x).cal = s.cal := rfl
@[simp] theorem State.setMb_sdf (s : State) (m : Nat) (x : Mailbox) : (State.setMb s m x).sdf = s.sdf := rfl
@[simp] theorem State.setMb_loop (s : State) (m : Nat) (x : Mailbox) : (State.setMb s m x).loop = s.loop := rfl
@[simp] theorem State.setMb_dramMem (s : State) (m : Nat) (x : Mailbox) : (State.setMb s m x).dramMem = s.dramMem := rfl
@[simp] theorem State.setMb_pub (s : State) (m : Nat) (x : Mailbox) : (State.setMb s m x).pub = s.pub := rfl
@[simp] theorem State.setMb_fabric (s : State) (m : Nat) (x : Mailbox) : (State.setMb s m x).fabric = s.fabric := rfl
@[simp] theorem State.setMb_pins (s : State) (m : Nat) (x : Mailbox) : (State.setMb s m x).pins = s.pins := rfl
@[simp] theorem State.setMb_power (s : State) (m : Nat) (x : Mailbox) : (State.setMb s m x).power = s.power := rfl
@[simp] theorem State.setMb_dram (s : State) (m : Nat) (x : Mailbox) : (State.setMb s m x).dram = s.dram := rfl
@[simp] theorem State.setMb_cfg (s : State) (m : Nat) (x : Mailbox) : (State.setMb s m x).cfg = s.cfg := rfl
@[simp] theorem State.setMb_flash (s : State) (m : Nat) (x : Mailbox) : (State.setMb s m x).flash = s.flash := rfl
@[simp] theorem State.setMb_otp (s : State) (m : Nat) (x : Mailbox) : (State.setMb s m x).otp = s.otp := rfl
@[simp] theorem State.setMb_settings (s : State) (m : Nat) (x : Mailbox) : (State.setMb s m x).settings = s.settings := rfl
@[simp] theorem State.setMb_bist (s : State) (m : Nat) (x : Mailbox) : (State.setMb s m x).bist = s.bist := rfl
@[simp] theorem State.setMb_debug (s : State) (m : Nat) (x : Mailbox) : (State.setMb s m x).debug = s.debug := rfl
@[simp] theorem State.setMb_otpOpen (s : State) (m : Nat) (x : Mailbox) : (State.setMb s m x).otpOpen = s.otpOpen := rfl
@[simp] theorem State.setMb_heart (s : State) (m : Nat) (x : Mailbox) : (State.setMb s m x).heart = s.heart := rfl
@[simp] theorem State.setMb_rope (s : State) (m : Nat) (x : Mailbox) : (State.setMb s m x).rope = s.rope := rfl
@[simp] theorem State.setMb_lastUr (s : State) (m : Nat) (x : Mailbox) : (State.setMb s m x).lastUr = s.lastUr := rfl
@[simp] theorem State.setMb_guide (s : State) (m : Nat) (x : Mailbox) : (State.setMb s m x).guide = s.guide := rfl

/-! ### State.setSnap -/

@[simp] theorem State.setSnap_pending (s : State) (k : Nat) (v : Word) : (State.setSnap s k v).pending = s.pending := rfl
@[simp] theorem State.setSnap_freeIx (s : State) (k : Nat) (v : Word) : (State.setSnap s k v).freeIx = s.freeIx := rfl
@[simp] theorem State.setSnap_lastRead (s : State) (k : Nat) (v : Word) : (State.setSnap s k v).lastRead = s.lastRead := rfl
@[simp] theorem State.setSnap_evt (s : State) (k : Nat) (v : Word) : (State.setSnap s k v).evt = s.evt := rfl
@[simp] theorem State.setSnap_mbx (s : State) (k : Nat) (v : Word) : (State.setSnap s k v).mbx = s.mbx := rfl
@[simp] theorem State.setSnap_mbSeq (s : State) (k : Nat) (v : Word) : (State.setSnap s k v).mbSeq = s.mbSeq := rfl
@[simp] theorem State.setSnap_host (s : State) (k : Nat) (v : Word) : (State.setSnap s k v).host = s.host := rfl
@[simp] theorem State.setSnap_cadenceStep (s : State) (k : Nat) (v : Word) : (State.setSnap s k v).cadenceStep = s.cadenceStep := rfl
@[simp] theorem State.setSnap_time (s : State) (k : Nat) (v : Word) : (State.setSnap s k v).time = s.time := rfl
@[simp] theorem State.setSnap_edge (s : State) (k : Nat) (v : Word) : (State.setSnap s k v).edge = s.edge := rfl
@[simp] theorem State.setSnap_cal (s : State) (k : Nat) (v : Word) : (State.setSnap s k v).cal = s.cal := rfl
@[simp] theorem State.setSnap_sdf (s : State) (k : Nat) (v : Word) : (State.setSnap s k v).sdf = s.sdf := rfl
@[simp] theorem State.setSnap_loop (s : State) (k : Nat) (v : Word) : (State.setSnap s k v).loop = s.loop := rfl
@[simp] theorem State.setSnap_dramMem (s : State) (k : Nat) (v : Word) : (State.setSnap s k v).dramMem = s.dramMem := rfl
@[simp] theorem State.setSnap_pub (s : State) (k : Nat) (v : Word) : (State.setSnap s k v).pub = s.pub := rfl
@[simp] theorem State.setSnap_fabric (s : State) (k : Nat) (v : Word) : (State.setSnap s k v).fabric = s.fabric := rfl
@[simp] theorem State.setSnap_pins (s : State) (k : Nat) (v : Word) : (State.setSnap s k v).pins = s.pins := rfl
@[simp] theorem State.setSnap_power (s : State) (k : Nat) (v : Word) : (State.setSnap s k v).power = s.power := rfl
@[simp] theorem State.setSnap_dram (s : State) (k : Nat) (v : Word) : (State.setSnap s k v).dram = s.dram := rfl
@[simp] theorem State.setSnap_cfg (s : State) (k : Nat) (v : Word) : (State.setSnap s k v).cfg = s.cfg := rfl
@[simp] theorem State.setSnap_flash (s : State) (k : Nat) (v : Word) : (State.setSnap s k v).flash = s.flash := rfl
@[simp] theorem State.setSnap_otp (s : State) (k : Nat) (v : Word) : (State.setSnap s k v).otp = s.otp := rfl
@[simp] theorem State.setSnap_settings (s : State) (k : Nat) (v : Word) : (State.setSnap s k v).settings = s.settings := rfl
@[simp] theorem State.setSnap_bist (s : State) (k : Nat) (v : Word) : (State.setSnap s k v).bist = s.bist := rfl
@[simp] theorem State.setSnap_debug (s : State) (k : Nat) (v : Word) : (State.setSnap s k v).debug = s.debug := rfl
@[simp] theorem State.setSnap_otpOpen (s : State) (k : Nat) (v : Word) : (State.setSnap s k v).otpOpen = s.otpOpen := rfl
@[simp] theorem State.setSnap_heart (s : State) (k : Nat) (v : Word) : (State.setSnap s k v).heart = s.heart := rfl
@[simp] theorem State.setSnap_rope (s : State) (k : Nat) (v : Word) : (State.setSnap s k v).rope = s.rope := rfl
@[simp] theorem State.setSnap_lastUr (s : State) (k : Nat) (v : Word) : (State.setSnap s k v).lastUr = s.lastUr := rfl
@[simp] theorem State.setSnap_guide (s : State) (k : Nat) (v : Word) : (State.setSnap s k v).guide = s.guide := rfl

/-! ### State.dropSnap -/

@[simp] theorem State.dropSnap_pending (s : State) (k : Nat) : (State.dropSnap s k).pending = s.pending := rfl
@[simp] theorem State.dropSnap_freeIx (s : State) (k : Nat) : (State.dropSnap s k).freeIx = s.freeIx := rfl
@[simp] theorem State.dropSnap_lastRead (s : State) (k : Nat) : (State.dropSnap s k).lastRead = s.lastRead := rfl
@[simp] theorem State.dropSnap_evt (s : State) (k : Nat) : (State.dropSnap s k).evt = s.evt := rfl
@[simp] theorem State.dropSnap_mbx (s : State) (k : Nat) : (State.dropSnap s k).mbx = s.mbx := rfl
@[simp] theorem State.dropSnap_mbSeq (s : State) (k : Nat) : (State.dropSnap s k).mbSeq = s.mbSeq := rfl
@[simp] theorem State.dropSnap_host (s : State) (k : Nat) : (State.dropSnap s k).host = s.host := rfl
@[simp] theorem State.dropSnap_cadenceStep (s : State) (k : Nat) : (State.dropSnap s k).cadenceStep = s.cadenceStep := rfl
@[simp] theorem State.dropSnap_time (s : State) (k : Nat) : (State.dropSnap s k).time = s.time := rfl
@[simp] theorem State.dropSnap_edge (s : State) (k : Nat) : (State.dropSnap s k).edge = s.edge := rfl
@[simp] theorem State.dropSnap_cal (s : State) (k : Nat) : (State.dropSnap s k).cal = s.cal := rfl
@[simp] theorem State.dropSnap_sdf (s : State) (k : Nat) : (State.dropSnap s k).sdf = s.sdf := rfl
@[simp] theorem State.dropSnap_loop (s : State) (k : Nat) : (State.dropSnap s k).loop = s.loop := rfl
@[simp] theorem State.dropSnap_dramMem (s : State) (k : Nat) : (State.dropSnap s k).dramMem = s.dramMem := rfl
@[simp] theorem State.dropSnap_pub (s : State) (k : Nat) : (State.dropSnap s k).pub = s.pub := rfl
@[simp] theorem State.dropSnap_fabric (s : State) (k : Nat) : (State.dropSnap s k).fabric = s.fabric := rfl
@[simp] theorem State.dropSnap_pins (s : State) (k : Nat) : (State.dropSnap s k).pins = s.pins := rfl
@[simp] theorem State.dropSnap_power (s : State) (k : Nat) : (State.dropSnap s k).power = s.power := rfl
@[simp] theorem State.dropSnap_dram (s : State) (k : Nat) : (State.dropSnap s k).dram = s.dram := rfl
@[simp] theorem State.dropSnap_cfg (s : State) (k : Nat) : (State.dropSnap s k).cfg = s.cfg := rfl
@[simp] theorem State.dropSnap_flash (s : State) (k : Nat) : (State.dropSnap s k).flash = s.flash := rfl
@[simp] theorem State.dropSnap_otp (s : State) (k : Nat) : (State.dropSnap s k).otp = s.otp := rfl
@[simp] theorem State.dropSnap_settings (s : State) (k : Nat) : (State.dropSnap s k).settings = s.settings := rfl
@[simp] theorem State.dropSnap_bist (s : State) (k : Nat) : (State.dropSnap s k).bist = s.bist := rfl
@[simp] theorem State.dropSnap_debug (s : State) (k : Nat) : (State.dropSnap s k).debug = s.debug := rfl
@[simp] theorem State.dropSnap_otpOpen (s : State) (k : Nat) : (State.dropSnap s k).otpOpen = s.otpOpen := rfl
@[simp] theorem State.dropSnap_heart (s : State) (k : Nat) : (State.dropSnap s k).heart = s.heart := rfl
@[simp] theorem State.dropSnap_rope (s : State) (k : Nat) : (State.dropSnap s k).rope = s.rope := rfl
@[simp] theorem State.dropSnap_lastUr (s : State) (k : Nat) : (State.dropSnap s k).lastUr = s.lastUr := rfl
@[simp] theorem State.dropSnap_guide (s : State) (k : Nat) : (State.dropSnap s k).guide = s.guide := rfl

/-! ### State.updGuide -/

@[simp] theorem State.updGuide_pending (s : State) (f : Guide → Guide) : (State.updGuide s f).pending = s.pending := rfl
@[simp] theorem State.updGuide_freeIx (s : State) (f : Guide → Guide) : (State.updGuide s f).freeIx = s.freeIx := rfl
@[simp] theorem State.updGuide_regs (s : State) (f : Guide → Guide) : (State.updGuide s f).regs = s.regs := rfl
@[simp] theorem State.updGuide_lastRead (s : State) (f : Guide → Guide) : (State.updGuide s f).lastRead = s.lastRead := rfl
@[simp] theorem State.updGuide_evt (s : State) (f : Guide → Guide) : (State.updGuide s f).evt = s.evt := rfl
@[simp] theorem State.updGuide_mbx (s : State) (f : Guide → Guide) : (State.updGuide s f).mbx = s.mbx := rfl
@[simp] theorem State.updGuide_mbSeq (s : State) (f : Guide → Guide) : (State.updGuide s f).mbSeq = s.mbSeq := rfl
@[simp] theorem State.updGuide_host (s : State) (f : Guide → Guide) : (State.updGuide s f).host = s.host := rfl
@[simp] theorem State.updGuide_cadenceStep (s : State) (f : Guide → Guide) : (State.updGuide s f).cadenceStep = s.cadenceStep := rfl
@[simp] theorem State.updGuide_time (s : State) (f : Guide → Guide) : (State.updGuide s f).time = s.time := rfl
@[simp] theorem State.updGuide_edge (s : State) (f : Guide → Guide) : (State.updGuide s f).edge = s.edge := rfl
@[simp] theorem State.updGuide_cal (s : State) (f : Guide → Guide) : (State.updGuide s f).cal = s.cal := rfl
@[simp] theorem State.updGuide_sdf (s : State) (f : Guide → Guide) : (State.updGuide s f).sdf = s.sdf := rfl
@[simp] theorem State.updGuide_loop (s : State) (f : Guide → Guide) : (State.updGuide s f).loop = s.loop := rfl
@[simp] theorem State.updGuide_dramMem (s : State) (f : Guide → Guide) : (State.updGuide s f).dramMem = s.dramMem := rfl
@[simp] theorem State.updGuide_pub (s : State) (f : Guide → Guide) : (State.updGuide s f).pub = s.pub := rfl
@[simp] theorem State.updGuide_fabric (s : State) (f : Guide → Guide) : (State.updGuide s f).fabric = s.fabric := rfl
@[simp] theorem State.updGuide_pins (s : State) (f : Guide → Guide) : (State.updGuide s f).pins = s.pins := rfl
@[simp] theorem State.updGuide_power (s : State) (f : Guide → Guide) : (State.updGuide s f).power = s.power := rfl
@[simp] theorem State.updGuide_dram (s : State) (f : Guide → Guide) : (State.updGuide s f).dram = s.dram := rfl
@[simp] theorem State.updGuide_cfg (s : State) (f : Guide → Guide) : (State.updGuide s f).cfg = s.cfg := rfl
@[simp] theorem State.updGuide_flash (s : State) (f : Guide → Guide) : (State.updGuide s f).flash = s.flash := rfl
@[simp] theorem State.updGuide_otp (s : State) (f : Guide → Guide) : (State.updGuide s f).otp = s.otp := rfl
@[simp] theorem State.updGuide_settings (s : State) (f : Guide → Guide) : (State.updGuide s f).settings = s.settings := rfl
@[simp] theorem State.updGuide_bist (s : State) (f : Guide → Guide) : (State.updGuide s f).bist = s.bist := rfl
@[simp] theorem State.updGuide_debug (s : State) (f : Guide → Guide) : (State.updGuide s f).debug = s.debug := rfl
@[simp] theorem State.updGuide_otpOpen (s : State) (f : Guide → Guide) : (State.updGuide s f).otpOpen = s.otpOpen := rfl
@[simp] theorem State.updGuide_heart (s : State) (f : Guide → Guide) : (State.updGuide s f).heart = s.heart := rfl
@[simp] theorem State.updGuide_rope (s : State) (f : Guide → Guide) : (State.updGuide s f).rope = s.rope := rfl
@[simp] theorem State.updGuide_lastUr (s : State) (f : Guide → Guide) : (State.updGuide s f).lastUr = s.lastUr := rfl
@[simp] theorem State.updGuide_guide (s : State) (f : Guide → Guide) : (State.updGuide s f).guide = f s.guide := rfl

/-! ### State.setCal -/

@[simp] theorem State.setCal_pending (s : State) (i : Nat) (c : CalEngine) : (State.setCal s i c).pending = s.pending := rfl
@[simp] theorem State.setCal_freeIx (s : State) (i : Nat) (c : CalEngine) : (State.setCal s i c).freeIx = s.freeIx := rfl
@[simp] theorem State.setCal_regs (s : State) (i : Nat) (c : CalEngine) : (State.setCal s i c).regs = s.regs := rfl
@[simp] theorem State.setCal_lastRead (s : State) (i : Nat) (c : CalEngine) : (State.setCal s i c).lastRead = s.lastRead := rfl
@[simp] theorem State.setCal_evt (s : State) (i : Nat) (c : CalEngine) : (State.setCal s i c).evt = s.evt := rfl
@[simp] theorem State.setCal_mbx (s : State) (i : Nat) (c : CalEngine) : (State.setCal s i c).mbx = s.mbx := rfl
@[simp] theorem State.setCal_mbSeq (s : State) (i : Nat) (c : CalEngine) : (State.setCal s i c).mbSeq = s.mbSeq := rfl
@[simp] theorem State.setCal_host (s : State) (i : Nat) (c : CalEngine) : (State.setCal s i c).host = s.host := rfl
@[simp] theorem State.setCal_cadenceStep (s : State) (i : Nat) (c : CalEngine) : (State.setCal s i c).cadenceStep = s.cadenceStep := rfl
@[simp] theorem State.setCal_time (s : State) (i : Nat) (c : CalEngine) : (State.setCal s i c).time = s.time := rfl
@[simp] theorem State.setCal_edge (s : State) (i : Nat) (c : CalEngine) : (State.setCal s i c).edge = s.edge := rfl
@[simp] theorem State.setCal_sdf (s : State) (i : Nat) (c : CalEngine) : (State.setCal s i c).sdf = s.sdf := rfl
@[simp] theorem State.setCal_loop (s : State) (i : Nat) (c : CalEngine) : (State.setCal s i c).loop = s.loop := rfl
@[simp] theorem State.setCal_dramMem (s : State) (i : Nat) (c : CalEngine) : (State.setCal s i c).dramMem = s.dramMem := rfl
@[simp] theorem State.setCal_pub (s : State) (i : Nat) (c : CalEngine) : (State.setCal s i c).pub = s.pub := rfl
@[simp] theorem State.setCal_fabric (s : State) (i : Nat) (c : CalEngine) : (State.setCal s i c).fabric = s.fabric := rfl
@[simp] theorem State.setCal_pins (s : State) (i : Nat) (c : CalEngine) : (State.setCal s i c).pins = s.pins := rfl
@[simp] theorem State.setCal_power (s : State) (i : Nat) (c : CalEngine) : (State.setCal s i c).power = s.power := rfl
@[simp] theorem State.setCal_dram (s : State) (i : Nat) (c : CalEngine) : (State.setCal s i c).dram = s.dram := rfl
@[simp] theorem State.setCal_cfg (s : State) (i : Nat) (c : CalEngine) : (State.setCal s i c).cfg = s.cfg := rfl
@[simp] theorem State.setCal_flash (s : State) (i : Nat) (c : CalEngine) : (State.setCal s i c).flash = s.flash := rfl
@[simp] theorem State.setCal_otp (s : State) (i : Nat) (c : CalEngine) : (State.setCal s i c).otp = s.otp := rfl
@[simp] theorem State.setCal_settings (s : State) (i : Nat) (c : CalEngine) : (State.setCal s i c).settings = s.settings := rfl
@[simp] theorem State.setCal_bist (s : State) (i : Nat) (c : CalEngine) : (State.setCal s i c).bist = s.bist := rfl
@[simp] theorem State.setCal_debug (s : State) (i : Nat) (c : CalEngine) : (State.setCal s i c).debug = s.debug := rfl
@[simp] theorem State.setCal_otpOpen (s : State) (i : Nat) (c : CalEngine) : (State.setCal s i c).otpOpen = s.otpOpen := rfl
@[simp] theorem State.setCal_heart (s : State) (i : Nat) (c : CalEngine) : (State.setCal s i c).heart = s.heart := rfl
@[simp] theorem State.setCal_rope (s : State) (i : Nat) (c : CalEngine) : (State.setCal s i c).rope = s.rope := rfl
@[simp] theorem State.setCal_lastUr (s : State) (i : Nat) (c : CalEngine) : (State.setCal s i c).lastUr = s.lastUr := rfl
@[simp] theorem State.setCal_guide (s : State) (i : Nat) (c : CalEngine) : (State.setCal s i c).guide = s.guide := rfl

/-! ### State.updClocks -/

@[simp] theorem State.updClocks_pending (s : State) (f : Clocks → Clocks) : (State.updClocks s f).pending = s.pending := rfl
@[simp] theorem State.updClocks_freeIx (s : State) (f : Clocks → Clocks) : (State.updClocks s f).freeIx = s.freeIx := rfl
@[simp] theorem State.updClocks_regs (s : State) (f : Clocks → Clocks) : (State.updClocks s f).regs = s.regs := rfl
@[simp] theorem State.updClocks_lastRead (s : State) (f : Clocks → Clocks) : (State.updClocks s f).lastRead = s.lastRead := rfl
@[simp] theorem State.updClocks_evt (s : State) (f : Clocks → Clocks) : (State.updClocks s f).evt = s.evt := rfl
@[simp] theorem State.updClocks_mbx (s : State) (f : Clocks → Clocks) : (State.updClocks s f).mbx = s.mbx := rfl
@[simp] theorem State.updClocks_mbSeq (s : State) (f : Clocks → Clocks) : (State.updClocks s f).mbSeq = s.mbSeq := rfl
@[simp] theorem State.updClocks_host (s : State) (f : Clocks → Clocks) : (State.updClocks s f).host = s.host := rfl
@[simp] theorem State.updClocks_cadenceStep (s : State) (f : Clocks → Clocks) : (State.updClocks s f).cadenceStep = s.cadenceStep := rfl
@[simp] theorem State.updClocks_time (s : State) (f : Clocks → Clocks) : (State.updClocks s f).time = s.time := rfl
@[simp] theorem State.updClocks_edge (s : State) (f : Clocks → Clocks) : (State.updClocks s f).edge = s.edge := rfl
@[simp] theorem State.updClocks_cal (s : State) (f : Clocks → Clocks) : (State.updClocks s f).cal = s.cal := rfl
@[simp] theorem State.updClocks_sdf (s : State) (f : Clocks → Clocks) : (State.updClocks s f).sdf = s.sdf := rfl
@[simp] theorem State.updClocks_loop (s : State) (f : Clocks → Clocks) : (State.updClocks s f).loop = s.loop := rfl
@[simp] theorem State.updClocks_dramMem (s : State) (f : Clocks → Clocks) : (State.updClocks s f).dramMem = s.dramMem := rfl
@[simp] theorem State.updClocks_pub (s : State) (f : Clocks → Clocks) : (State.updClocks s f).pub = s.pub := rfl
@[simp] theorem State.updClocks_pins (s : State) (f : Clocks → Clocks) : (State.updClocks s f).pins = s.pins := rfl
@[simp] theorem State.updClocks_power (s : State) (f : Clocks → Clocks) : (State.updClocks s f).power = s.power := rfl
@[simp] theorem State.updClocks_dram (s : State) (f : Clocks → Clocks) : (State.updClocks s f).dram = s.dram := rfl
@[simp] theorem State.updClocks_cfg (s : State) (f : Clocks → Clocks) : (State.updClocks s f).cfg = s.cfg := rfl
@[simp] theorem State.updClocks_flash (s : State) (f : Clocks → Clocks) : (State.updClocks s f).flash = s.flash := rfl
@[simp] theorem State.updClocks_otp (s : State) (f : Clocks → Clocks) : (State.updClocks s f).otp = s.otp := rfl
@[simp] theorem State.updClocks_settings (s : State) (f : Clocks → Clocks) : (State.updClocks s f).settings = s.settings := rfl
@[simp] theorem State.updClocks_bist (s : State) (f : Clocks → Clocks) : (State.updClocks s f).bist = s.bist := rfl
@[simp] theorem State.updClocks_debug (s : State) (f : Clocks → Clocks) : (State.updClocks s f).debug = s.debug := rfl
@[simp] theorem State.updClocks_otpOpen (s : State) (f : Clocks → Clocks) : (State.updClocks s f).otpOpen = s.otpOpen := rfl
@[simp] theorem State.updClocks_heart (s : State) (f : Clocks → Clocks) : (State.updClocks s f).heart = s.heart := rfl
@[simp] theorem State.updClocks_rope (s : State) (f : Clocks → Clocks) : (State.updClocks s f).rope = s.rope := rfl
@[simp] theorem State.updClocks_lastUr (s : State) (f : Clocks → Clocks) : (State.updClocks s f).lastUr = s.lastUr := rfl
@[simp] theorem State.updClocks_guide (s : State) (f : Clocks → Clocks) : (State.updClocks s f).guide = s.guide := rfl

/-! ### State.settlePins -/

@[simp] theorem State.settlePins_pending (s : State) : (State.settlePins s).pending = s.pending := by unfold State.settlePins; rfl
@[simp] theorem State.settlePins_freeIx (s : State) : (State.settlePins s).freeIx = s.freeIx := by unfold State.settlePins; rfl
@[simp] theorem State.settlePins_regs (s : State) : (State.settlePins s).regs = s.regs := by unfold State.settlePins; rfl
@[simp] theorem State.settlePins_lastRead (s : State) : (State.settlePins s).lastRead = s.lastRead := by unfold State.settlePins; rfl
@[simp] theorem State.settlePins_evt (s : State) : (State.settlePins s).evt = s.evt := by unfold State.settlePins; rfl
@[simp] theorem State.settlePins_mbx (s : State) : (State.settlePins s).mbx = s.mbx := by unfold State.settlePins; rfl
@[simp] theorem State.settlePins_mbSeq (s : State) : (State.settlePins s).mbSeq = s.mbSeq := by unfold State.settlePins; rfl
@[simp] theorem State.settlePins_host (s : State) : (State.settlePins s).host = s.host := by unfold State.settlePins; rfl
@[simp] theorem State.settlePins_cadenceStep (s : State) : (State.settlePins s).cadenceStep = s.cadenceStep := by unfold State.settlePins; rfl
@[simp] theorem State.settlePins_time (s : State) : (State.settlePins s).time = s.time := by unfold State.settlePins; rfl
@[simp] theorem State.settlePins_edge (s : State) : (State.settlePins s).edge = s.edge := by unfold State.settlePins; rfl
@[simp] theorem State.settlePins_cal (s : State) : (State.settlePins s).cal = s.cal := by unfold State.settlePins; rfl
@[simp] theorem State.settlePins_sdf (s : State) : (State.settlePins s).sdf = s.sdf := by unfold State.settlePins; rfl
@[simp] theorem State.settlePins_loop (s : State) : (State.settlePins s).loop = s.loop := by unfold State.settlePins; rfl
@[simp] theorem State.settlePins_dramMem (s : State) : (State.settlePins s).dramMem = s.dramMem := by unfold State.settlePins; rfl
@[simp] theorem State.settlePins_pub (s : State) : (State.settlePins s).pub = s.pub := by unfold State.settlePins; rfl
@[simp] theorem State.settlePins_fabric (s : State) : (State.settlePins s).fabric = s.fabric := by unfold State.settlePins; rfl
@[simp] theorem State.settlePins_power (s : State) : (State.settlePins s).power = s.power := by unfold State.settlePins; rfl
@[simp] theorem State.settlePins_dram (s : State) : (State.settlePins s).dram = s.dram := by unfold State.settlePins; rfl
@[simp] theorem State.settlePins_cfg (s : State) : (State.settlePins s).cfg = s.cfg := by unfold State.settlePins; rfl
@[simp] theorem State.settlePins_flash (s : State) : (State.settlePins s).flash = s.flash := by unfold State.settlePins; rfl
@[simp] theorem State.settlePins_otp (s : State) : (State.settlePins s).otp = s.otp := by unfold State.settlePins; rfl
@[simp] theorem State.settlePins_settings (s : State) : (State.settlePins s).settings = s.settings := by unfold State.settlePins; rfl
@[simp] theorem State.settlePins_bist (s : State) : (State.settlePins s).bist = s.bist := by unfold State.settlePins; rfl
@[simp] theorem State.settlePins_debug (s : State) : (State.settlePins s).debug = s.debug := by unfold State.settlePins; rfl
@[simp] theorem State.settlePins_otpOpen (s : State) : (State.settlePins s).otpOpen = s.otpOpen := by unfold State.settlePins; rfl
@[simp] theorem State.settlePins_heart (s : State) : (State.settlePins s).heart = s.heart := by unfold State.settlePins; rfl
@[simp] theorem State.settlePins_rope (s : State) : (State.settlePins s).rope = s.rope := by unfold State.settlePins; rfl
@[simp] theorem State.settlePins_lastUr (s : State) : (State.settlePins s).lastUr = s.lastUr := by unfold State.settlePins; rfl
@[simp] theorem State.settlePins_guide (s : State) : (State.settlePins s).guide = s.guide := by unfold State.settlePins; rfl

/-! ### State.scanUpdate -/

@[simp] theorem State.scanUpdate_pending (s : State) (cells : List (Nat × Bool × Bool)) : (State.scanUpdate s cells).pending = s.pending := rfl
@[simp] theorem State.scanUpdate_freeIx (s : State) (cells : List (Nat × Bool × Bool)) : (State.scanUpdate s cells).freeIx = s.freeIx := rfl
@[simp] theorem State.scanUpdate_regs (s : State) (cells : List (Nat × Bool × Bool)) : (State.scanUpdate s cells).regs = s.regs := rfl
@[simp] theorem State.scanUpdate_lastRead (s : State) (cells : List (Nat × Bool × Bool)) : (State.scanUpdate s cells).lastRead = s.lastRead := rfl
@[simp] theorem State.scanUpdate_evt (s : State) (cells : List (Nat × Bool × Bool)) : (State.scanUpdate s cells).evt = s.evt := rfl
@[simp] theorem State.scanUpdate_mbx (s : State) (cells : List (Nat × Bool × Bool)) : (State.scanUpdate s cells).mbx = s.mbx := rfl
@[simp] theorem State.scanUpdate_mbSeq (s : State) (cells : List (Nat × Bool × Bool)) : (State.scanUpdate s cells).mbSeq = s.mbSeq := rfl
@[simp] theorem State.scanUpdate_host (s : State) (cells : List (Nat × Bool × Bool)) : (State.scanUpdate s cells).host = s.host := rfl
@[simp] theorem State.scanUpdate_cadenceStep (s : State) (cells : List (Nat × Bool × Bool)) : (State.scanUpdate s cells).cadenceStep = s.cadenceStep := rfl
@[simp] theorem State.scanUpdate_time (s : State) (cells : List (Nat × Bool × Bool)) : (State.scanUpdate s cells).time = s.time := rfl
@[simp] theorem State.scanUpdate_edge (s : State) (cells : List (Nat × Bool × Bool)) : (State.scanUpdate s cells).edge = s.edge := rfl
@[simp] theorem State.scanUpdate_cal (s : State) (cells : List (Nat × Bool × Bool)) : (State.scanUpdate s cells).cal = s.cal := rfl
@[simp] theorem State.scanUpdate_sdf (s : State) (cells : List (Nat × Bool × Bool)) : (State.scanUpdate s cells).sdf = s.sdf := rfl
@[simp] theorem State.scanUpdate_loop (s : State) (cells : List (Nat × Bool × Bool)) : (State.scanUpdate s cells).loop = s.loop := rfl
@[simp] theorem State.scanUpdate_dramMem (s : State) (cells : List (Nat × Bool × Bool)) : (State.scanUpdate s cells).dramMem = s.dramMem := rfl
@[simp] theorem State.scanUpdate_pub (s : State) (cells : List (Nat × Bool × Bool)) : (State.scanUpdate s cells).pub = s.pub := rfl
@[simp] theorem State.scanUpdate_fabric (s : State) (cells : List (Nat × Bool × Bool)) : (State.scanUpdate s cells).fabric = s.fabric := rfl
@[simp] theorem State.scanUpdate_power (s : State) (cells : List (Nat × Bool × Bool)) : (State.scanUpdate s cells).power = s.power := rfl
@[simp] theorem State.scanUpdate_dram (s : State) (cells : List (Nat × Bool × Bool)) : (State.scanUpdate s cells).dram = s.dram := rfl
@[simp] theorem State.scanUpdate_cfg (s : State) (cells : List (Nat × Bool × Bool)) : (State.scanUpdate s cells).cfg = s.cfg := rfl
@[simp] theorem State.scanUpdate_flash (s : State) (cells : List (Nat × Bool × Bool)) : (State.scanUpdate s cells).flash = s.flash := rfl
@[simp] theorem State.scanUpdate_otp (s : State) (cells : List (Nat × Bool × Bool)) : (State.scanUpdate s cells).otp = s.otp := rfl
@[simp] theorem State.scanUpdate_settings (s : State) (cells : List (Nat × Bool × Bool)) : (State.scanUpdate s cells).settings = s.settings := rfl
@[simp] theorem State.scanUpdate_bist (s : State) (cells : List (Nat × Bool × Bool)) : (State.scanUpdate s cells).bist = s.bist := rfl
@[simp] theorem State.scanUpdate_debug (s : State) (cells : List (Nat × Bool × Bool)) : (State.scanUpdate s cells).debug = s.debug := rfl
@[simp] theorem State.scanUpdate_otpOpen (s : State) (cells : List (Nat × Bool × Bool)) : (State.scanUpdate s cells).otpOpen = s.otpOpen := rfl
@[simp] theorem State.scanUpdate_heart (s : State) (cells : List (Nat × Bool × Bool)) : (State.scanUpdate s cells).heart = s.heart := rfl
@[simp] theorem State.scanUpdate_rope (s : State) (cells : List (Nat × Bool × Bool)) : (State.scanUpdate s cells).rope = s.rope := rfl
@[simp] theorem State.scanUpdate_lastUr (s : State) (cells : List (Nat × Bool × Bool)) : (State.scanUpdate s cells).lastUr = s.lastUr := rfl
@[simp] theorem State.scanUpdate_guide (s : State) (cells : List (Nat × Bool × Bool)) : (State.scanUpdate s cells).guide = s.guide := rfl

/-! ### State.updFlash -/

@[simp] theorem State.updFlash_pending (s : State) (f : Flash → Flash) : (State.updFlash s f).pending = s.pending := rfl
@[simp] theorem State.updFlash_freeIx (s : State) (f : Flash → Flash) : (State.updFlash s f).freeIx = s.freeIx := rfl
@[simp] theorem State.updFlash_regs (s : State) (f : Flash → Flash) : (State.updFlash s f).regs = s.regs := rfl
@[simp] theorem State.updFlash_lastRead (s : State) (f : Flash → Flash) : (State.updFlash s f).lastRead = s.lastRead := rfl
@[simp] theorem State.updFlash_evt (s : State) (f : Flash → Flash) : (State.updFlash s f).evt = s.evt := rfl
@[simp] theorem State.updFlash_mbx (s : State) (f : Flash → Flash) : (State.updFlash s f).mbx = s.mbx := rfl
@[simp] theorem State.updFlash_mbSeq (s : State) (f : Flash → Flash) : (State.updFlash s f).mbSeq = s.mbSeq := rfl
@[simp] theorem State.updFlash_host (s : State) (f : Flash → Flash) : (State.updFlash s f).host = s.host := rfl
@[simp] theorem State.updFlash_cadenceStep (s : State) (f : Flash → Flash) : (State.updFlash s f).cadenceStep = s.cadenceStep := rfl
@[simp] theorem State.updFlash_time (s : State) (f : Flash → Flash) : (State.updFlash s f).time = s.time := rfl
@[simp] theorem State.updFlash_edge (s : State) (f : Flash → Flash) : (State.updFlash s f).edge = s.edge := rfl
@[simp] theorem State.updFlash_cal (s : State) (f : Flash → Flash) : (State.updFlash s f).cal = s.cal := rfl
@[simp] theorem State.updFlash_sdf (s : State) (f : Flash → Flash) : (State.updFlash s f).sdf = s.sdf := rfl
@[simp] theorem State.updFlash_loop (s : State) (f : Flash → Flash) : (State.updFlash s f).loop = s.loop := rfl
@[simp] theorem State.updFlash_dramMem (s : State) (f : Flash → Flash) : (State.updFlash s f).dramMem = s.dramMem := rfl
@[simp] theorem State.updFlash_pub (s : State) (f : Flash → Flash) : (State.updFlash s f).pub = s.pub := rfl
@[simp] theorem State.updFlash_fabric (s : State) (f : Flash → Flash) : (State.updFlash s f).fabric = s.fabric := rfl
@[simp] theorem State.updFlash_pins (s : State) (f : Flash → Flash) : (State.updFlash s f).pins = s.pins := rfl
@[simp] theorem State.updFlash_power (s : State) (f : Flash → Flash) : (State.updFlash s f).power = s.power := rfl
@[simp] theorem State.updFlash_dram (s : State) (f : Flash → Flash) : (State.updFlash s f).dram = s.dram := rfl
@[simp] theorem State.updFlash_cfg (s : State) (f : Flash → Flash) : (State.updFlash s f).cfg = s.cfg := rfl
@[simp] theorem State.updFlash_otp (s : State) (f : Flash → Flash) : (State.updFlash s f).otp = s.otp := rfl
@[simp] theorem State.updFlash_settings (s : State) (f : Flash → Flash) : (State.updFlash s f).settings = s.settings := rfl
@[simp] theorem State.updFlash_bist (s : State) (f : Flash → Flash) : (State.updFlash s f).bist = s.bist := rfl
@[simp] theorem State.updFlash_debug (s : State) (f : Flash → Flash) : (State.updFlash s f).debug = s.debug := rfl
@[simp] theorem State.updFlash_otpOpen (s : State) (f : Flash → Flash) : (State.updFlash s f).otpOpen = s.otpOpen := rfl
@[simp] theorem State.updFlash_heart (s : State) (f : Flash → Flash) : (State.updFlash s f).heart = s.heart := rfl
@[simp] theorem State.updFlash_rope (s : State) (f : Flash → Flash) : (State.updFlash s f).rope = s.rope := rfl
@[simp] theorem State.updFlash_lastUr (s : State) (f : Flash → Flash) : (State.updFlash s f).lastUr = s.lastUr := rfl
@[simp] theorem State.updFlash_guide (s : State) (f : Flash → Flash) : (State.updFlash s f).guide = s.guide := rfl
@[simp] theorem State.updFlash_flash (s : State) (f : Flash → Flash) : (State.updFlash s f).flash = f s.flash := rfl

/-! ### State.otpProgram -/

@[simp] theorem State.otpProgram_pending (s : State) (w : Nat) (v : BitVec 64) : (State.otpProgram s w v).pending = s.pending := rfl
@[simp] theorem State.otpProgram_freeIx (s : State) (w : Nat) (v : BitVec 64) : (State.otpProgram s w v).freeIx = s.freeIx := rfl
@[simp] theorem State.otpProgram_regs (s : State) (w : Nat) (v : BitVec 64) : (State.otpProgram s w v).regs = s.regs := rfl
@[simp] theorem State.otpProgram_lastRead (s : State) (w : Nat) (v : BitVec 64) : (State.otpProgram s w v).lastRead = s.lastRead := rfl
@[simp] theorem State.otpProgram_evt (s : State) (w : Nat) (v : BitVec 64) : (State.otpProgram s w v).evt = s.evt := rfl
@[simp] theorem State.otpProgram_mbx (s : State) (w : Nat) (v : BitVec 64) : (State.otpProgram s w v).mbx = s.mbx := rfl
@[simp] theorem State.otpProgram_mbSeq (s : State) (w : Nat) (v : BitVec 64) : (State.otpProgram s w v).mbSeq = s.mbSeq := rfl
@[simp] theorem State.otpProgram_host (s : State) (w : Nat) (v : BitVec 64) : (State.otpProgram s w v).host = s.host := rfl
@[simp] theorem State.otpProgram_cadenceStep (s : State) (w : Nat) (v : BitVec 64) : (State.otpProgram s w v).cadenceStep = s.cadenceStep := rfl
@[simp] theorem State.otpProgram_time (s : State) (w : Nat) (v : BitVec 64) : (State.otpProgram s w v).time = s.time := rfl
@[simp] theorem State.otpProgram_edge (s : State) (w : Nat) (v : BitVec 64) : (State.otpProgram s w v).edge = s.edge := rfl
@[simp] theorem State.otpProgram_cal (s : State) (w : Nat) (v : BitVec 64) : (State.otpProgram s w v).cal = s.cal := rfl
@[simp] theorem State.otpProgram_sdf (s : State) (w : Nat) (v : BitVec 64) : (State.otpProgram s w v).sdf = s.sdf := rfl
@[simp] theorem State.otpProgram_loop (s : State) (w : Nat) (v : BitVec 64) : (State.otpProgram s w v).loop = s.loop := rfl
@[simp] theorem State.otpProgram_dramMem (s : State) (w : Nat) (v : BitVec 64) : (State.otpProgram s w v).dramMem = s.dramMem := rfl
@[simp] theorem State.otpProgram_pub (s : State) (w : Nat) (v : BitVec 64) : (State.otpProgram s w v).pub = s.pub := rfl
@[simp] theorem State.otpProgram_fabric (s : State) (w : Nat) (v : BitVec 64) : (State.otpProgram s w v).fabric = s.fabric := rfl
@[simp] theorem State.otpProgram_pins (s : State) (w : Nat) (v : BitVec 64) : (State.otpProgram s w v).pins = s.pins := rfl
@[simp] theorem State.otpProgram_power (s : State) (w : Nat) (v : BitVec 64) : (State.otpProgram s w v).power = s.power := rfl
@[simp] theorem State.otpProgram_dram (s : State) (w : Nat) (v : BitVec 64) : (State.otpProgram s w v).dram = s.dram := rfl
@[simp] theorem State.otpProgram_cfg (s : State) (w : Nat) (v : BitVec 64) : (State.otpProgram s w v).cfg = s.cfg := rfl
@[simp] theorem State.otpProgram_flash (s : State) (w : Nat) (v : BitVec 64) : (State.otpProgram s w v).flash = s.flash := rfl
@[simp] theorem State.otpProgram_settings (s : State) (w : Nat) (v : BitVec 64) : (State.otpProgram s w v).settings = s.settings := rfl
@[simp] theorem State.otpProgram_bist (s : State) (w : Nat) (v : BitVec 64) : (State.otpProgram s w v).bist = s.bist := rfl
@[simp] theorem State.otpProgram_debug (s : State) (w : Nat) (v : BitVec 64) : (State.otpProgram s w v).debug = s.debug := rfl
@[simp] theorem State.otpProgram_otpOpen (s : State) (w : Nat) (v : BitVec 64) : (State.otpProgram s w v).otpOpen = s.otpOpen := rfl
@[simp] theorem State.otpProgram_heart (s : State) (w : Nat) (v : BitVec 64) : (State.otpProgram s w v).heart = s.heart := rfl
@[simp] theorem State.otpProgram_rope (s : State) (w : Nat) (v : BitVec 64) : (State.otpProgram s w v).rope = s.rope := rfl
@[simp] theorem State.otpProgram_lastUr (s : State) (w : Nat) (v : BitVec 64) : (State.otpProgram s w v).lastUr = s.lastUr := rfl
@[simp] theorem State.otpProgram_guide (s : State) (w : Nat) (v : BitVec 64) : (State.otpProgram s w v).guide = s.guide := rfl

/-! ### State.otpReload -/

@[simp] theorem State.otpReload_pending (s : State) : (State.otpReload s).pending = s.pending := rfl
@[simp] theorem State.otpReload_freeIx (s : State) : (State.otpReload s).freeIx = s.freeIx := rfl
@[simp] theorem State.otpReload_regs (s : State) : (State.otpReload s).regs = s.regs := rfl
@[simp] theorem State.otpReload_lastRead (s : State) : (State.otpReload s).lastRead = s.lastRead := rfl
@[simp] theorem State.otpReload_evt (s : State) : (State.otpReload s).evt = s.evt := rfl
@[simp] theorem State.otpReload_mbx (s : State) : (State.otpReload s).mbx = s.mbx := rfl
@[simp] theorem State.otpReload_mbSeq (s : State) : (State.otpReload s).mbSeq = s.mbSeq := rfl
@[simp] theorem State.otpReload_host (s : State) : (State.otpReload s).host = s.host := rfl
@[simp] theorem State.otpReload_cadenceStep (s : State) : (State.otpReload s).cadenceStep = s.cadenceStep := rfl
@[simp] theorem State.otpReload_time (s : State) : (State.otpReload s).time = s.time := rfl
@[simp] theorem State.otpReload_edge (s : State) : (State.otpReload s).edge = s.edge := rfl
@[simp] theorem State.otpReload_cal (s : State) : (State.otpReload s).cal = s.cal := rfl
@[simp] theorem State.otpReload_sdf (s : State) : (State.otpReload s).sdf = s.sdf := rfl
@[simp] theorem State.otpReload_loop (s : State) : (State.otpReload s).loop = s.loop := rfl
@[simp] theorem State.otpReload_dramMem (s : State) : (State.otpReload s).dramMem = s.dramMem := rfl
@[simp] theorem State.otpReload_pub (s : State) : (State.otpReload s).pub = s.pub := rfl
@[simp] theorem State.otpReload_fabric (s : State) : (State.otpReload s).fabric = s.fabric := rfl
@[simp] theorem State.otpReload_pins (s : State) : (State.otpReload s).pins = s.pins := rfl
@[simp] theorem State.otpReload_power (s : State) : (State.otpReload s).power = s.power := rfl
@[simp] theorem State.otpReload_dram (s : State) : (State.otpReload s).dram = s.dram := rfl
@[simp] theorem State.otpReload_cfg (s : State) : (State.otpReload s).cfg = s.cfg := rfl
@[simp] theorem State.otpReload_flash (s : State) : (State.otpReload s).flash = s.flash := rfl
@[simp] theorem State.otpReload_settings (s : State) : (State.otpReload s).settings = s.settings := rfl
@[simp] theorem State.otpReload_bist (s : State) : (State.otpReload s).bist = s.bist := rfl
@[simp] theorem State.otpReload_debug (s : State) : (State.otpReload s).debug = s.debug := rfl
@[simp] theorem State.otpReload_otpOpen (s : State) : (State.otpReload s).otpOpen = s.otpOpen := rfl
@[simp] theorem State.otpReload_heart (s : State) : (State.otpReload s).heart = s.heart := rfl
@[simp] theorem State.otpReload_rope (s : State) : (State.otpReload s).rope = s.rope := rfl
@[simp] theorem State.otpReload_lastUr (s : State) : (State.otpReload s).lastUr = s.lastUr := rfl
@[simp] theorem State.otpReload_guide (s : State) : (State.otpReload s).guide = s.guide := rfl

/-! ### State.otpFollow -/

@[simp] theorem State.otpFollow_pending (s : State) (w : Nat) : (State.otpFollow s w).pending = s.pending := rfl
@[simp] theorem State.otpFollow_freeIx (s : State) (w : Nat) : (State.otpFollow s w).freeIx = s.freeIx := rfl
@[simp] theorem State.otpFollow_regs (s : State) (w : Nat) : (State.otpFollow s w).regs = s.regs := rfl
@[simp] theorem State.otpFollow_lastRead (s : State) (w : Nat) : (State.otpFollow s w).lastRead = s.lastRead := rfl
@[simp] theorem State.otpFollow_evt (s : State) (w : Nat) : (State.otpFollow s w).evt = s.evt := rfl
@[simp] theorem State.otpFollow_mbx (s : State) (w : Nat) : (State.otpFollow s w).mbx = s.mbx := rfl
@[simp] theorem State.otpFollow_mbSeq (s : State) (w : Nat) : (State.otpFollow s w).mbSeq = s.mbSeq := rfl
@[simp] theorem State.otpFollow_host (s : State) (w : Nat) : (State.otpFollow s w).host = s.host := rfl
@[simp] theorem State.otpFollow_cadenceStep (s : State) (w : Nat) : (State.otpFollow s w).cadenceStep = s.cadenceStep := rfl
@[simp] theorem State.otpFollow_time (s : State) (w : Nat) : (State.otpFollow s w).time = s.time := rfl
@[simp] theorem State.otpFollow_edge (s : State) (w : Nat) : (State.otpFollow s w).edge = s.edge := rfl
@[simp] theorem State.otpFollow_cal (s : State) (w : Nat) : (State.otpFollow s w).cal = s.cal := rfl
@[simp] theorem State.otpFollow_sdf (s : State) (w : Nat) : (State.otpFollow s w).sdf = s.sdf := rfl
@[simp] theorem State.otpFollow_loop (s : State) (w : Nat) : (State.otpFollow s w).loop = s.loop := rfl
@[simp] theorem State.otpFollow_dramMem (s : State) (w : Nat) : (State.otpFollow s w).dramMem = s.dramMem := rfl
@[simp] theorem State.otpFollow_pub (s : State) (w : Nat) : (State.otpFollow s w).pub = s.pub := rfl
@[simp] theorem State.otpFollow_fabric (s : State) (w : Nat) : (State.otpFollow s w).fabric = s.fabric := rfl
@[simp] theorem State.otpFollow_pins (s : State) (w : Nat) : (State.otpFollow s w).pins = s.pins := rfl
@[simp] theorem State.otpFollow_power (s : State) (w : Nat) : (State.otpFollow s w).power = s.power := rfl
@[simp] theorem State.otpFollow_dram (s : State) (w : Nat) : (State.otpFollow s w).dram = s.dram := rfl
@[simp] theorem State.otpFollow_cfg (s : State) (w : Nat) : (State.otpFollow s w).cfg = s.cfg := rfl
@[simp] theorem State.otpFollow_flash (s : State) (w : Nat) : (State.otpFollow s w).flash = s.flash := rfl
@[simp] theorem State.otpFollow_settings (s : State) (w : Nat) : (State.otpFollow s w).settings = s.settings := rfl
@[simp] theorem State.otpFollow_bist (s : State) (w : Nat) : (State.otpFollow s w).bist = s.bist := rfl
@[simp] theorem State.otpFollow_debug (s : State) (w : Nat) : (State.otpFollow s w).debug = s.debug := rfl
@[simp] theorem State.otpFollow_otpOpen (s : State) (w : Nat) : (State.otpFollow s w).otpOpen = s.otpOpen := rfl
@[simp] theorem State.otpFollow_heart (s : State) (w : Nat) : (State.otpFollow s w).heart = s.heart := rfl
@[simp] theorem State.otpFollow_rope (s : State) (w : Nat) : (State.otpFollow s w).rope = s.rope := rfl
@[simp] theorem State.otpFollow_lastUr (s : State) (w : Nat) : (State.otpFollow s w).lastUr = s.lastUr := rfl
@[simp] theorem State.otpFollow_guide (s : State) (w : Nat) : (State.otpFollow s w).guide = s.guide := rfl

/-! ### State.updHeart -/

@[simp] theorem State.updHeart_pending (s : State) (f : HeartCopy → HeartCopy) : (State.updHeart s f).pending = s.pending := rfl
@[simp] theorem State.updHeart_freeIx (s : State) (f : HeartCopy → HeartCopy) : (State.updHeart s f).freeIx = s.freeIx := rfl
@[simp] theorem State.updHeart_regs (s : State) (f : HeartCopy → HeartCopy) : (State.updHeart s f).regs = s.regs := rfl
@[simp] theorem State.updHeart_lastRead (s : State) (f : HeartCopy → HeartCopy) : (State.updHeart s f).lastRead = s.lastRead := rfl
@[simp] theorem State.updHeart_evt (s : State) (f : HeartCopy → HeartCopy) : (State.updHeart s f).evt = s.evt := rfl
@[simp] theorem State.updHeart_mbx (s : State) (f : HeartCopy → HeartCopy) : (State.updHeart s f).mbx = s.mbx := rfl
@[simp] theorem State.updHeart_mbSeq (s : State) (f : HeartCopy → HeartCopy) : (State.updHeart s f).mbSeq = s.mbSeq := rfl
@[simp] theorem State.updHeart_host (s : State) (f : HeartCopy → HeartCopy) : (State.updHeart s f).host = s.host := rfl
@[simp] theorem State.updHeart_cadenceStep (s : State) (f : HeartCopy → HeartCopy) : (State.updHeart s f).cadenceStep = s.cadenceStep := rfl
@[simp] theorem State.updHeart_time (s : State) (f : HeartCopy → HeartCopy) : (State.updHeart s f).time = s.time := rfl
@[simp] theorem State.updHeart_edge (s : State) (f : HeartCopy → HeartCopy) : (State.updHeart s f).edge = s.edge := rfl
@[simp] theorem State.updHeart_cal (s : State) (f : HeartCopy → HeartCopy) : (State.updHeart s f).cal = s.cal := rfl
@[simp] theorem State.updHeart_sdf (s : State) (f : HeartCopy → HeartCopy) : (State.updHeart s f).sdf = s.sdf := rfl
@[simp] theorem State.updHeart_loop (s : State) (f : HeartCopy → HeartCopy) : (State.updHeart s f).loop = s.loop := rfl
@[simp] theorem State.updHeart_dramMem (s : State) (f : HeartCopy → HeartCopy) : (State.updHeart s f).dramMem = s.dramMem := rfl
@[simp] theorem State.updHeart_pub (s : State) (f : HeartCopy → HeartCopy) : (State.updHeart s f).pub = s.pub := rfl
@[simp] theorem State.updHeart_fabric (s : State) (f : HeartCopy → HeartCopy) : (State.updHeart s f).fabric = s.fabric := rfl
@[simp] theorem State.updHeart_pins (s : State) (f : HeartCopy → HeartCopy) : (State.updHeart s f).pins = s.pins := rfl
@[simp] theorem State.updHeart_power (s : State) (f : HeartCopy → HeartCopy) : (State.updHeart s f).power = s.power := rfl
@[simp] theorem State.updHeart_dram (s : State) (f : HeartCopy → HeartCopy) : (State.updHeart s f).dram = s.dram := rfl
@[simp] theorem State.updHeart_cfg (s : State) (f : HeartCopy → HeartCopy) : (State.updHeart s f).cfg = s.cfg := rfl
@[simp] theorem State.updHeart_flash (s : State) (f : HeartCopy → HeartCopy) : (State.updHeart s f).flash = s.flash := rfl
@[simp] theorem State.updHeart_otp (s : State) (f : HeartCopy → HeartCopy) : (State.updHeart s f).otp = s.otp := rfl
@[simp] theorem State.updHeart_settings (s : State) (f : HeartCopy → HeartCopy) : (State.updHeart s f).settings = s.settings := rfl
@[simp] theorem State.updHeart_bist (s : State) (f : HeartCopy → HeartCopy) : (State.updHeart s f).bist = s.bist := rfl
@[simp] theorem State.updHeart_debug (s : State) (f : HeartCopy → HeartCopy) : (State.updHeart s f).debug = s.debug := rfl
@[simp] theorem State.updHeart_otpOpen (s : State) (f : HeartCopy → HeartCopy) : (State.updHeart s f).otpOpen = s.otpOpen := rfl
@[simp] theorem State.updHeart_rope (s : State) (f : HeartCopy → HeartCopy) : (State.updHeart s f).rope = s.rope := rfl
@[simp] theorem State.updHeart_lastUr (s : State) (f : HeartCopy → HeartCopy) : (State.updHeart s f).lastUr = s.lastUr := rfl
@[simp] theorem State.updHeart_guide (s : State) (f : HeartCopy → HeartCopy) : (State.updHeart s f).guide = s.guide := rfl

/-! ### State.updBist -/

@[simp] theorem State.updBist_pending (s : State) (f : Bist → Bist) : (State.updBist s f).pending = s.pending := rfl
@[simp] theorem State.updBist_freeIx (s : State) (f : Bist → Bist) : (State.updBist s f).freeIx = s.freeIx := rfl
@[simp] theorem State.updBist_regs (s : State) (f : Bist → Bist) : (State.updBist s f).regs = s.regs := rfl
@[simp] theorem State.updBist_lastRead (s : State) (f : Bist → Bist) : (State.updBist s f).lastRead = s.lastRead := rfl
@[simp] theorem State.updBist_evt (s : State) (f : Bist → Bist) : (State.updBist s f).evt = s.evt := rfl
@[simp] theorem State.updBist_mbx (s : State) (f : Bist → Bist) : (State.updBist s f).mbx = s.mbx := rfl
@[simp] theorem State.updBist_mbSeq (s : State) (f : Bist → Bist) : (State.updBist s f).mbSeq = s.mbSeq := rfl
@[simp] theorem State.updBist_host (s : State) (f : Bist → Bist) : (State.updBist s f).host = s.host := rfl
@[simp] theorem State.updBist_cadenceStep (s : State) (f : Bist → Bist) : (State.updBist s f).cadenceStep = s.cadenceStep := rfl
@[simp] theorem State.updBist_time (s : State) (f : Bist → Bist) : (State.updBist s f).time = s.time := rfl
@[simp] theorem State.updBist_edge (s : State) (f : Bist → Bist) : (State.updBist s f).edge = s.edge := rfl
@[simp] theorem State.updBist_cal (s : State) (f : Bist → Bist) : (State.updBist s f).cal = s.cal := rfl
@[simp] theorem State.updBist_sdf (s : State) (f : Bist → Bist) : (State.updBist s f).sdf = s.sdf := rfl
@[simp] theorem State.updBist_loop (s : State) (f : Bist → Bist) : (State.updBist s f).loop = s.loop := rfl
@[simp] theorem State.updBist_dramMem (s : State) (f : Bist → Bist) : (State.updBist s f).dramMem = s.dramMem := rfl
@[simp] theorem State.updBist_pub (s : State) (f : Bist → Bist) : (State.updBist s f).pub = s.pub := rfl
@[simp] theorem State.updBist_fabric (s : State) (f : Bist → Bist) : (State.updBist s f).fabric = s.fabric := rfl
@[simp] theorem State.updBist_pins (s : State) (f : Bist → Bist) : (State.updBist s f).pins = s.pins := rfl
@[simp] theorem State.updBist_power (s : State) (f : Bist → Bist) : (State.updBist s f).power = s.power := rfl
@[simp] theorem State.updBist_dram (s : State) (f : Bist → Bist) : (State.updBist s f).dram = s.dram := rfl
@[simp] theorem State.updBist_cfg (s : State) (f : Bist → Bist) : (State.updBist s f).cfg = s.cfg := rfl
@[simp] theorem State.updBist_flash (s : State) (f : Bist → Bist) : (State.updBist s f).flash = s.flash := rfl
@[simp] theorem State.updBist_otp (s : State) (f : Bist → Bist) : (State.updBist s f).otp = s.otp := rfl
@[simp] theorem State.updBist_settings (s : State) (f : Bist → Bist) : (State.updBist s f).settings = s.settings := rfl
@[simp] theorem State.updBist_debug (s : State) (f : Bist → Bist) : (State.updBist s f).debug = s.debug := rfl
@[simp] theorem State.updBist_otpOpen (s : State) (f : Bist → Bist) : (State.updBist s f).otpOpen = s.otpOpen := rfl
@[simp] theorem State.updBist_heart (s : State) (f : Bist → Bist) : (State.updBist s f).heart = s.heart := rfl
@[simp] theorem State.updBist_rope (s : State) (f : Bist → Bist) : (State.updBist s f).rope = s.rope := rfl
@[simp] theorem State.updBist_lastUr (s : State) (f : Bist → Bist) : (State.updBist s f).lastUr = s.lastUr := rfl
@[simp] theorem State.updBist_guide (s : State) (f : Bist → Bist) : (State.updBist s f).guide = s.guide := rfl
@[simp] theorem State.updBist_bist (s : State) (f : Bist → Bist) : (State.updBist s f).bist = f s.bist := rfl

/-! ### State.updHost -/

@[simp] theorem State.updHost_pending (s : State) (f : HostPort → HostPort) : (State.updHost s f).pending = s.pending := rfl
@[simp] theorem State.updHost_freeIx (s : State) (f : HostPort → HostPort) : (State.updHost s f).freeIx = s.freeIx := rfl
@[simp] theorem State.updHost_regs (s : State) (f : HostPort → HostPort) : (State.updHost s f).regs = s.regs := rfl
@[simp] theorem State.updHost_lastRead (s : State) (f : HostPort → HostPort) : (State.updHost s f).lastRead = s.lastRead := rfl
@[simp] theorem State.updHost_evt (s : State) (f : HostPort → HostPort) : (State.updHost s f).evt = s.evt := rfl
@[simp] theorem State.updHost_mbx (s : State) (f : HostPort → HostPort) : (State.updHost s f).mbx = s.mbx := rfl
@[simp] theorem State.updHost_mbSeq (s : State) (f : HostPort → HostPort) : (State.updHost s f).mbSeq = s.mbSeq := rfl
@[simp] theorem State.updHost_cadenceStep (s : State) (f : HostPort → HostPort) : (State.updHost s f).cadenceStep = s.cadenceStep := rfl
@[simp] theorem State.updHost_time (s : State) (f : HostPort → HostPort) : (State.updHost s f).time = s.time := rfl
@[simp] theorem State.updHost_edge (s : State) (f : HostPort → HostPort) : (State.updHost s f).edge = s.edge := rfl
@[simp] theorem State.updHost_cal (s : State) (f : HostPort → HostPort) : (State.updHost s f).cal = s.cal := rfl
@[simp] theorem State.updHost_sdf (s : State) (f : HostPort → HostPort) : (State.updHost s f).sdf = s.sdf := rfl
@[simp] theorem State.updHost_loop (s : State) (f : HostPort → HostPort) : (State.updHost s f).loop = s.loop := rfl
@[simp] theorem State.updHost_dramMem (s : State) (f : HostPort → HostPort) : (State.updHost s f).dramMem = s.dramMem := rfl
@[simp] theorem State.updHost_pub (s : State) (f : HostPort → HostPort) : (State.updHost s f).pub = s.pub := rfl
@[simp] theorem State.updHost_fabric (s : State) (f : HostPort → HostPort) : (State.updHost s f).fabric = s.fabric := rfl
@[simp] theorem State.updHost_pins (s : State) (f : HostPort → HostPort) : (State.updHost s f).pins = s.pins := rfl
@[simp] theorem State.updHost_power (s : State) (f : HostPort → HostPort) : (State.updHost s f).power = s.power := rfl
@[simp] theorem State.updHost_dram (s : State) (f : HostPort → HostPort) : (State.updHost s f).dram = s.dram := rfl
@[simp] theorem State.updHost_cfg (s : State) (f : HostPort → HostPort) : (State.updHost s f).cfg = s.cfg := rfl
@[simp] theorem State.updHost_flash (s : State) (f : HostPort → HostPort) : (State.updHost s f).flash = s.flash := rfl
@[simp] theorem State.updHost_otp (s : State) (f : HostPort → HostPort) : (State.updHost s f).otp = s.otp := rfl
@[simp] theorem State.updHost_settings (s : State) (f : HostPort → HostPort) : (State.updHost s f).settings = s.settings := rfl
@[simp] theorem State.updHost_bist (s : State) (f : HostPort → HostPort) : (State.updHost s f).bist = s.bist := rfl
@[simp] theorem State.updHost_debug (s : State) (f : HostPort → HostPort) : (State.updHost s f).debug = s.debug := rfl
@[simp] theorem State.updHost_otpOpen (s : State) (f : HostPort → HostPort) : (State.updHost s f).otpOpen = s.otpOpen := rfl
@[simp] theorem State.updHost_heart (s : State) (f : HostPort → HostPort) : (State.updHost s f).heart = s.heart := rfl
@[simp] theorem State.updHost_rope (s : State) (f : HostPort → HostPort) : (State.updHost s f).rope = s.rope := rfl
@[simp] theorem State.updHost_lastUr (s : State) (f : HostPort → HostPort) : (State.updHost s f).lastUr = s.lastUr := rfl
@[simp] theorem State.updHost_guide (s : State) (f : HostPort → HostPort) : (State.updHost s f).guide = s.guide := rfl
@[simp] theorem State.updHost_host (s : State) (f : HostPort → HostPort) : (State.updHost s f).host = f s.host := rfl

/-! ### State.updDram -/

@[simp] theorem State.updDram_pending (s : State) (f : Dram → Dram) : (State.updDram s f).pending = s.pending := rfl
@[simp] theorem State.updDram_freeIx (s : State) (f : Dram → Dram) : (State.updDram s f).freeIx = s.freeIx := rfl
@[simp] theorem State.updDram_regs (s : State) (f : Dram → Dram) : (State.updDram s f).regs = s.regs := rfl
@[simp] theorem State.updDram_lastRead (s : State) (f : Dram → Dram) : (State.updDram s f).lastRead = s.lastRead := rfl
@[simp] theorem State.updDram_evt (s : State) (f : Dram → Dram) : (State.updDram s f).evt = s.evt := rfl
@[simp] theorem State.updDram_mbx (s : State) (f : Dram → Dram) : (State.updDram s f).mbx = s.mbx := rfl
@[simp] theorem State.updDram_mbSeq (s : State) (f : Dram → Dram) : (State.updDram s f).mbSeq = s.mbSeq := rfl
@[simp] theorem State.updDram_host (s : State) (f : Dram → Dram) : (State.updDram s f).host = s.host := rfl
@[simp] theorem State.updDram_cadenceStep (s : State) (f : Dram → Dram) : (State.updDram s f).cadenceStep = s.cadenceStep := rfl
@[simp] theorem State.updDram_time (s : State) (f : Dram → Dram) : (State.updDram s f).time = s.time := rfl
@[simp] theorem State.updDram_edge (s : State) (f : Dram → Dram) : (State.updDram s f).edge = s.edge := rfl
@[simp] theorem State.updDram_cal (s : State) (f : Dram → Dram) : (State.updDram s f).cal = s.cal := rfl
@[simp] theorem State.updDram_sdf (s : State) (f : Dram → Dram) : (State.updDram s f).sdf = s.sdf := rfl
@[simp] theorem State.updDram_loop (s : State) (f : Dram → Dram) : (State.updDram s f).loop = s.loop := rfl
@[simp] theorem State.updDram_dramMem (s : State) (f : Dram → Dram) : (State.updDram s f).dramMem = s.dramMem := rfl
@[simp] theorem State.updDram_pub (s : State) (f : Dram → Dram) : (State.updDram s f).pub = s.pub := rfl
@[simp] theorem State.updDram_fabric (s : State) (f : Dram → Dram) : (State.updDram s f).fabric = s.fabric := rfl
@[simp] theorem State.updDram_pins (s : State) (f : Dram → Dram) : (State.updDram s f).pins = s.pins := rfl
@[simp] theorem State.updDram_power (s : State) (f : Dram → Dram) : (State.updDram s f).power = s.power := rfl
@[simp] theorem State.updDram_cfg (s : State) (f : Dram → Dram) : (State.updDram s f).cfg = s.cfg := rfl
@[simp] theorem State.updDram_flash (s : State) (f : Dram → Dram) : (State.updDram s f).flash = s.flash := rfl
@[simp] theorem State.updDram_otp (s : State) (f : Dram → Dram) : (State.updDram s f).otp = s.otp := rfl
@[simp] theorem State.updDram_settings (s : State) (f : Dram → Dram) : (State.updDram s f).settings = s.settings := rfl
@[simp] theorem State.updDram_bist (s : State) (f : Dram → Dram) : (State.updDram s f).bist = s.bist := rfl
@[simp] theorem State.updDram_debug (s : State) (f : Dram → Dram) : (State.updDram s f).debug = s.debug := rfl
@[simp] theorem State.updDram_otpOpen (s : State) (f : Dram → Dram) : (State.updDram s f).otpOpen = s.otpOpen := rfl
@[simp] theorem State.updDram_heart (s : State) (f : Dram → Dram) : (State.updDram s f).heart = s.heart := rfl
@[simp] theorem State.updDram_rope (s : State) (f : Dram → Dram) : (State.updDram s f).rope = s.rope := rfl
@[simp] theorem State.updDram_lastUr (s : State) (f : Dram → Dram) : (State.updDram s f).lastUr = s.lastUr := rfl
@[simp] theorem State.updDram_guide (s : State) (f : Dram → Dram) : (State.updDram s f).guide = s.guide := rfl
@[simp] theorem State.updDram_dram (s : State) (f : Dram → Dram) : (State.updDram s f).dram = f s.dram := rfl

/-! ### State.updPower -/

@[simp] theorem State.updPower_pending (s : State) (f : Power → Power) : (State.updPower s f).pending = s.pending := rfl
@[simp] theorem State.updPower_freeIx (s : State) (f : Power → Power) : (State.updPower s f).freeIx = s.freeIx := rfl
@[simp] theorem State.updPower_regs (s : State) (f : Power → Power) : (State.updPower s f).regs = s.regs := rfl
@[simp] theorem State.updPower_lastRead (s : State) (f : Power → Power) : (State.updPower s f).lastRead = s.lastRead := rfl
@[simp] theorem State.updPower_evt (s : State) (f : Power → Power) : (State.updPower s f).evt = s.evt := rfl
@[simp] theorem State.updPower_mbx (s : State) (f : Power → Power) : (State.updPower s f).mbx = s.mbx := rfl
@[simp] theorem State.updPower_mbSeq (s : State) (f : Power → Power) : (State.updPower s f).mbSeq = s.mbSeq := rfl
@[simp] theorem State.updPower_host (s : State) (f : Power → Power) : (State.updPower s f).host = s.host := rfl
@[simp] theorem State.updPower_cadenceStep (s : State) (f : Power → Power) : (State.updPower s f).cadenceStep = s.cadenceStep := rfl
@[simp] theorem State.updPower_time (s : State) (f : Power → Power) : (State.updPower s f).time = s.time := rfl
@[simp] theorem State.updPower_edge (s : State) (f : Power → Power) : (State.updPower s f).edge = s.edge := rfl
@[simp] theorem State.updPower_cal (s : State) (f : Power → Power) : (State.updPower s f).cal = s.cal := rfl
@[simp] theorem State.updPower_sdf (s : State) (f : Power → Power) : (State.updPower s f).sdf = s.sdf := rfl
@[simp] theorem State.updPower_loop (s : State) (f : Power → Power) : (State.updPower s f).loop = s.loop := rfl
@[simp] theorem State.updPower_dramMem (s : State) (f : Power → Power) : (State.updPower s f).dramMem = s.dramMem := rfl
@[simp] theorem State.updPower_pub (s : State) (f : Power → Power) : (State.updPower s f).pub = s.pub := rfl
@[simp] theorem State.updPower_fabric (s : State) (f : Power → Power) : (State.updPower s f).fabric = s.fabric := rfl
@[simp] theorem State.updPower_pins (s : State) (f : Power → Power) : (State.updPower s f).pins = s.pins := rfl
@[simp] theorem State.updPower_dram (s : State) (f : Power → Power) : (State.updPower s f).dram = s.dram := rfl
@[simp] theorem State.updPower_cfg (s : State) (f : Power → Power) : (State.updPower s f).cfg = s.cfg := rfl
@[simp] theorem State.updPower_flash (s : State) (f : Power → Power) : (State.updPower s f).flash = s.flash := rfl
@[simp] theorem State.updPower_otp (s : State) (f : Power → Power) : (State.updPower s f).otp = s.otp := rfl
@[simp] theorem State.updPower_settings (s : State) (f : Power → Power) : (State.updPower s f).settings = s.settings := rfl
@[simp] theorem State.updPower_bist (s : State) (f : Power → Power) : (State.updPower s f).bist = s.bist := rfl
@[simp] theorem State.updPower_debug (s : State) (f : Power → Power) : (State.updPower s f).debug = s.debug := rfl
@[simp] theorem State.updPower_otpOpen (s : State) (f : Power → Power) : (State.updPower s f).otpOpen = s.otpOpen := rfl
@[simp] theorem State.updPower_heart (s : State) (f : Power → Power) : (State.updPower s f).heart = s.heart := rfl
@[simp] theorem State.updPower_rope (s : State) (f : Power → Power) : (State.updPower s f).rope = s.rope := rfl
@[simp] theorem State.updPower_lastUr (s : State) (f : Power → Power) : (State.updPower s f).lastUr = s.lastUr := rfl
@[simp] theorem State.updPower_guide (s : State) (f : Power → Power) : (State.updPower s f).guide = s.guide := rfl
@[simp] theorem State.updPower_power (s : State) (f : Power → Power) : (State.updPower s f).power = f s.power := rfl

/-! ### State.updFabric -/

@[simp] theorem State.updFabric_pending (s : State) (f : Fabric → Fabric) : (State.updFabric s f).pending = s.pending := rfl
@[simp] theorem State.updFabric_freeIx (s : State) (f : Fabric → Fabric) : (State.updFabric s f).freeIx = s.freeIx := rfl
@[simp] theorem State.updFabric_regs (s : State) (f : Fabric → Fabric) : (State.updFabric s f).regs = s.regs := rfl
@[simp] theorem State.updFabric_lastRead (s : State) (f : Fabric → Fabric) : (State.updFabric s f).lastRead = s.lastRead := rfl
@[simp] theorem State.updFabric_evt (s : State) (f : Fabric → Fabric) : (State.updFabric s f).evt = s.evt := rfl
@[simp] theorem State.updFabric_mbx (s : State) (f : Fabric → Fabric) : (State.updFabric s f).mbx = s.mbx := rfl
@[simp] theorem State.updFabric_mbSeq (s : State) (f : Fabric → Fabric) : (State.updFabric s f).mbSeq = s.mbSeq := rfl
@[simp] theorem State.updFabric_host (s : State) (f : Fabric → Fabric) : (State.updFabric s f).host = s.host := rfl
@[simp] theorem State.updFabric_cadenceStep (s : State) (f : Fabric → Fabric) : (State.updFabric s f).cadenceStep = s.cadenceStep := rfl
@[simp] theorem State.updFabric_time (s : State) (f : Fabric → Fabric) : (State.updFabric s f).time = s.time := rfl
@[simp] theorem State.updFabric_edge (s : State) (f : Fabric → Fabric) : (State.updFabric s f).edge = s.edge := rfl
@[simp] theorem State.updFabric_cal (s : State) (f : Fabric → Fabric) : (State.updFabric s f).cal = s.cal := rfl
@[simp] theorem State.updFabric_sdf (s : State) (f : Fabric → Fabric) : (State.updFabric s f).sdf = s.sdf := rfl
@[simp] theorem State.updFabric_loop (s : State) (f : Fabric → Fabric) : (State.updFabric s f).loop = s.loop := rfl
@[simp] theorem State.updFabric_dramMem (s : State) (f : Fabric → Fabric) : (State.updFabric s f).dramMem = s.dramMem := rfl
@[simp] theorem State.updFabric_pub (s : State) (f : Fabric → Fabric) : (State.updFabric s f).pub = s.pub := rfl
@[simp] theorem State.updFabric_pins (s : State) (f : Fabric → Fabric) : (State.updFabric s f).pins = s.pins := rfl
@[simp] theorem State.updFabric_power (s : State) (f : Fabric → Fabric) : (State.updFabric s f).power = s.power := rfl
@[simp] theorem State.updFabric_dram (s : State) (f : Fabric → Fabric) : (State.updFabric s f).dram = s.dram := rfl
@[simp] theorem State.updFabric_cfg (s : State) (f : Fabric → Fabric) : (State.updFabric s f).cfg = s.cfg := rfl
@[simp] theorem State.updFabric_flash (s : State) (f : Fabric → Fabric) : (State.updFabric s f).flash = s.flash := rfl
@[simp] theorem State.updFabric_otp (s : State) (f : Fabric → Fabric) : (State.updFabric s f).otp = s.otp := rfl
@[simp] theorem State.updFabric_settings (s : State) (f : Fabric → Fabric) : (State.updFabric s f).settings = s.settings := rfl
@[simp] theorem State.updFabric_bist (s : State) (f : Fabric → Fabric) : (State.updFabric s f).bist = s.bist := rfl
@[simp] theorem State.updFabric_debug (s : State) (f : Fabric → Fabric) : (State.updFabric s f).debug = s.debug := rfl
@[simp] theorem State.updFabric_otpOpen (s : State) (f : Fabric → Fabric) : (State.updFabric s f).otpOpen = s.otpOpen := rfl
@[simp] theorem State.updFabric_heart (s : State) (f : Fabric → Fabric) : (State.updFabric s f).heart = s.heart := rfl
@[simp] theorem State.updFabric_rope (s : State) (f : Fabric → Fabric) : (State.updFabric s f).rope = s.rope := rfl
@[simp] theorem State.updFabric_lastUr (s : State) (f : Fabric → Fabric) : (State.updFabric s f).lastUr = s.lastUr := rfl
@[simp] theorem State.updFabric_guide (s : State) (f : Fabric → Fabric) : (State.updFabric s f).guide = s.guide := rfl
@[simp] theorem State.updFabric_fabric (s : State) (f : Fabric → Fabric) : (State.updFabric s f).fabric = f s.fabric := rfl

/-! ### State.updCfg -/

@[simp] theorem State.updCfg_pending (s : State) (f : CfgEngine → CfgEngine) : (State.updCfg s f).pending = s.pending := rfl
@[simp] theorem State.updCfg_freeIx (s : State) (f : CfgEngine → CfgEngine) : (State.updCfg s f).freeIx = s.freeIx := rfl
@[simp] theorem State.updCfg_regs (s : State) (f : CfgEngine → CfgEngine) : (State.updCfg s f).regs = s.regs := rfl
@[simp] theorem State.updCfg_lastRead (s : State) (f : CfgEngine → CfgEngine) : (State.updCfg s f).lastRead = s.lastRead := rfl
@[simp] theorem State.updCfg_evt (s : State) (f : CfgEngine → CfgEngine) : (State.updCfg s f).evt = s.evt := rfl
@[simp] theorem State.updCfg_mbx (s : State) (f : CfgEngine → CfgEngine) : (State.updCfg s f).mbx = s.mbx := rfl
@[simp] theorem State.updCfg_mbSeq (s : State) (f : CfgEngine → CfgEngine) : (State.updCfg s f).mbSeq = s.mbSeq := rfl
@[simp] theorem State.updCfg_host (s : State) (f : CfgEngine → CfgEngine) : (State.updCfg s f).host = s.host := rfl
@[simp] theorem State.updCfg_cadenceStep (s : State) (f : CfgEngine → CfgEngine) : (State.updCfg s f).cadenceStep = s.cadenceStep := rfl
@[simp] theorem State.updCfg_time (s : State) (f : CfgEngine → CfgEngine) : (State.updCfg s f).time = s.time := rfl
@[simp] theorem State.updCfg_edge (s : State) (f : CfgEngine → CfgEngine) : (State.updCfg s f).edge = s.edge := rfl
@[simp] theorem State.updCfg_cal (s : State) (f : CfgEngine → CfgEngine) : (State.updCfg s f).cal = s.cal := rfl
@[simp] theorem State.updCfg_sdf (s : State) (f : CfgEngine → CfgEngine) : (State.updCfg s f).sdf = s.sdf := rfl
@[simp] theorem State.updCfg_loop (s : State) (f : CfgEngine → CfgEngine) : (State.updCfg s f).loop = s.loop := rfl
@[simp] theorem State.updCfg_dramMem (s : State) (f : CfgEngine → CfgEngine) : (State.updCfg s f).dramMem = s.dramMem := rfl
@[simp] theorem State.updCfg_pub (s : State) (f : CfgEngine → CfgEngine) : (State.updCfg s f).pub = s.pub := rfl
@[simp] theorem State.updCfg_fabric (s : State) (f : CfgEngine → CfgEngine) : (State.updCfg s f).fabric = s.fabric := rfl
@[simp] theorem State.updCfg_pins (s : State) (f : CfgEngine → CfgEngine) : (State.updCfg s f).pins = s.pins := rfl
@[simp] theorem State.updCfg_power (s : State) (f : CfgEngine → CfgEngine) : (State.updCfg s f).power = s.power := rfl
@[simp] theorem State.updCfg_dram (s : State) (f : CfgEngine → CfgEngine) : (State.updCfg s f).dram = s.dram := rfl
@[simp] theorem State.updCfg_flash (s : State) (f : CfgEngine → CfgEngine) : (State.updCfg s f).flash = s.flash := rfl
@[simp] theorem State.updCfg_otp (s : State) (f : CfgEngine → CfgEngine) : (State.updCfg s f).otp = s.otp := rfl
@[simp] theorem State.updCfg_settings (s : State) (f : CfgEngine → CfgEngine) : (State.updCfg s f).settings = s.settings := rfl
@[simp] theorem State.updCfg_bist (s : State) (f : CfgEngine → CfgEngine) : (State.updCfg s f).bist = s.bist := rfl
@[simp] theorem State.updCfg_debug (s : State) (f : CfgEngine → CfgEngine) : (State.updCfg s f).debug = s.debug := rfl
@[simp] theorem State.updCfg_otpOpen (s : State) (f : CfgEngine → CfgEngine) : (State.updCfg s f).otpOpen = s.otpOpen := rfl
@[simp] theorem State.updCfg_heart (s : State) (f : CfgEngine → CfgEngine) : (State.updCfg s f).heart = s.heart := rfl
@[simp] theorem State.updCfg_rope (s : State) (f : CfgEngine → CfgEngine) : (State.updCfg s f).rope = s.rope := rfl
@[simp] theorem State.updCfg_lastUr (s : State) (f : CfgEngine → CfgEngine) : (State.updCfg s f).lastUr = s.lastUr := rfl
@[simp] theorem State.updCfg_guide (s : State) (f : CfgEngine → CfgEngine) : (State.updCfg s f).guide = s.guide := rfl
@[simp] theorem State.updCfg_cfg (s : State) (f : CfgEngine → CfgEngine) : (State.updCfg s f).cfg = f s.cfg := rfl

/-! ### State.updSettings -/

@[simp] theorem State.updSettings_pending (s : State) (f : Settings → Settings) : (State.updSettings s f).pending = s.pending := rfl
@[simp] theorem State.updSettings_freeIx (s : State) (f : Settings → Settings) : (State.updSettings s f).freeIx = s.freeIx := rfl
@[simp] theorem State.updSettings_regs (s : State) (f : Settings → Settings) : (State.updSettings s f).regs = s.regs := rfl
@[simp] theorem State.updSettings_lastRead (s : State) (f : Settings → Settings) : (State.updSettings s f).lastRead = s.lastRead := rfl
@[simp] theorem State.updSettings_evt (s : State) (f : Settings → Settings) : (State.updSettings s f).evt = s.evt := rfl
@[simp] theorem State.updSettings_mbx (s : State) (f : Settings → Settings) : (State.updSettings s f).mbx = s.mbx := rfl
@[simp] theorem State.updSettings_mbSeq (s : State) (f : Settings → Settings) : (State.updSettings s f).mbSeq = s.mbSeq := rfl
@[simp] theorem State.updSettings_host (s : State) (f : Settings → Settings) : (State.updSettings s f).host = s.host := rfl
@[simp] theorem State.updSettings_cadenceStep (s : State) (f : Settings → Settings) : (State.updSettings s f).cadenceStep = s.cadenceStep := rfl
@[simp] theorem State.updSettings_time (s : State) (f : Settings → Settings) : (State.updSettings s f).time = s.time := rfl
@[simp] theorem State.updSettings_edge (s : State) (f : Settings → Settings) : (State.updSettings s f).edge = s.edge := rfl
@[simp] theorem State.updSettings_cal (s : State) (f : Settings → Settings) : (State.updSettings s f).cal = s.cal := rfl
@[simp] theorem State.updSettings_sdf (s : State) (f : Settings → Settings) : (State.updSettings s f).sdf = s.sdf := rfl
@[simp] theorem State.updSettings_loop (s : State) (f : Settings → Settings) : (State.updSettings s f).loop = s.loop := rfl
@[simp] theorem State.updSettings_dramMem (s : State) (f : Settings → Settings) : (State.updSettings s f).dramMem = s.dramMem := rfl
@[simp] theorem State.updSettings_pub (s : State) (f : Settings → Settings) : (State.updSettings s f).pub = s.pub := rfl
@[simp] theorem State.updSettings_fabric (s : State) (f : Settings → Settings) : (State.updSettings s f).fabric = s.fabric := rfl
@[simp] theorem State.updSettings_pins (s : State) (f : Settings → Settings) : (State.updSettings s f).pins = s.pins := rfl
@[simp] theorem State.updSettings_power (s : State) (f : Settings → Settings) : (State.updSettings s f).power = s.power := rfl
@[simp] theorem State.updSettings_dram (s : State) (f : Settings → Settings) : (State.updSettings s f).dram = s.dram := rfl
@[simp] theorem State.updSettings_cfg (s : State) (f : Settings → Settings) : (State.updSettings s f).cfg = s.cfg := rfl
@[simp] theorem State.updSettings_flash (s : State) (f : Settings → Settings) : (State.updSettings s f).flash = s.flash := rfl
@[simp] theorem State.updSettings_otp (s : State) (f : Settings → Settings) : (State.updSettings s f).otp = s.otp := rfl
@[simp] theorem State.updSettings_bist (s : State) (f : Settings → Settings) : (State.updSettings s f).bist = s.bist := rfl
@[simp] theorem State.updSettings_debug (s : State) (f : Settings → Settings) : (State.updSettings s f).debug = s.debug := rfl
@[simp] theorem State.updSettings_otpOpen (s : State) (f : Settings → Settings) : (State.updSettings s f).otpOpen = s.otpOpen := rfl
@[simp] theorem State.updSettings_heart (s : State) (f : Settings → Settings) : (State.updSettings s f).heart = s.heart := rfl
@[simp] theorem State.updSettings_rope (s : State) (f : Settings → Settings) : (State.updSettings s f).rope = s.rope := rfl
@[simp] theorem State.updSettings_lastUr (s : State) (f : Settings → Settings) : (State.updSettings s f).lastUr = s.lastUr := rfl
@[simp] theorem State.updSettings_guide (s : State) (f : Settings → Settings) : (State.updSettings s f).guide = s.guide := rfl
@[simp] theorem State.updSettings_settings (s : State) (f : Settings → Settings) : (State.updSettings s f).settings = f s.settings := rfl

/-! ### State.resetRegs -/

@[simp] theorem State.resetRegs_pending (s : State) (p : Nat → Bool) : (State.resetRegs s p).pending = s.pending := rfl
@[simp] theorem State.resetRegs_freeIx (s : State) (p : Nat → Bool) : (State.resetRegs s p).freeIx = s.freeIx := rfl
@[simp] theorem State.resetRegs_lastRead (s : State) (p : Nat → Bool) : (State.resetRegs s p).lastRead = s.lastRead := rfl
@[simp] theorem State.resetRegs_evt (s : State) (p : Nat → Bool) : (State.resetRegs s p).evt = s.evt := rfl
@[simp] theorem State.resetRegs_mbx (s : State) (p : Nat → Bool) : (State.resetRegs s p).mbx = s.mbx := rfl
@[simp] theorem State.resetRegs_mbSeq (s : State) (p : Nat → Bool) : (State.resetRegs s p).mbSeq = s.mbSeq := rfl
@[simp] theorem State.resetRegs_host (s : State) (p : Nat → Bool) : (State.resetRegs s p).host = s.host := rfl
@[simp] theorem State.resetRegs_cadenceStep (s : State) (p : Nat → Bool) : (State.resetRegs s p).cadenceStep = s.cadenceStep := rfl
@[simp] theorem State.resetRegs_time (s : State) (p : Nat → Bool) : (State.resetRegs s p).time = s.time := rfl
@[simp] theorem State.resetRegs_edge (s : State) (p : Nat → Bool) : (State.resetRegs s p).edge = s.edge := rfl
@[simp] theorem State.resetRegs_cal (s : State) (p : Nat → Bool) : (State.resetRegs s p).cal = s.cal := rfl
@[simp] theorem State.resetRegs_sdf (s : State) (p : Nat → Bool) : (State.resetRegs s p).sdf = s.sdf := rfl
@[simp] theorem State.resetRegs_loop (s : State) (p : Nat → Bool) : (State.resetRegs s p).loop = s.loop := rfl
@[simp] theorem State.resetRegs_dramMem (s : State) (p : Nat → Bool) : (State.resetRegs s p).dramMem = s.dramMem := rfl
@[simp] theorem State.resetRegs_pub (s : State) (p : Nat → Bool) : (State.resetRegs s p).pub = s.pub := rfl
@[simp] theorem State.resetRegs_fabric (s : State) (p : Nat → Bool) : (State.resetRegs s p).fabric = s.fabric := rfl
@[simp] theorem State.resetRegs_pins (s : State) (p : Nat → Bool) : (State.resetRegs s p).pins = s.pins := rfl
@[simp] theorem State.resetRegs_power (s : State) (p : Nat → Bool) : (State.resetRegs s p).power = s.power := rfl
@[simp] theorem State.resetRegs_dram (s : State) (p : Nat → Bool) : (State.resetRegs s p).dram = s.dram := rfl
@[simp] theorem State.resetRegs_cfg (s : State) (p : Nat → Bool) : (State.resetRegs s p).cfg = s.cfg := rfl
@[simp] theorem State.resetRegs_flash (s : State) (p : Nat → Bool) : (State.resetRegs s p).flash = s.flash := rfl
@[simp] theorem State.resetRegs_otp (s : State) (p : Nat → Bool) : (State.resetRegs s p).otp = s.otp := rfl
@[simp] theorem State.resetRegs_settings (s : State) (p : Nat → Bool) : (State.resetRegs s p).settings = s.settings := rfl
@[simp] theorem State.resetRegs_bist (s : State) (p : Nat → Bool) : (State.resetRegs s p).bist = s.bist := rfl
@[simp] theorem State.resetRegs_debug (s : State) (p : Nat → Bool) : (State.resetRegs s p).debug = s.debug := rfl
@[simp] theorem State.resetRegs_otpOpen (s : State) (p : Nat → Bool) : (State.resetRegs s p).otpOpen = s.otpOpen := rfl
@[simp] theorem State.resetRegs_heart (s : State) (p : Nat → Bool) : (State.resetRegs s p).heart = s.heart := rfl
@[simp] theorem State.resetRegs_rope (s : State) (p : Nat → Bool) : (State.resetRegs s p).rope = s.rope := rfl
@[simp] theorem State.resetRegs_lastUr (s : State) (p : Nat → Bool) : (State.resetRegs s p).lastUr = s.lastUr := rfl
@[simp] theorem State.resetRegs_guide (s : State) (p : Nat → Bool) : (State.resetRegs s p).guide = s.guide := rfl

/-! ### State.setF -/

@[simp] theorem State.setF_pending (s : State) (a hi lo v : Nat) : (State.setF s a hi lo v).pending = s.pending := rfl
@[simp] theorem State.setF_freeIx (s : State) (a hi lo v : Nat) : (State.setF s a hi lo v).freeIx = s.freeIx := rfl
@[simp] theorem State.setF_lastRead (s : State) (a hi lo v : Nat) : (State.setF s a hi lo v).lastRead = s.lastRead := rfl
@[simp] theorem State.setF_evt (s : State) (a hi lo v : Nat) : (State.setF s a hi lo v).evt = s.evt := rfl
@[simp] theorem State.setF_mbx (s : State) (a hi lo v : Nat) : (State.setF s a hi lo v).mbx = s.mbx := rfl
@[simp] theorem State.setF_mbSeq (s : State) (a hi lo v : Nat) : (State.setF s a hi lo v).mbSeq = s.mbSeq := rfl
@[simp] theorem State.setF_host (s : State) (a hi lo v : Nat) : (State.setF s a hi lo v).host = s.host := rfl
@[simp] theorem State.setF_cadenceStep (s : State) (a hi lo v : Nat) : (State.setF s a hi lo v).cadenceStep = s.cadenceStep := rfl
@[simp] theorem State.setF_time (s : State) (a hi lo v : Nat) : (State.setF s a hi lo v).time = s.time := rfl
@[simp] theorem State.setF_edge (s : State) (a hi lo v : Nat) : (State.setF s a hi lo v).edge = s.edge := rfl
@[simp] theorem State.setF_cal (s : State) (a hi lo v : Nat) : (State.setF s a hi lo v).cal = s.cal := rfl
@[simp] theorem State.setF_sdf (s : State) (a hi lo v : Nat) : (State.setF s a hi lo v).sdf = s.sdf := rfl
@[simp] theorem State.setF_loop (s : State) (a hi lo v : Nat) : (State.setF s a hi lo v).loop = s.loop := rfl
@[simp] theorem State.setF_dramMem (s : State) (a hi lo v : Nat) : (State.setF s a hi lo v).dramMem = s.dramMem := rfl
@[simp] theorem State.setF_pub (s : State) (a hi lo v : Nat) : (State.setF s a hi lo v).pub = s.pub := rfl
@[simp] theorem State.setF_fabric (s : State) (a hi lo v : Nat) : (State.setF s a hi lo v).fabric = s.fabric := rfl
@[simp] theorem State.setF_pins (s : State) (a hi lo v : Nat) : (State.setF s a hi lo v).pins = s.pins := rfl
@[simp] theorem State.setF_power (s : State) (a hi lo v : Nat) : (State.setF s a hi lo v).power = s.power := rfl
@[simp] theorem State.setF_dram (s : State) (a hi lo v : Nat) : (State.setF s a hi lo v).dram = s.dram := rfl
@[simp] theorem State.setF_cfg (s : State) (a hi lo v : Nat) : (State.setF s a hi lo v).cfg = s.cfg := rfl
@[simp] theorem State.setF_flash (s : State) (a hi lo v : Nat) : (State.setF s a hi lo v).flash = s.flash := rfl
@[simp] theorem State.setF_otp (s : State) (a hi lo v : Nat) : (State.setF s a hi lo v).otp = s.otp := rfl
@[simp] theorem State.setF_settings (s : State) (a hi lo v : Nat) : (State.setF s a hi lo v).settings = s.settings := rfl
@[simp] theorem State.setF_bist (s : State) (a hi lo v : Nat) : (State.setF s a hi lo v).bist = s.bist := rfl
@[simp] theorem State.setF_debug (s : State) (a hi lo v : Nat) : (State.setF s a hi lo v).debug = s.debug := rfl
@[simp] theorem State.setF_otpOpen (s : State) (a hi lo v : Nat) : (State.setF s a hi lo v).otpOpen = s.otpOpen := rfl
@[simp] theorem State.setF_heart (s : State) (a hi lo v : Nat) : (State.setF s a hi lo v).heart = s.heart := rfl
@[simp] theorem State.setF_rope (s : State) (a hi lo v : Nat) : (State.setF s a hi lo v).rope = s.rope := rfl
@[simp] theorem State.setF_lastUr (s : State) (a hi lo v : Nat) : (State.setF s a hi lo v).lastUr = s.lastUr := rfl
@[simp] theorem State.setF_guide (s : State) (a hi lo v : Nat) : (State.setF s a hi lo v).guide = s.guide := rfl

/-! ### State.setB -/

@[simp] theorem State.setB_pending (s : State) (a i : Nat) (b : Bool) : (State.setB s a i b).pending = s.pending := rfl
@[simp] theorem State.setB_freeIx (s : State) (a i : Nat) (b : Bool) : (State.setB s a i b).freeIx = s.freeIx := rfl
@[simp] theorem State.setB_lastRead (s : State) (a i : Nat) (b : Bool) : (State.setB s a i b).lastRead = s.lastRead := rfl
@[simp] theorem State.setB_evt (s : State) (a i : Nat) (b : Bool) : (State.setB s a i b).evt = s.evt := rfl
@[simp] theorem State.setB_mbx (s : State) (a i : Nat) (b : Bool) : (State.setB s a i b).mbx = s.mbx := rfl
@[simp] theorem State.setB_mbSeq (s : State) (a i : Nat) (b : Bool) : (State.setB s a i b).mbSeq = s.mbSeq := rfl
@[simp] theorem State.setB_host (s : State) (a i : Nat) (b : Bool) : (State.setB s a i b).host = s.host := rfl
@[simp] theorem State.setB_cadenceStep (s : State) (a i : Nat) (b : Bool) : (State.setB s a i b).cadenceStep = s.cadenceStep := rfl
@[simp] theorem State.setB_time (s : State) (a i : Nat) (b : Bool) : (State.setB s a i b).time = s.time := rfl
@[simp] theorem State.setB_edge (s : State) (a i : Nat) (b : Bool) : (State.setB s a i b).edge = s.edge := rfl
@[simp] theorem State.setB_cal (s : State) (a i : Nat) (b : Bool) : (State.setB s a i b).cal = s.cal := rfl
@[simp] theorem State.setB_sdf (s : State) (a i : Nat) (b : Bool) : (State.setB s a i b).sdf = s.sdf := rfl
@[simp] theorem State.setB_loop (s : State) (a i : Nat) (b : Bool) : (State.setB s a i b).loop = s.loop := rfl
@[simp] theorem State.setB_dramMem (s : State) (a i : Nat) (b : Bool) : (State.setB s a i b).dramMem = s.dramMem := rfl
@[simp] theorem State.setB_pub (s : State) (a i : Nat) (b : Bool) : (State.setB s a i b).pub = s.pub := rfl
@[simp] theorem State.setB_fabric (s : State) (a i : Nat) (b : Bool) : (State.setB s a i b).fabric = s.fabric := rfl
@[simp] theorem State.setB_pins (s : State) (a i : Nat) (b : Bool) : (State.setB s a i b).pins = s.pins := rfl
@[simp] theorem State.setB_power (s : State) (a i : Nat) (b : Bool) : (State.setB s a i b).power = s.power := rfl
@[simp] theorem State.setB_dram (s : State) (a i : Nat) (b : Bool) : (State.setB s a i b).dram = s.dram := rfl
@[simp] theorem State.setB_cfg (s : State) (a i : Nat) (b : Bool) : (State.setB s a i b).cfg = s.cfg := rfl
@[simp] theorem State.setB_flash (s : State) (a i : Nat) (b : Bool) : (State.setB s a i b).flash = s.flash := rfl
@[simp] theorem State.setB_otp (s : State) (a i : Nat) (b : Bool) : (State.setB s a i b).otp = s.otp := rfl
@[simp] theorem State.setB_settings (s : State) (a i : Nat) (b : Bool) : (State.setB s a i b).settings = s.settings := rfl
@[simp] theorem State.setB_bist (s : State) (a i : Nat) (b : Bool) : (State.setB s a i b).bist = s.bist := rfl
@[simp] theorem State.setB_debug (s : State) (a i : Nat) (b : Bool) : (State.setB s a i b).debug = s.debug := rfl
@[simp] theorem State.setB_otpOpen (s : State) (a i : Nat) (b : Bool) : (State.setB s a i b).otpOpen = s.otpOpen := rfl
@[simp] theorem State.setB_heart (s : State) (a i : Nat) (b : Bool) : (State.setB s a i b).heart = s.heart := rfl
@[simp] theorem State.setB_rope (s : State) (a i : Nat) (b : Bool) : (State.setB s a i b).rope = s.rope := rfl
@[simp] theorem State.setB_lastUr (s : State) (a i : Nat) (b : Bool) : (State.setB s a i b).lastUr = s.lastUr := rfl
@[simp] theorem State.setB_guide (s : State) (a i : Nat) (b : Bool) : (State.setB s a i b).guide = s.guide := rfl

/-! ### State.satAdd -/

@[simp] theorem State.satAdd_pending (s : State) (a hi lo n : Nat) : (State.satAdd s a hi lo n).pending = s.pending := rfl
@[simp] theorem State.satAdd_freeIx (s : State) (a hi lo n : Nat) : (State.satAdd s a hi lo n).freeIx = s.freeIx := rfl
@[simp] theorem State.satAdd_lastRead (s : State) (a hi lo n : Nat) : (State.satAdd s a hi lo n).lastRead = s.lastRead := rfl
@[simp] theorem State.satAdd_evt (s : State) (a hi lo n : Nat) : (State.satAdd s a hi lo n).evt = s.evt := rfl
@[simp] theorem State.satAdd_mbx (s : State) (a hi lo n : Nat) : (State.satAdd s a hi lo n).mbx = s.mbx := rfl
@[simp] theorem State.satAdd_mbSeq (s : State) (a hi lo n : Nat) : (State.satAdd s a hi lo n).mbSeq = s.mbSeq := rfl
@[simp] theorem State.satAdd_host (s : State) (a hi lo n : Nat) : (State.satAdd s a hi lo n).host = s.host := rfl
@[simp] theorem State.satAdd_cadenceStep (s : State) (a hi lo n : Nat) : (State.satAdd s a hi lo n).cadenceStep = s.cadenceStep := rfl
@[simp] theorem State.satAdd_time (s : State) (a hi lo n : Nat) : (State.satAdd s a hi lo n).time = s.time := rfl
@[simp] theorem State.satAdd_edge (s : State) (a hi lo n : Nat) : (State.satAdd s a hi lo n).edge = s.edge := rfl
@[simp] theorem State.satAdd_cal (s : State) (a hi lo n : Nat) : (State.satAdd s a hi lo n).cal = s.cal := rfl
@[simp] theorem State.satAdd_sdf (s : State) (a hi lo n : Nat) : (State.satAdd s a hi lo n).sdf = s.sdf := rfl
@[simp] theorem State.satAdd_loop (s : State) (a hi lo n : Nat) : (State.satAdd s a hi lo n).loop = s.loop := rfl
@[simp] theorem State.satAdd_dramMem (s : State) (a hi lo n : Nat) : (State.satAdd s a hi lo n).dramMem = s.dramMem := rfl
@[simp] theorem State.satAdd_pub (s : State) (a hi lo n : Nat) : (State.satAdd s a hi lo n).pub = s.pub := rfl
@[simp] theorem State.satAdd_fabric (s : State) (a hi lo n : Nat) : (State.satAdd s a hi lo n).fabric = s.fabric := rfl
@[simp] theorem State.satAdd_pins (s : State) (a hi lo n : Nat) : (State.satAdd s a hi lo n).pins = s.pins := rfl
@[simp] theorem State.satAdd_power (s : State) (a hi lo n : Nat) : (State.satAdd s a hi lo n).power = s.power := rfl
@[simp] theorem State.satAdd_dram (s : State) (a hi lo n : Nat) : (State.satAdd s a hi lo n).dram = s.dram := rfl
@[simp] theorem State.satAdd_cfg (s : State) (a hi lo n : Nat) : (State.satAdd s a hi lo n).cfg = s.cfg := rfl
@[simp] theorem State.satAdd_flash (s : State) (a hi lo n : Nat) : (State.satAdd s a hi lo n).flash = s.flash := rfl
@[simp] theorem State.satAdd_otp (s : State) (a hi lo n : Nat) : (State.satAdd s a hi lo n).otp = s.otp := rfl
@[simp] theorem State.satAdd_settings (s : State) (a hi lo n : Nat) : (State.satAdd s a hi lo n).settings = s.settings := rfl
@[simp] theorem State.satAdd_bist (s : State) (a hi lo n : Nat) : (State.satAdd s a hi lo n).bist = s.bist := rfl
@[simp] theorem State.satAdd_debug (s : State) (a hi lo n : Nat) : (State.satAdd s a hi lo n).debug = s.debug := rfl
@[simp] theorem State.satAdd_otpOpen (s : State) (a hi lo n : Nat) : (State.satAdd s a hi lo n).otpOpen = s.otpOpen := rfl
@[simp] theorem State.satAdd_heart (s : State) (a hi lo n : Nat) : (State.satAdd s a hi lo n).heart = s.heart := rfl
@[simp] theorem State.satAdd_rope (s : State) (a hi lo n : Nat) : (State.satAdd s a hi lo n).rope = s.rope := rfl
@[simp] theorem State.satAdd_lastUr (s : State) (a hi lo n : Nat) : (State.satAdd s a hi lo n).lastUr = s.lastUr := rfl
@[simp] theorem State.satAdd_guide (s : State) (a hi lo n : Nat) : (State.satAdd s a hi lo n).guide = s.guide := rfl

/-! ### State.wrapAdd -/

@[simp] theorem State.wrapAdd_pending (s : State) (a hi lo n : Nat) : (State.wrapAdd s a hi lo n).pending = s.pending := rfl
@[simp] theorem State.wrapAdd_freeIx (s : State) (a hi lo n : Nat) : (State.wrapAdd s a hi lo n).freeIx = s.freeIx := rfl
@[simp] theorem State.wrapAdd_lastRead (s : State) (a hi lo n : Nat) : (State.wrapAdd s a hi lo n).lastRead = s.lastRead := rfl
@[simp] theorem State.wrapAdd_evt (s : State) (a hi lo n : Nat) : (State.wrapAdd s a hi lo n).evt = s.evt := rfl
@[simp] theorem State.wrapAdd_mbx (s : State) (a hi lo n : Nat) : (State.wrapAdd s a hi lo n).mbx = s.mbx := rfl
@[simp] theorem State.wrapAdd_mbSeq (s : State) (a hi lo n : Nat) : (State.wrapAdd s a hi lo n).mbSeq = s.mbSeq := rfl
@[simp] theorem State.wrapAdd_host (s : State) (a hi lo n : Nat) : (State.wrapAdd s a hi lo n).host = s.host := rfl
@[simp] theorem State.wrapAdd_cadenceStep (s : State) (a hi lo n : Nat) : (State.wrapAdd s a hi lo n).cadenceStep = s.cadenceStep := rfl
@[simp] theorem State.wrapAdd_time (s : State) (a hi lo n : Nat) : (State.wrapAdd s a hi lo n).time = s.time := rfl
@[simp] theorem State.wrapAdd_edge (s : State) (a hi lo n : Nat) : (State.wrapAdd s a hi lo n).edge = s.edge := rfl
@[simp] theorem State.wrapAdd_cal (s : State) (a hi lo n : Nat) : (State.wrapAdd s a hi lo n).cal = s.cal := rfl
@[simp] theorem State.wrapAdd_sdf (s : State) (a hi lo n : Nat) : (State.wrapAdd s a hi lo n).sdf = s.sdf := rfl
@[simp] theorem State.wrapAdd_loop (s : State) (a hi lo n : Nat) : (State.wrapAdd s a hi lo n).loop = s.loop := rfl
@[simp] theorem State.wrapAdd_dramMem (s : State) (a hi lo n : Nat) : (State.wrapAdd s a hi lo n).dramMem = s.dramMem := rfl
@[simp] theorem State.wrapAdd_pub (s : State) (a hi lo n : Nat) : (State.wrapAdd s a hi lo n).pub = s.pub := rfl
@[simp] theorem State.wrapAdd_fabric (s : State) (a hi lo n : Nat) : (State.wrapAdd s a hi lo n).fabric = s.fabric := rfl
@[simp] theorem State.wrapAdd_pins (s : State) (a hi lo n : Nat) : (State.wrapAdd s a hi lo n).pins = s.pins := rfl
@[simp] theorem State.wrapAdd_power (s : State) (a hi lo n : Nat) : (State.wrapAdd s a hi lo n).power = s.power := rfl
@[simp] theorem State.wrapAdd_dram (s : State) (a hi lo n : Nat) : (State.wrapAdd s a hi lo n).dram = s.dram := rfl
@[simp] theorem State.wrapAdd_cfg (s : State) (a hi lo n : Nat) : (State.wrapAdd s a hi lo n).cfg = s.cfg := rfl
@[simp] theorem State.wrapAdd_flash (s : State) (a hi lo n : Nat) : (State.wrapAdd s a hi lo n).flash = s.flash := rfl
@[simp] theorem State.wrapAdd_otp (s : State) (a hi lo n : Nat) : (State.wrapAdd s a hi lo n).otp = s.otp := rfl
@[simp] theorem State.wrapAdd_settings (s : State) (a hi lo n : Nat) : (State.wrapAdd s a hi lo n).settings = s.settings := rfl
@[simp] theorem State.wrapAdd_bist (s : State) (a hi lo n : Nat) : (State.wrapAdd s a hi lo n).bist = s.bist := rfl
@[simp] theorem State.wrapAdd_debug (s : State) (a hi lo n : Nat) : (State.wrapAdd s a hi lo n).debug = s.debug := rfl
@[simp] theorem State.wrapAdd_otpOpen (s : State) (a hi lo n : Nat) : (State.wrapAdd s a hi lo n).otpOpen = s.otpOpen := rfl
@[simp] theorem State.wrapAdd_heart (s : State) (a hi lo n : Nat) : (State.wrapAdd s a hi lo n).heart = s.heart := rfl
@[simp] theorem State.wrapAdd_rope (s : State) (a hi lo n : Nat) : (State.wrapAdd s a hi lo n).rope = s.rope := rfl
@[simp] theorem State.wrapAdd_lastUr (s : State) (a hi lo n : Nat) : (State.wrapAdd s a hi lo n).lastUr = s.lastUr := rfl
@[simp] theorem State.wrapAdd_guide (s : State) (a hi lo n : Nat) : (State.wrapAdd s a hi lo n).guide = s.guide := rfl

/-! ### State.setBusy -/

@[simp] theorem State.setBusy_pending (s : State) (p : Nat) (b : Bool) : (State.setBusy s p b).pending = s.pending := rfl
@[simp] theorem State.setBusy_freeIx (s : State) (p : Nat) (b : Bool) : (State.setBusy s p b).freeIx = s.freeIx := rfl
@[simp] theorem State.setBusy_lastRead (s : State) (p : Nat) (b : Bool) : (State.setBusy s p b).lastRead = s.lastRead := rfl
@[simp] theorem State.setBusy_evt (s : State) (p : Nat) (b : Bool) : (State.setBusy s p b).evt = s.evt := rfl
@[simp] theorem State.setBusy_mbx (s : State) (p : Nat) (b : Bool) : (State.setBusy s p b).mbx = s.mbx := rfl
@[simp] theorem State.setBusy_mbSeq (s : State) (p : Nat) (b : Bool) : (State.setBusy s p b).mbSeq = s.mbSeq := rfl
@[simp] theorem State.setBusy_host (s : State) (p : Nat) (b : Bool) : (State.setBusy s p b).host = s.host := rfl
@[simp] theorem State.setBusy_cadenceStep (s : State) (p : Nat) (b : Bool) : (State.setBusy s p b).cadenceStep = s.cadenceStep := rfl
@[simp] theorem State.setBusy_time (s : State) (p : Nat) (b : Bool) : (State.setBusy s p b).time = s.time := rfl
@[simp] theorem State.setBusy_edge (s : State) (p : Nat) (b : Bool) : (State.setBusy s p b).edge = s.edge := rfl
@[simp] theorem State.setBusy_cal (s : State) (p : Nat) (b : Bool) : (State.setBusy s p b).cal = s.cal := rfl
@[simp] theorem State.setBusy_sdf (s : State) (p : Nat) (b : Bool) : (State.setBusy s p b).sdf = s.sdf := rfl
@[simp] theorem State.setBusy_loop (s : State) (p : Nat) (b : Bool) : (State.setBusy s p b).loop = s.loop := rfl
@[simp] theorem State.setBusy_dramMem (s : State) (p : Nat) (b : Bool) : (State.setBusy s p b).dramMem = s.dramMem := rfl
@[simp] theorem State.setBusy_pub (s : State) (p : Nat) (b : Bool) : (State.setBusy s p b).pub = s.pub := rfl
@[simp] theorem State.setBusy_fabric (s : State) (p : Nat) (b : Bool) : (State.setBusy s p b).fabric = s.fabric := rfl
@[simp] theorem State.setBusy_pins (s : State) (p : Nat) (b : Bool) : (State.setBusy s p b).pins = s.pins := rfl
@[simp] theorem State.setBusy_power (s : State) (p : Nat) (b : Bool) : (State.setBusy s p b).power = s.power := rfl
@[simp] theorem State.setBusy_dram (s : State) (p : Nat) (b : Bool) : (State.setBusy s p b).dram = s.dram := rfl
@[simp] theorem State.setBusy_cfg (s : State) (p : Nat) (b : Bool) : (State.setBusy s p b).cfg = s.cfg := rfl
@[simp] theorem State.setBusy_flash (s : State) (p : Nat) (b : Bool) : (State.setBusy s p b).flash = s.flash := rfl
@[simp] theorem State.setBusy_otp (s : State) (p : Nat) (b : Bool) : (State.setBusy s p b).otp = s.otp := rfl
@[simp] theorem State.setBusy_settings (s : State) (p : Nat) (b : Bool) : (State.setBusy s p b).settings = s.settings := rfl
@[simp] theorem State.setBusy_bist (s : State) (p : Nat) (b : Bool) : (State.setBusy s p b).bist = s.bist := rfl
@[simp] theorem State.setBusy_debug (s : State) (p : Nat) (b : Bool) : (State.setBusy s p b).debug = s.debug := rfl
@[simp] theorem State.setBusy_otpOpen (s : State) (p : Nat) (b : Bool) : (State.setBusy s p b).otpOpen = s.otpOpen := rfl
@[simp] theorem State.setBusy_heart (s : State) (p : Nat) (b : Bool) : (State.setBusy s p b).heart = s.heart := rfl
@[simp] theorem State.setBusy_rope (s : State) (p : Nat) (b : Bool) : (State.setBusy s p b).rope = s.rope := rfl
@[simp] theorem State.setBusy_lastUr (s : State) (p : Nat) (b : Bool) : (State.setBusy s p b).lastUr = s.lastUr := rfl
@[simp] theorem State.setBusy_guide (s : State) (p : Nat) (b : Bool) : (State.setBusy s p b).guide = s.guide := rfl

/-! ### State.setPending -/

@[simp] theorem State.setPending_pending (s : State) (p : Nat) (b : Bool) : (State.setPending s p b).pending = s.pending := rfl
@[simp] theorem State.setPending_freeIx (s : State) (p : Nat) (b : Bool) : (State.setPending s p b).freeIx = s.freeIx := rfl
@[simp] theorem State.setPending_lastRead (s : State) (p : Nat) (b : Bool) : (State.setPending s p b).lastRead = s.lastRead := rfl
@[simp] theorem State.setPending_evt (s : State) (p : Nat) (b : Bool) : (State.setPending s p b).evt = s.evt := rfl
@[simp] theorem State.setPending_mbx (s : State) (p : Nat) (b : Bool) : (State.setPending s p b).mbx = s.mbx := rfl
@[simp] theorem State.setPending_mbSeq (s : State) (p : Nat) (b : Bool) : (State.setPending s p b).mbSeq = s.mbSeq := rfl
@[simp] theorem State.setPending_host (s : State) (p : Nat) (b : Bool) : (State.setPending s p b).host = s.host := rfl
@[simp] theorem State.setPending_cadenceStep (s : State) (p : Nat) (b : Bool) : (State.setPending s p b).cadenceStep = s.cadenceStep := rfl
@[simp] theorem State.setPending_time (s : State) (p : Nat) (b : Bool) : (State.setPending s p b).time = s.time := rfl
@[simp] theorem State.setPending_edge (s : State) (p : Nat) (b : Bool) : (State.setPending s p b).edge = s.edge := rfl
@[simp] theorem State.setPending_cal (s : State) (p : Nat) (b : Bool) : (State.setPending s p b).cal = s.cal := rfl
@[simp] theorem State.setPending_sdf (s : State) (p : Nat) (b : Bool) : (State.setPending s p b).sdf = s.sdf := rfl
@[simp] theorem State.setPending_loop (s : State) (p : Nat) (b : Bool) : (State.setPending s p b).loop = s.loop := rfl
@[simp] theorem State.setPending_dramMem (s : State) (p : Nat) (b : Bool) : (State.setPending s p b).dramMem = s.dramMem := rfl
@[simp] theorem State.setPending_pub (s : State) (p : Nat) (b : Bool) : (State.setPending s p b).pub = s.pub := rfl
@[simp] theorem State.setPending_fabric (s : State) (p : Nat) (b : Bool) : (State.setPending s p b).fabric = s.fabric := rfl
@[simp] theorem State.setPending_pins (s : State) (p : Nat) (b : Bool) : (State.setPending s p b).pins = s.pins := rfl
@[simp] theorem State.setPending_power (s : State) (p : Nat) (b : Bool) : (State.setPending s p b).power = s.power := rfl
@[simp] theorem State.setPending_dram (s : State) (p : Nat) (b : Bool) : (State.setPending s p b).dram = s.dram := rfl
@[simp] theorem State.setPending_cfg (s : State) (p : Nat) (b : Bool) : (State.setPending s p b).cfg = s.cfg := rfl
@[simp] theorem State.setPending_flash (s : State) (p : Nat) (b : Bool) : (State.setPending s p b).flash = s.flash := rfl
@[simp] theorem State.setPending_otp (s : State) (p : Nat) (b : Bool) : (State.setPending s p b).otp = s.otp := rfl
@[simp] theorem State.setPending_settings (s : State) (p : Nat) (b : Bool) : (State.setPending s p b).settings = s.settings := rfl
@[simp] theorem State.setPending_bist (s : State) (p : Nat) (b : Bool) : (State.setPending s p b).bist = s.bist := rfl
@[simp] theorem State.setPending_debug (s : State) (p : Nat) (b : Bool) : (State.setPending s p b).debug = s.debug := rfl
@[simp] theorem State.setPending_otpOpen (s : State) (p : Nat) (b : Bool) : (State.setPending s p b).otpOpen = s.otpOpen := rfl
@[simp] theorem State.setPending_heart (s : State) (p : Nat) (b : Bool) : (State.setPending s p b).heart = s.heart := rfl
@[simp] theorem State.setPending_rope (s : State) (p : Nat) (b : Bool) : (State.setPending s p b).rope = s.rope := rfl
@[simp] theorem State.setPending_lastUr (s : State) (p : Nat) (b : Bool) : (State.setPending s p b).lastUr = s.lastUr := rfl
@[simp] theorem State.setPending_guide (s : State) (p : Nat) (b : Bool) : (State.setPending s p b).guide = s.guide := rfl

/-! ### State.free -/

@[simp] theorem State.free_pending (s : State) (w : Nat) : (State.free s w).2.pending = s.pending := rfl
@[simp] theorem State.free_regs (s : State) (w : Nat) : (State.free s w).2.regs = s.regs := rfl
@[simp] theorem State.free_lastRead (s : State) (w : Nat) : (State.free s w).2.lastRead = s.lastRead := rfl
@[simp] theorem State.free_evt (s : State) (w : Nat) : (State.free s w).2.evt = s.evt := rfl
@[simp] theorem State.free_mbx (s : State) (w : Nat) : (State.free s w).2.mbx = s.mbx := rfl
@[simp] theorem State.free_mbSeq (s : State) (w : Nat) : (State.free s w).2.mbSeq = s.mbSeq := rfl
@[simp] theorem State.free_host (s : State) (w : Nat) : (State.free s w).2.host = s.host := rfl
@[simp] theorem State.free_cadenceStep (s : State) (w : Nat) : (State.free s w).2.cadenceStep = s.cadenceStep := rfl
@[simp] theorem State.free_time (s : State) (w : Nat) : (State.free s w).2.time = s.time := rfl
@[simp] theorem State.free_edge (s : State) (w : Nat) : (State.free s w).2.edge = s.edge := rfl
@[simp] theorem State.free_cal (s : State) (w : Nat) : (State.free s w).2.cal = s.cal := rfl
@[simp] theorem State.free_sdf (s : State) (w : Nat) : (State.free s w).2.sdf = s.sdf := rfl
@[simp] theorem State.free_loop (s : State) (w : Nat) : (State.free s w).2.loop = s.loop := rfl
@[simp] theorem State.free_dramMem (s : State) (w : Nat) : (State.free s w).2.dramMem = s.dramMem := rfl
@[simp] theorem State.free_pub (s : State) (w : Nat) : (State.free s w).2.pub = s.pub := rfl
@[simp] theorem State.free_fabric (s : State) (w : Nat) : (State.free s w).2.fabric = s.fabric := rfl
@[simp] theorem State.free_pins (s : State) (w : Nat) : (State.free s w).2.pins = s.pins := rfl
@[simp] theorem State.free_power (s : State) (w : Nat) : (State.free s w).2.power = s.power := rfl
@[simp] theorem State.free_dram (s : State) (w : Nat) : (State.free s w).2.dram = s.dram := rfl
@[simp] theorem State.free_cfg (s : State) (w : Nat) : (State.free s w).2.cfg = s.cfg := rfl
@[simp] theorem State.free_flash (s : State) (w : Nat) : (State.free s w).2.flash = s.flash := rfl
@[simp] theorem State.free_otp (s : State) (w : Nat) : (State.free s w).2.otp = s.otp := rfl
@[simp] theorem State.free_settings (s : State) (w : Nat) : (State.free s w).2.settings = s.settings := rfl
@[simp] theorem State.free_bist (s : State) (w : Nat) : (State.free s w).2.bist = s.bist := rfl
@[simp] theorem State.free_debug (s : State) (w : Nat) : (State.free s w).2.debug = s.debug := rfl
@[simp] theorem State.free_otpOpen (s : State) (w : Nat) : (State.free s w).2.otpOpen = s.otpOpen := rfl
@[simp] theorem State.free_heart (s : State) (w : Nat) : (State.free s w).2.heart = s.heart := rfl
@[simp] theorem State.free_rope (s : State) (w : Nat) : (State.free s w).2.rope = s.rope := rfl
@[simp] theorem State.free_lastUr (s : State) (w : Nat) : (State.free s w).2.lastUr = s.lastUr := rfl
@[simp] theorem State.free_guide (s : State) (w : Nat) : (State.free s w).2.guide = s.guide := rfl

/-! ### State.freeBool -/

@[simp] theorem State.freeBool_pending (s : State) : (State.freeBool s).2.pending = s.pending := rfl
@[simp] theorem State.freeBool_regs (s : State) : (State.freeBool s).2.regs = s.regs := rfl
@[simp] theorem State.freeBool_lastRead (s : State) : (State.freeBool s).2.lastRead = s.lastRead := rfl
@[simp] theorem State.freeBool_evt (s : State) : (State.freeBool s).2.evt = s.evt := rfl
@[simp] theorem State.freeBool_mbx (s : State) : (State.freeBool s).2.mbx = s.mbx := rfl
@[simp] theorem State.freeBool_mbSeq (s : State) : (State.freeBool s).2.mbSeq = s.mbSeq := rfl
@[simp] theorem State.freeBool_host (s : State) : (State.freeBool s).2.host = s.host := rfl
@[simp] theorem State.freeBool_cadenceStep (s : State) : (State.freeBool s).2.cadenceStep = s.cadenceStep := rfl
@[simp] theorem State.freeBool_time (s : State) : (State.freeBool s).2.time = s.time := rfl
@[simp] theorem State.freeBool_edge (s : State) : (State.freeBool s).2.edge = s.edge := rfl
@[simp] theorem State.freeBool_cal (s : State) : (State.freeBool s).2.cal = s.cal := rfl
@[simp] theorem State.freeBool_sdf (s : State) : (State.freeBool s).2.sdf = s.sdf := rfl
@[simp] theorem State.freeBool_loop (s : State) : (State.freeBool s).2.loop = s.loop := rfl
@[simp] theorem State.freeBool_dramMem (s : State) : (State.freeBool s).2.dramMem = s.dramMem := rfl
@[simp] theorem State.freeBool_pub (s : State) : (State.freeBool s).2.pub = s.pub := rfl
@[simp] theorem State.freeBool_fabric (s : State) : (State.freeBool s).2.fabric = s.fabric := rfl
@[simp] theorem State.freeBool_pins (s : State) : (State.freeBool s).2.pins = s.pins := rfl
@[simp] theorem State.freeBool_power (s : State) : (State.freeBool s).2.power = s.power := rfl
@[simp] theorem State.freeBool_dram (s : State) : (State.freeBool s).2.dram = s.dram := rfl
@[simp] theorem State.freeBool_cfg (s : State) : (State.freeBool s).2.cfg = s.cfg := rfl
@[simp] theorem State.freeBool_flash (s : State) : (State.freeBool s).2.flash = s.flash := rfl
@[simp] theorem State.freeBool_otp (s : State) : (State.freeBool s).2.otp = s.otp := rfl
@[simp] theorem State.freeBool_settings (s : State) : (State.freeBool s).2.settings = s.settings := rfl
@[simp] theorem State.freeBool_bist (s : State) : (State.freeBool s).2.bist = s.bist := rfl
@[simp] theorem State.freeBool_debug (s : State) : (State.freeBool s).2.debug = s.debug := rfl
@[simp] theorem State.freeBool_otpOpen (s : State) : (State.freeBool s).2.otpOpen = s.otpOpen := rfl
@[simp] theorem State.freeBool_heart (s : State) : (State.freeBool s).2.heart = s.heart := rfl
@[simp] theorem State.freeBool_rope (s : State) : (State.freeBool s).2.rope = s.rope := rfl
@[simp] theorem State.freeBool_lastUr (s : State) : (State.freeBool s).2.lastUr = s.lastUr := rfl
@[simp] theorem State.freeBool_guide (s : State) : (State.freeBool s).2.guide = s.guide := rfl

/-! ### State.recordRefusal -/

@[simp] theorem State.recordRefusal_pending (s : State) (p r : Nat) : (State.recordRefusal s p r).pending = s.pending := rfl
@[simp] theorem State.recordRefusal_freeIx (s : State) (p r : Nat) : (State.recordRefusal s p r).freeIx = s.freeIx := rfl
@[simp] theorem State.recordRefusal_lastRead (s : State) (p r : Nat) : (State.recordRefusal s p r).lastRead = s.lastRead := rfl
@[simp] theorem State.recordRefusal_evt (s : State) (p r : Nat) : (State.recordRefusal s p r).evt = s.evt := rfl
@[simp] theorem State.recordRefusal_mbx (s : State) (p r : Nat) : (State.recordRefusal s p r).mbx = s.mbx := rfl
@[simp] theorem State.recordRefusal_mbSeq (s : State) (p r : Nat) : (State.recordRefusal s p r).mbSeq = s.mbSeq := rfl
@[simp] theorem State.recordRefusal_host (s : State) (p r : Nat) : (State.recordRefusal s p r).host = s.host := rfl
@[simp] theorem State.recordRefusal_cadenceStep (s : State) (p r : Nat) : (State.recordRefusal s p r).cadenceStep = s.cadenceStep := rfl
@[simp] theorem State.recordRefusal_time (s : State) (p r : Nat) : (State.recordRefusal s p r).time = s.time := rfl
@[simp] theorem State.recordRefusal_edge (s : State) (p r : Nat) : (State.recordRefusal s p r).edge = s.edge := rfl
@[simp] theorem State.recordRefusal_cal (s : State) (p r : Nat) : (State.recordRefusal s p r).cal = s.cal := rfl
@[simp] theorem State.recordRefusal_sdf (s : State) (p r : Nat) : (State.recordRefusal s p r).sdf = s.sdf := rfl
@[simp] theorem State.recordRefusal_loop (s : State) (p r : Nat) : (State.recordRefusal s p r).loop = s.loop := rfl
@[simp] theorem State.recordRefusal_dramMem (s : State) (p r : Nat) : (State.recordRefusal s p r).dramMem = s.dramMem := rfl
@[simp] theorem State.recordRefusal_pub (s : State) (p r : Nat) : (State.recordRefusal s p r).pub = s.pub := rfl
@[simp] theorem State.recordRefusal_fabric (s : State) (p r : Nat) : (State.recordRefusal s p r).fabric = s.fabric := rfl
@[simp] theorem State.recordRefusal_pins (s : State) (p r : Nat) : (State.recordRefusal s p r).pins = s.pins := rfl
@[simp] theorem State.recordRefusal_power (s : State) (p r : Nat) : (State.recordRefusal s p r).power = s.power := rfl
@[simp] theorem State.recordRefusal_dram (s : State) (p r : Nat) : (State.recordRefusal s p r).dram = s.dram := rfl
@[simp] theorem State.recordRefusal_cfg (s : State) (p r : Nat) : (State.recordRefusal s p r).cfg = s.cfg := rfl
@[simp] theorem State.recordRefusal_flash (s : State) (p r : Nat) : (State.recordRefusal s p r).flash = s.flash := rfl
@[simp] theorem State.recordRefusal_otp (s : State) (p r : Nat) : (State.recordRefusal s p r).otp = s.otp := rfl
@[simp] theorem State.recordRefusal_settings (s : State) (p r : Nat) : (State.recordRefusal s p r).settings = s.settings := rfl
@[simp] theorem State.recordRefusal_bist (s : State) (p r : Nat) : (State.recordRefusal s p r).bist = s.bist := rfl
@[simp] theorem State.recordRefusal_debug (s : State) (p r : Nat) : (State.recordRefusal s p r).debug = s.debug := rfl
@[simp] theorem State.recordRefusal_otpOpen (s : State) (p r : Nat) : (State.recordRefusal s p r).otpOpen = s.otpOpen := rfl
@[simp] theorem State.recordRefusal_heart (s : State) (p r : Nat) : (State.recordRefusal s p r).heart = s.heart := rfl
@[simp] theorem State.recordRefusal_rope (s : State) (p r : Nat) : (State.recordRefusal s p r).rope = s.rope := rfl
@[simp] theorem State.recordRefusal_lastUr (s : State) (p r : Nat) : (State.recordRefusal s p r).lastUr = s.lastUr := rfl
@[simp] theorem State.recordRefusal_guide (s : State) (p r : Nat) : (State.recordRefusal s p r).guide = s.guide := rfl

end Sys2Proof.Machine
end

