-- ==== Sys2Proof/Laws/Events.lean ====
section
/-! SUPPORT. What raising an event, setting a page error and a commit transfer can change: registers, the event controller, what
the host port has sent. Every other part of the state is as it was. -/

namespace Sys2Proof.Machine

theorem SameOutside.refl (s : State) : SameOutside s s := rfl

theorem SameOutside.trans {s t u : State} (h1 : SameOutside s t) (h2 : SameOutside t u) : SameOutside s u := by
  unfold SameOutside at *
  rw [h1] at h2
  exact h2

theorem SameOutside.ite {s t u : State} {c : Prop} [Decidable c] (h1 : SameOutside s t) (h2 : SameOutside s u) :
    SameOutside s (if c then t else u) := by split <;> assumption

theorem SameOutside.foldl {α : Type} (f : State → α → State) (hf : ∀ t x, SameOutside t (f t x)) (l : List α) (s : State) :
    SameOutside s (l.foldl f s) := by
  induction l generalizing s with
  | nil => exact SameOutside.refl s
  | cons x l ih => exact (hf s x).trans (ih (f s x))

theorem SameOutside.pending {s t : State} (h : SameOutside s t) : t.pending = s.pending := by unfold SameOutside at h; have e := congrArg State.pending h; exact e
theorem SameOutside.lastRead {s t : State} (h : SameOutside s t) : t.lastRead = s.lastRead := by unfold SameOutside at h; have e := congrArg State.lastRead h; exact e
theorem SameOutside.mbx {s t : State} (h : SameOutside s t) : t.mbx = s.mbx := by unfold SameOutside at h; have e := congrArg State.mbx h; exact e
theorem SameOutside.mbSeq {s t : State} (h : SameOutside s t) : t.mbSeq = s.mbSeq := by unfold SameOutside at h; have e := congrArg State.mbSeq h; exact e
theorem SameOutside.cadenceStep {s t : State} (h : SameOutside s t) : t.cadenceStep = s.cadenceStep := by unfold SameOutside at h; have e := congrArg State.cadenceStep h; exact e
theorem SameOutside.time {s t : State} (h : SameOutside s t) : t.time = s.time := by unfold SameOutside at h; have e := congrArg State.time h; exact e
theorem SameOutside.edge {s t : State} (h : SameOutside s t) : t.edge = s.edge := by unfold SameOutside at h; have e := congrArg State.edge h; exact e
theorem SameOutside.cal {s t : State} (h : SameOutside s t) : t.cal = s.cal := by unfold SameOutside at h; have e := congrArg State.cal h; exact e
theorem SameOutside.sdf {s t : State} (h : SameOutside s t) : t.sdf = s.sdf := by unfold SameOutside at h; have e := congrArg State.sdf h; exact e
theorem SameOutside.loop {s t : State} (h : SameOutside s t) : t.loop = s.loop := by unfold SameOutside at h; have e := congrArg State.loop h; exact e
theorem SameOutside.dramMem {s t : State} (h : SameOutside s t) : t.dramMem = s.dramMem := by unfold SameOutside at h; have e := congrArg State.dramMem h; exact e
theorem SameOutside.pub {s t : State} (h : SameOutside s t) : t.pub = s.pub := by unfold SameOutside at h; have e := congrArg State.pub h; exact e
theorem SameOutside.fabric {s t : State} (h : SameOutside s t) : t.fabric = s.fabric := by unfold SameOutside at h; have e := congrArg State.fabric h; exact e
theorem SameOutside.pins {s t : State} (h : SameOutside s t) : t.pins = s.pins := by unfold SameOutside at h; have e := congrArg State.pins h; exact e
theorem SameOutside.power {s t : State} (h : SameOutside s t) : t.power = s.power := by unfold SameOutside at h; have e := congrArg State.power h; exact e
theorem SameOutside.dram {s t : State} (h : SameOutside s t) : t.dram = s.dram := by unfold SameOutside at h; have e := congrArg State.dram h; exact e
theorem SameOutside.cfg {s t : State} (h : SameOutside s t) : t.cfg = s.cfg := by unfold SameOutside at h; have e := congrArg State.cfg h; exact e
theorem SameOutside.flash {s t : State} (h : SameOutside s t) : t.flash = s.flash := by unfold SameOutside at h; have e := congrArg State.flash h; exact e
theorem SameOutside.otp {s t : State} (h : SameOutside s t) : t.otp = s.otp := by unfold SameOutside at h; have e := congrArg State.otp h; exact e
theorem SameOutside.settings {s t : State} (h : SameOutside s t) : t.settings = s.settings := by unfold SameOutside at h; have e := congrArg State.settings h; exact e
theorem SameOutside.bist {s t : State} (h : SameOutside s t) : t.bist = s.bist := by unfold SameOutside at h; have e := congrArg State.bist h; exact e
theorem SameOutside.debug {s t : State} (h : SameOutside s t) : t.debug = s.debug := by unfold SameOutside at h; have e := congrArg State.debug h; exact e
theorem SameOutside.otpOpen {s t : State} (h : SameOutside s t) : t.otpOpen = s.otpOpen := by unfold SameOutside at h; have e := congrArg State.otpOpen h; exact e
theorem SameOutside.heart {s t : State} (h : SameOutside s t) : t.heart = s.heart := by unfold SameOutside at h; have e := congrArg State.heart h; exact e
theorem SameOutside.rope_own {s t : State} (h : SameOutside s t) : t.rope.own = s.rope.own := by unfold SameOutside at h; have e := congrArg (fun x => x.rope.own) h; exact e
theorem SameOutside.rope_br {s t : State} (h : SameOutside s t) : t.rope.br = s.rope.br := by unfold SameOutside at h; have e := congrArg (fun x => x.rope.br) h; exact e
theorem SameOutside.rope_checked {s t : State} (h : SameOutside s t) : t.rope.checked = s.rope.checked := by unfold SameOutside at h; have e := congrArg (fun x => x.rope.checked) h; exact e
theorem SameOutside.rope_again {s t : State} (h : SameOutside s t) : t.rope.again = s.rope.again := by unfold SameOutside at h; have e := congrArg (fun x => x.rope.again) h; exact e
theorem SameOutside.rope_nrWest {s t : State} (h : SameOutside s t) : t.rope.nrWest = s.rope.nrWest := by unfold SameOutside at h; have e := congrArg (fun x => x.rope.nrWest) h; exact e
theorem SameOutside.rope_nrEast {s t : State} (h : SameOutside s t) : t.rope.nrEast = s.rope.nrEast := by unfold SameOutside at h; have e := congrArg (fun x => x.rope.nrEast) h; exact e
theorem SameOutside.rope_code5 {s t : State} (h : SameOutside s t) : t.rope.code5 = s.rope.code5 := by unfold SameOutside at h; have e := congrArg (fun x => x.rope.code5) h; exact e
theorem SameOutside.rope_filled {s t : State} (h : SameOutside s t) : t.rope.filled = s.rope.filled := by unfold SameOutside at h; have e := congrArg (fun x => x.rope.filled) h; exact e
theorem SameOutside.rope_brFilled {s t : State} (h : SameOutside s t) : t.rope.brFilled = s.rope.brFilled := by unfold SameOutside at h; have e := congrArg (fun x => x.rope.brFilled) h; exact e
theorem SameOutside.rope_healNow {s t : State} (h : SameOutside s t) : t.rope.healNow = s.rope.healNow := by unfold SameOutside at h; have e := congrArg (fun x => x.rope.healNow) h; exact e
theorem SameOutside.rope_rateTo {s t : State} (h : SameOutside s t) : t.rope.rateTo = s.rope.rateTo := by unfold SameOutside at h; have e := congrArg (fun x => x.rope.rateTo) h; exact e
theorem SameOutside.rope_brRateTo {s t : State} (h : SameOutside s t) : t.rope.brRateTo = s.rope.brRateTo := by unfold SameOutside at h; have e := congrArg (fun x => x.rope.brRateTo) h; exact e
theorem SameOutside.rope_westIn {s t : State} (h : SameOutside s t) : t.rope.westIn = s.rope.westIn := by unfold SameOutside at h; have e := congrArg (fun x => x.rope.westIn) h; exact e
theorem SameOutside.rope_eastOut {s t : State} (h : SameOutside s t) : t.rope.eastOut = s.rope.eastOut := by unfold SameOutside at h; have e := congrArg (fun x => x.rope.eastOut) h; exact e
theorem SameOutside.rope_branchOut {s t : State} (h : SameOutside s t) : t.rope.branchOut = s.rope.branchOut := by unfold SameOutside at h; have e := congrArg (fun x => x.rope.branchOut) h; exact e
theorem SameOutside.rope_hop {s t : State} (h : SameOutside s t) : t.rope.hop = s.rope.hop := by unfold SameOutside at h; have e := congrArg (fun x => x.rope.hop) h; exact e
theorem SameOutside.rope_oldHop {s t : State} (h : SameOutside s t) : t.rope.oldHop = s.rope.oldHop := by unfold SameOutside at h; have e := congrArg (fun x => x.rope.oldHop) h; exact e
theorem SameOutside.rope_oldHopBr {s t : State} (h : SameOutside s t) : t.rope.oldHopBr = s.rope.oldHopBr := by unfold SameOutside at h; have e := congrArg (fun x => x.rope.oldHopBr) h; exact e
theorem SameOutside.rope_hopSent {s t : State} (h : SameOutside s t) : t.rope.hopSent = s.rope.hopSent := by unfold SameOutside at h; have e := congrArg (fun x => x.rope.hopSent) h; exact e
theorem SameOutside.rope_peers {s t : State} (h : SameOutside s t) : t.rope.peers = s.rope.peers := by unfold SameOutside at h; have e := congrArg (fun x => x.rope.peers) h; exact e
theorem SameOutside.rope_seenEpoch {s t : State} (h : SameOutside s t) : t.rope.seenEpoch = s.rope.seenEpoch := by unfold SameOutside at h; have e := congrArg (fun x => x.rope.seenEpoch) h; exact e
theorem SameOutside.rope_lastEpoch {s t : State} (h : SameOutside s t) : t.rope.lastEpoch = s.rope.lastEpoch := by unfold SameOutside at h; have e := congrArg (fun x => x.rope.lastEpoch) h; exact e
theorem SameOutside.rope_sent {s t : State} (h : SameOutside s t) : t.rope.sent = s.rope.sent := by unfold SameOutside at h; have e := congrArg (fun x => x.rope.sent) h; exact e
theorem SameOutside.rope_latchWait {s t : State} (h : SameOutside s t) : t.rope.latchWait = s.rope.latchWait := by unfold SameOutside at h; have e := congrArg (fun x => x.rope.latchWait) h; exact e
theorem SameOutside.rope_stagedTx {s t : State} (h : SameOutside s t) : t.rope.stagedTx = s.rope.stagedTx := by unfold SameOutside at h; have e := congrArg (fun x => x.rope.stagedTx) h; exact e
theorem SameOutside.rope_stagedEq {s t : State} (h : SameOutside s t) : t.rope.stagedEq = s.rope.stagedEq := by unfold SameOutside at h; have e := congrArg (fun x => x.rope.stagedEq) h; exact e
theorem SameOutside.lastUr {s t : State} (h : SameOutside s t) : t.lastUr = s.lastUr := by unfold SameOutside at h; have e := congrArg State.lastUr h; exact e
theorem SameOutside.guide {s t : State} (h : SameOutside s t) : t.guide = s.guide := by unfold SameOutside at h; have e := congrArg State.guide h; exact e

theorem State.setReg_same (s : State) (a : Nat) (v : Word) : SameOutside s (s.setReg a v) := rfl
theorem State.setShadow_same (s : State) (a : Nat) (v : Word) : SameOutside s (s.setShadow a v) := rfl
theorem State.setF_same (s : State) (a hi lo v : Nat) : SameOutside s (s.setF a hi lo v) := rfl
theorem State.setB_same (s : State) (a i : Nat) (b : Bool) : SameOutside s (s.setB a i b) := rfl
theorem State.satAdd_same (s : State) (a hi lo n : Nat) : SameOutside s (s.satAdd a hi lo n) := rfl
theorem State.wrapAdd_same (s : State) (a hi lo n : Nat) : SameOutside s (s.wrapAdd a hi lo n) := rfl
theorem State.setPending_same (s : State) (p : Nat) (b : Bool) : SameOutside s (s.setPending p b) := rfl
theorem State.sendHost_same (s : State) (m : HostTlp) : SameOutside s (s.sendHost m) := rfl
theorem State.recordRefusal_same (s : State) (p r : Nat) : SameOutside s (s.recordRefusal p r) := rfl
theorem State.free_same (s : State) (w : Nat) : SameOutside s (s.free w).2 := rfl

theorem State.markUndefined_same (s : State) (c p ch : Nat) : SameOutside s (s.markUndefined c p ch) := by
  unfold State.markUndefined; split <;> rfl

theorem State.clearUndefined_same (s : State) (c p ch : Nat) : SameOutside s (s.clearUndefined c p ch) := rfl

theorem State.dmaWrite_same (s : State) (d : Nat) (r : List Word) : SameOutside s (s.dmaWrite d r) := by
  unfold State.dmaWrite; repeat' split
  all_goals rfl

theorem State.msixMessage_same (s : State) (v : Nat) : SameOutside s (s.msixMessage v) := by
  unfold State.msixMessage; split <;> rfl

theorem State.msixRoute_same (s : State) (v : Nat) : SameOutside s (s.msixRoute v) := by
  unfold State.msixRoute
  split
  · rfl
  · exact (State.setB_same s _ _ _).trans (State.msixMessage_same _ _)

theorem State.lineRoute_same (s : State) (j : Nat) : SameOutside s (s.lineRoute j) := by
  unfold State.lineRoute; split <;> rfl

/-- Renewing a message that waits changes what waits for a slot or for room, and nothing else of the rope. -/
theorem Rope.renew_same (x : Rope) (n m e : Nat) (r : List Word) :
    (x.renew n m e r).2 = { x with
      pairs := (x.renew n m e r).2.pairs, waiting := (x.renew n m e r).2.waiting, stalled := (x.renew n m e r).2.stalled } := by
  unfold Rope.renew
  dsimp only
  split <;> rfl

theorem State.ropeRoute_same (s : State) (e k : Nat) (r : List Word) : SameOutside s (s.ropeRoute e k r) := by
  unfold State.ropeRoute
  refine SameOutside.ite rfl (SameOutside.ite rfl ?_)
  have hx := Rope.renew_same s.rope (s.rf (aRTGT k) 8 0) (s.rf (aRTGT k) 13 9) e r
  dsimp only
  split
  · unfold SameOutside
    rw [hx]
    rfl
  · rfl

/-- An occurrence changes registers, the event controller and what the host port has sent, and nothing else. -/
theorem State.occur_same (s : State) (e : Nat) (t : DevTime) (q : Nat) : SameOutside s (s.occur e t q).2 := by
  unfold State.occur
  refine SameOutside.trans ?_ (SameOutside.ite (State.ropeRoute_same _ _ _ _) (SameOutside.refl _))
  refine SameOutside.trans ?_ (SameOutside.ite (State.lineRoute_same _ _) (SameOutside.refl _))
  refine SameOutside.trans ?_ (SameOutside.ite (State.msixRoute_same _ _) (SameOutside.refl _))
  refine SameOutside.trans ?_ (SameOutside.ite ?_ (SameOutside.ite (State.dmaWrite_same _ _ _) (SameOutside.refl _)))
  · rfl
  · rfl

theorem State.raiseWith_same (s : State) (e : Nat) (t : DevTime) (q : Nat) : SameOutside s (s.raiseWith e t q) := by
  unfold State.raiseWith
  refine (State.occur_same s e t q).trans ?_
  refine SameOutside.ite ?_ (SameOutside.refl _)
  exact (State.setB_same _ _ _ _).trans (SameOutside.ite (State.occur_same _ _ _ _) (SameOutside.refl _))

theorem State.raiseAt_same (s : State) (e : Nat) (t : DevTime) : SameOutside s (s.raiseAt e t) := State.raiseWith_same s e t _

theorem State.raise_same (s : State) (e : Nat) : SameOutside s (s.raise e) := State.raiseAt_same s e _

theorem State.setErr_same (s : State) (p b : Nat) : SameOutside s (s.setErr p b) := by
  unfold State.setErr
  refine SameOutside.ite (SameOutside.refl _) ((State.setB_same _ _ _ _).trans (SameOutside.ite ?_ (SameOutside.refl _)))
  split
  · exact State.raise_same _ _
  · exact SameOutside.refl _

theorem State.setErrLevel_same (s : State) (p b : Nat) (on : Bool) : SameOutside s (s.setErrLevel p b on) := by
  unfold State.setErrLevel
  exact SameOutside.ite (State.setErr_same _ _ _) (State.setB_same _ _ _ _)

theorem State.transferReg_same (s : State) (a : Nat) : SameOutside s (s.transferReg a) := rfl

theorem State.transferPage_same (s : State) (p : Nat) : SameOutside s (s.transferPage p) :=
  SameOutside.foldl State.transferReg State.transferReg_same _ _

theorem State.commitTransfer_same (s : State) (p : Nat) : SameOutside s (s.commitTransfer p) := by
  unfold State.commitTransfer
  have h : SameOutside s (((s.transferPage p).wrapAdd (pg p 0x018) 23 0 1).setPending p false) :=
    ((State.transferPage_same s p).trans (State.wrapAdd_same _ _ _ _ _)).trans (State.setPending_same _ _ _)
  refine h.trans (SameOutside.ite ?_ (SameOutside.refl _))
  split
  · exact State.raise_same _ _
  · exact SameOutside.refl _

theorem State.loopEvent_same (s : State) (n : Nat) : SameOutside s (s.loopEvent n) := State.raiseAt_same s _ _

@[simp] theorem State.markUndefined_pending (s : State) (c p ch : Nat) : (State.markUndefined s c p ch).pending = s.pending := (State.markUndefined_same s c p ch).pending
@[simp] theorem State.markUndefined_lastRead (s : State) (c p ch : Nat) : (State.markUndefined s c p ch).lastRead = s.lastRead := (State.markUndefined_same s c p ch).lastRead
@[simp] theorem State.markUndefined_mbx (s : State) (c p ch : Nat) : (State.markUndefined s c p ch).mbx = s.mbx := (State.markUndefined_same s c p ch).mbx
@[simp] theorem State.markUndefined_mbSeq (s : State) (c p ch : Nat) : (State.markUndefined s c p ch).mbSeq = s.mbSeq := (State.markUndefined_same s c p ch).mbSeq
@[simp] theorem State.markUndefined_cadenceStep (s : State) (c p ch : Nat) : (State.markUndefined s c p ch).cadenceStep = s.cadenceStep := (State.markUndefined_same s c p ch).cadenceStep
@[simp] theorem State.markUndefined_time (s : State) (c p ch : Nat) : (State.markUndefined s c p ch).time = s.time := (State.markUndefined_same s c p ch).time
@[simp] theorem State.markUndefined_edge (s : State) (c p ch : Nat) : (State.markUndefined s c p ch).edge = s.edge := (State.markUndefined_same s c p ch).edge
@[simp] theorem State.markUndefined_cal (s : State) (c p ch : Nat) : (State.markUndefined s c p ch).cal = s.cal := (State.markUndefined_same s c p ch).cal
@[simp] theorem State.markUndefined_sdf (s : State) (c p ch : Nat) : (State.markUndefined s c p ch).sdf = s.sdf := (State.markUndefined_same s c p ch).sdf
@[simp] theorem State.markUndefined_loop (s : State) (c p ch : Nat) : (State.markUndefined s c p ch).loop = s.loop := (State.markUndefined_same s c p ch).loop
@[simp] theorem State.markUndefined_dramMem (s : State) (c p ch : Nat) : (State.markUndefined s c p ch).dramMem = s.dramMem := (State.markUndefined_same s c p ch).dramMem
@[simp] theorem State.markUndefined_pub (s : State) (c p ch : Nat) : (State.markUndefined s c p ch).pub = s.pub := (State.markUndefined_same s c p ch).pub
@[simp] theorem State.markUndefined_fabric (s : State) (c p ch : Nat) : (State.markUndefined s c p ch).fabric = s.fabric := (State.markUndefined_same s c p ch).fabric
@[simp] theorem State.markUndefined_pins (s : State) (c p ch : Nat) : (State.markUndefined s c p ch).pins = s.pins := (State.markUndefined_same s c p ch).pins
@[simp] theorem State.markUndefined_power (s : State) (c p ch : Nat) : (State.markUndefined s c p ch).power = s.power := (State.markUndefined_same s c p ch).power
@[simp] theorem State.markUndefined_dram (s : State) (c p ch : Nat) : (State.markUndefined s c p ch).dram = s.dram := (State.markUndefined_same s c p ch).dram
@[simp] theorem State.markUndefined_cfg (s : State) (c p ch : Nat) : (State.markUndefined s c p ch).cfg = s.cfg := (State.markUndefined_same s c p ch).cfg
@[simp] theorem State.markUndefined_flash (s : State) (c p ch : Nat) : (State.markUndefined s c p ch).flash = s.flash := (State.markUndefined_same s c p ch).flash
@[simp] theorem State.markUndefined_otp (s : State) (c p ch : Nat) : (State.markUndefined s c p ch).otp = s.otp := (State.markUndefined_same s c p ch).otp
@[simp] theorem State.markUndefined_settings (s : State) (c p ch : Nat) : (State.markUndefined s c p ch).settings = s.settings := (State.markUndefined_same s c p ch).settings
@[simp] theorem State.markUndefined_bist (s : State) (c p ch : Nat) : (State.markUndefined s c p ch).bist = s.bist := (State.markUndefined_same s c p ch).bist
@[simp] theorem State.markUndefined_debug (s : State) (c p ch : Nat) : (State.markUndefined s c p ch).debug = s.debug := (State.markUndefined_same s c p ch).debug
@[simp] theorem State.markUndefined_otpOpen (s : State) (c p ch : Nat) : (State.markUndefined s c p ch).otpOpen = s.otpOpen := (State.markUndefined_same s c p ch).otpOpen
@[simp] theorem State.markUndefined_heart (s : State) (c p ch : Nat) : (State.markUndefined s c p ch).heart = s.heart := (State.markUndefined_same s c p ch).heart
@[simp] theorem State.markUndefined_rope (s : State) (c p ch : Nat) : (State.markUndefined s c p ch).rope = s.rope := by unfold State.markUndefined; split <;> rfl
@[simp] theorem State.markUndefined_lastUr (s : State) (c p ch : Nat) : (State.markUndefined s c p ch).lastUr = s.lastUr := (State.markUndefined_same s c p ch).lastUr
@[simp] theorem State.markUndefined_guide (s : State) (c p ch : Nat) : (State.markUndefined s c p ch).guide = s.guide := (State.markUndefined_same s c p ch).guide

@[simp] theorem State.raiseAt_pending (s : State) (e : Nat) (t : DevTime) : (State.raiseAt s e t).pending = s.pending := (State.raiseAt_same s e t).pending
@[simp] theorem State.raiseAt_lastRead (s : State) (e : Nat) (t : DevTime) : (State.raiseAt s e t).lastRead = s.lastRead := (State.raiseAt_same s e t).lastRead
@[simp] theorem State.raiseAt_mbx (s : State) (e : Nat) (t : DevTime) : (State.raiseAt s e t).mbx = s.mbx := (State.raiseAt_same s e t).mbx
@[simp] theorem State.raiseAt_mbSeq (s : State) (e : Nat) (t : DevTime) : (State.raiseAt s e t).mbSeq = s.mbSeq := (State.raiseAt_same s e t).mbSeq
@[simp] theorem State.raiseAt_cadenceStep (s : State) (e : Nat) (t : DevTime) : (State.raiseAt s e t).cadenceStep = s.cadenceStep := (State.raiseAt_same s e t).cadenceStep
@[simp] theorem State.raiseAt_time (s : State) (e : Nat) (t : DevTime) : (State.raiseAt s e t).time = s.time := (State.raiseAt_same s e t).time
@[simp] theorem State.raiseAt_edge (s : State) (e : Nat) (t : DevTime) : (State.raiseAt s e t).edge = s.edge := (State.raiseAt_same s e t).edge
@[simp] theorem State.raiseAt_cal (s : State) (e : Nat) (t : DevTime) : (State.raiseAt s e t).cal = s.cal := (State.raiseAt_same s e t).cal
@[simp] theorem State.raiseAt_sdf (s : State) (e : Nat) (t : DevTime) : (State.raiseAt s e t).sdf = s.sdf := (State.raiseAt_same s e t).sdf
@[simp] theorem State.raiseAt_loop (s : State) (e : Nat) (t : DevTime) : (State.raiseAt s e t).loop = s.loop := (State.raiseAt_same s e t).loop
@[simp] theorem State.raiseAt_dramMem (s : State) (e : Nat) (t : DevTime) : (State.raiseAt s e t).dramMem = s.dramMem := (State.raiseAt_same s e t).dramMem
@[simp] theorem State.raiseAt_pub (s : State) (e : Nat) (t : DevTime) : (State.raiseAt s e t).pub = s.pub := (State.raiseAt_same s e t).pub
@[simp] theorem State.raiseAt_fabric (s : State) (e : Nat) (t : DevTime) : (State.raiseAt s e t).fabric = s.fabric := (State.raiseAt_same s e t).fabric
@[simp] theorem State.raiseAt_pins (s : State) (e : Nat) (t : DevTime) : (State.raiseAt s e t).pins = s.pins := (State.raiseAt_same s e t).pins
@[simp] theorem State.raiseAt_power (s : State) (e : Nat) (t : DevTime) : (State.raiseAt s e t).power = s.power := (State.raiseAt_same s e t).power
@[simp] theorem State.raiseAt_dram (s : State) (e : Nat) (t : DevTime) : (State.raiseAt s e t).dram = s.dram := (State.raiseAt_same s e t).dram
@[simp] theorem State.raiseAt_cfg (s : State) (e : Nat) (t : DevTime) : (State.raiseAt s e t).cfg = s.cfg := (State.raiseAt_same s e t).cfg
@[simp] theorem State.raiseAt_flash (s : State) (e : Nat) (t : DevTime) : (State.raiseAt s e t).flash = s.flash := (State.raiseAt_same s e t).flash
@[simp] theorem State.raiseAt_otp (s : State) (e : Nat) (t : DevTime) : (State.raiseAt s e t).otp = s.otp := (State.raiseAt_same s e t).otp
@[simp] theorem State.raiseAt_settings (s : State) (e : Nat) (t : DevTime) : (State.raiseAt s e t).settings = s.settings := (State.raiseAt_same s e t).settings
@[simp] theorem State.raiseAt_bist (s : State) (e : Nat) (t : DevTime) : (State.raiseAt s e t).bist = s.bist := (State.raiseAt_same s e t).bist
@[simp] theorem State.raiseAt_debug (s : State) (e : Nat) (t : DevTime) : (State.raiseAt s e t).debug = s.debug := (State.raiseAt_same s e t).debug
@[simp] theorem State.raiseAt_otpOpen (s : State) (e : Nat) (t : DevTime) : (State.raiseAt s e t).otpOpen = s.otpOpen := (State.raiseAt_same s e t).otpOpen
@[simp] theorem State.raiseAt_heart (s : State) (e : Nat) (t : DevTime) : (State.raiseAt s e t).heart = s.heart := (State.raiseAt_same s e t).heart
@[simp] theorem State.raiseAt_rope_own (s : State) (e : Nat) (t : DevTime) : (State.raiseAt s e t).rope.own = s.rope.own := (State.raiseAt_same s e t).rope_own
@[simp] theorem State.raiseAt_rope_br (s : State) (e : Nat) (t : DevTime) : (State.raiseAt s e t).rope.br = s.rope.br := (State.raiseAt_same s e t).rope_br
@[simp] theorem State.raiseAt_rope_sent (s : State) (e : Nat) (t : DevTime) : (State.raiseAt s e t).rope.sent = s.rope.sent := (State.raiseAt_same s e t).rope_sent
@[simp] theorem State.raiseAt_rope_peers (s : State) (e : Nat) (t : DevTime) : (State.raiseAt s e t).rope.peers = s.rope.peers := (State.raiseAt_same s e t).rope_peers
@[simp] theorem State.raiseAt_rope_seenEpoch (s : State) (e : Nat) (t : DevTime) : (State.raiseAt s e t).rope.seenEpoch = s.rope.seenEpoch := (State.raiseAt_same s e t).rope_seenEpoch
@[simp] theorem State.raiseAt_rope_lastEpoch (s : State) (e : Nat) (t : DevTime) : (State.raiseAt s e t).rope.lastEpoch = s.rope.lastEpoch := (State.raiseAt_same s e t).rope_lastEpoch
@[simp] theorem State.raiseAt_rope_code5 (s : State) (e : Nat) (t : DevTime) : (State.raiseAt s e t).rope.code5 = s.rope.code5 := (State.raiseAt_same s e t).rope_code5
@[simp] theorem State.raiseAt_rope_filled (s : State) (e : Nat) (t : DevTime) : (State.raiseAt s e t).rope.filled = s.rope.filled := (State.raiseAt_same s e t).rope_filled
@[simp] theorem State.raiseAt_rope_brFilled (s : State) (e : Nat) (t : DevTime) : (State.raiseAt s e t).rope.brFilled = s.rope.brFilled := (State.raiseAt_same s e t).rope_brFilled
@[simp] theorem State.raiseAt_rope_westIn (s : State) (e : Nat) (t : DevTime) : (State.raiseAt s e t).rope.westIn = s.rope.westIn := (State.raiseAt_same s e t).rope_westIn
@[simp] theorem State.raiseAt_rope_eastOut (s : State) (e : Nat) (t : DevTime) : (State.raiseAt s e t).rope.eastOut = s.rope.eastOut := (State.raiseAt_same s e t).rope_eastOut
@[simp] theorem State.raiseAt_rope_hop (s : State) (e : Nat) (t : DevTime) : (State.raiseAt s e t).rope.hop = s.rope.hop := (State.raiseAt_same s e t).rope_hop
@[simp] theorem State.raiseAt_rope_rateTo (s : State) (e : Nat) (t : DevTime) : (State.raiseAt s e t).rope.rateTo = s.rope.rateTo := (State.raiseAt_same s e t).rope_rateTo
@[simp] theorem State.raiseAt_rope_brRateTo (s : State) (e : Nat) (t : DevTime) : (State.raiseAt s e t).rope.brRateTo = s.rope.brRateTo := (State.raiseAt_same s e t).rope_brRateTo
@[simp] theorem State.raiseAt_rope_healNow (s : State) (e : Nat) (t : DevTime) : (State.raiseAt s e t).rope.healNow = s.rope.healNow := (State.raiseAt_same s e t).rope_healNow
@[simp] theorem State.raiseAt_rope_checked (s : State) (e : Nat) (t : DevTime) : (State.raiseAt s e t).rope.checked = s.rope.checked := (State.raiseAt_same s e t).rope_checked
@[simp] theorem State.raiseAt_rope_again (s : State) (e : Nat) (t : DevTime) : (State.raiseAt s e t).rope.again = s.rope.again := (State.raiseAt_same s e t).rope_again
@[simp] theorem State.raiseAt_lastUr (s : State) (e : Nat) (t : DevTime) : (State.raiseAt s e t).lastUr = s.lastUr := (State.raiseAt_same s e t).lastUr
@[simp] theorem State.raiseAt_guide (s : State) (e : Nat) (t : DevTime) : (State.raiseAt s e t).guide = s.guide := (State.raiseAt_same s e t).guide

@[simp] theorem State.raise_pending (s : State) (e : Nat) : (State.raise s e).pending = s.pending := (State.raise_same s e).pending
@[simp] theorem State.raise_lastRead (s : State) (e : Nat) : (State.raise s e).lastRead = s.lastRead := (State.raise_same s e).lastRead
@[simp] theorem State.raise_mbx (s : State) (e : Nat) : (State.raise s e).mbx = s.mbx := (State.raise_same s e).mbx
@[simp] theorem State.raise_mbSeq (s : State) (e : Nat) : (State.raise s e).mbSeq = s.mbSeq := (State.raise_same s e).mbSeq
@[simp] theorem State.raise_cadenceStep (s : State) (e : Nat) : (State.raise s e).cadenceStep = s.cadenceStep := (State.raise_same s e).cadenceStep
@[simp] theorem State.raise_time (s : State) (e : Nat) : (State.raise s e).time = s.time := (State.raise_same s e).time
@[simp] theorem State.raise_edge (s : State) (e : Nat) : (State.raise s e).edge = s.edge := (State.raise_same s e).edge
@[simp] theorem State.raise_cal (s : State) (e : Nat) : (State.raise s e).cal = s.cal := (State.raise_same s e).cal
@[simp] theorem State.raise_sdf (s : State) (e : Nat) : (State.raise s e).sdf = s.sdf := (State.raise_same s e).sdf
@[simp] theorem State.raise_loop (s : State) (e : Nat) : (State.raise s e).loop = s.loop := (State.raise_same s e).loop
@[simp] theorem State.raise_dramMem (s : State) (e : Nat) : (State.raise s e).dramMem = s.dramMem := (State.raise_same s e).dramMem
@[simp] theorem State.raise_pub (s : State) (e : Nat) : (State.raise s e).pub = s.pub := (State.raise_same s e).pub
@[simp] theorem State.raise_fabric (s : State) (e : Nat) : (State.raise s e).fabric = s.fabric := (State.raise_same s e).fabric
@[simp] theorem State.raise_pins (s : State) (e : Nat) : (State.raise s e).pins = s.pins := (State.raise_same s e).pins
@[simp] theorem State.raise_power (s : State) (e : Nat) : (State.raise s e).power = s.power := (State.raise_same s e).power
@[simp] theorem State.raise_dram (s : State) (e : Nat) : (State.raise s e).dram = s.dram := (State.raise_same s e).dram
@[simp] theorem State.raise_cfg (s : State) (e : Nat) : (State.raise s e).cfg = s.cfg := (State.raise_same s e).cfg
@[simp] theorem State.raise_flash (s : State) (e : Nat) : (State.raise s e).flash = s.flash := (State.raise_same s e).flash
@[simp] theorem State.raise_otp (s : State) (e : Nat) : (State.raise s e).otp = s.otp := (State.raise_same s e).otp
@[simp] theorem State.raise_settings (s : State) (e : Nat) : (State.raise s e).settings = s.settings := (State.raise_same s e).settings
@[simp] theorem State.raise_bist (s : State) (e : Nat) : (State.raise s e).bist = s.bist := (State.raise_same s e).bist
@[simp] theorem State.raise_debug (s : State) (e : Nat) : (State.raise s e).debug = s.debug := (State.raise_same s e).debug
@[simp] theorem State.raise_otpOpen (s : State) (e : Nat) : (State.raise s e).otpOpen = s.otpOpen := (State.raise_same s e).otpOpen
@[simp] theorem State.raise_heart (s : State) (e : Nat) : (State.raise s e).heart = s.heart := (State.raise_same s e).heart
@[simp] theorem State.raise_rope_own (s : State) (e : Nat) : (State.raise s e).rope.own = s.rope.own := (State.raise_same s e).rope_own
@[simp] theorem State.raise_rope_br (s : State) (e : Nat) : (State.raise s e).rope.br = s.rope.br := (State.raise_same s e).rope_br
@[simp] theorem State.raise_rope_sent (s : State) (e : Nat) : (State.raise s e).rope.sent = s.rope.sent := (State.raise_same s e).rope_sent
@[simp] theorem State.raise_rope_peers (s : State) (e : Nat) : (State.raise s e).rope.peers = s.rope.peers := (State.raise_same s e).rope_peers
@[simp] theorem State.raise_rope_seenEpoch (s : State) (e : Nat) : (State.raise s e).rope.seenEpoch = s.rope.seenEpoch := (State.raise_same s e).rope_seenEpoch
@[simp] theorem State.raise_rope_lastEpoch (s : State) (e : Nat) : (State.raise s e).rope.lastEpoch = s.rope.lastEpoch := (State.raise_same s e).rope_lastEpoch
@[simp] theorem State.raise_rope_code5 (s : State) (e : Nat) : (State.raise s e).rope.code5 = s.rope.code5 := (State.raise_same s e).rope_code5
@[simp] theorem State.raise_rope_filled (s : State) (e : Nat) : (State.raise s e).rope.filled = s.rope.filled := (State.raise_same s e).rope_filled
@[simp] theorem State.raise_rope_brFilled (s : State) (e : Nat) : (State.raise s e).rope.brFilled = s.rope.brFilled := (State.raise_same s e).rope_brFilled
@[simp] theorem State.raise_rope_westIn (s : State) (e : Nat) : (State.raise s e).rope.westIn = s.rope.westIn := (State.raise_same s e).rope_westIn
@[simp] theorem State.raise_rope_eastOut (s : State) (e : Nat) : (State.raise s e).rope.eastOut = s.rope.eastOut := (State.raise_same s e).rope_eastOut
@[simp] theorem State.raise_rope_hop (s : State) (e : Nat) : (State.raise s e).rope.hop = s.rope.hop := (State.raise_same s e).rope_hop
@[simp] theorem State.raise_rope_rateTo (s : State) (e : Nat) : (State.raise s e).rope.rateTo = s.rope.rateTo := (State.raise_same s e).rope_rateTo
@[simp] theorem State.raise_rope_brRateTo (s : State) (e : Nat) : (State.raise s e).rope.brRateTo = s.rope.brRateTo := (State.raise_same s e).rope_brRateTo
@[simp] theorem State.raise_rope_healNow (s : State) (e : Nat) : (State.raise s e).rope.healNow = s.rope.healNow := (State.raise_same s e).rope_healNow
@[simp] theorem State.raise_rope_checked (s : State) (e : Nat) : (State.raise s e).rope.checked = s.rope.checked := (State.raise_same s e).rope_checked
@[simp] theorem State.raise_rope_again (s : State) (e : Nat) : (State.raise s e).rope.again = s.rope.again := (State.raise_same s e).rope_again
@[simp] theorem State.raise_lastUr (s : State) (e : Nat) : (State.raise s e).lastUr = s.lastUr := (State.raise_same s e).lastUr
@[simp] theorem State.raise_guide (s : State) (e : Nat) : (State.raise s e).guide = s.guide := (State.raise_same s e).guide

@[simp] theorem State.setErr_pending (s : State) (p b : Nat) : (State.setErr s p b).pending = s.pending := (State.setErr_same s p b).pending
@[simp] theorem State.setErr_lastRead (s : State) (p b : Nat) : (State.setErr s p b).lastRead = s.lastRead := (State.setErr_same s p b).lastRead
@[simp] theorem State.setErr_mbx (s : State) (p b : Nat) : (State.setErr s p b).mbx = s.mbx := (State.setErr_same s p b).mbx
@[simp] theorem State.setErr_mbSeq (s : State) (p b : Nat) : (State.setErr s p b).mbSeq = s.mbSeq := (State.setErr_same s p b).mbSeq
@[simp] theorem State.setErr_cadenceStep (s : State) (p b : Nat) : (State.setErr s p b).cadenceStep = s.cadenceStep := (State.setErr_same s p b).cadenceStep
@[simp] theorem State.setErr_time (s : State) (p b : Nat) : (State.setErr s p b).time = s.time := (State.setErr_same s p b).time
@[simp] theorem State.setErr_edge (s : State) (p b : Nat) : (State.setErr s p b).edge = s.edge := (State.setErr_same s p b).edge
@[simp] theorem State.setErr_cal (s : State) (p b : Nat) : (State.setErr s p b).cal = s.cal := (State.setErr_same s p b).cal
@[simp] theorem State.setErr_sdf (s : State) (p b : Nat) : (State.setErr s p b).sdf = s.sdf := (State.setErr_same s p b).sdf
@[simp] theorem State.setErr_loop (s : State) (p b : Nat) : (State.setErr s p b).loop = s.loop := (State.setErr_same s p b).loop
@[simp] theorem State.setErr_dramMem (s : State) (p b : Nat) : (State.setErr s p b).dramMem = s.dramMem := (State.setErr_same s p b).dramMem
@[simp] theorem State.setErr_pub (s : State) (p b : Nat) : (State.setErr s p b).pub = s.pub := (State.setErr_same s p b).pub
@[simp] theorem State.setErr_fabric (s : State) (p b : Nat) : (State.setErr s p b).fabric = s.fabric := (State.setErr_same s p b).fabric
@[simp] theorem State.setErr_pins (s : State) (p b : Nat) : (State.setErr s p b).pins = s.pins := (State.setErr_same s p b).pins
@[simp] theorem State.setErr_power (s : State) (p b : Nat) : (State.setErr s p b).power = s.power := (State.setErr_same s p b).power
@[simp] theorem State.setErr_dram (s : State) (p b : Nat) : (State.setErr s p b).dram = s.dram := (State.setErr_same s p b).dram
@[simp] theorem State.setErr_cfg (s : State) (p b : Nat) : (State.setErr s p b).cfg = s.cfg := (State.setErr_same s p b).cfg
@[simp] theorem State.setErr_flash (s : State) (p b : Nat) : (State.setErr s p b).flash = s.flash := (State.setErr_same s p b).flash
@[simp] theorem State.setErr_otp (s : State) (p b : Nat) : (State.setErr s p b).otp = s.otp := (State.setErr_same s p b).otp
@[simp] theorem State.setErr_settings (s : State) (p b : Nat) : (State.setErr s p b).settings = s.settings := (State.setErr_same s p b).settings
@[simp] theorem State.setErr_bist (s : State) (p b : Nat) : (State.setErr s p b).bist = s.bist := (State.setErr_same s p b).bist
@[simp] theorem State.setErr_debug (s : State) (p b : Nat) : (State.setErr s p b).debug = s.debug := (State.setErr_same s p b).debug
@[simp] theorem State.setErr_otpOpen (s : State) (p b : Nat) : (State.setErr s p b).otpOpen = s.otpOpen := (State.setErr_same s p b).otpOpen
@[simp] theorem State.setErr_heart (s : State) (p b : Nat) : (State.setErr s p b).heart = s.heart := (State.setErr_same s p b).heart
@[simp] theorem State.setErr_rope_own (s : State) (p b : Nat) : (State.setErr s p b).rope.own = s.rope.own := (State.setErr_same s p b).rope_own
@[simp] theorem State.setErr_rope_br (s : State) (p b : Nat) : (State.setErr s p b).rope.br = s.rope.br := (State.setErr_same s p b).rope_br
@[simp] theorem State.setErr_rope_sent (s : State) (p b : Nat) : (State.setErr s p b).rope.sent = s.rope.sent := (State.setErr_same s p b).rope_sent
@[simp] theorem State.setErr_rope_peers (s : State) (p b : Nat) : (State.setErr s p b).rope.peers = s.rope.peers := (State.setErr_same s p b).rope_peers
@[simp] theorem State.setErr_rope_seenEpoch (s : State) (p b : Nat) : (State.setErr s p b).rope.seenEpoch = s.rope.seenEpoch := (State.setErr_same s p b).rope_seenEpoch
@[simp] theorem State.setErr_rope_lastEpoch (s : State) (p b : Nat) : (State.setErr s p b).rope.lastEpoch = s.rope.lastEpoch := (State.setErr_same s p b).rope_lastEpoch
@[simp] theorem State.setErr_rope_code5 (s : State) (p b : Nat) : (State.setErr s p b).rope.code5 = s.rope.code5 := (State.setErr_same s p b).rope_code5
@[simp] theorem State.setErr_rope_filled (s : State) (p b : Nat) : (State.setErr s p b).rope.filled = s.rope.filled := (State.setErr_same s p b).rope_filled
@[simp] theorem State.setErr_rope_brFilled (s : State) (p b : Nat) : (State.setErr s p b).rope.brFilled = s.rope.brFilled := (State.setErr_same s p b).rope_brFilled
@[simp] theorem State.setErr_rope_westIn (s : State) (p b : Nat) : (State.setErr s p b).rope.westIn = s.rope.westIn := (State.setErr_same s p b).rope_westIn
@[simp] theorem State.setErr_rope_eastOut (s : State) (p b : Nat) : (State.setErr s p b).rope.eastOut = s.rope.eastOut := (State.setErr_same s p b).rope_eastOut
@[simp] theorem State.setErr_rope_hop (s : State) (p b : Nat) : (State.setErr s p b).rope.hop = s.rope.hop := (State.setErr_same s p b).rope_hop
@[simp] theorem State.setErr_rope_rateTo (s : State) (p b : Nat) : (State.setErr s p b).rope.rateTo = s.rope.rateTo := (State.setErr_same s p b).rope_rateTo
@[simp] theorem State.setErr_rope_brRateTo (s : State) (p b : Nat) : (State.setErr s p b).rope.brRateTo = s.rope.brRateTo := (State.setErr_same s p b).rope_brRateTo
@[simp] theorem State.setErr_rope_healNow (s : State) (p b : Nat) : (State.setErr s p b).rope.healNow = s.rope.healNow := (State.setErr_same s p b).rope_healNow
@[simp] theorem State.setErr_rope_checked (s : State) (p b : Nat) : (State.setErr s p b).rope.checked = s.rope.checked := (State.setErr_same s p b).rope_checked
@[simp] theorem State.setErr_rope_again (s : State) (p b : Nat) : (State.setErr s p b).rope.again = s.rope.again := (State.setErr_same s p b).rope_again
@[simp] theorem State.setErr_lastUr (s : State) (p b : Nat) : (State.setErr s p b).lastUr = s.lastUr := (State.setErr_same s p b).lastUr
@[simp] theorem State.setErr_guide (s : State) (p b : Nat) : (State.setErr s p b).guide = s.guide := (State.setErr_same s p b).guide

@[simp] theorem State.setErrLevel_pending (s : State) (p b : Nat) (on : Bool) : (State.setErrLevel s p b on).pending = s.pending := (State.setErrLevel_same s p b on).pending
@[simp] theorem State.setErrLevel_lastRead (s : State) (p b : Nat) (on : Bool) : (State.setErrLevel s p b on).lastRead = s.lastRead := (State.setErrLevel_same s p b on).lastRead
@[simp] theorem State.setErrLevel_mbx (s : State) (p b : Nat) (on : Bool) : (State.setErrLevel s p b on).mbx = s.mbx := (State.setErrLevel_same s p b on).mbx
@[simp] theorem State.setErrLevel_mbSeq (s : State) (p b : Nat) (on : Bool) : (State.setErrLevel s p b on).mbSeq = s.mbSeq := (State.setErrLevel_same s p b on).mbSeq
@[simp] theorem State.setErrLevel_cadenceStep (s : State) (p b : Nat) (on : Bool) : (State.setErrLevel s p b on).cadenceStep = s.cadenceStep := (State.setErrLevel_same s p b on).cadenceStep
@[simp] theorem State.setErrLevel_time (s : State) (p b : Nat) (on : Bool) : (State.setErrLevel s p b on).time = s.time := (State.setErrLevel_same s p b on).time
@[simp] theorem State.setErrLevel_edge (s : State) (p b : Nat) (on : Bool) : (State.setErrLevel s p b on).edge = s.edge := (State.setErrLevel_same s p b on).edge
@[simp] theorem State.setErrLevel_cal (s : State) (p b : Nat) (on : Bool) : (State.setErrLevel s p b on).cal = s.cal := (State.setErrLevel_same s p b on).cal
@[simp] theorem State.setErrLevel_sdf (s : State) (p b : Nat) (on : Bool) : (State.setErrLevel s p b on).sdf = s.sdf := (State.setErrLevel_same s p b on).sdf
@[simp] theorem State.setErrLevel_loop (s : State) (p b : Nat) (on : Bool) : (State.setErrLevel s p b on).loop = s.loop := (State.setErrLevel_same s p b on).loop
@[simp] theorem State.setErrLevel_dramMem (s : State) (p b : Nat) (on : Bool) : (State.setErrLevel s p b on).dramMem = s.dramMem := (State.setErrLevel_same s p b on).dramMem
@[simp] theorem State.setErrLevel_pub (s : State) (p b : Nat) (on : Bool) : (State.setErrLevel s p b on).pub = s.pub := (State.setErrLevel_same s p b on).pub
@[simp] theorem State.setErrLevel_fabric (s : State) (p b : Nat) (on : Bool) : (State.setErrLevel s p b on).fabric = s.fabric := (State.setErrLevel_same s p b on).fabric
@[simp] theorem State.setErrLevel_pins (s : State) (p b : Nat) (on : Bool) : (State.setErrLevel s p b on).pins = s.pins := (State.setErrLevel_same s p b on).pins
@[simp] theorem State.setErrLevel_power (s : State) (p b : Nat) (on : Bool) : (State.setErrLevel s p b on).power = s.power := (State.setErrLevel_same s p b on).power
@[simp] theorem State.setErrLevel_dram (s : State) (p b : Nat) (on : Bool) : (State.setErrLevel s p b on).dram = s.dram := (State.setErrLevel_same s p b on).dram
@[simp] theorem State.setErrLevel_cfg (s : State) (p b : Nat) (on : Bool) : (State.setErrLevel s p b on).cfg = s.cfg := (State.setErrLevel_same s p b on).cfg
@[simp] theorem State.setErrLevel_flash (s : State) (p b : Nat) (on : Bool) : (State.setErrLevel s p b on).flash = s.flash := (State.setErrLevel_same s p b on).flash
@[simp] theorem State.setErrLevel_otp (s : State) (p b : Nat) (on : Bool) : (State.setErrLevel s p b on).otp = s.otp := (State.setErrLevel_same s p b on).otp
@[simp] theorem State.setErrLevel_settings (s : State) (p b : Nat) (on : Bool) : (State.setErrLevel s p b on).settings = s.settings := (State.setErrLevel_same s p b on).settings
@[simp] theorem State.setErrLevel_bist (s : State) (p b : Nat) (on : Bool) : (State.setErrLevel s p b on).bist = s.bist := (State.setErrLevel_same s p b on).bist
@[simp] theorem State.setErrLevel_debug (s : State) (p b : Nat) (on : Bool) : (State.setErrLevel s p b on).debug = s.debug := (State.setErrLevel_same s p b on).debug
@[simp] theorem State.setErrLevel_otpOpen (s : State) (p b : Nat) (on : Bool) : (State.setErrLevel s p b on).otpOpen = s.otpOpen := (State.setErrLevel_same s p b on).otpOpen
@[simp] theorem State.setErrLevel_heart (s : State) (p b : Nat) (on : Bool) : (State.setErrLevel s p b on).heart = s.heart := (State.setErrLevel_same s p b on).heart
@[simp] theorem State.setErrLevel_rope_own (s : State) (p b : Nat) (on : Bool) : (State.setErrLevel s p b on).rope.own = s.rope.own := (State.setErrLevel_same s p b on).rope_own
@[simp] theorem State.setErrLevel_rope_br (s : State) (p b : Nat) (on : Bool) : (State.setErrLevel s p b on).rope.br = s.rope.br := (State.setErrLevel_same s p b on).rope_br
@[simp] theorem State.setErrLevel_rope_sent (s : State) (p b : Nat) (on : Bool) : (State.setErrLevel s p b on).rope.sent = s.rope.sent := (State.setErrLevel_same s p b on).rope_sent
@[simp] theorem State.setErrLevel_rope_peers (s : State) (p b : Nat) (on : Bool) : (State.setErrLevel s p b on).rope.peers = s.rope.peers := (State.setErrLevel_same s p b on).rope_peers
@[simp] theorem State.setErrLevel_rope_seenEpoch (s : State) (p b : Nat) (on : Bool) : (State.setErrLevel s p b on).rope.seenEpoch = s.rope.seenEpoch := (State.setErrLevel_same s p b on).rope_seenEpoch
@[simp] theorem State.setErrLevel_rope_lastEpoch (s : State) (p b : Nat) (on : Bool) : (State.setErrLevel s p b on).rope.lastEpoch = s.rope.lastEpoch := (State.setErrLevel_same s p b on).rope_lastEpoch
@[simp] theorem State.setErrLevel_rope_code5 (s : State) (p b : Nat) (on : Bool) : (State.setErrLevel s p b on).rope.code5 = s.rope.code5 := (State.setErrLevel_same s p b on).rope_code5
@[simp] theorem State.setErrLevel_rope_filled (s : State) (p b : Nat) (on : Bool) : (State.setErrLevel s p b on).rope.filled = s.rope.filled := (State.setErrLevel_same s p b on).rope_filled
@[simp] theorem State.setErrLevel_rope_brFilled (s : State) (p b : Nat) (on : Bool) : (State.setErrLevel s p b on).rope.brFilled = s.rope.brFilled := (State.setErrLevel_same s p b on).rope_brFilled
@[simp] theorem State.setErrLevel_rope_westIn (s : State) (p b : Nat) (on : Bool) : (State.setErrLevel s p b on).rope.westIn = s.rope.westIn := (State.setErrLevel_same s p b on).rope_westIn
@[simp] theorem State.setErrLevel_rope_eastOut (s : State) (p b : Nat) (on : Bool) : (State.setErrLevel s p b on).rope.eastOut = s.rope.eastOut := (State.setErrLevel_same s p b on).rope_eastOut
@[simp] theorem State.setErrLevel_rope_hop (s : State) (p b : Nat) (on : Bool) : (State.setErrLevel s p b on).rope.hop = s.rope.hop := (State.setErrLevel_same s p b on).rope_hop
@[simp] theorem State.setErrLevel_rope_rateTo (s : State) (p b : Nat) (on : Bool) : (State.setErrLevel s p b on).rope.rateTo = s.rope.rateTo := (State.setErrLevel_same s p b on).rope_rateTo
@[simp] theorem State.setErrLevel_rope_brRateTo (s : State) (p b : Nat) (on : Bool) : (State.setErrLevel s p b on).rope.brRateTo = s.rope.brRateTo := (State.setErrLevel_same s p b on).rope_brRateTo
@[simp] theorem State.setErrLevel_rope_healNow (s : State) (p b : Nat) (on : Bool) : (State.setErrLevel s p b on).rope.healNow = s.rope.healNow := (State.setErrLevel_same s p b on).rope_healNow
@[simp] theorem State.setErrLevel_rope_checked (s : State) (p b : Nat) (on : Bool) : (State.setErrLevel s p b on).rope.checked = s.rope.checked := (State.setErrLevel_same s p b on).rope_checked
@[simp] theorem State.setErrLevel_rope_again (s : State) (p b : Nat) (on : Bool) : (State.setErrLevel s p b on).rope.again = s.rope.again := (State.setErrLevel_same s p b on).rope_again
@[simp] theorem State.setErrLevel_lastUr (s : State) (p b : Nat) (on : Bool) : (State.setErrLevel s p b on).lastUr = s.lastUr := (State.setErrLevel_same s p b on).lastUr
@[simp] theorem State.setErrLevel_guide (s : State) (p b : Nat) (on : Bool) : (State.setErrLevel s p b on).guide = s.guide := (State.setErrLevel_same s p b on).guide

@[simp] theorem State.commitTransfer_pending (s : State) (p : Nat) : (State.commitTransfer s p).pending = s.pending := (State.commitTransfer_same s p).pending
@[simp] theorem State.commitTransfer_lastRead (s : State) (p : Nat) : (State.commitTransfer s p).lastRead = s.lastRead := (State.commitTransfer_same s p).lastRead
@[simp] theorem State.commitTransfer_mbx (s : State) (p : Nat) : (State.commitTransfer s p).mbx = s.mbx := (State.commitTransfer_same s p).mbx
@[simp] theorem State.commitTransfer_mbSeq (s : State) (p : Nat) : (State.commitTransfer s p).mbSeq = s.mbSeq := (State.commitTransfer_same s p).mbSeq
@[simp] theorem State.commitTransfer_cadenceStep (s : State) (p : Nat) : (State.commitTransfer s p).cadenceStep = s.cadenceStep := (State.commitTransfer_same s p).cadenceStep
@[simp] theorem State.commitTransfer_time (s : State) (p : Nat) : (State.commitTransfer s p).time = s.time := (State.commitTransfer_same s p).time
@[simp] theorem State.commitTransfer_edge (s : State) (p : Nat) : (State.commitTransfer s p).edge = s.edge := (State.commitTransfer_same s p).edge
@[simp] theorem State.commitTransfer_cal (s : State) (p : Nat) : (State.commitTransfer s p).cal = s.cal := (State.commitTransfer_same s p).cal
@[simp] theorem State.commitTransfer_sdf (s : State) (p : Nat) : (State.commitTransfer s p).sdf = s.sdf := (State.commitTransfer_same s p).sdf
@[simp] theorem State.commitTransfer_loop (s : State) (p : Nat) : (State.commitTransfer s p).loop = s.loop := (State.commitTransfer_same s p).loop
@[simp] theorem State.commitTransfer_dramMem (s : State) (p : Nat) : (State.commitTransfer s p).dramMem = s.dramMem := (State.commitTransfer_same s p).dramMem
@[simp] theorem State.commitTransfer_pub (s : State) (p : Nat) : (State.commitTransfer s p).pub = s.pub := (State.commitTransfer_same s p).pub
@[simp] theorem State.commitTransfer_fabric (s : State) (p : Nat) : (State.commitTransfer s p).fabric = s.fabric := (State.commitTransfer_same s p).fabric
@[simp] theorem State.commitTransfer_pins (s : State) (p : Nat) : (State.commitTransfer s p).pins = s.pins := (State.commitTransfer_same s p).pins
@[simp] theorem State.commitTransfer_power (s : State) (p : Nat) : (State.commitTransfer s p).power = s.power := (State.commitTransfer_same s p).power
@[simp] theorem State.commitTransfer_dram (s : State) (p : Nat) : (State.commitTransfer s p).dram = s.dram := (State.commitTransfer_same s p).dram
@[simp] theorem State.commitTransfer_cfg (s : State) (p : Nat) : (State.commitTransfer s p).cfg = s.cfg := (State.commitTransfer_same s p).cfg
@[simp] theorem State.commitTransfer_flash (s : State) (p : Nat) : (State.commitTransfer s p).flash = s.flash := (State.commitTransfer_same s p).flash
@[simp] theorem State.commitTransfer_otp (s : State) (p : Nat) : (State.commitTransfer s p).otp = s.otp := (State.commitTransfer_same s p).otp
@[simp] theorem State.commitTransfer_settings (s : State) (p : Nat) : (State.commitTransfer s p).settings = s.settings := (State.commitTransfer_same s p).settings
@[simp] theorem State.commitTransfer_bist (s : State) (p : Nat) : (State.commitTransfer s p).bist = s.bist := (State.commitTransfer_same s p).bist
@[simp] theorem State.commitTransfer_debug (s : State) (p : Nat) : (State.commitTransfer s p).debug = s.debug := (State.commitTransfer_same s p).debug
@[simp] theorem State.commitTransfer_otpOpen (s : State) (p : Nat) : (State.commitTransfer s p).otpOpen = s.otpOpen := (State.commitTransfer_same s p).otpOpen
@[simp] theorem State.commitTransfer_heart (s : State) (p : Nat) : (State.commitTransfer s p).heart = s.heart := (State.commitTransfer_same s p).heart
@[simp] theorem State.commitTransfer_rope_own (s : State) (p : Nat) : (State.commitTransfer s p).rope.own = s.rope.own := (State.commitTransfer_same s p).rope_own
@[simp] theorem State.commitTransfer_rope_br (s : State) (p : Nat) : (State.commitTransfer s p).rope.br = s.rope.br := (State.commitTransfer_same s p).rope_br
@[simp] theorem State.commitTransfer_rope_sent (s : State) (p : Nat) : (State.commitTransfer s p).rope.sent = s.rope.sent := (State.commitTransfer_same s p).rope_sent
@[simp] theorem State.commitTransfer_rope_peers (s : State) (p : Nat) : (State.commitTransfer s p).rope.peers = s.rope.peers := (State.commitTransfer_same s p).rope_peers
@[simp] theorem State.commitTransfer_rope_seenEpoch (s : State) (p : Nat) : (State.commitTransfer s p).rope.seenEpoch = s.rope.seenEpoch := (State.commitTransfer_same s p).rope_seenEpoch
@[simp] theorem State.commitTransfer_rope_lastEpoch (s : State) (p : Nat) : (State.commitTransfer s p).rope.lastEpoch = s.rope.lastEpoch := (State.commitTransfer_same s p).rope_lastEpoch
@[simp] theorem State.commitTransfer_rope_code5 (s : State) (p : Nat) : (State.commitTransfer s p).rope.code5 = s.rope.code5 := (State.commitTransfer_same s p).rope_code5
@[simp] theorem State.commitTransfer_rope_filled (s : State) (p : Nat) : (State.commitTransfer s p).rope.filled = s.rope.filled := (State.commitTransfer_same s p).rope_filled
@[simp] theorem State.commitTransfer_rope_brFilled (s : State) (p : Nat) : (State.commitTransfer s p).rope.brFilled = s.rope.brFilled := (State.commitTransfer_same s p).rope_brFilled
@[simp] theorem State.commitTransfer_rope_westIn (s : State) (p : Nat) : (State.commitTransfer s p).rope.westIn = s.rope.westIn := (State.commitTransfer_same s p).rope_westIn
@[simp] theorem State.commitTransfer_rope_eastOut (s : State) (p : Nat) : (State.commitTransfer s p).rope.eastOut = s.rope.eastOut := (State.commitTransfer_same s p).rope_eastOut
@[simp] theorem State.commitTransfer_rope_hop (s : State) (p : Nat) : (State.commitTransfer s p).rope.hop = s.rope.hop := (State.commitTransfer_same s p).rope_hop
@[simp] theorem State.commitTransfer_rope_rateTo (s : State) (p : Nat) : (State.commitTransfer s p).rope.rateTo = s.rope.rateTo := (State.commitTransfer_same s p).rope_rateTo
@[simp] theorem State.commitTransfer_rope_brRateTo (s : State) (p : Nat) : (State.commitTransfer s p).rope.brRateTo = s.rope.brRateTo := (State.commitTransfer_same s p).rope_brRateTo
@[simp] theorem State.commitTransfer_rope_healNow (s : State) (p : Nat) : (State.commitTransfer s p).rope.healNow = s.rope.healNow := (State.commitTransfer_same s p).rope_healNow
@[simp] theorem State.commitTransfer_rope_checked (s : State) (p : Nat) : (State.commitTransfer s p).rope.checked = s.rope.checked := (State.commitTransfer_same s p).rope_checked
@[simp] theorem State.commitTransfer_rope_again (s : State) (p : Nat) : (State.commitTransfer s p).rope.again = s.rope.again := (State.commitTransfer_same s p).rope_again
@[simp] theorem State.commitTransfer_lastUr (s : State) (p : Nat) : (State.commitTransfer s p).lastUr = s.lastUr := (State.commitTransfer_same s p).lastUr
@[simp] theorem State.commitTransfer_guide (s : State) (p : Nat) : (State.commitTransfer s p).guide = s.guide := (State.commitTransfer_same s p).guide

@[simp] theorem State.loopEvent_pending (s : State) (n : Nat) : (State.loopEvent s n).pending = s.pending := (State.loopEvent_same s n).pending
@[simp] theorem State.loopEvent_lastRead (s : State) (n : Nat) : (State.loopEvent s n).lastRead = s.lastRead := (State.loopEvent_same s n).lastRead
@[simp] theorem State.loopEvent_mbx (s : State) (n : Nat) : (State.loopEvent s n).mbx = s.mbx := (State.loopEvent_same s n).mbx
@[simp] theorem State.loopEvent_mbSeq (s : State) (n : Nat) : (State.loopEvent s n).mbSeq = s.mbSeq := (State.loopEvent_same s n).mbSeq
@[simp] theorem State.loopEvent_cadenceStep (s : State) (n : Nat) : (State.loopEvent s n).cadenceStep = s.cadenceStep := (State.loopEvent_same s n).cadenceStep
@[simp] theorem State.loopEvent_time (s : State) (n : Nat) : (State.loopEvent s n).time = s.time := (State.loopEvent_same s n).time
@[simp] theorem State.loopEvent_edge (s : State) (n : Nat) : (State.loopEvent s n).edge = s.edge := (State.loopEvent_same s n).edge
@[simp] theorem State.loopEvent_cal (s : State) (n : Nat) : (State.loopEvent s n).cal = s.cal := (State.loopEvent_same s n).cal
@[simp] theorem State.loopEvent_sdf (s : State) (n : Nat) : (State.loopEvent s n).sdf = s.sdf := (State.loopEvent_same s n).sdf
@[simp] theorem State.loopEvent_loop (s : State) (n : Nat) : (State.loopEvent s n).loop = s.loop := (State.loopEvent_same s n).loop
@[simp] theorem State.loopEvent_dramMem (s : State) (n : Nat) : (State.loopEvent s n).dramMem = s.dramMem := (State.loopEvent_same s n).dramMem
@[simp] theorem State.loopEvent_pub (s : State) (n : Nat) : (State.loopEvent s n).pub = s.pub := (State.loopEvent_same s n).pub
@[simp] theorem State.loopEvent_fabric (s : State) (n : Nat) : (State.loopEvent s n).fabric = s.fabric := (State.loopEvent_same s n).fabric
@[simp] theorem State.loopEvent_pins (s : State) (n : Nat) : (State.loopEvent s n).pins = s.pins := (State.loopEvent_same s n).pins
@[simp] theorem State.loopEvent_power (s : State) (n : Nat) : (State.loopEvent s n).power = s.power := (State.loopEvent_same s n).power
@[simp] theorem State.loopEvent_dram (s : State) (n : Nat) : (State.loopEvent s n).dram = s.dram := (State.loopEvent_same s n).dram
@[simp] theorem State.loopEvent_cfg (s : State) (n : Nat) : (State.loopEvent s n).cfg = s.cfg := (State.loopEvent_same s n).cfg
@[simp] theorem State.loopEvent_flash (s : State) (n : Nat) : (State.loopEvent s n).flash = s.flash := (State.loopEvent_same s n).flash
@[simp] theorem State.loopEvent_otp (s : State) (n : Nat) : (State.loopEvent s n).otp = s.otp := (State.loopEvent_same s n).otp
@[simp] theorem State.loopEvent_settings (s : State) (n : Nat) : (State.loopEvent s n).settings = s.settings := (State.loopEvent_same s n).settings
@[simp] theorem State.loopEvent_bist (s : State) (n : Nat) : (State.loopEvent s n).bist = s.bist := (State.loopEvent_same s n).bist
@[simp] theorem State.loopEvent_debug (s : State) (n : Nat) : (State.loopEvent s n).debug = s.debug := (State.loopEvent_same s n).debug
@[simp] theorem State.loopEvent_otpOpen (s : State) (n : Nat) : (State.loopEvent s n).otpOpen = s.otpOpen := (State.loopEvent_same s n).otpOpen
@[simp] theorem State.loopEvent_heart (s : State) (n : Nat) : (State.loopEvent s n).heart = s.heart := (State.loopEvent_same s n).heart
@[simp] theorem State.loopEvent_rope_own (s : State) (n : Nat) : (State.loopEvent s n).rope.own = s.rope.own := (State.loopEvent_same s n).rope_own
@[simp] theorem State.loopEvent_rope_br (s : State) (n : Nat) : (State.loopEvent s n).rope.br = s.rope.br := (State.loopEvent_same s n).rope_br
@[simp] theorem State.loopEvent_rope_sent (s : State) (n : Nat) : (State.loopEvent s n).rope.sent = s.rope.sent := (State.loopEvent_same s n).rope_sent
@[simp] theorem State.loopEvent_rope_peers (s : State) (n : Nat) : (State.loopEvent s n).rope.peers = s.rope.peers := (State.loopEvent_same s n).rope_peers
@[simp] theorem State.loopEvent_rope_seenEpoch (s : State) (n : Nat) : (State.loopEvent s n).rope.seenEpoch = s.rope.seenEpoch := (State.loopEvent_same s n).rope_seenEpoch
@[simp] theorem State.loopEvent_rope_lastEpoch (s : State) (n : Nat) : (State.loopEvent s n).rope.lastEpoch = s.rope.lastEpoch := (State.loopEvent_same s n).rope_lastEpoch
@[simp] theorem State.loopEvent_rope_code5 (s : State) (n : Nat) : (State.loopEvent s n).rope.code5 = s.rope.code5 := (State.loopEvent_same s n).rope_code5
@[simp] theorem State.loopEvent_rope_filled (s : State) (n : Nat) : (State.loopEvent s n).rope.filled = s.rope.filled := (State.loopEvent_same s n).rope_filled
@[simp] theorem State.loopEvent_rope_brFilled (s : State) (n : Nat) : (State.loopEvent s n).rope.brFilled = s.rope.brFilled := (State.loopEvent_same s n).rope_brFilled
@[simp] theorem State.loopEvent_rope_westIn (s : State) (n : Nat) : (State.loopEvent s n).rope.westIn = s.rope.westIn := (State.loopEvent_same s n).rope_westIn
@[simp] theorem State.loopEvent_rope_eastOut (s : State) (n : Nat) : (State.loopEvent s n).rope.eastOut = s.rope.eastOut := (State.loopEvent_same s n).rope_eastOut
@[simp] theorem State.loopEvent_rope_hop (s : State) (n : Nat) : (State.loopEvent s n).rope.hop = s.rope.hop := (State.loopEvent_same s n).rope_hop
@[simp] theorem State.loopEvent_rope_rateTo (s : State) (n : Nat) : (State.loopEvent s n).rope.rateTo = s.rope.rateTo := (State.loopEvent_same s n).rope_rateTo
@[simp] theorem State.loopEvent_rope_brRateTo (s : State) (n : Nat) : (State.loopEvent s n).rope.brRateTo = s.rope.brRateTo := (State.loopEvent_same s n).rope_brRateTo
@[simp] theorem State.loopEvent_rope_healNow (s : State) (n : Nat) : (State.loopEvent s n).rope.healNow = s.rope.healNow := (State.loopEvent_same s n).rope_healNow
@[simp] theorem State.loopEvent_rope_checked (s : State) (n : Nat) : (State.loopEvent s n).rope.checked = s.rope.checked := (State.loopEvent_same s n).rope_checked
@[simp] theorem State.loopEvent_rope_again (s : State) (n : Nat) : (State.loopEvent s n).rope.again = s.rope.again := (State.loopEvent_same s n).rope_again
@[simp] theorem State.loopEvent_lastUr (s : State) (n : Nat) : (State.loopEvent s n).lastUr = s.lastUr := (State.loopEvent_same s n).lastUr
@[simp] theorem State.loopEvent_guide (s : State) (n : Nat) : (State.loopEvent s n).guide = s.guide := (State.loopEvent_same s n).guide

end Sys2Proof.Machine
end

