-- ==== Sys2Proof/Laws/EventRegs.lean ====
section
/-! SUPPORT. Which registers an event can change: those of the event pages, of CLK_XHARD and of HOST. -/

namespace Sys2Proof.Machine

theorem not_evtPage {a : Nat} (h : evtPage a = false) :
    a / 4096 ≠ 16 ∧ a / 4096 ≠ 17 ∧ a / 4096 ≠ 38 ∧ a / 4096 ≠ 1536 := by
  simp only [evtPage, Bool.or_eq_false_iff, beq_eq_false_iff_ne] at h
  omega

theorem State.reg_satAdd_ne (s : State) (a hi lo n c : Nat) (h : c ≠ a) : (s.satAdd a hi lo n).reg c = s.reg c := by
  simp [State.satAdd, State.reg_setF, h]

theorem State.reg_setB_ne (s : State) (a i c : Nat) (b : Bool) (h : c ≠ a) : (s.setB a i b).reg c = s.reg c := by
  simp [State.reg_setB, h]

theorem State.reg_ite {c : Prop} [Decidable c] (s t : State) (a : Nat) (w : Word) (h1 : s.reg a = w) (h2 : t.reg a = w) :
    (if c then s else t).reg a = w := by split <;> assumption

theorem State.dmaWrite_reg (s : State) (d : Nat) (r : List Word) (a : Nat) (hd : d < 4) (h : evtPage a = false) :
    (s.dmaWrite d r).reg a = s.reg a := by
  have h' := not_evtPage h
  have hne : a ≠ aDMA d 0x18 := by unfold aDMA pg; omega
  unfold State.dmaWrite
  split
  · exact State.reg_setReg_ne _ _ _ _ hne
  · exact State.reg_setReg_ne _ _ _ _ hne

theorem State.msixRoute_reg (s : State) (v a : Nat) (hv : v < 64) (h : evtPage a = false) : (s.msixRoute v).reg a = s.reg a := by
  have h' := not_evtPage h
  have h1 : a ≠ aCNT_MERGE := by unfold aCNT_MERGE pg; omega
  have h2 : a ≠ aMSIX_PEND (v / 32) := by unfold aMSIX_PEND pg; omega
  have h3 : a ≠ aPBA (v / 32) := by unfold aPBA pg; omega
  unfold State.msixRoute
  refine State.reg_ite _ _ _ _ (State.reg_satAdd_ne _ _ _ _ _ _ h1) ?_
  unfold State.msixMessage
  refine State.reg_ite _ _ _ _ ?_ ?_
  · exact (State.reg_setB_ne _ _ _ _ _ h3).trans (State.reg_setB_ne _ _ _ _ _ h2)
  · exact State.reg_setB_ne s _ _ a _ h2

theorem State.lineRoute_reg (s : State) (j a : Nat) (hj : j < 64) (h : evtPage a = false) : (s.lineRoute j).reg a = s.reg a := by
  have h' := not_evtPage h
  have h1 : a ≠ aXH_COUNT := by unfold aXH_COUNT pg; omega
  have h2 : a ≠ aFLN_MERGE (j / 32) := by unfold aFLN_MERGE pg; omega
  unfold State.lineRoute
  split
  · rw [State.reg_satAdd_ne _ _ _ _ _ _ h1, State.reg_setB_ne _ _ _ _ _ h2]
  · rfl

theorem State.ropeRoute_reg (s : State) (e k : Nat) (r : List Word) (a : Nat) (h : evtPage a = false) :
    (s.ropeRoute e k r).reg a = s.reg a := by
  have h' := not_evtPage h
  have h1 : a ≠ aCNT_MERGE := by unfold aCNT_MERGE pg; omega
  unfold State.ropeRoute
  generalize s.rope.renew (s.rf (aRTGT k) 8 0) (s.rf (aRTGT k) 13 9) e r = y
  obtain ⟨found, x⟩ := y
  refine State.reg_ite _ _ _ _ rfl (State.reg_ite _ _ _ _ ?_ (State.reg_ite _ _ _ _ ?_ rfl))
  · exact State.reg_satAdd_ne _ _ _ _ _ _ h1
  · exact State.reg_satAdd_ne s _ _ _ _ _ h1

/-- An occurrence leaves the registers of every other page alone. -/
theorem State.occur_reg (s : State) (e : Nat) (t : DevTime) (q a : Nat) (he : e < 320) (h : evtPage a = false) :
    (s.occur e t q).2.reg a = s.reg a := by
  have h' := not_evtPage h
  have p1 : a ≠ aTS_LO e := by unfold aTS_LO pg; omega
  have p2 : a ≠ aTS_HI e := by unfold aTS_HI pg; omega
  have p3 : a ≠ aTS_INFO e := by unfold aTS_INFO pg; omega
  have p4 : a ≠ aPEND (e / 32) := by unfold aPEND pg; omega
  have p5 : a ≠ aCNT_DMA_DROP := by unfold aCNT_DMA_DROP pg; omega
  have p6 : ∀ d, d < 4 → a ≠ aDMA d 0x1C := by intro d hd; unfold aDMA pg; omega
  have q6 : fld (s.reg (aROUTE e)) 13 12 < 4 := fld_lt _ _ _
  unfold State.occur
  dsimp only
  refine (State.reg_ite _ _ _ _ (State.ropeRoute_reg _ _ _ _ _ h) rfl).trans ?_
  refine (State.reg_ite _ _ _ _ (State.lineRoute_reg _ _ _ (fld_lt _ 21 16) h) rfl).trans ?_
  refine (State.reg_ite _ _ _ _ (State.msixRoute_reg _ _ _ (fld_lt _ 29 24) h) rfl).trans ?_
  refine (State.reg_ite _ _ _ _ ?_ (State.reg_ite _ _ _ _ (State.dmaWrite_reg _ _ _ _ (fld_lt _ 13 12) h) rfl)).trans ?_
  · exact (State.reg_satAdd_ne _ _ _ _ _ _ p5).trans (State.reg_satAdd_ne _ _ _ _ _ _ (p6 _ q6))
  · refine (State.reg_setB_ne _ _ _ _ _ p4).trans ?_
    refine (State.reg_setReg_ne _ _ _ _ p3).trans ?_
    refine (State.reg_setReg_ne _ _ _ _ p2).trans ?_
    exact State.reg_setReg_ne _ _ _ _ p1

theorem State.raiseWith_reg (s : State) (e : Nat) (t : DevTime) (q a : Nat) (he : e < 320) (h : evtPage a = false) :
    (s.raiseWith e t q).reg a = s.reg a := by
  have h' := not_evtPage h
  have p1 : a ≠ pg 0x600 0x00C := by unfold pg; omega
  unfold State.raiseWith
  refine State.reg_ite _ _ _ _ ?_ (State.occur_reg _ _ _ _ _ he h)
  refine (State.reg_ite _ _ _ _ (State.occur_reg _ _ _ _ _ (by omega) h) rfl).trans ?_
  exact (State.reg_setB_ne _ _ _ _ _ p1).trans (State.occur_reg _ _ _ _ _ he h)

theorem State.raiseAt_reg (s : State) (e : Nat) (t : DevTime) (a : Nat) (he : e < 320) (h : evtPage a = false) :
    (s.raiseAt e t).reg a = s.reg a := State.raiseWith_reg s e t _ a he h

/-- Raising an event leaves the registers of every other page alone. -/
theorem State.raise_reg (s : State) (e a : Nat) (he : e < 320) (h : evtPage a = false) : (s.raise e).reg a = s.reg a :=
  State.raiseAt_reg s e _ a he h

/-! ### Occurrence counts -/

theorem State.ropeRoute_counts (s : State) (e k : Nat) (r : List Word) : (s.ropeRoute e k r).evt.counts = s.evt.counts := by
  unfold State.ropeRoute
  repeat' split
  all_goals rfl

theorem State.lineRoute_counts (s : State) (j : Nat) : (s.lineRoute j).evt.counts = s.evt.counts := by
  unfold State.lineRoute
  split <;> rfl

theorem State.msixRoute_counts (s : State) (v : Nat) : (s.msixRoute v).evt.counts = s.evt.counts := by
  unfold State.msixRoute State.msixMessage
  repeat' split
  all_goals rfl

theorem State.dmaWrite_counts (s : State) (d : Nat) (r : List Word) : (s.dmaWrite d r).evt.counts = s.evt.counts := by
  unfold State.dmaWrite
  split <;> rfl

theorem State.counts_ite {c : Prop} [Decidable c] (s t : State) (m : SMap Word) (h1 : s.evt.counts = m) (h2 : t.evt.counts = m) :
    (if c then s else t).evt.counts = m := by split <;> assumption

/-- An occurrence adds one to the count of its event, and to no other. -/
theorem State.occur_counts (s : State) (e : Nat) (t : DevTime) (q : Nat) :
    (s.occur e t q).2.evt.counts = SMap.set (fun _ => 0) s.evt.counts e (SMap.get (fun _ => 0) s.evt.counts e + 1) := by
  unfold State.occur
  dsimp only
  refine (State.counts_ite _ _ _ (State.ropeRoute_counts _ _ _ _) rfl).trans ?_
  refine (State.counts_ite _ _ _ (State.lineRoute_counts _ _) rfl).trans ?_
  refine (State.counts_ite _ _ _ (State.msixRoute_counts _ _) rfl).trans ?_
  refine (State.counts_ite _ _ _ ?_ (State.counts_ite _ _ _ (State.dmaWrite_counts _ _ _) rfl)).trans ?_
  · rfl
  · rfl

theorem State.count_occur (s : State) (e k : Nat) (t : DevTime) (q : Nat) :
    (s.occur e t q).2.count k = if k = e then s.count e + 1 else s.count k := by
  unfold State.count
  rw [State.occur_counts, SMap.get_set]

/-- An event other than 104 that is raised counts once; the drop of its DMA record may raise event 104 besides (R352). -/
theorem State.count_raiseAt (s : State) (e : Nat) (t : DevTime) (he : e ≠ 104) : (s.raiseAt e t).count e = s.count e + 1 := by
  have h1 : (s.occur e t s.quality).2.count e = s.count e + 1 := by rw [State.count_occur, if_pos rfl]
  unfold State.raiseAt State.raiseWith
  dsimp only
  split
  · split
    · rw [State.count_occur, if_neg he]; exact h1
    · exact h1
  · exact h1

theorem State.count_raise (s : State) (e : Nat) (he : e ≠ 104) : (s.raise e).count e = s.count e + 1 := State.count_raiseAt s e _ he

/-- Raising an event counts no other but 104. -/
theorem State.count_raise_ne (s : State) (e k : Nat) (hk : k ≠ e) (h4 : k ≠ 104) : (s.raise e).count k = s.count k := by
  have h1 : (s.occur e s.cycleTime s.quality).2.count k = s.count k := by rw [State.count_occur, if_neg hk]
  unfold State.raise State.raiseAt State.raiseWith
  dsimp only
  split
  · split
    · rw [State.count_occur, if_neg h4]; exact h1
    · exact h1
  · exact h1

@[simp] theorem State.count_setReg (s : State) (a e : Nat) (v : Word) : (s.setReg a v).count e = s.count e := rfl
@[simp] theorem State.count_setF (s : State) (a hi lo v e : Nat) : (s.setF a hi lo v).count e = s.count e := rfl
@[simp] theorem State.count_setB (s : State) (a i e : Nat) (b : Bool) : (s.setB a i b).count e = s.count e := rfl

/-! ### Page errors -/

/-- Setting PAGE_ERR bit b of page p leaves every other register alone, but those that its event changes. -/
theorem State.setErr_reg (s : State) (p b a : Nat) (he : ∀ e, pageEvent p b = some e → e < 320) (h : evtPage a = false)
    (ha : a ≠ pg p 0x00C) : (s.setErr p b).reg a = s.reg a := by
  unfold State.setErr
  refine State.reg_ite _ _ _ _ rfl ?_
  refine (State.reg_ite _ _ _ ((s.setB (pg p 0x00C) b true).reg a) ?_ rfl).trans (State.reg_setB_ne _ _ _ _ _ ha)
  split
  · rename_i e hb
    exact State.raise_reg _ _ _ (he e hb) h
  · rfl

/-- The bit reads 1 afterwards, on a page that raising an event does not touch. -/
theorem State.setErr_rb (s : State) (p b : Nat) (hb : b < 32) (he : ∀ e, pageEvent p b = some e → e < 320)
    (h : evtPage (pg p 0x00C) = false) : (s.setErr p b).rb (pg p 0x00C) b = true := by
  unfold State.setErr
  split
  · assumption
  · have h0 : (s.setB (pg p 0x00C) b true).rb (pg p 0x00C) b = true := State.rb_setB_same _ _ _ _ hb
    dsimp only
    split
    · split
      · rename_i e hq
        unfold State.rb at *
        rw [State.raise_reg _ _ _ (he e hq) h]; exact h0
      · exact h0
    · exact h0

/-! ### Frames that arrive at a rope port -/

/-- A frame that a port receives changes no register but the status of the port. -/
theorem State.reg_heard_ne (s : State) (p : RopePort) (a : Nat) (h : a ≠ pg (portPage p) 0x24) : (s.heard p).reg a = s.reg a := by
  unfold State.heard
  refine State.reg_ite _ _ _ (s.reg a) ?_ rfl
  exact (State.reg_setB_ne _ _ _ _ _ h).trans (State.reg_setB_ne _ _ _ _ _ h)

/-- No check of a link is queued where no error count has grown. -/
theorem State.linkChecks_of_eq (t s : State) (h : ∀ p < 3, ∀ o, o = 0x28 ∨ o = 0x2C → t.reg (pg (0x541 + p) o) = s.reg (pg (0x541 + p) o)) :
    t.linkChecks s = t := by
  have key : ∀ l : List Nat, (∀ p ∈ l, p < 3) → l.foldl (fun (u : State) p =>
    if [0x28, 0x2C].any (fun o => s.rf (pg (0x541 + p) o) 31 0 < u.rf (pg (0x541 + p) o) 31 0) then u.queueCheck (elemOf 6 p) 9 else u) t = t := by
    intro l hl
    induction l with
    | nil => rfl
    | cons a l ih =>
      have ha : a < 3 := hl a (by simp)
      simp only [List.foldl_cons]
      rw [if_neg (by simp [State.rf, h a ha])]
      exact ih fun p hp => hl p (by simp [hp])
  exact key _ fun p hp => List.mem_range.mp hp

theorem State.linkChecks_self (s : State) : s.linkChecks s = s := s.linkChecks_of_eq s fun _ _ _ _ => rfl

theorem State.linkChecks_heard (s : State) (p : RopePort) : (s.heard p).linkChecks s = s.heard p :=
  State.linkChecks_of_eq _ _ fun q hq o ho => State.reg_heard_ne _ _ _ (by
    rcases ho with rfl | rfl <;> cases p <;> interval_cases q <;> decide)

/-- Whether a frame is for this node does not depend on the status of its ports. -/
theorem State.forMe_heard (s : State) (p : RopePort) (f : AccFrame) : (s.heard p).forMe f = s.forMe f := by
  have h (o : Nat) (ho : o < 0x1000) (a : Nat) (ha : a = aROPE o) : (s.heard p).reg a = s.reg a := State.reg_heard_ne _ _ _ (by
    subst ha; simp only [aROPE, pg]; cases p <;> simp only [portPage] <;> omega)
  have hn : (s.heard p).nodeId = s.nodeId := by
    have hr (hi lo : Nat) : (s.heard p).rf aROPE_CFG hi lo = s.rf aROPE_CFG hi lo := by
      unfold State.rf; rw [h 0x20 (by decide) aROPE_CFG rfl]
    simp only [State.nodeId, hr]
  simp only [State.forMe, State.ownId, State.isAnchor, State.branchActive, State.brRope, State.ropeState, State.brEn, State.ropeRole, State.rf,
    State.rb, hn, h 0x20 (by decide) _ rfl, h 0x2C (by decide) _ rfl, h 0x44 (by decide) _ rfl]

end Sys2Proof.Machine
end

