-- ==== Sys2Proof/Laws/Memory.lean ====
section
/-! SUPPORT. Every operation on the DRAM content, the flash and the OTP keeps their canonical form, and programming keeps every OTP bit. -/

namespace Sys2Proof.Machine

variable {α : Type}

theorem SMap.above_filter (p : Nat × α → Bool) (m : SMap α) (n : Nat) (h : SMap.above m n = true) : SMap.above (m.filter p) n = true := by
  simp only [SMap.above, List.all_eq_true, decide_eq_true_eq] at *
  intro e he
  exact h e (List.mem_filter.mp he).1

/-- Entries taken out leave the canonical form. -/
theorem SMap.wf_filter [DecidableEq α] (d : Nat → α) (p : Nat × α → Bool) (m : SMap α) (h : SMap.wf d m = true) :
    SMap.wf d (m.filter p) = true := by
  induction m with
  | nil => rfl
  | cons e t ih =>
    obtain ⟨i, v⟩ := e
    simp only [SMap.wf, Bool.and_eq_true] at h
    simp only [List.filter]
    split
    · simp only [SMap.wf, Bool.and_eq_true]
      exact ⟨⟨SMap.above_filter p t i h.1.1, h.1.2⟩, ih h.2⟩
    · exact ih h.2

theorem SMap.wf_foldl_set [DecidableEq α] {β : Type} (d : Nat → α) (k : β → Nat) (v : β → α) (l : List β) (m : SMap α)
    (h : SMap.wf d m = true) : SMap.wf d (l.foldl (fun acc e => SMap.set d acc (k e) (v e)) m) = true := by
  induction l generalizing m with
  | nil => exact h
  | cons e t ih => exact ih _ (SMap.wf_set d m _ _ h)

theorem copySector_wf (m : SMap Byte) (p q : Nat) (h : SMap.wf (fun _ => 0xFF) m = true) :
    SMap.wf (fun _ => 0xFF) (copySector m p q) = true :=
  SMap.wf_foldl_set _ _ _ _ _ (SMap.wf_filter _ _ _ h)

theorem Memory.wf_iff (s : State) : Memory.wf s = true ↔
    SMap.wf (fun _ => 0) s.dramMem = true ∧ SMap.wf (fun _ => 0xFF) s.flash.bytes = true ∧ SMap.wf (Config.otpShipped s.otp.variant) s.otp.words = true ∧
    SMap.wf (Config.otpShipped s.otp.variant) s.otp.shadow = true := by
  simp [Memory.wf, Bool.and_eq_true, and_assoc]

/-- What leaves the three memories alone keeps their form. -/
theorem Memory.wf_congr {s t : State} (h : Memory.wf s = true) (h1 : t.dramMem = s.dramMem) (h2 : t.flash.bytes = s.flash.bytes)
    (h3 : t.otp = s.otp) : Memory.wf t = true := by
  rw [Memory.wf_iff] at *; rw [h1, h2, h3]; exact h

theorem State.dramPut_wf (l : List Byte) (s : State) (a : Nat) (h : Memory.wf s = true) : Memory.wf (s.dramPut a l) = true := by
  induction l generalizing s a with
  | nil => exact h
  | cons b t ih =>
    refine ih _ _ ?_
    rw [Memory.wf_iff] at *
    exact ⟨SMap.wf_set _ _ _ _ h.1, h.2⟩

/-- What changes registers, events and what the host port has sent keeps their form. -/
theorem Memory.wf_same {s t : State} (h : Memory.wf s = true) (e : SameOutside s t) : Memory.wf t = true :=
  Memory.wf_congr h e.dramMem (congrArg Flash.bytes e.flash) e.otp

theorem Memory.wf_ite {c : Prop} [Decidable c] {s t : State} (h1 : Memory.wf s = true) (h2 : Memory.wf t = true) :
    Memory.wf (if c then s else t) = true := by split <;> assumption

theorem Memory.wf_foldl {α : Type} (f : State → α → State) (hf : ∀ s x, Memory.wf s = true → Memory.wf (f s x) = true) (l : List α) (s : State)
    (h : Memory.wf s = true) : Memory.wf (l.foldl f s) = true := by
  induction l generalizing s with
  | nil => exact h
  | cons x l ih => exact ih _ (hf s x h)

theorem Memory.wf_raise {s : State} (h : Memory.wf s = true) (e : Nat) : Memory.wf (s.raise e) = true := Memory.wf_same h (State.raise_same s e)
theorem Memory.wf_setErr {s : State} (h : Memory.wf s = true) (p b : Nat) : Memory.wf (s.setErr p b) = true :=
  Memory.wf_same h (State.setErr_same s p b)
theorem Memory.wf_heart {s : State} (h : Memory.wf s = true) (x : Heart) : Memory.wf { s with heart := x } = true := h
theorem Memory.wf_setF {s : State} (h : Memory.wf s = true) (a hi lo v : Nat) : Memory.wf (s.setF a hi lo v) = true := h
theorem Memory.wf_setB {s : State} (h : Memory.wf s = true) (a i : Nat) (b : Bool) : Memory.wf (s.setB a i b) = true := h
theorem Memory.wf_satAdd {s : State} (h : Memory.wf s = true) (a hi lo n : Nat) : Memory.wf (s.satAdd a hi lo n) = true := h

theorem State.dramRewritten_wf (s : State) (a : Nat) (h : Memory.wf s = true) : Memory.wf (s.dramRewritten a) = true := by
  unfold State.dramRewritten; exact Memory.wf_ite h h

theorem Memory.wf_updDram {s : State} (h : Memory.wf s = true) (f : Dram → Dram) : Memory.wf (s.updDram f) = true := h
theorem Memory.wf_updBist {s : State} (h : Memory.wf s = true) (f : Bist → Bist) : Memory.wf (s.updBist f) = true := h
theorem Memory.wf_setReg {s : State} (h : Memory.wf s = true) (a : Nat) (v : Word) : Memory.wf (s.setReg a v) = true := h

theorem State.dramStore_wf (s : State) (a : Nat) (r : BitVec 72) (h : Memory.wf s = true) : Memory.wf (s.dramStore a r) = true := by
  unfold State.dramStore
  exact Memory.wf_updDram (State.dramRewritten_wf _ a (State.dramPut_wf _ s a h)) _

theorem State.openAnswers_wf (s : State) (p : Nat) (l : List DramResp) (h : Memory.wf s = true) : Memory.wf (s.openAnswers p l).2 = true := by
  have aux (l : List DramResp) (acc : List DramResp × State) (h : Memory.wf acc.2 = true) :
      Memory.wf (l.foldl (fun (acc : List DramResp × State) r =>
        let (d, t) := acc.2.free 512
        let (e, u) := t.freeBool
        (acc.1 ++ [{ r with data := d, err := e }], u)) acc).2 = true := by
    induction l generalizing acc with
    | nil => exact h
    | cons r l ih => exact ih _ h
  unfold State.openAnswers
  split
  · exact aux l _ h
  · exact h

theorem State.dropBacks_wf (s : State) (r : DramReq) (h : Memory.wf s = true) : Memory.wf (s.dropBacks r) = true := by
  unfold State.dropBacks; exact Memory.wf_ite h h

theorem State.rangeErr_wf (s : State) (p : Nat) (h : Memory.wf s = true) : Memory.wf (s.rangeErr p) = true := by
  unfold State.rangeErr; exact Memory.wf_setErr (Memory.wf_ite (Memory.wf_setErr h _ _) h) _ _

theorem Memory.wf_wrapAdd {s : State} (h : Memory.wf s = true) (a hi lo n : Nat) : Memory.wf (s.wrapAdd a hi lo n) = true := h

theorem State.answerPort_wf (s : State) (p : Nat) (h : Memory.wf s = true) : Memory.wf (s.answerPort p) = true := by
  unfold State.answerPort
  extract_lets mine due answers
  have h1 := State.openAnswers_wf s p answers h
  generalize s.openAnswers p answers = x at *
  obtain ⟨resp, t⟩ := x
  exact Memory.wf_ite (Memory.wf_satAdd (Memory.wf_updDram h1 _) _ _ _ _) (Memory.wf_updDram h1 _)

theorem State.enqueue_wf (s : State) (r : DramReq) (bad : Bool) (h : Memory.wf s = true) : Memory.wf (s.enqueue r bad) = true := by
  unfold State.enqueue
  extract_lets b r1 s1 s2 s3
  have h1 : Memory.wf s1 = true := Memory.wf_updDram (Memory.wf_ite h (State.dropBacks_wf _ _ h)) _
  clear_value s1
  have h2 : Memory.wf s2 = true := Memory.wf_ite (Memory.wf_wrapAdd h1 _ _ _ _) h1
  clear_value s2
  exact State.answerPort_wf _ _ (Memory.wf_ite (State.rangeErr_wf _ _ h2) h2)

theorem State.ownRequest_wf (s : State) (a : Nat) (w : Bool) (be : BitVec 64) (d : BitVec 512) (h : Memory.wf s = true) :
    Memory.wf (s.ownRequest a w be d) = true := by
  unfold State.ownRequest State.dramRequest
  exact Memory.wf_ite h (State.enqueue_wf _ _ _ h)

theorem State.heartLimit_wf (s : State) (o m : Nat) (h : Memory.wf s = true) : Memory.wf (s.heartLimit o m) = true := by
  unfold State.heartLimit; exact Memory.wf_ite (Memory.wf_raise (Memory.wf_setErr h _ _) _) h

theorem State.heartErr_wf (s : State) (k r : Nat) (h : Memory.wf s = true) : Memory.wf (s.heartErr k r) = true := by
  unfold State.heartErr; refine Memory.wf_ite h (State.heartLimit_wf _ _ _ ?_); exact h

theorem State.checkResult_wf (s : State) (e : Word) (src res : Nat) (t : Bool) (m x : Word) (h : Memory.wf s = true) :
    Memory.wf (s.checkResult e src res t m x) = true := by
  unfold State.checkResult
  extract_lets t0 s1 s2 s3 s4 s5 s6 s7
  have h2 : Memory.wf s2 = true := Memory.wf_setReg (Memory.wf_setReg (Memory.wf_setReg (Memory.wf_setReg (Memory.wf_setReg
    (Memory.wf_setReg h _ _) _ _) _ _) _ _) _ _) _ _
  have h3 : Memory.wf s3 = true := by
    clear_value s2; unfold s3; split <;> exact Memory.wf_satAdd h2 _ _ _ _
  have h4 : Memory.wf s4 = true := State.heartErr_wf _ _ _ h3
  clear_value s4
  have h5 : Memory.wf s5 = true := Memory.wf_ite (Memory.wf_setErr h4 _ _) (Memory.wf_ite (Memory.wf_setErr h4 _ _) h4)
  clear_value s5
  have h6 : Memory.wf s6 = true := Memory.wf_ite (Memory.wf_setErr h5 _ _) (Memory.wf_ite (Memory.wf_setErr h5 _ _) h5)
  clear_value s6
  have h7 : Memory.wf s7 = true := by unfold s7; split <;> first | exact Memory.wf_raise h6 _ | exact h6
  clear_value s7
  exact Memory.wf_ite (Memory.wf_raise h7 _) (Memory.wf_ite (Memory.wf_raise h7 _) h7)

theorem State.queueCheck_wf (s : State) (e : Word) (src w : Nat) (h : Memory.wf s = true) : Memory.wf (s.queueCheck e src w) = true := by
  unfold State.queueCheck
  refine Memory.wf_ite h (Memory.wf_ite h (Memory.wf_ite h (Memory.wf_ite h (Memory.wf_ite ?_ h))))
  exact State.checkResult_wf _ _ _ _ _ _ _ (Memory.wf_setErr h _ _)

theorem State.eccRecord_wf (s : State) (a : Nat) (r : BitVec 72) (dbe : Bool) (req : Nat) (h : Memory.wf s = true) :
    Memory.wf (s.eccRecord a r dbe req) = true := by
  unfold State.eccRecord; exact h

theorem State.dramFetch_wf (s : State) (a : Nat) (h : Memory.wf s = true) : Memory.wf (s.dramFetch a).2 = true := by
  unfold State.dramFetch; split <;> exact h

theorem State.readWord_wf (s : State) (a req : Nat) (q back : Bool) (h : Memory.wf s = true) :
    Memory.wf (s.readWord a req q back).2.2.2 = true := by
  have h0 : Memory.wf (s.dramFetch a).2 = true := State.dramFetch_wf s a h
  unfold State.readWord
  generalize s.dramFetch a = p at *
  obtain ⟨r, s0⟩ := p
  dsimp only at *
  generalize eccRead r = e
  obtain ⟨w, sbe, dbe⟩ := e
  dsimp only
  split
  · exact h0
  · have h1 : Memory.wf (s0.eccRecord a r dbe req) = true := State.eccRecord_wf _ _ _ _ _ h0
    generalize s0.eccRecord a r dbe req = s1 at *
    have h2 : Memory.wf (if sbe = true then (s1.satAdd (aECC 0x20) 31 0 1).raise 97
        else if r = poisonRow (BitVec.ofNat 64 r.toNat) then s1.raise 98 else (s1.satAdd (aECC 0x24) 31 0 1).raise 98) = true :=
      Memory.wf_ite (Memory.wf_raise (Memory.wf_satAdd h1 _ _ _ _) _)
        (Memory.wf_ite (Memory.wf_raise h1 _) (Memory.wf_raise (Memory.wf_satAdd h1 _ _ _ _) _))
    generalize (if sbe = true then (s1.satAdd (aECC 0x20) 31 0 1).raise 97
        else if r = poisonRow (BitVec.ofNat 64 r.toNat) then s1.raise 98 else (s1.satAdd (aECC 0x24) 31 0 1).raise 98) = s2 at *
    have h3 : ∀ c : Prop, [Decidable c] → ∀ be d, Memory.wf (if c then s2.ownRequest a true be d else s2) = true :=
      fun c _ be d => Memory.wf_ite (State.ownRequest_wf _ _ _ _ _ h2) h2
    exact Memory.wf_ite (State.queueCheck_wf _ _ _ _ (h3 _ _ _)) (h3 _ _ _)

theorem State.readChecked_wf (s : State) (a req : Nat) (q : Bool) (h : Memory.wf s = true) : Memory.wf (s.readChecked a req q).2.2.2 = true := by
  unfold State.readChecked; exact State.readWord_wf s a req q true h

theorem State.dramStoreWord_wf (s : State) (a : Nat) (d : BitVec 64) (h : Memory.wf s = true) : Memory.wf (s.dramStoreWord a d) = true :=
  State.dramStore_wf s a _ h

theorem State.dramWriteWord_wf (s : State) (a be req : Nat) (d : BitVec 64) (h : Memory.wf s = true) :
    Memory.wf (s.dramWriteWord a be req d) = true := by
  have h1 := State.readWord_wf s a req true false h
  unfold State.dramWriteWord
  generalize s.readWord a req true false = p at *
  obtain ⟨d0, dbe, b, u⟩ := p
  exact Memory.wf_ite (State.dramStoreWord_wf s _ _ h) (Memory.wf_ite (State.dramStore_wf _ _ _ h1) (State.dramStoreWord_wf _ _ _ h1))

/-- A write that reaches the DRAM keeps the form, and so does every word drained or handed to a buffer. -/
theorem State.dramWrite_wf (s : State) (r : DramReq) (h : Memory.wf s = true) : Memory.wf (s.dramWrite r) = true := by
  unfold State.dramWrite
  extract_lets line
  refine Memory.wf_foldl _ (fun t k ht => ?_) _ s h
  exact Memory.wf_ite ht (Memory.wf_updBist (State.dramWriteWord_wf t _ _ _ _ ht) _)

theorem State.drainRange_wf (s : State) (a n : Nat) (h : Memory.wf s = true) : Memory.wf (s.drainRange a n) = true := by
  unfold State.drainRange
  exact Memory.wf_updDram (Memory.wf_foldl _ (fun t r ht => State.dramWrite_wf t r ht) _ s h) _

theorem State.flashWrite_wf (l : List Byte) (s : State) (a : Nat) (h : Memory.wf s = true) : Memory.wf (s.flashWrite a l) = true := by
  induction l generalizing s a with
  | nil => exact h
  | cons b t ih =>
    refine ih _ _ ?_
    rw [Memory.wf_iff] at *
    exact ⟨h.1, SMap.wf_set _ _ _ _ h.2.1, h.2.2⟩

theorem State.wipeSector_wf (s : State) (sec : Nat) (h : Memory.wf s = true) : Memory.wf (s.wipeSector sec) = true := by
  rw [Memory.wf_iff] at *
  exact ⟨h.1, SMap.wf_filter _ _ _ h.2.1, h.2.2⟩

theorem State.setStatus_wf (s : State) (sec v : Nat) (h : Memory.wf s = true) : Memory.wf (s.setStatus sec v) = true :=
  Memory.wf_congr h rfl rfl rfl

theorem State.partErase_wf (s : State) (sec : Nat) (h : Memory.wf s = true) : Memory.wf (s.partErase sec) = true := by
  have aux (l : List (Nat × Byte)) (t : State) (h : Memory.wf t = true) :
      Memory.wf (l.foldl (fun (t : State) (e : Nat × Byte) =>
        let (r, u) := t.free 8
        u.updFlash fun f => { f with bytes := SMap.set (fun _ => 0xFF) f.bytes e.1 (e.2 ||| r) }) t) = true := by
    induction l generalizing t with
    | nil => exact h
    | cons e l ih =>
      refine ih _ ?_
      rw [Memory.wf_iff] at *
      exact ⟨h.1, SMap.wf_set _ _ _ _ h.2.1, h.2.2⟩
  exact aux _ s h

theorem State.otpProgram_wf (s : State) (w : Nat) (v : BitVec 64) (h : Memory.wf s = true) : Memory.wf (s.otpProgram w v) = true := by
  rw [Memory.wf_iff] at *
  exact ⟨h.1, h.2.1, SMap.wf_set _ _ _ _ h.2.2.1, h.2.2.2⟩

theorem State.otpReload_wf (s : State) (h : Memory.wf s = true) : Memory.wf s.otpReload = true := by
  rw [Memory.wf_iff] at *
  exact ⟨h.1, h.2.1, h.2.2.1, h.2.2.1⟩

theorem State.otpFollow_wf (s : State) (w : Nat) (h : Memory.wf s = true) : Memory.wf (s.otpFollow w) = true := by
  rw [Memory.wf_iff] at *
  exact ⟨h.1, h.2.1, h.2.2.1, SMap.wf_set _ _ _ _ h.2.2.2⟩

theorem OtpKept.refl (s : State) : OtpKept s s := fun _ => by simp

theorem OtpKept.of_eq {s t : State} (h : t.otp = s.otp) : OtpKept s t := fun w => by
  simp [State.otpCell, h]

theorem OtpKept.trans {s t u : State} (h1 : OtpKept s t) (h2 : OtpKept t u) : OtpKept s u := fun w => by
  rw [← h1 w, BitVec.and_assoc, h2 w]

theorem State.retireSector_wf (s : State) (sec : Nat) (h : Memory.wf s = true) : Memory.wf (s.retireSector sec) = true := by
  have key : Memory.wf (match s.freeSpare (partOf sec) with
      | some q => (s.countErase q).updFlash fun f => { f with
          remap := SMap.set id f.remap sec q
          status := SMap.set (fun _ => 0) (SMap.set (fun _ => 0) f.status (s.physSector sec) 2) q 0
          bytes := if partOf sec = 3 then copySector f.bytes (s.physSector sec) q
                   else f.bytes.filter fun (e : Nat × Byte) => e.1 / 0x10000 ≠ q
          half := f.half.filter fun l => l / 0x800 ≠ q }
      | none => s.setStatus sec 2) = true := by
    split
    · rw [Memory.wf_iff] at *
      refine ⟨h.1, ?_, h.2.2⟩
      show SMap.wf _ (if partOf sec = 3 then _ else _) = true
      split
      · exact copySector_wf _ _ _ h.2.1
      · exact SMap.wf_filter _ _ _ h.2.1
    · exact s.setStatus_wf sec 2 h
  unfold State.retireSector
  refine Memory.wf_congr key ?_ ?_ ?_ <;>
    simp only [State.setErr_dramMem, State.setErr_flash, State.setErr_otp] <;> rfl

/-- Programming sets bits and clears none. -/
theorem State.otpProgram_kept (s : State) (w : Nat) (v : BitVec 64) : OtpKept s (s.otpProgram w v) := by
  intro k
  unfold State.otpProgram State.otpCell
  simp only [SMap.get_set]
  split
  · rename_i h; subst h
    ext i hi
    simp
    intro h; exact Or.inl h
  · simp

/-! ### Heartwood writes, checks and what a port is made to carry out -/

theorem State.eraseSector_wf (s : State) (sec : Nat) (h : Memory.wf s = true) : Memory.wf (s.eraseSector sec) = true := by
  unfold State.eraseSector
  extract_lets s1
  have h1 : Memory.wf s1 = true := State.setStatus_wf _ _ _ (Memory.wf_congr (State.wipeSector_wf s sec h) rfl rfl rfl)
  clear_value s1
  exact Memory.wf_ite (State.retireSector_wf _ _ h1) h1

theorem State.heartPut_wf (s : State) (ty arg : Nat) (d : List Byte) (h : Memory.wf s = true) : Memory.wf (s.heartPut ty arg d) = true := by
  unfold State.heartPut
  extract_lets seq e s1 s2
  have h1 : Memory.wf s1 = true := State.flashWrite_wf _ _ _ h
  clear_value s1
  exact Memory.wf_raise (Memory.wf_setReg (Memory.wf_heart h1 _) _ _) _

theorem State.heartPieces_wf (s : State) (p : Nat) (h : Memory.wf s = true) : Memory.wf (s.heartPieces p) = true := by
  unfold State.heartPieces
  extract_lets s1
  have h1 : Memory.wf s1 = true := Memory.wf_foldl _ (fun t _ ht => State.heartPut_wf t _ _ _ ht) _ _ h
  clear_value s1
  exact Memory.wf_congr h1 rfl rfl rfl

theorem State.heartRebase_wf (s : State) (h : Memory.wf s = true) : Memory.wf s.heartRebase = true := by
  unfold State.heartRebase
  extract_lets first c x0 s0 seq0 s1 s2 s3 s4 s5 x6 s6 s7 used t x7
  have h1 : Memory.wf s1 = true := State.heartPut_wf _ _ _ _ (Memory.wf_heart h _)
  clear_value s1
  have h2 : Memory.wf s2 = true := Memory.wf_foldl _ (fun t _ ht => State.heartPut_wf t _ _ _ ht) _ _ h1
  clear_value s2
  have h3 : Memory.wf s3 = true := State.heartPut_wf _ _ _ _ h2
  clear_value s3
  have h4 : Memory.wf s4 = true := State.heartPut_wf _ _ _ _ h3
  clear_value s4
  have h5 : Memory.wf s5 = true := State.heartPut_wf _ _ _ _ h4
  clear_value s5
  have h7 : Memory.wf s7 = true := Memory.wf_setF (Memory.wf_heart h5 _) _ _ _ _
  clear_value s7
  have ht : Memory.wf t = true := State.heartPieces_wf _ _ (State.eraseSector_wf _ _ h7)
  clear_value t
  exact Memory.wf_ite h7 (Memory.wf_ite (Memory.wf_heart ht _) h7)

theorem State.heartRoom_wf (s : State) (n : Nat) (h : Memory.wf s = true) : Memory.wf (s.heartRoom n) = true := by
  unfold State.heartRoom; exact Memory.wf_ite (State.heartRebase_wf s h) h

/-- A heartwood write keeps the form if what it carries out does. -/
theorem State.heartWrite_wf (s : State) (f : State → State) (hf : ∀ t, Memory.wf t = true → Memory.wf (f t) = true)
    (h : Memory.wf s = true) : Memory.wf (s.heartWrite f) = true := by
  unfold State.heartWrite
  refine Memory.wf_ite ?_ (hf s h)
  unfold State.heartDefer
  exact Memory.wf_setErr (Memory.wf_setF (Memory.wf_heart h _) _ _ _ _) _ _

theorem State.heartErase_wf (s : State) (sec : Nat) (h : Memory.wf s = true) : Memory.wf (s.heartErase sec) = true :=
  State.heartWrite_wf _ _ (fun t ht => State.heartPieces_wf _ _ (State.heartRoom_wf t _ ht)) h

theorem State.heartRepair_wf (s : State) (r : Repair) (h : Memory.wf s = true) : Memory.wf (s.heartRepair r) = true := by
  unfold State.heartRepair
  refine State.heartWrite_wf _ _ (fun t ht => ?_) (Memory.wf_congr h rfl rfl rfl)
  exact Memory.wf_heart (State.heartPut_wf _ _ _ _ (State.heartRoom_wf t 1 ht)) _

theorem State.retireElem_wf (s : State) (e : Word) (h : Memory.wf s = true) : Memory.wf (s.retireElem e) = true := by
  unfold State.retireElem State.loopEvent
  split
  · exact Memory.wf_updBist h _
  · exact Memory.wf_ite h (Memory.wf_same (Memory.wf_setB (Memory.wf_setB h _ _ _) _ _ _) (State.raiseAt_same _ _ _))
  · exact Memory.wf_ite h (Memory.wf_ite h (Memory.wf_ite h h))
  · exact h

theorem State.failElem_wf (s : State) (e : Word) (src : Nat) (h : Memory.wf s = true) : Memory.wf (s.failElem e src).2 = true := by
  have hr : ∀ t : State, Memory.wf t = true → Memory.wf t.showRepairs = true := fun t ht => Memory.wf_setReg ht _ _
  unfold State.failElem
  extract_lets full s1
  have h1 : Memory.wf s1 = true := Memory.wf_ite (Memory.wf_setErr h _ _) (State.heartRepair_wf _ _ h)
  clear_value s1
  split
  · exact hr _ (State.heartRepair_wf _ _ h)
  · exact hr _ (State.retireElem_wf _ _ h1)

/-- A check that ends keeps the form. -/
theorem State.endCheck_wf (s : State) (e : Word) (src : Nat) (b : Bool) (h : Memory.wf s = true) : Memory.wf (s.endCheck e src b) = true := by
  have h0 : Memory.wf (s.dropCheck e) = true := h
  have h1 := State.failElem_wf _ e src h0
  unfold State.endCheck
  extract_lets s0
  change Memory.wf (s0.failElem e src).2 = true at h1
  change Memory.wf s0 = true at h0
  generalize s0.failElem e src = x at *
  obtain ⟨r, u⟩ := x
  exact Memory.wf_ite (State.checkResult_wf _ _ _ _ _ _ _ h0)
    (Memory.wf_ite (State.checkResult_wf _ _ _ _ _ _ _ h0) (State.checkResult_wf _ _ _ _ _ _ _ h1))

theorem lineWords_wf (line req : Nat) (q : Bool) (l : List Nat) (acc : BitVec 512 × Bool × Bool × State) (h : Memory.wf acc.2.2.2 = true) :
    Memory.wf (l.foldl (lineWord line req q) acc).2.2.2 = true := by
  induction l generalizing acc with
  | nil => exact h
  | cons k l ih =>
    rw [List.foldl_cons]
    refine ih _ ?_
    have h1 := State.readChecked_wf acc.2.2.2 (line + 8 * k) req q h
    unfold lineWord
    generalize acc.2.2.2.readChecked (line + 8 * k) req q = x at *
    exact h1

theorem State.readLine_wf (s : State) (line req : Nat) (h : Memory.wf s = true) : Memory.wf (s.readLine line req).2.2 = true := by
  unfold State.readLine
  extract_lets due
  have h1 := lineWords_wf line req due.isNone (List.range 8) (0, false, false, s) h
  generalize (List.range 8).foldl (lineWord line req due.isNone) (0, false, false, s) = x at *
  obtain ⟨d, bad, err, t⟩ := x
  clear_value due
  cases due with
  | some c => exact State.endCheck_wf _ _ _ _ h1
  | none => exact h1

theorem State.servePort_wf (s : State) (p : Nat) (h : Memory.wf s = true) : Memory.wf (s.servePort p) = true := by
  unfold State.servePort
  extract_lets s0 s1
  have h0 : Memory.wf s0 = true := Memory.wf_foldl _ (fun t r ht => State.enqueue_wf t r false ht) _ _ (Memory.wf_updDram h _)
  clear_value s0
  refine State.answerPort_wf _ _ (Memory.wf_foldl _ (fun t r ht => ?_) _ _ h0)
  have h2 := State.readLine_wf t (r.addr / 64 * 64) (portRequester p) ht
  have h3 := State.dramWrite_wf t r ht
  dsimp only
  generalize t.readLine (r.addr / 64 * 64) (portRequester p) = x at *
  obtain ⟨d, bad, u⟩ := x
  exact Memory.wf_ite (Memory.wf_updDram h3 _) (Memory.wf_updDram h2 _)

theorem State.bufferWrite_wf (s : State) (port req a : Nat) (l : List Byte) (h : Memory.wf s = true) :
    Memory.wf (s.bufferWrite port req a l) = true := by
  unfold State.bufferWrite
  exact Memory.wf_foldl _ (fun t _ ht => State.dramWriteWord_wf _ _ _ _ _ (State.dropBacks_wf _ _ ht)) _ _
    (State.drainRange_wf _ _ _ (State.servePort_wf s port h))

theorem State.bufferPut_wf (s : State) (a : Nat) (l : List Byte) (h : Memory.wf s = true) : Memory.wf (s.bufferPut a l) = true :=
  State.bufferWrite_wf s 8 2 a l h

end Sys2Proof.Machine
end

