-- ==== Sys2Proof/Tests/Slice0.lean ====
section
/-! SUPPORT. The author's own tests: ill-formed terms that the check refuses, a few values from the spec's own text, and, for each statement, one
theorem that shows a state and operands meeting the hypotheses of each of its clauses. -/

namespace Sys2Proof.Tests

set_option Elab.async false
open Sys2Proof Sys2Proof.Machine

/-! ### Helpers -/

/-- OTP words 15 to 79 with the values of l, the others zero, each as its cells and its copy in the AON shadow. -/
def otpWords (l : List (Nat × BitVec 64)) : SMap (BitVec 64) := (List.range 65).map fun k => (k + 15, SMap.get (fun _ => 0) l (k + 15))
def otpOf (l : List (Nat × BitVec 64)) : Otp := { words := otpWords l, shadow := otpWords l }
def live : State := { State.reset with
  power := { State.reset.power with inReset := false, cold := false, railsDown := false }
  time := { State.reset.time with running := true }
  otp := otpOf []
  regs := { State.reset.regs with act := [(aMODE, 0x4004)] } }
def inMode (m : Nat) : State := (live.setF aMODE 3 0 m).setF aMODE 15 12 m
def pw (f : Power → Power) : State := live.updPower f
def setR (s : State) (l : List (Nat × Word)) : State := l.foldl (fun t e => t.setReg e.1 e.2) s
def aMsg : Msg := { words := [0x00010000, 0], src := 1, tag := 0, epoch := 0, seq := 5 }
def aReply : Reply := { call := { mbx := 1 }, words := [1, 2] }
def anEntry : Entry := { target := 2, call := {}, passed := 0, mode := 4 }
def fab (s : State) (l : List (Nat × Bough)) : State := { s with fabric := { s.fabric with boughs := l } }
/-- Bough b runs in transfer mode m, out of reset, with configuration and content x. -/
def runs (b m : Nat) (x : Bough) : State := fab (setR live [(aBOUGH b 0x20, BitVec.ofNat 32 m), (aBOUGH b 0x28, 1)]) [(b, x)]
def inMux : BoughCfg := { boughDest := [(2560, 2208), (2592, 2208)], ich := [(0, { en := true })], och := [(0, { en := true })] }
def validIn : SMap InChan := [(0, { valid := true })]
/-- Bough clock 0 of bough b runs, on root 0 and REFCLK. -/
def clk (b : Nat) (s : State) : State := setR s [(aBCLK b 0, 0x80000000), (aROOT 0, 0x80220022)]
/-- Slot port 0's output words enter bough 0 by channel 0. -/
def slot0 (req : Bool) (s : State) : State :=
  { s with fabric := { s.fabric with place := { s.fabric.place with slotChan := [(0, 1)] } }, loop := { s.loop with slotReq := [(0, req)] } }
def nowAt (t : Nat) (s : State) : State := { s with time := { s.time with now := BitVec.ofNat 72 t } }
def tb (f : TimeBase → TimeBase) (s : State) : State := { s with time := f s.time }
def unitAt (p : Nat) (u : EdgeUnit) (s : State) : State := { s with edge := [(p, u)] }
def anEntryQ : QueueEntry := { time := 5, level := true }
def aCapture : Capture := { time := 0, falling := false, quality := 1, lost := false }
def chanAt (c : Nat) (u : SdfChannel) : State := { live with sdf := [(c, u)] }
def anOutput : SdfOutput := { value := 7, stamp := 0, quality := 1, due := 0 }
def ctxOn (k : Nat) (c : LoopCtx) : State := (setR live [(aCTX 1023 0xF0, 0x40000000), (aCTX 1023 0x40, BitVec.ofNat 32 (k * 2 ^ 14)), (aCTX 1023 0x50, 0x20000000)]).setCtx 1023 c
def anUpdate : LoopUpdate := { tr := 0, applyAt := 0, o := 5, y := 1, r := 1, quality := 1, enter := false, leave := false, sat := false, dst := 0, par := 0, safe := 0, log := false }
/-- The rope controller and its ports run, with ROLE and POS_CFG of the word cfg, in rope state k; its bypass is open. -/
def onRope (cfg k : Nat) : State := setR live [(pg 0x540 0x004, 1), (pg 0x541 0x004, 1), (pg 0x542 0x004, 1), (pg 0x543 0x004, 1), (aROPE 0x20, BitVec.ofNat 32 cfg), (aROPE 0x2C, BitVec.ofNat 32 k)]
/-- A follower of rope 0 at position 63, its node ID 63, JOINED. -/
def joined : State := onRope 0x00FC0001 3
def aFrame (b : AccBody) : AccFrame := { dst := 63, src := 5, seq := 0, ack := 0, passed := false, body := b }
def west : RopePort := .west
/-- The words of a bad header, and of one with a good CRC-8 that is not the frame's. -/
def badWire : Wire := { head := 0, fcs := 0 }
def aReq : RopeReq := { seq := 0, requester := 2, addr := 0, body := .rdReq 0 false 0, sends := 1 }
def released : State := { live with fabric := { live.fabric with portsReleased := true }, regs := { live.regs with act := [(aMODE, 0x4004), (aBOUGH 0 0x28, 1)] } }
def aRead : DramReq := { port := 0, addr := 64, write := false, line := true, be := -1, data := 0, close := false, fence := false, tag := 0, cls := 0, seq := 3 }
def dramIn (n : Nat) (q : List DramReq) : State := ((live.setReg (aDRAM 0x24) (BitVec.ofNat 32 n)).setReg (aDRAM 0x2C) 0x10001).updDram fun m => { m with queue := q }
/-- A full load from the user data, its stream begun, two packets taken. -/
def aLoad : Load := { image := { src := 2, base := 0x1400000, streamOfs := 512, streamLen := 9474332 }, grove := none, phase := .stream, pkt := 2 }
def loading (l : Load) : State := live.updCfg fun k => { k with load := some l }
/-- A full load whose 17,632 frames have all been taken; 28 bytes are left. -/
def lastLoad : Load := { aLoad with pos := 9474304, pkt := 17634, seg := 1, total := 17632 }
def pkt (op reg len arg : Nat) : BitVec 64 := BitVec.ofNat 64 (op * 2 ^ 56 + reg * 2 ^ 48 + len * 2 ^ 32 + arg)
/-- Grove 0 is defined. -/
def grove0 (s : State) : State := s.setReg (aGR 0 0) 0x80000000
/-- The words of a header that its checks read: of a full image, KIND 0, of one of grove 0, KIND 1, or of one of grove 1, KIND 0x101, whose entry names no
bough. -/
def hdrBytes (base kind : Nat) : SMap Byte :=
  ([(0, 0x4B424C49), (4, 1), (8, 0x10524AF3), (0x0C, kind), (0x14, 0), (0x18, 0), (0x20, 512), (0x24, 76), (0x2C, 0), (0xC0, kind / 256), (0xC4, 0)]
    : List (Nat × Nat)).flatMap fun e => (List.range 4).map fun k => (base + e.1 + k, (bytesOf 4 e.2).getD k 0)
/-- The header lies in flash at base, and root key slot 0 holds a digest and a key. -/
@[irreducible] def withHdr (base kind : Nat) (s : State) : State :=
  { s with flash := { s.flash with bytes := hdrBytes base kind }, otp := otpOf [(52, 1), (76, 1)] }
@[irreducible] def hdr (kind : Nat) : List Byte := (withHdr 0 kind live).flashRead 0 512
@[irreducible] def ffs (n : Nat) : List Byte := List.replicate n 0xFF

theorem headerAuth_ok {s : State} {h : List Byte} (hk : hdrField h 0x18 4 % 4 = 0)
    (h0 : (s.slotServed 0 && s.otpHolds 52 6 && s.otpHolds 76 4) = true) (hd : s.otpBits 52 6 = 1) (hr : s.otpBits 76 4 = 1)
    (hp : (h.drop 0xC8).take 97 = ffs 97) (hg : (h.drop 0x130).take 96 = ffs 96) (hw : (h.drop 0x38).take 40 = ffs 40)
    (c1 : Config.sha384 (ffs 97) = 1) (c2 : Config.sigValid (ffs 97) (ffs 96) (h.take 0x130) = true) (c3 : Config.unwrapKey 1 (ffs 40) = some (ffs 32)) :
    s.headerAuth h [] = true := by
  simp only [State.headerAuth, State.headerKey, hk, hp, hg, hw, c1, c2, hd, hr, Nat.mul_zero, Nat.add_zero]
  simp only [Bool.and_eq_true] at h0
  simp only [h0.1.1, h0.1.2, h0.2, List.isEmpty_nil, Bool.true_or, Bool.and_true, Bool.true_and]
  show (((1 : BitVec 384).toNat == 1) && (Config.unwrapKey 1 (ffs 40)).isSome) = true
  rw [c3]
  decide

theorem headerKey_ok {s : State} {h : List Byte} (hk : hdrField h 0x18 4 % 4 = 0) (hr : s.otpBits 76 4 = 1) (hw : (h.drop 0x38).take 40 = ffs 40)
    (c3 : Config.unwrapKey 1 (ffs 40) = some (ffs 32)) : s.headerKey h = some (ffs 32) := by
  unfold State.headerKey
  rw [hk, hw, show 76 + 4 * 0 = 76 from rfl, hr]
  exact c3

theorem checkHeader_eq {s s1 : State} {h : List Byte} {src ofs : Nat} {want : Option Nat} {fits : Bool} (h3 : src ≠ 3) (hsz : ¬ s.srcSize src ofs < 512)
    (hr : s.flashRead (srcBase src ofs) 512 = h) (h1 : s.suspectRead (s.rangeOpen (srcBase src ofs) 512) = s1)
    (hs : headerShape h (s.srcSize src ofs) = true) (hm : (imageOf h src (srcBase src ofs) (ffs 32)).mapLen = 0)
    (hk : s1.headerKey h = some (ffs 32)) (ha : s1.headerAuth h [] = true) (hd : hdrField h 8 4 = 0x10524AF3)
    (hv : ¬ (imageOf h src (srcBase src ofs) (ffs 32)).svn < s1.rollback) (hf : (fits && !s1.headerFits h want) = false) :
    s.checkHeader src ofs want fits = (0, imageOf h src (srcBase src ofs) (ffs 32), h, if src < 2 then s1.setB (aCFG 0x24) (8 + src) true else s1) := by
  have hr' : s.srcRead src (srcBase src ofs) 512 = (some h, s1) := by simp [State.srcRead, h3, hr, h1]
  simp only [State.checkHeader, State.headerCheck, hsz, hr', hs, hk, Option.getD_some, hm, ha, hd, hf, if_false, if_true, Bool.not_true, Bool.false_eq_true,
    ne_eq, not_true_eq_false, hv]
  rfl
theorem checkBank_ok {s : State} {b : Nat} (h : (s.checkHeader b 0 none true).1 = 0) : (s.checkBank b).1 = 0 := by
  simpa only [State.checkBank] using h
/-- What the opaque functions answer on the header of KIND k: its digest is the slot's, its signature is valid, its key unwraps. -/
abbrev Signed (k : Nat) : Prop :=
  Config.sha384 (ffs 97) = 1 ∧ Config.sigValid (ffs 97) (ffs 96) ((hdr k).take 0x130) = true ∧ Config.unwrapKey 1 (ffs 40) = some (ffs 32)
@[irreducible] def bankA : State := withHdr 0 0 live
@[irreducible] def userImg (k : Nat) : State := withHdr 0x1400000 k (grove0 live)
/-- The stream of an image of KIND 0x101 that holds no frame, its bodies and tags as they are stored, and the image. -/
@[irreducible] def stream3 : List Byte :=
  bytesOf 8 (1 * 2 ^ 56 + 0x10524AF3) ++ ffs 16 ++ bytesOf 8 (2 * 2 ^ 56 + 1 * 2 ^ 48 + 0x101) ++ ffs 16 ++ bytesOf 8 (7 * 2 ^ 56 + 4 * 2 ^ 32) ++ ffs 20
@[irreducible] def verImg : State :=
  let s := withHdr 0x1400000 0x101 (grove0 live)
  { s with flash := { s.flash with bytes := s.flash.bytes ++ (List.range 76).map fun k => (0x1400200 + k, stream3.getD k 0) } }
/-- The body of a frame of zeros with check c. -/
@[irreducible] def frameBody (c : Word) : List Byte := List.replicate 512 0 ++ bytesOf 4 c.toNat
theorem frameBody_data (c : Word) : frameData (frameBody c) = 0 := by
  unfold frameData frameBody
  rw [List.take_append_of_le_length (Nat.le_of_eq List.length_replicate.symm), List.take_of_length_le (Nat.le_of_eq List.length_replicate)]
  decide +kernel
theorem frameBody_chk (c : Word) : frameChk (frameBody c) = c := by
  unfold frameChk frameBody
  rw [List.drop_left' List.length_replicate]
  have hc := c.isLt
  apply BitVec.eq_of_toNat_eq
  simp only [bytesOf, show List.range 4 = [0, 1, 2, 3] from rfl, List.map_cons, List.map_nil, ofBytes, List.foldr_cons, List.foldr_nil, BitVec.toNat_ofNat]
  omega
/-- What AES-GCM answers on the stored packets below: nothing where the tag begins with 0, else an empty body, the CRC-32 of no frame, a key and a
nonce base, or a frame of zeros, with its check under one key and with another under a second. -/
abbrev Opens : Prop :=
  (∀ k iv a, Config.gcmOpen k iv a [] (ffs 16) = some []) ∧ (∀ k iv a, Config.gcmOpen k iv a (ffs 4) (ffs 16) = some [0, 0, 0, 0]) ∧
  (∀ k iv a, Config.gcmOpen k iv a (ffs 40) (ffs 16) = some (ffs 40)) ∧
  (∀ iv a, Config.gcmOpen [] iv a (ffs 516) (ffs 16) = some (frameBody (frameCheck 0x30000000 0))) ∧
  (∀ iv a, Config.gcmOpen [1] iv a (ffs 516) (ffs 16) = some (frameBody (frameCheck 0x30000000 0 + 1))) ∧
  (∀ k iv a, Config.gcmOpen k iv a [] (0 :: ffs 15) = none) ∧ (∀ k iv a, Config.gcmOpen k iv a (ffs 516) (0 :: ffs 15) = none)
theorem opened_ok {l : Load} {d n t : List Byte} {o : Option (List Byte)} (h : ∀ iv a, Config.gcmOpen l.key iv a n t = o)
    (hb : (d.drop 8).take (d.length - 24) = n) (ht : d.drop (d.length - 16) = t) : l.opened d = o := by
  unfold Load.opened
  rw [hb, ht]
  exact h _ _
/-- The next packet of load l has header h; its body and its tag lie in flash as they were erased, but for the tag's first byte where it is bad. -/
@[irreducible] def pktBytes (h : BitVec 64) (len : Nat) (bad : Bool) : List Byte := bytesOf 8 h.toNat ++ ffs len ++ if bad then 0 :: ffs 15 else ffs 16
@[irreducible] def atPacket (l : Load) (h : BitVec 64) (len : Nat) (bad : Bool) : State :=
  let s := live.updCfg fun k => { k with load := some l }
  { s with flash := { s.flash with bytes := (List.range 9).map fun k =>
      if k < 8 then (l.at_ + k, (bytesOf 8 h.toNat).getD k 0) else (l.at_ + 8 + len, if bad then 0 else 0xFF) } }
/-- Every check of the header of KIND k that rests on no opaque function. -/
def headerChecks (u : State) (src ofs : Nat) (want : Option Nat) (fits : Bool) (k : Nat) : Bool :=
  let h := hdr k
  let s1 := u.suspectRead (u.rangeOpen (srcBase src ofs) 512)
  src != 3 && !decide (u.srcSize src ofs < 512) && u.flashRead (srcBase src ofs) 512 == h && headerShape h (u.srcSize src ofs) &&
  (imageOf h src (srcBase src ofs) (ffs 32)).mapLen == 0 && hdrField h 8 4 == 0x10524AF3 && !decide ((imageOf h src (srcBase src ofs) (ffs 32)).svn < s1.rollback) &&
  !(fits && !s1.headerFits h want) && hdrField h 0x18 4 % 4 == 0 && s1.slotServed 0 && s1.otpHolds 52 6 && s1.otpHolds 76 4 &&
  s1.otpBits 52 6 == 1 && s1.otpBits 76 4 == 1 && (h.drop 0xC8).take 97 == ffs 97 && (h.drop 0x130).take 96 == ffs 96 && (h.drop 0x38).take 40 == ffs 40
theorem header_eq {u : State} {src ofs : Nat} {want : Option Nat} {fits : Bool} {k : Nat} (h : Signed k)
    (hc : headerChecks u src ofs want fits k = true) : u.checkHeader src ofs want fits =
      (0, imageOf (hdr k) src (srcBase src ofs) (ffs 32), hdr k, let s1 := u.suspectRead (u.rangeOpen (srcBase src ofs) 512)
        if src < 2 then s1.setB (aCFG 0x24) (8 + src) true else s1) := by
  simp only [headerChecks, Bool.and_eq_true, bne_iff_ne, beq_iff_eq, Bool.not_eq_true', decide_eq_false_iff_not] at hc
  obtain ⟨⟨⟨⟨⟨⟨⟨⟨⟨⟨⟨⟨⟨⟨⟨⟨h1, h2⟩, h3⟩, h4⟩, h5⟩, h6⟩, h7⟩, h8⟩, h9⟩, h10⟩, h11⟩, h12⟩, h13⟩, h14⟩, h15⟩, h16⟩, h17⟩ := hc
  exact checkHeader_eq h1 h2 h3 rfl h4 h5 (headerKey_ok h9 h14 h17 h.2.2) (headerAuth_ok h9 (by simp [h10, h11, h12]) h13 h14 h15 h16 h17 h.1 h.2.1 h.2.2) h6 h7 h8
theorem header_ok {u : State} {src ofs : Nat} {want : Option Nat} {fits : Bool} {k : Nat} (h : Signed k)
    (hc : headerChecks u src ofs want fits k = true) : (u.checkHeader src ofs want fits).1 = 0 := by rw [header_eq h hc]
theorem verify_step {r : PacketRules} {n : Nat} {l m : Load} {rest b : List Byte}
    (h1 : (!decide (l.image.streamLen < l.pos + 24) && l.headFault (BitVec.ofNat 64 (ofBytes (rest.take 8))) == 0) = true)
    (h2 : l.opened (rest.take (24 + pktLen (BitVec.ofNat 64 (ofBytes (rest.take 8))))) = some b)
    (h3 : l.accept r (BitVec.ofNat 64 (ofBytes (rest.take 8))) (rest.take (24 + pktLen (BitVec.ofNat 64 (ofBytes (rest.take 8))))) b = .ok m) :
    Load.verify r (fun _ _ => false) (n + 1) l rest = (let p := BitVec.ofNat 64 (ofBytes (rest.take 8))
      if pktOp p = 7 then (0, m.usercode)
      else Load.verify r (fun _ _ => false) n { m with pos := m.pos + pktLen p + 24, pkt := m.pkt + 1, stream := m.stream ++ rest.take (24 + pktLen p) }
        (rest.drop (24 + pktLen p))) := by
  simp only [Bool.and_eq_true, Bool.not_eq_true', decide_eq_false_iff_not, beq_iff_eq] at h1
  simp only [Load.verify, h1.1, h1.2, h2, h3, if_false, Bool.false_eq_true, ne_eq, not_true_eq_false]
/-- The check of the stored stream of the image that SVC_IMAGE_VERIFY names. -/
abbrev checked (u : State) (c : Call) : Nat × Word × State :=
  let x := u.checkHeader (fld c.w2 1 0) (bufferOf c.w3 c.w4) none false
  x.2.2.2.verifyStream x.2.1 x.2.2.1
theorem checked_bad (h : Signed 0) : (checked ((userImg 0).begun 0x0303 { w2 := 2 }) { w2 := 2 }).1 ≠ 0 := by
  unfold checked
  rw [header_eq h (by decide +kernel)]
  decide +kernel
theorem accept_ok {l m : Load} {r : PacketRules} {p : BitVec 64} {d b : List Byte}
    (h : (match l.accept r p d b with | .ok m' => decide (m' = m) | .error _ => false) = true) : l.accept r p d b = .ok m := by
  split at h
  · simp_all
  · simp at h
/-- The image checked, and its load after k of the packets. -/
@[irreducible] def img3 : Image := imageOf (hdr 0x101) 2 0x1400000 (ffs 32)
@[irreducible] def load3 (k : Nat) : Load := { image := img3, grove := none, pos := 24 * k, pkt := k, stream := stream3.take (24 * k) }
theorem stream3_step (ho : Opens) {n k : Nat} (hk : k = 0 ∨ k = 1) :
    Load.verify (headerRules (hdr 0x101)) (fun _ _ => false) (n + 1) (load3 k) (stream3.drop (24 * k)) =
      Load.verify (headerRules (hdr 0x101)) (fun _ _ => false) n (load3 (k + 1)) (stream3.drop (24 * (k + 1))) := by
  rcases hk with rfl | rfl
  · rw [verify_step (m := load3 0) (b := []) (by decide +kernel) (opened_ok (ho.1 _) (by decide +kernel) (by decide +kernel)) (accept_ok (by decide +kernel)),
      if_neg (by decide +kernel)]
    congr 1 <;> decide +kernel
  · rw [verify_step (m := load3 1) (b := []) (by decide +kernel) (opened_ok (ho.1 _) (by decide +kernel) (by decide +kernel)) (accept_ok (by decide +kernel)),
      if_neg (by decide +kernel)]
    congr 1 <;> decide +kernel
theorem stream3_end (ho : Opens) (hd : Config.sha384 stream3 = -1) {n : Nat} :
    (Load.verify (headerRules (hdr 0x101)) (fun _ _ => false) (n + 1) (load3 2) (stream3.drop (24 * 2))).1 = 0 := by
  have e : (load3 2).digestPasses ((stream3.drop (24 * 2)).take (24 + pktLen (BitVec.ofNat 64 (ofBytes ((stream3.drop (24 * 2)).take 8))))) = true := by
    have e2 : (load3 2).stream ++ (stream3.drop (24 * 2)).take (24 + pktLen (BitVec.ofNat 64 (ofBytes ((stream3.drop (24 * 2)).take 8)))) = stream3 := by
      decide +kernel
    unfold Load.digestPasses
    rw [e2, hd]
    decide +kernel
  have e1 : pktOp (BitVec.ofNat 64 (ofBytes ((stream3.drop (24 * 2)).take 8))) = 7 := by decide +kernel
  rw [verify_step (m := load3 2) (by decide +kernel) (opened_ok (ho.2.1 _) (by decide +kernel) (by decide +kernel)) (by
        simp only [Load.accept, e1, Load.acceptEnd, e]
        rw [if_neg (by decide +kernel), if_neg (by rintro (h | h | h | h) <;> revert h <;> decide +kernel)])]
  rw [if_pos e1]
theorem checked_good (h : Signed 0x101) (ho : Opens) (hd : Config.sha384 stream3 = -1) : (checked (verImg.begun 0x0303 { w2 := 2 }) { w2 := 2 }).1 = 0 := by
  unfold checked
  rw [header_eq h (by decide +kernel)]
  have e : ∀ (s : State) (i : Image), i = img3 → s.flashRead 0x1400200 76 = stream3 → s.flash.status = [] → (s.verifyStream i (hdr 0x101)).1 = 0 := by
    intro s i hi h3 hst
    have h1 : i.src = 2 := by rw [hi]; decide +kernel
    have h2 : i.base + i.streamOfs = 0x1400200 := by rw [hi]; decide +kernel
    have h5 : i.streamLen = 76 := by rw [hi]; decide +kernel
    have h4 : ∀ a n, s.rangeOpen a n = false := fun a n => by simp [State.rangeOpen, State.sectorStatus, hst, SMap.get]
    simp only [State.verifyStream, State.srcRead, h1, h2, h3, h4, h5, Bool.and_false, show ¬ (2 = 3) by decide, if_false]
    rw [show ({ image := i, grove := none } : Load) = load3 0 by rw [hi]; decide +kernel, show stream3 = stream3.drop (24 * 0) from rfl,
      stream3_step ho (.inl rfl), stream3_step ho (.inr rfl)]
    exact stream3_end ho hd
  exact e _ _ (by decide +kernel) (by decide +kernel) (by decide +kernel)
theorem digest_self {l : Load} {d : List Byte} (hs : l.stream = []) (h : l.image.digest = (Config.sha384 d).toNat) : l.digestPasses d = true := by
  simp [Load.digestPasses, hs, h]
/-- A full load whose frames are checked, of grove 0's one bough. -/
def groveLoad : Load := { lastLoad with grove := some 0, total := 64, logic := 64 }
theorem ne_succ (v : Word) : v + 1 ≠ v := by
  intro h
  have := congrArg BitVec.toNat h
  simp at this
  omega
theorem ne_xor (v : Word) : v ≠ v ^^^ 1 := by
  intro h
  have h2 := congrArg (fun x => v ^^^ x) h
  simp at h2
theorem scrub_ne {s : State} {ix : Nat} {a : Word} (h1 : s.fabric.upset = []) (h2 : s.fabric.upsetCheck = []) :
    frameCheck a (s.frame ix ^^^ (SMap.get (fun _ => 0) s.fabric.upset ix ^^^ 0)) ≠
      frameCheck a (s.frame ix) ^^^ (SMap.get (fun _ => 0) s.fabric.upsetCheck ix ^^^ 1) := by
  have e1 : SMap.get (fun _ => (0 : BitVec 4096)) [] ix = 0 := rfl
  have e2 : SMap.get (fun _ => (0 : Word)) [] ix = 0 := rfl
  rw [h1, h2, e1, e2, BitVec.xor_self, BitVec.xor_zero, show (0 : Word) ^^^ 1 = 1 by decide]
  exact ne_xor _
def dramOn : State := (dramIn 2 []).setReg (pg 0x640 0x004) 1
def flashWith (f : Flash → Flash) : State := { live with flash := f live.flash }
def anErase : FlashOp := { erase := true, addr := 0x1400000, left := 1, done := 0 }
def aProgram : FlashOp := { erase := false, addr := 0x1400000, left := 1, done := 0, data := List.replicate 32 0 }
def store (f : Settings → Settings) : State := { live with settings := f live.settings }
def aTx (d : Bool) : SetTx := { tsn := 1, addr := 0x1C00000, recs := [{ id := 0x100, delete := d, data := [1, 2] }] }
def aStage (b : Option (Nat × Nat)) : Nat × List StageRec := (0, [{ id := 0x100, delete := false, data := [1], buffer := b }])
def bistOn (f : Bist → Bist) : State := { live with bist := f live.bist }
def aPitch : Pitch := { elem := 0x20000000, source := 8, targeted := true }
def aCheck : Check := { elem := 0x20000000, source := 8 }
def service (s : State) : State := (s.setF aMODE 3 0 mSERVICE).setF aMODE 15 12 mSERVICE
/-- The store holds one record of n bytes, and another is staged. -/
def fullStore (n : Nat) : State := store fun t => { t with
  txs := [{ tsn := 1, addr := 0x1C00000, recs := [{ id := 0x100, delete := false, data := List.replicate n 0 }] }]
  staged := [(0, [{ id := 0x101, delete := false, data := [] }])] }
theorem store_full {s : State} {n : Nat} (hn : 524288 ≤ n) (h : s.settings.txs = (fullStore n).settings.txs) (h2 : s.settings.deferred = []) :
    (s.commitRecs 0 [{ id := 0x101, delete := false, data := [] }]).1 = rcNO_SPACE := by
  have : s.storeFull (s.settings.deferred.map (·.2) ++ [[{ id := 0x101, delete := false, data := [] }]]) = true := by
    rw [h2]
    unfold State.storeFull
    rw [h]
    have hi : idsOf ((fullStore n).settings.txs ++ [{ tsn := 0, addr := 0, recs := [{ id := 0x101, delete := false, data := [] }] }]) = [0x100, 0x101] := rfl
    simp only [List.nil_append, List.map_nil, List.map_cons, liveRecs, hi]
    simp [fullStore, store, findRec, liveBytes]
    omega
  unfold State.commitRecs
  rw [if_pos this]
theorem token_ok {s : State} {c : Call} {w : Nat} (ht : Config.sha384 (List.replicate 16 0) = 1)
    (hc : ([c.w3, c.w4, c.w5, c.w6].flatMap fun v => bytesOf 4 v.toNat) = List.replicate 16 0)
    (h1 : s.otpEmpty w 6 = false) (h2 : s.rb (aLC 0x24) 4 = false) (h3 : s.otpHolds w 6 = true) (h4 : s.otpBits w 6 = 1) :
    (s.tokenCheck c w).1 = none := by
  simp only [State.tokenCheck, hc, ht, h1, h2, h3, h4]
  rw [if_neg (by decide), if_neg (by decide), if_pos (by decide)]

theorem witness_StepRunsFront :
    ∃ (c : Instr) (rest : List Instr) (s : State), 
    (s.pending = c :: rest) :=
  ⟨.wipeDone, [], (live.withPending [.wipeDone]), by decide +kernel⟩

theorem witness_QueueInOrder :
    ∃ (s : State) (n : Nat), 
    (n ≤ s.pending.length) :=
  ⟨(live.withPending [.wipeDone]), 1, by decide +kernel⟩

theorem witness_AsleepNothingElseActs :
    ∃ (c : Instr) (s : State), 
    (s.awake = false) ∧ (outsideModes c = false) :=
  ⟨.wipeDone, (inMode mSLEEP), by decide +kernel⟩

theorem witness_LoopsActiveRefusesEntry :
    (∃ (s : State) (c : Call) (tj : BitVec 16) (passed : BitVec 3) (n : BitVec 10), 
    (Called s 0x0501 c) ∧ ((s.bist.running.any fun p => !p.waitGrant) = false) ∧
      let u := (s.begun 0x0501 c).sampleTj tj.toInt
    (u.inTransition = false) ∧ (u.mode = mRUN ∨ u.mode = mHOLD) ∧ (fld c.w2 1 0 ≠ 3) ∧ (u.rb (aCTX n.toNat 0xF0) 30 = true) ∧ (u.rb (aCTX n.toNat 0xF0) 28 = false)) ∧
    (∃ (s : State) (c : Call) (tj : BitVec 16), 
    (Called s 0x0501 c) ∧ ((s.bist.running.any fun p => !p.waitGrant) = false) ∧
      let u := (s.begun 0x0501 c).sampleTj tj.toInt
    (u.inTransition = false) ∧ (u.mode = mRUN ∨ u.mode = mHOLD) ∧ (fld c.w2 1 0 = 2) ∧ ((∀ n ∈ u.runningCtxs, u.rb (aCTX n 0xF0) 28 = true))) :=
  ⟨⟨(live.setReg (aCTX 1023 0xF0) 0x40000000), {}, 0, 5, 1023, by decide +kernel⟩,
   ⟨(live.setReg (aCTX 1023 0xF0) 0x50000000), { w2 := 2 }, 0, by decide +kernel⟩⟩

theorem witness_CarryCell :
    ∃ (s : State) (ev : Node → Option Bool) (b : Nat) (l : Nat) (p : Bool) (g : Bool) (cin : Bool), 

      let k := (s.bough b).cfg.leafAt l
    (ev (.f b l) = some p) ∧ (ev (.twig b (l / 16) k.selA.toNat) = some g) ∧ (ev (.cin b l) = some cin) :=
  ⟨live, (fun _ => some false), 0, 0, false, false, false, by decide +kernel⟩

theorem witness_PendingRefusesShadowWrites :
    ∃ (s : State) (r : ReqId) (a : BitVec 24) (v : Word), 
    (a.toNat % 4 = 0) ∧ (s.reaches r.toNat = true) ∧ (r.toNat ≠ rHost) ∧ ((regSpec a.toNat).isSome = true) ∧ (rwsMask a.toNat ≠ 0) ∧ (s.commitPending (a.toNat / 0x1000) = true) :=
  ⟨(live.setReg (pg 0x018 8) 2), 2, 0x018038, 0, by decide +kernel⟩

theorem witness_ResetsAndRails :
    (∃ (s : State), 
    (s.power.cold = false)) ∧
    (∃ (s : State) (rail : BitVec 2) (above : Bool), 
    (s.power.inReset = false) ∧ (s.mode ≠ mBIVOUAC) ∧ (s.mode ≠ mOFF) ∧ (rail ≠ 0)) ∧
    (∃ (s : State), 
    (s.power.inReset = true) ∧ (s.power.railsDown = true) ∧ (s.power.cold = false)) ∧
    (∃ (s : State) (vin : BitVec 16) (straps : BitVec 3), 
    (s.power.inReset = true) ∧ (s.power.cold = true) ∧ (s.power.next = none)) ∧
    (∃ (s : State), 
    (s.power.inReset = true) ∧ (s.power.cold = false) ∧ (s.power.railsDown = false) ∧ (s.power.next = none)) :=
  ⟨⟨live, by decide +kernel⟩,
   ⟨live, 3, false, by decide +kernel⟩,
   ⟨{ live with power := { inReset := true, cold := false, railsDown := true } }, by decide +kernel⟩,
   ⟨{ live with power := { inReset := true, cold := true, railsDown := true } }, 0, 0, by decide +kernel⟩,
   ⟨{ live with power := { inReset := true, cold := false, railsDown := false } }, by decide +kernel⟩⟩

theorem witness_SupplyMonitors :
    (∃ (s : State), 
    (s.power.inReset = false) ∧ (s.mode = mSLEEP ∨ s.mode = mBIVOUAC)) ∧
    (∃ (s : State) (vin : BitVec 16), 
    (s.awake = true) ∧ (s.power.belowWarn = true)) ∧
    (∃ (s : State) (vin : BitVec 16), 
    (s.awake = true) ∧ (s.power.belowWarn = false)) ∧
    (∃ (s : State), 
    (s.awake = true) ∧ (s.rb (pg 0x002 0x00C) 20 = false)) ∧
    (∃ (s : State), 
    (s.power.inReset = false) ∧ (s.awake = false)) ∧
    (∃ (s : State) (k : BitVec 2), 
    (s.awake = true) ∧ (s.boardVcore = false) ∧ (s.rb (aSUP 0x3C) (20 + k.toNat) = false)) :=
  ⟨⟨(inMode mSLEEP), by decide +kernel⟩,
   ⟨(pw fun p => { p with belowWarn := true }), 0, by decide +kernel⟩,
   ⟨live, 0, by decide +kernel⟩,
   ⟨live, by decide +kernel⟩,
   ⟨(inMode mSLEEP), by decide +kernel⟩,
   ⟨live, 3, by decide +kernel⟩⟩

theorem witness_BraceAndMeasure :
    (∃ (s : State) (vin : BitVec 16), 
    (s.awake = true) ∧ (s.braceArmed = true) ∧ (s.power.belowWarn = false)) ∧
    (∃ (s : State) (vin : BitVec 16), 
    (s.awake = true) ∧ (s.braceArmed = false) ∧ (s.power.belowWarn = false)) ∧
    (∃ (s : State) (tj : BitVec 16) (t0 : DevTime) (vin : Nat), 
    (s.power.braceDue = some (t0, vin))) ∧
    (∃ (s : State), 
    (s.awake = true) ∧ (s.mode = mHOLD) ∧ (s.rb (aPMU 0x2C) 1 = true) ∧ (s.cause 18 = true) ∧ (s.power.belowWarn = false) ∧ (s.inTransition = false)) ∧
    (∃ (s : State) (k : BitVec 8) (vcore : BitVec 16) (vaux : BitVec 16) (vio : BitVec 16) (icore : BitVec 16) (vin : BitVec 16), 
    (s.awake = true) ∧ (s.boardVcore = true)) ∧
    (∃ (s : State) (k : BitVec 8) (vcore : BitVec 16) (vaux : BitVec 16) (vio : BitVec 16) (icore : BitVec 16) (vin : BitVec 16), 
    (s.awake = true) ∧ (s.boardVcore = false) ∧ (s.rb (aSUP 0x28) 0 = false)) :=
  ⟨⟨(live.setB (aSUP 0x20) 31 true), 0, by decide +kernel⟩,
   ⟨live, 0, by decide +kernel⟩,
   ⟨(pw fun p => { p with braceDue := some (0, 2000) }), 0, 0, 2000, by decide +kernel⟩,
   ⟨(setR live [(aMODE, 0x00046006), (aPMU 0x2C, 2)]), by decide +kernel⟩,
   ⟨(live.setB (aSUP 0x2C) 16 true), 0, 0, 0, 0, 0, 0, by decide +kernel⟩,
   ⟨live, 0, 0, 0, 0, 0, 0, by decide +kernel⟩⟩

theorem witness_SystemCalls :
    (∃ (s : State) (c : Call), 
    (Called s 0x0001 c)) ∧
    (∃ (s : State) (c : Call), 
    (Called s 0x0002 c)) ∧
    (∃ (s : State) (c : Call), 
    (Called s 0x0003 c) ∧
      let u := s.begun 0x0003 c

      let p := fld c.w2 11 0

      let id := fld c.w3 9 0

      let words := [c.w2, u.reg (pg p 0x014)]
    (pageAssigned p = false ∨ fld c.w2 31 12 ≠ 0 ∨ fld c.w3 31 10 ≠ 0 ∨ ownerBad id = true)) ∧
    (∃ (s : State) (c : Call), 
    (Called s 0x0003 c) ∧
      let u := s.begun 0x0003 c

      let p := fld c.w2 11 0

      let id := fld c.w3 9 0

      let words := [c.w2, u.reg (pg p 0x014)]
    (pageAssigned p = true) ∧ (fld c.w2 31 12 = 0) ∧ (fld c.w3 31 10 = 0) ∧ (ownerBad id = false) ∧ ((pageInfo p).fixed = true)) ∧
    (∃ (s : State) (c : Call), 
    (Called s 0x0003 c) ∧
      let u := s.begun 0x0003 c

      let p := fld c.w2 11 0

      let id := fld c.w3 9 0

      let words := [c.w2, u.reg (pg p 0x014)]
    (pageAssigned p = true) ∧ (fld c.w2 31 12 = 0) ∧ (fld c.w3 31 10 = 0) ∧ (ownerBad id = false) ∧ ((pageInfo p).fixed = false) ∧ (u.pageOwner p ≠ 0) ∧ (u.pageOwner p ≠ c.caller.toNat)) ∧
    (∃ (s : State) (c : Call), 
    (Called s 0x0003 c) ∧
      let u := s.begun 0x0003 c

      let p := fld c.w2 11 0

      let id := fld c.w3 9 0

      let words := [c.w2, u.reg (pg p 0x014)]
    (pageAssigned p = true) ∧ (fld c.w2 31 12 = 0) ∧ (fld c.w3 31 10 = 0) ∧ (ownerBad id = false) ∧ ((pageInfo p).fixed = false) ∧ (u.pageOwner p = 0 ∨ u.pageOwner p = c.caller.toNat)) ∧
    (∃ (s : State) (c : Call), 
    (Called s 0x0004 c) ∧
      let u := s.begun 0x0004 c

      let o := u.pinOwners (fld c.w2 9 0) (fld c.w2 25 16) (fld c.w3 2 0)
    (o.1 = rcBAD_ARG)) ∧
    (∃ (s : State) (c : Call), 
    (Called s 0x0004 c) ∧
      let u := s.begun 0x0004 c

      let o := u.pinOwners (fld c.w2 9 0) (fld c.w2 25 16) (fld c.w3 2 0)
    (o.1 ≠ rcBAD_ARG)) ∧
    (∃ (s : State) (c : Call) (r : _), 
    (Called s 0x0101 c) ∧
      let u := s.begun 0x0101 c
    (u.modeRefusal [mRUN] = some r)) ∧
    (∃ (s : State) (c : Call), 
    (Called s 0x0101 c) ∧
      let u := s.begun 0x0101 c
    (u.inTransition = false) ∧ (u.mode = mRUN)) ∧
    (∃ (s : State) (c : Call) (r : _), 
    (Called s 0x0102 c) ∧
      let u := s.begun 0x0102 c
    (u.modeRefusal [mHOLD] = some r)) ∧
    (∃ (s : State) (c : Call), 
    (Called s 0x0102 c) ∧
      let u := s.begun 0x0102 c
    (u.inTransition = false) ∧ (u.mode = mHOLD) ∧ (u.rb aMODE 17 = true)) ∧
    (∃ (s : State) (c : Call), 
    (Called s 0x0102 c) ∧
      let u := s.begun 0x0102 c
    (u.inTransition = false) ∧ (u.mode = mHOLD) ∧ (u.rb aMODE 17 = false)) ∧
    (∃ (s : State) (c : Call) (r : _), 
    (Called s 0x0103 c) ∧
      let u := s.begun 0x0103 c
    (u.modeRefusal [mRUN, mHOLD] = some r)) ∧
    (∃ (s : State) (c : Call), 
    (Called s 0x0103 c) ∧
      let u := s.begun 0x0103 c
    (u.inTransition = false) ∧ (u.mode = mRUN ∨ u.mode = mHOLD)) ∧
    (∃ (s : State) (c : Call) (r : _), 
    (Called s 0x0104 c) ∧
      let u := s.begun 0x0104 c
    (u.modeRefusal [mSERVICE] = some r)) ∧
    (∃ (s : State) (c : Call), 
    (Called s 0x0104 c) ∧
      let u := s.begun 0x0104 c
    (u.inTransition = false) ∧ (u.mode = mSERVICE)) :=
  ⟨⟨live, {}, by decide +kernel⟩,
   ⟨live, {}, by decide +kernel⟩,
   ⟨live, { w2 := 0x3FF }, by decide +kernel⟩,
   ⟨live, { w2 := 1 }, by decide +kernel⟩,
   ⟨(live.setF (pg 0x300 0x14) 9 0 8), { w2 := 0x300, w3 := 1 }, by decide +kernel⟩,
   ⟨live, {}, by decide +kernel⟩,
   ⟨live, {}, by decide +kernel⟩,
   ⟨live, { w2 := 0x00010000 }, by decide +kernel⟩,
   ⟨(inMode mHOLD), {}, rcBAD_STATE, by decide +kernel⟩,
   ⟨live, {}, by decide +kernel⟩,
   ⟨live, {}, rcBAD_STATE, by decide +kernel⟩,
   ⟨((inMode mHOLD).setB aMODE 17 true), {}, by decide +kernel⟩,
   ⟨(inMode mHOLD), {}, by decide +kernel⟩,
   ⟨(inMode mLOAD), {}, rcBAD_STATE, by decide +kernel⟩,
   ⟨live, {}, by decide +kernel⟩,
   ⟨live, {}, rcBAD_STATE, by decide +kernel⟩,
   ⟨(inMode mSERVICE), {}, by decide +kernel⟩⟩

theorem witness_GuideWork :
    (∃ (s : State), 
    (s.awake = true) ∧ (s.mode = mRUN) ∧ (s.rb (aPMU 0x2C) 0 = true) ∧ (s.guideIdle = true) ∧ (s.flash.op = none) ∧ (s.cfg.load = none) ∧ (s.cfg.readback = none) ∧ (s.bist.running = none) ∧ (s.bist.request = none) ∧ ((∀ c ∈ s.bist.queue, c.waits = true ∨ (elemKind c.elem < 5 ∧ (s.pitchBlocked = true ∨ s.pitchWaits c.elem = true)))) ∧ (s.power.braceDue = none) ∧ (s.cfg.essBough = []) ∧ (s.power.lockWait = none)) ∧
    (∃ (s : State) (m : Nat) (q : Nat) (h : Msg) (rest : List Msg), 
    (s.awake = true) ∧ (s.guide.taken = none) ∧ (s.nextRequest = some (q, m)) ∧ ((∀ x, s.guide.jtagReq = some x → q ≤ x.1)) ∧ ((s.mb m).msgs = h :: rest)) ∧
    (∃ (s : State) (w : List Word) (qj : Nat), 
    (s.awake = true) ∧ (s.guide.taken = none) ∧ ((∀ x, s.nextRequest = some x → qj < x.1)) ∧ (s.guide.jtagReq = some (qj, w))) ∧
    (∃ (s : State) (m : BitVec 5) (r : Reply), 
    (s.awake = true) ∧ (s.guide.held.find? (fun h => h.call.mbx.toNat == m.toNat) = some r) ∧
      let k := m.toNat + 1
    (s.mbLockReq k = false ∨ (s.mb k).lock.toNat = rGuide) ∧ ((s.mb k).msgs.length < 8)) ∧
    (∃ (s : State) (r : Reply) (rest : List Reply), 
    (s.awake = true) ∧ (s.guide.ropeHeld = r :: rest)) :=
  ⟨⟨(live.setB (aPMU 0x2C) 0 true), by decide +kernel⟩,
   ⟨(live.setMb 0 { msgs := [aMsg] }), 0, 5, aMsg, [], by decide +kernel⟩,
   ⟨{ live with guide := { jtagReq := some (3, [0]) } }, [0], 3, by decide +kernel⟩,
   ⟨{ live with guide := { held := [aReply] } }, 1, aReply, by decide +kernel⟩,
   ⟨{ live with guide := { ropeHeld := [aReply] } }, aReply, [], by decide +kernel⟩⟩

theorem witness_SleepAndWake :
    (∃ (s : State) (c : Call) (passed : BitVec 3) (tj : BitVec 16), 
    (Called s 0x0501 c) ∧ (s.bist.running = none) ∧
      let u := (s.begun 0x0501 c).sampleTj tj.toInt
    (fld c.w2 1 0 = 3)) ∧
    (∃ (s : State) (c : Call) (passed : BitVec 3) (tj : BitVec 16) (r : _), 
    (Called s 0x0501 c) ∧ (s.bist.running = none) ∧
      let u := (s.begun 0x0501 c).sampleTj tj.toInt
    (fld c.w2 1 0 ≠ 3) ∧ (u.enterRefusal (fld c.w2 1 0) = some r)) ∧
    (∃ (s : State) (c : Call) (passed : BitVec 3) (tj : BitVec 16), 
    (Called s 0x0501 c) ∧ (s.bist.running = none) ∧
      let u := (s.begun 0x0501 c).sampleTj tj.toInt
    (fld c.w2 1 0 ≠ 3) ∧ (u.enterRefusal (fld c.w2 1 0) = none) ∧ (passed = 0)) ∧
    (∃ (s : State) (c : Call) (passed : BitVec 3) (tj : BitVec 16) (e : _), 
    (Called s 0x0501 c) ∧ (s.bist.running = none) ∧
      let u := (s.begun 0x0501 c).sampleTj tj.toInt
    (fld c.w2 1 0 ≠ 3) ∧ (u.enterRefusal (fld c.w2 1 0) = none) ∧ (passed = 5) ∧
      let s2 := ((u.startLong 0x0501 c).enterStart (fld c.w2 1 0) c).enterLoop

      let s6 := ((s2.enterPins.enterDram (fld c.w2 1 0)).enterCopy (fld c.w2 1 0)).enterArm
    (s2.loopsActive = false) ∧ (s6.power.entry = some e)) ∧
    (∃ (s : State) (c : Call) (passed : BitVec 3) (tj : BitVec 16), 
    (Called s 0x0501 c) ∧ (s.bist.running = none) ∧
      let u := (s.begun 0x0501 c).sampleTj tj.toInt
    (fld c.w2 1 0 ≠ 3) ∧ (u.enterRefusal (fld c.w2 1 0) = none) ∧
      let s2 := ((u.startLong 0x0501 c).enterStart (fld c.w2 1 0) c).enterLoop
    (s2.loopsActive = false) ∧ (passed = 1)) ∧
    (∃ (s : State) (c : Call) (passed : BitVec 3) (tj : BitVec 16), 
    (Called s 0x0501 c) ∧ (s.bist.running = none) ∧
      let u := (s.begun 0x0501 c).sampleTj tj.toInt
    (fld c.w2 1 0 ≠ 3) ∧ (u.enterRefusal (fld c.w2 1 0) = none) ∧
      let s2 := ((u.startLong 0x0501 c).enterStart (fld c.w2 1 0) c).enterLoop
    (s2.loopsActive = false) ∧ (passed = 2)) ∧
    (∃ (s : State) (c : Call) (passed : BitVec 3) (tj : BitVec 16), 
    (Called s 0x0501 c) ∧ (s.bist.running = none) ∧
      let u := (s.begun 0x0501 c).sampleTj tj.toInt
    (fld c.w2 1 0 ≠ 3) ∧ (u.enterRefusal (fld c.w2 1 0) = none) ∧
      let s2 := ((u.startLong 0x0501 c).enterStart (fld c.w2 1 0) c).enterLoop
    (s2.loopsActive = false) ∧ (passed = 3)) ∧
    (∃ (s : State) (c : Call) (passed : BitVec 3) (tj : BitVec 16), 
    (Called s 0x0501 c) ∧ (s.bist.running = none) ∧
      let u := (s.begun 0x0501 c).sampleTj tj.toInt
    (fld c.w2 1 0 ≠ 3) ∧ (u.enterRefusal (fld c.w2 1 0) = none) ∧
      let s2 := ((u.startLong 0x0501 c).enterStart (fld c.w2 1 0) c).enterLoop
    (s2.loopsActive = false) ∧ (passed = 4)) ∧
    (∃ (s : State) (c : Call), 
    (Called s 0x0502 c) ∧
      let u := s.begun 0x0502 c

      let a := (if bit c.w2 8 then pg 0x002 0 else pg 0x001 0) + fld c.w2 7 0
    (fld c.w2 31 16 ≠ 0 ∨ policyRegs.contains a = false ∨ (fieldRules a c.w3).any (fun r => r.breaks c.w3) = true ∨
        c.w3 &&& ~~~((match regSpec a with | some r => BitVec.ofNat 32 r.writable | none => 0) ||| BitVec.ofNat 32 (roBits a)) ≠ 0)) ∧
    (∃ (s : State) (c : Call), 
    (Called s 0x0502 c) ∧
      let u := s.begun 0x0502 c

      let a := (if bit c.w2 8 then pg 0x002 0 else pg 0x001 0) + fld c.w2 7 0
    (fld c.w2 31 16 = 0) ∧ (policyRegs.contains a = true) ∧ ((fieldRules a c.w3).any (fun r => r.breaks c.w3) = false) ∧ (c.w3 &&& ~~~((match regSpec a with | some r => BitVec.ofNat 32 r.writable | none => 0) ||| BitVec.ofNat 32 (roBits a)) = 0) ∧
      let u1 := u.applyWrite a rGuide c.w3 false
    (a ≠ aSUP 0x28)) ∧
    (∃ (s : State) (c : Call), 
    (Called s 0x0502 c) ∧
      let u := s.begun 0x0502 c

      let a := (if bit c.w2 8 then pg 0x002 0 else pg 0x001 0) + fld c.w2 7 0
    (fld c.w2 31 16 = 0) ∧ (policyRegs.contains a = true) ∧ ((fieldRules a c.w3).any (fun r => r.breaks c.w3) = false) ∧ (c.w3 &&& ~~~((match regSpec a with | some r => BitVec.ofNat 32 r.writable | none => 0) ||| BitVec.ofNat 32 (roBits a)) = 0) ∧
      let u1 := u.applyWrite a rGuide c.w3 false
    (a = aSUP 0x28)) ∧
    (∃ (s : State) (e : Entry), 
    (s.awake = true) ∧ (s.power.entry = some e)) ∧
    (∃ (s : State) (sub : BitVec 15), 
    (s.mode = mSLEEP ∨ s.mode = mBIVOUAC) ∧ (s.power.latched = none)) ∧
    (∃ (s : State) (sub : BitVec 15), 
    (s.power.rebuildTime = true) ∧ (s.rb aSRC_STAT 4 = true)) ∧
    (∃ (s : State) (fails : BitVec 16), 
    (s.power.inReset = false) ∧ (s.power.waking = false) ∧ (s.mode = mSLEEP) ∧ (s.power.latched.isSome = true)) ∧
    (∃ (s : State) (fails : BitVec 16), 
    (s.power.waking = true)) ∧
    (∃ (s : State) (n : BitVec 10) (rising : Bool) (fails : BitVec 16), 
    (n.toNat < 640) ∧ (s.sleepPins = true) ∧ (s.rb (aPMU 0x24) 3 = true) ∧ (s.wakeSelects n.toNat rising = true)) ∧
    (∃ (s : State) (fails : BitVec 16), 
    (s.mode = mSLEEP ∨ s.mode = mBIVOUAC ∨ s.power.sleeper.isSome = true) ∧ (s.rb (aSUP 0x24) 18 = true) ∧ (s.rb (aPMU 0x24) 2 = true)) ∧
    (∃ (s : State) (cost : Nat), 
    (s.power.waiting = [cost]) ∧ (s.power.next = none) ∧ (s.budgetCovers cost = true)) :=
  ⟨⟨live, { w2 := 3 }, 0, 0, by decide +kernel⟩,
   ⟨(inMode mSERVICE), { w2 := 2 }, 0, 0, rcBAD_STATE, by decide +kernel⟩,
   ⟨live, { w2 := 2 }, 0, 0, by decide +kernel⟩,
   ⟨live, { w2 := 2 }, 5, 0, { target := 2, call := { w2 := 2 }, passed := 4, mode := 4 }, by decide +kernel⟩,
   ⟨live, { w2 := 1 }, 1, 0, by decide +kernel⟩,
   ⟨live, { w2 := 1 }, 2, 0, by decide +kernel⟩,
   ⟨live, { w2 := 1 }, 3, 0, by decide +kernel⟩,
   ⟨live, { w2 := 1 }, 4, 0, by decide +kernel⟩,
   ⟨live, { w2 := 0x20 }, by decide +kernel⟩,
   ⟨live, { w2 := 0x24 }, by decide +kernel⟩,
   ⟨live, { w2 := 0x128, w3 := 0x00600000 }, by decide +kernel⟩,
   ⟨(pw fun p => { p with entry := some anEntry }), anEntry, by decide +kernel⟩,
   ⟨(inMode mSLEEP), 0, by decide +kernel⟩,
   ⟨((pw fun p => { p with rebuildTime := true }).setB aSRC_STAT 4 true), 0, by decide +kernel⟩,
   ⟨((inMode mSLEEP).updPower fun p => { p with latched := some (0, 0, true) }), 0, by decide +kernel⟩,
   ⟨(pw fun p => { p with waking := true }), 0, by decide +kernel⟩,
   ⟨(setR (inMode mSLEEP) [(aPMU 0x24, 8), (aPCFG 639, 0x03FFFFFF)]), 639, false, 0, by decide +kernel⟩,
   ⟨(setR (inMode mBIVOUAC) [(aSUP 0x24, 0x40000), (aPMU 0x24, 4)]), 0, by decide +kernel⟩,
   ⟨(pw fun p => { p with waiting := [4000] }), 4000, by decide +kernel⟩⟩

theorem witness_RegisterCommands :
    (∃ (s : State) (r : ReqId) (addr : BitVec 24) (v : Word) (full : Bool) (dwords : BitVec 8), 
    (s.reaches r.toNat = true) ∧ (r.toNat ≠ rHost ∨ dwords.toNat ≤ 16) ∧ (byteAddressed r.toNat = false ∨ addr.toNat % 4 = 0) ∧
      let a := addr.toNat / 4 * 4

      let k := s.checkWrite a r.toNat full v
    (regSpec a = none)) ∧
    (∃ (s : State) (r : ReqId) (addr : BitVec 24) (v : Word) (full : Bool) (dwords : BitVec 8), 
    (s.reaches r.toNat = true) ∧ (r.toNat ≠ rHost ∨ dwords.toNat ≤ 16) ∧ (byteAddressed r.toNat = false ∨ addr.toNat % 4 = 0) ∧
      let a := addr.toNat / 4 * 4

      let k := s.checkWrite a r.toNat full v
    ((regSpec a).isSome = true) ∧ (k.pass = true)) ∧
    (∃ (s : State) (r : ReqId) (addr : BitVec 24) (v : Word) (full : Bool) (dwords : BitVec 8), 
    (s.reaches r.toNat = true) ∧ (r.toNat ≠ rHost ∨ dwords.toNat ≤ 16) ∧ (byteAddressed r.toNat = false ∨ addr.toNat % 4 = 0) ∧
      let a := addr.toNat / 4 * 4

      let k := s.checkWrite a r.toNat full v
    ((regSpec a).isSome = true) ∧ (k.pass = false) ∧ (k.onlyLock = false)) ∧
    (∃ (s : State) (r : ReqId) (addr : BitVec 24) (v : Word) (full : Bool) (dwords : BitVec 8), 
    (s.reaches r.toNat = true) ∧ (r.toNat ≠ rHost ∨ dwords.toNat ≤ 16) ∧ (byteAddressed r.toNat = false ∨ addr.toNat % 4 = 0) ∧
      let a := addr.toNat / 4 * 4

      let k := s.checkWrite a r.toNat full v
    ((regSpec a).isSome = true) ∧ (k.pass = false) ∧ (k.onlyLock = true)) ∧
    (∃ (s : State) (r : ReqId) (addr : BitVec 24) (v : Word) (full : Bool) (poisoned : Bool) (dwords : BitVec 8), 
    (r.toNat = rHost) ∧ (s.reaches rHost = true) ∧ (16 < dwords.toNat)) ∧
    (∃ (s : State) (r : ReqId) (addr : BitVec 24) (v : Word) (full : Bool) (poisoned : Bool) (dwords : BitVec 8), 
    (r.toNat = rHost) ∧ (s.reaches rHost = true) ∧ (dwords.toNat ≤ 16) ∧ (poisoned = true)) ∧
    (∃ (s : State) (r : ReqId) (addr : BitVec 24) (dwords : BitVec 8), 
    (Readable s r) ∧ (r.toNat ≠ rHost ∨ dwords.toNat ≤ 16)) ∧
    (∃ (s : State) (r : ReqId) (addr : BitVec 24) (dwords : BitVec 8), 
    (r.toNat = rHost) ∧ (s.reaches rHost = true) ∧ (16 < dwords.toNat)) ∧
    (∃ (s : State) (r : ReqId) (p : BitVec 12) (v : Word), 
    (Accepted s r (pg p.toNat 0x004) (setBit v 1 true)) ∧ (s.pageEnable p.toNat = bit v 0) ∧ (bit v 2 = false) ∧ ((pageInfo p.toNat).kind ≠ .loop) ∧ ((pageInfo p.toNat).kind ≠ .loopctx)) ∧
    (∃ (s : State) (r : ReqId) (p : BitVec 12) (v : Word), 
    (Accepted s r (pg p.toNat 0x004) (setBit v 2 true)) ∧ (s.pageEnable p.toNat = bit v 0) ∧ (bit v 1 = false)) ∧
    (∃ (s : State) (p : BitVec 12), 
    (s.awake = true) ∧ (s.commitPending p.toNat = true)) :=
  ⟨⟨live, 2, 0x0001FC, 0, false, 0, by decide +kernel⟩,
   ⟨live, 2, 0x018038, 0, true, 0, by decide +kernel⟩,
   ⟨live, 2, 0x018038, 0, false, 0, by decide +kernel⟩,
   ⟨(setR live [(pg 0x018 4, 4)]), 2, 0x018038, 1, true, 0, by decide +kernel⟩,
   ⟨(live.setB aLINK_STAT 8 true), 1, 0, 0, false, false, 17, by decide +kernel⟩,
   ⟨(live.setB aLINK_STAT 8 true), 1, 0, 0, false, true, 16, by decide +kernel⟩,
   ⟨live, 2, 0, 0, by decide +kernel⟩,
   ⟨(live.setB aLINK_STAT 8 true), 1, 0, 255, by decide +kernel⟩,
   ⟨live, 2, 0x018, 0, by decide +kernel⟩,
   ⟨live, 2, 0x018, 0, by decide +kernel⟩,
   ⟨(setR live [(pg 0x018 8, 2)]), 0x018, by decide +kernel⟩⟩

theorem witness_BoughsAndCrossings :
    (∃ (s : State) (r : ReqId) (b : BitVec 7) (v : Word), 
    (s.handshake b.toNat = true) ∧ (s.held b.toNat = false) ∧ (s.pageEnable (0x040 + b.toNat) = true) ∧ (bit v 1 = false) ∧ (bit v 2 = false) ∧ (Accepted s r (pg (0x040 + b.toNat) 0x004) (setBit v 0 false))) ∧
    (∃ (s : State) (r : ReqId) (b : BitVec 7) (v : Word), 
    (s.handshake b.toNat = true) ∧ (s.held b.toNat = false) ∧ (s.pageEnable (0x040 + b.toNat) = false) ∧ (bit v 1 = false) ∧ (bit v 2 = false) ∧ (Accepted s r (pg (0x040 + b.toNat) 0x004) (setBit v 0 true))) ∧
    (∃ (s : State) (r : ReqId) (b : BitVec 7) (v : Word) (on : Bool), 
    (s.handshake b.toNat = false ∨ s.held b.toNat = true) ∧ (bit v 1 = false) ∧ (bit v 2 = false) ∧ (Accepted s r (pg (0x040 + b.toNat) 0x004) (setBit v 0 on))) ∧
    (∃ (s : State) (r : ReqId) (b : BitVec 7) (v : Word), 
    (Accepted s r (aHS_CTL b.toNat) (setBit v 7 true))) ∧
    (∃ (s : State) (b : BitVec 7) (u : BitVec 8), 
    (s.awake = true) ∧ (s.countsEvents b.toNat u.toNat = true) ∧
      let c := (s.bough b.toNat).syncAt u.toNat

      let s0 := s.updBough b.toNat fun x => x.setSync u.toNat { c with flight := c.flight - 1 }
    (c.flight ≠ 0) ∧ (c.pend = 0)) ∧
    (∃ (s : State) (b : BitVec 7) (u : BitVec 8), 
    (s.awake = true) ∧ (s.countsEvents b.toNat u.toNat = true) ∧
      let c := (s.bough b.toNat).syncAt u.toNat

      let s0 := s.updBough b.toNat fun x => x.setSync u.toNat { c with flight := c.flight - 1 }
    (c.flight ≠ 0) ∧ (c.pend ≠ 0)) ∧
    (∃ (s : State) (b : BitVec 7) (u : BitVec 8), 
    (s.awake = true) ∧ (s.countsEvents b.toNat u.toNat = false ∨ ((s.bough b.toNat).syncAt u.toNat).flight = 0)) ∧
    (∃ (s : State) (j : BitVec 6), 
    (s.awake = true) ∧ (s.fabricMasked (256 + j.toNat) = true)) ∧
    (∃ (s : State) (j : BitVec 6), 
    (s.awake = true) ∧ (s.fabricMasked (256 + j.toNat) = false) ∧ (SMap.get (fun _ => false) s.evt.launched (256 + j.toNat) = false)) ∧
    (∃ (s : State) (j : BitVec 6), 
    (s.awake = true) ∧ (s.fabricMasked (256 + j.toNat) = false) ∧ (SMap.get (fun _ => false) s.evt.launched (256 + j.toNat) = true)) ∧
    (∃ (s : State) (j : BitVec 6), 
    (s.awake = true) ∧ (SMap.get (fun _ => false) s.evt.lines j.toNat = true) ∧
      let s1 := { s with evt := { s.evt with lines := SMap.set (fun _ => false) s.evt.lines j.toNat false } }

      let b := SMap.get (fun _ => 0) s.fabric.place.line j.toNat

      let u := SMap.get (fun _ => 0) s.fabric.place.lineCell j.toNat
    (u = 0 ∨ s.held b = true ∨ s.tmode b ≠ 1)) ∧
    (∃ (s : State) (j : BitVec 6), 
    (s.awake = true) ∧ (SMap.get (fun _ => false) s.evt.lines j.toNat = true) ∧
      let s1 := { s with evt := { s.evt with lines := SMap.set (fun _ => false) s.evt.lines j.toNat false } }

      let b := SMap.get (fun _ => 0) s.fabric.place.line j.toNat

      let u := SMap.get (fun _ => 0) s.fabric.place.lineCell j.toNat
    (u ≠ 0) ∧ (s.held b = false) ∧ (s.tmode b = 1)) ∧
    (∃ (s : State) (b : BitVec 7) (n : BitVec 3) (row : BitVec 9) (dbe : Bool), 
    (s.awake = true) ∧ (s.eccLive b.toNat n.toNat = true)) ∧
    (∃ (s : State) (b : BitVec 7) (n : BitVec 3) (row : BitVec 9) (dbe : Bool), 
    (s.awake = true) ∧ (s.eccLive b.toNat n.toNat = false)) :=
  ⟨⟨(setR live [(aBOUGH 127 0x20, 2), (aBOUGH 127 0x28, 1), (pg 0x0BF 4, 1)]), 2, 127, 0, by decide +kernel⟩,
   ⟨(setR live [(aBOUGH 127 0x20, 2), (aBOUGH 127 0x28, 1), (pg 0x0BF 4, 0)]), 2, 127, 0, by decide +kernel⟩,
   ⟨live, 2, 127, 0, false, by decide +kernel⟩,
   ⟨live, 2, 0, 0, by decide +kernel⟩,
   ⟨(runs 127 1 { cfg := { down := [(255, { mode := 2 })] }, sync := [(255, { flight := 1 })] }), 127, 255, by decide +kernel⟩,
   ⟨(runs 127 1 { cfg := { down := [(255, { mode := 2 })] }, sync := [(255, { flight := 1, pend := 2 })] }), 127, 255, by decide +kernel⟩,
   ⟨live, 0, 0, by decide +kernel⟩,
   ⟨live, 0, by decide +kernel⟩,
   ⟨released, 63, by decide +kernel⟩,
   ⟨{ released with evt := { launched := [(319, true)] } }, 63, by decide +kernel⟩,
   ⟨{ live with evt := { lines := [(63, true)] } }, 63, by decide +kernel⟩,
   ⟨(let s := runs 0 1 {}; { s with evt := { lines := [(63, true)] }, fabric := { s.fabric with place := { s.fabric.place with lineCell := [(63, 256)] } } }), 63, by decide +kernel⟩,
   ⟨(runs 0 1 { cfg := { bram := [(7, { ecc := true, a := { width := 6 } })] } }), 0, 7, 0, false, by decide +kernel⟩,
   ⟨live, 0, 0, 0, false, by decide +kernel⟩⟩

theorem witness_HandshakeAndChannels :
    (∃ (s : State) (b : BitVec 7) (j : BitVec 9), 
    (s.awake = true) ∧ (s.handshake b.toNat = true) ∧ (s.held b.toNat = false) ∧ ((s.bough b.toNat).cfg.stages.contains j.toNat = true) ∧ (((s.bough b.toNat).stageAt j.toNat).rin = false) ∧ (((s.bough b.toNat).cfg.stageAt j.toNat).inputs.isEmpty = false) ∧ (((s.bough b.toNat).cfg.stageAt j.toNat).inputs.all (s.request b.toNat j.toNat) = true)) ∧
    (∃ (s : State) (b : BitVec 7) (c : BitVec 5), 
    (s.awake = true) ∧ (s.chanLive b.toNat ((s.bough b.toNat).cfg.ochAt c.toNat) = true) ∧ (((s.bough b.toNat).ochAt c.toNat).ready = true) ∧ (s.wire (.dest b.toNat (2560 + c.toNat)) = some true)) ∧
    (∃ (s : State) (b : BitVec 7) (c : BitVec 5), 
    (s.awake = true) ∧ (s.chanLive b.toNat ((s.bough b.toNat).cfg.ochAt c.toNat) = true) ∧ (((s.bough b.toNat).ochAt c.toNat).ready = true) ∧ (s.wire (.dest b.toNat (2560 + c.toNat)) = some false)) ∧
    (∃ (s : State) (b : BitVec 7) (c : BitVec 5), 
    (s.awake = true) ∧ (s.chanLive b.toNat ((s.bough b.toNat).cfg.ochAt c.toNat) = false ∨
    ((s.bough b.toNat).ochAt c.toNat).ready = false)) ∧
    (∃ (s : State) (b : BitVec 7) (c : BitVec 5) (level : Bool), 
    (s.awake = true) ∧ (s.held b.toNat = false) ∧ (((s.bough b.toNat).cfg.ichAt c.toNat).en = true) ∧ (s.handshake b.toNat = true ∨ s.chanLive b.toNat ((s.bough b.toNat).cfg.ichAt c.toNat) = true) ∧ (((s.bough b.toNat).ichAt c.toNat).next = none) ∧ (((s.bough b.toNat).ichAt c.toNat).valid = false) ∧ (s.reqLevel b.toNat c.toNat = some level) ∧ (level = ((s.bough b.toNat).ichAt c.toNat).seen)) ∧
    (∃ (s : State) (b : BitVec 7) (c : BitVec 5) (level : Bool), 
    (s.awake = true) ∧ (s.held b.toNat = false) ∧ (((s.bough b.toNat).cfg.ichAt c.toNat).en = true) ∧ (s.handshake b.toNat = true ∨ s.chanLive b.toNat ((s.bough b.toNat).cfg.ichAt c.toNat) = true) ∧ (((s.bough b.toNat).ichAt c.toNat).next = none) ∧ (((s.bough b.toNat).ichAt c.toNat).valid = false) ∧ (s.reqLevel b.toNat c.toNat = some level) ∧ (level ≠ ((s.bough b.toNat).ichAt c.toNat).seen)) ∧
    (∃ (s : State) (b : BitVec 7) (c : BitVec 5) (w : BitVec 64), 
    (s.awake = true) ∧ (s.held b.toNat = false) ∧ (((s.bough b.toNat).cfg.ichAt c.toNat).en = true) ∧ (s.handshake b.toNat = true) ∧ (((s.bough b.toNat).ichAt c.toNat).next = some w) ∧ (((s.bough b.toNat).ichAt c.toNat).valid = false)) ∧
    (∃ (s : State) (b : BitVec 7) (c : BitVec 5), 
    (s.awake = true) ∧ (s.chanLive b.toNat ((s.bough b.toNat).cfg.ichAt c.toNat) = true) ∧ (((s.bough b.toNat).ichAt c.toNat).valid = true) ∧
      let s2 := (s.updBough b.toNat fun y => y.setIch c.toNat { (s.bough b.toNat).ichAt c.toNat with
            valid := false, ack := !((s.bough b.toNat).ichAt c.toNat).ack }).settle
    (s.wire (.dest b.toNat (2592 + c.toNat)) = some true) ∧ (s2.slotAt b.toNat c.toNat = none)) ∧
    (∃ (s : State) (b : BitVec 7) (c : BitVec 5) (q : _), 
    (s.awake = true) ∧ (s.chanLive b.toNat ((s.bough b.toNat).cfg.ichAt c.toNat) = true) ∧ (((s.bough b.toNat).ichAt c.toNat).valid = true) ∧
      let s2 := (s.updBough b.toNat fun y => y.setIch c.toNat { (s.bough b.toNat).ichAt c.toNat with
            valid := false, ack := !((s.bough b.toNat).ichAt c.toNat).ack }).settle
    (s.wire (.dest b.toNat (2592 + c.toNat)) = some true) ∧ (s2.slotAt b.toNat c.toNat = some q)) ∧
    (∃ (s : State) (b : BitVec 7) (c : BitVec 5), 
    (s.awake = true) ∧ (s.chanLive b.toNat ((s.bough b.toNat).cfg.ichAt c.toNat) = true) ∧ (((s.bough b.toNat).ichAt c.toNat).valid = true) ∧
      let s2 := (s.updBough b.toNat fun y => y.setIch c.toNat { (s.bough b.toNat).ichAt c.toNat with
            valid := false, ack := !((s.bough b.toNat).ichAt c.toNat).ack }).settle
    (s.wire (.dest b.toNat (2592 + c.toNat)) = some false)) ∧
    (∃ (s : State) (b : BitVec 7), 
    (s.timed = true) ∧ (s.tmode b.toNat ≠ 0) ∧ (s.cadenceEnd b.toNat = s.time.now) ∧ (s.cadenceStep.contains b.toNat = false) ∧ (s.regs.cadWhole.contains b.toNat = true)) ∧
    (∃ (s : State) (b : BitVec 7), 
    (s.timed = true) ∧ (s.tmode b.toNat ≠ 0) ∧ (s.cadenceEnd b.toNat = s.time.now) ∧ (s.cadenceStep.contains b.toNat = true)) ∧
    (∃ (s : State) (b : BitVec 7), 
    (s.timed = true) ∧ (s.tmode b.toNat = 0)) ∧
    (∃ (s : State) (edges : List ClockEdge), 
    ((∀ e ∈ edges, e.falling = false ∧ s.levels.rootRuns e.root.toNat = false))) :=
  ⟨⟨(runs 0 2 { cfg := { ich := [(0, { en := true })], twig := [(255, { ctl := { en := true, rin := [256, 511, 511, 511] } })] }, ich := validIn }), 0, 255, by decide +kernel⟩,
   ⟨(clk 0 (runs 0 1 { cfg := inMux, ich := validIn })), 0, 0, by decide +kernel⟩,
   ⟨(clk 0 (runs 0 1 { cfg := inMux })), 0, 0, by decide +kernel⟩,
   ⟨live, 0, 0, by decide +kernel⟩,
   ⟨(slot0 false (clk 0 (runs 0 1 { cfg := inMux }))), 0, 0, false, by decide +kernel⟩,
   ⟨(slot0 true (clk 0 (runs 0 1 { cfg := inMux }))), 0, 0, true, by decide +kernel⟩,
   ⟨(runs 0 2 { cfg := { ich := [(0, { en := true })] }, ich := [(0, { next := some 7 })] }), 0, 0, 7, by decide +kernel⟩,
   ⟨(clk 0 (runs 0 1 { cfg := inMux, ich := validIn })), 0, 0, by decide +kernel⟩,
   ⟨(slot0 false (clk 0 (runs 0 1 { cfg := inMux, ich := validIn }))), 0, 0, (0 : Nat), by decide +kernel⟩,
   ⟨(clk 0 (runs 0 1 { cfg := { boughDest := [(2592, 2209)], ich := [(0, { en := true })] }, ich := validIn })), 0, 0, by decide +kernel⟩,
   ⟨(let s := runs 127 1 { cadEnd := 256 }; { s with regs := { s.regs with cadWhole := [127] } }), 127, by decide +kernel⟩,
   ⟨(let s := runs 127 1 { cadEnd := 256 }; { s with cadenceStep := [127] }), 127, by decide +kernel⟩,
   ⟨live, 0, by decide +kernel⟩,
   ⟨live, [{ root := 15, falling := false }], by decide +kernel⟩⟩

theorem witness_PllsAndReference :
    (∃ (s : State) (r : ReqId) (p : BitVec 3) (v : Word), 
    (Accepted s r (aPLL p.toNat 0) (setBit v 0 true)) ∧ (s.rb (aPLL p.toNat 0) 0 = false)) ∧
    (∃ (s : State) (r : ReqId) (p : BitVec 3) (v : Word), 
    (Accepted s r (aPLL p.toNat 0) (setBit v 0 false)) ∧ (s.rb (aPLL p.toNat 0) 0 = true)) ∧
    (∃ (s : State) (p : BitVec 3), 
    (s.awake = true) ∧ (s.rb (aPLL p.toNat 0) 0 = true) ∧ (s.fabric.clocks.badPll.contains p.toNat = false) ∧ (s.power.lockWait = none)) ∧
    (∃ (s : State) (p : BitVec 3), 
    (s.awake = true) ∧ (s.rb (aPLL p.toNat 0xC) 0 = true)) ∧
    (∃ (s : State), 
    (s.awake = true) ∧ (s.rb aSRC_STAT 1 = true)) ∧
    (∃ (s : State), 
    (s.awake = true) ∧ (s.time.holdover = false)) ∧
    (∃ (s : State), 
    (s.awake = true) ∧ (s.time.holdover = true)) ∧
    (∃ (s : State), 
    (s.time.running = false) ∧ (s.power.lockWait.isSome = true) ∧ (s.power.rebuildTime = true)) ∧
    (∃ (s : State), 
    (s.time.running = false) ∧ (s.power.lockWait.isSome = true) ∧ (s.power.rebuildTime = false)) ∧
    (∃ (s : State), 
    (s.rb aSRC_CTL 0 = true) ∧ (s.fabric.clocks.xtalFailed = false) ∧ (s.rb aSRC_STAT 3 = false)) ∧
    (∃ (s : State), 
    (s.rb aSRC_STAT 3 = true) ∧ (s.awake = true)) :=
  ⟨⟨live, 2, 7, 0, by decide +kernel⟩,
   ⟨(live.setReg (aPLL 7 0) 1), 2, 7, 0, by decide +kernel⟩,
   ⟨(live.setReg (aPLL 7 0) 1), 7, by decide +kernel⟩,
   ⟨(live.setReg (aPLL 7 0xC) 1), 7, by decide +kernel⟩,
   ⟨(live.setReg aSRC_STAT 2), by decide +kernel⟩,
   ⟨live, by decide +kernel⟩,
   ⟨(tb (fun t => { t with holdover := true }) live), by decide +kernel⟩,
   ⟨{ live with time := {}, power := { live.power with lockWait := some .wakeSleep, rebuildTime := true } }, by decide +kernel⟩,
   ⟨{ live with time := {}, power := { live.power with lockWait := some .cold } }, by decide +kernel⟩,
   ⟨(live.setReg aSRC_CTL 1), by decide +kernel⟩,
   ⟨(live.setReg aSRC_STAT 8), by decide +kernel⟩⟩

theorem witness_ClockSites :
    (∃ (s : State) (r : ReqId) (b : BitVec 7) (c : BitVec 3) (v : Word), 
    (Accepted s r (aBCLK b.toNat c.toNat) v)) ∧
    (∃ (s : State) (r : ReqId) (n : BitVec 4) (v : Word), 
    (Accepted s r (aROOT n.toNat) v)) ∧
    (∃ (s : State) (r : ReqId) (v : Word), 
    (Accepted s r aSRC_CTL v)) ∧
    (∃ (s : State) (b : BitVec 7) (c : BitVec 3), 
    (s.awake = true) ∧
      let a := aBCLK b.toNat c.toNat
    (s.rb a 30 = true) ∧ (s.oldSideOver b.toNat c.toNat = false)) ∧
    (∃ (s : State) (b : BitVec 7) (c : BitVec 3), 
    (s.awake = true) ∧
      let a := aBCLK b.toNat c.toNat
    (s.rb a 30 = true) ∧ (s.oldSideOver b.toNat c.toNat = true) ∧ (s.rootRuns (s.bclkWanted b.toNat c.toNat) = true)) ∧
    (∃ (s : State) (b : BitVec 7) (c : BitVec 3), 
    (s.awake = true) ∧
      let a := aBCLK b.toNat c.toNat
    (s.rb a 30 = true) ∧ (s.oldSideOver b.toNat c.toNat = true) ∧ (s.rootRuns (s.bclkWanted b.toNat c.toNat) = false)) ∧
    (∃ (s : State) (b : BitVec 7) (c : BitVec 3), 
    (s.awake = true) ∧ (s.rb (aBCLK b.toNat c.toNat) 30 = false)) ∧
    (∃ (s : State) (n : BitVec 4), 
    (s.awake = true) ∧
      let a := aROOT n.toNat
    (s.rb a 30 = true) ∧ (s.rootRuns n.toNat = true)) ∧
    (∃ (s : State) (n : BitVec 4), 
    (s.awake = true) ∧
      let a := aROOT n.toNat
    (s.rb a 30 = true) ∧ (s.rootRuns n.toNat = false) ∧ (s.sourceRuns (s.rf a 5 0) = true)) ∧
    (∃ (s : State) (n : BitVec 4), 
    (s.awake = true) ∧
      let a := aROOT n.toNat
    (s.rb a 30 = true) ∧ (s.rootRuns n.toNat = false) ∧ (s.sourceRuns (s.rf a 5 0) = false)) ∧
    (∃ (s : State), 
    (s.awake = true) ∧ (s.fabric.clocks.guideSw = true) ∧ (s.guideWanted ≠ 1 ∨ s.time.running = true)) ∧
    (∃ (s : State) (r : ReqId) (b : BitVec 7) (v : Word), 
    (Accepted s r (aXMERGE b.toNat) (setBit v 15 true))) :=
  ⟨⟨live, 2, 127, 7, 0, by decide +kernel⟩,
   ⟨live, 2, 15, 0, by decide +kernel⟩,
   ⟨live, 2, 0, by decide +kernel⟩,
   ⟨((setR live [(aBCLK 127 7, 0x40000000), (aROOT 0, 0x80220000)]).updClocks fun c => { c with switches := [(1023, some { source := 0, moves := true })] }), 127, 7, by decide +kernel⟩,
   ⟨(setR live [(aBCLK 127 7, 0x44000010), (aROOT 1, 0x80220022)]), 127, 7, by decide +kernel⟩,
   ⟨(setR live [(aBCLK 127 7, 0x44000010)]), 127, 7, by decide +kernel⟩,
   ⟨live, 127, 7, by decide +kernel⟩,
   ⟨(setR live [(aROOT 15, 0xC0220022)]), 15, by decide +kernel⟩,
   ⟨(setR live [(aROOT 15, 0x40220022)]), 15, by decide +kernel⟩,
   ⟨(setR live [(aROOT 15, 0x40000024)]), 15, by decide +kernel⟩,
   ⟨(live.updClocks fun c => { c with guideSw := true }), by decide +kernel⟩,
   ⟨live, 2, 0, 0, by decide +kernel⟩⟩

theorem witness_TimeSteps :
    (∃ (s : State), 
    (s.awake = true) ∧ (s.commitPending 0x018 = true) ∧ (s.timeAtOnce = true) ∧ (fld (s.shadow (aTIME 0x40)) 1 0 = 1)) ∧
    (∃ (s : State), 
    (s.awake = true) ∧ (s.commitPending 0x018 = true) ∧ (s.timeAtOnce = true) ∧ (fld (s.shadow (aTIME 0x40)) 1 0 = 2)) ∧
    (∃ (s : State), 
    (s.awake = true) ∧ (s.timeAtOnce = false)) ∧
    (∃ (s : State) (v : DevTime), 
    (s.timed = true) ∧ (s.time.step = some (.toValue v)) ∧
      let s1 := s.reach s.time.stepAt

      let s2 := s1.stepTo (v + (s1.time.now - s.time.stepAt))
    (s2.refSrc = 0)) ∧
    (∃ (s : State) (v : DevTime), 
    (s.timed = true) ∧ (s.time.step = some (.toValue v)) ∧
      let s1 := s.reach s.time.stepAt

      let s2 := s1.stepTo (v + (s1.time.now - s.time.stepAt))
    (s2.refSrc ≠ 0) ∧ (s2.quality = qUNSET)) ∧
    (∃ (s : State) (v : DevTime), 
    (s.timed = true) ∧ (s.time.step = some (.toValue v)) ∧
      let s1 := s.reach s.time.stepAt

      let s2 := s1.stepTo (v + (s1.time.now - s.time.stepAt))
    (s2.refSrc ≠ 0) ∧ (s2.quality ≠ qUNSET)) ∧
    (∃ (s : State) (d : Int), 
    (s.timed = true) ∧ (s.time.step = some (.byUnits d)) ∧
      let s1 := s.reach s.time.stepAt

      let s2 := s1.stepTo (BitVec.ofInt 72 ((s1.time.now.toNat : Int) + d))

      let s3 := { s2 with time := { s2.time with good := 0 } }
    (s2.servoRuns = true ∨ s2.quality = qUNSET)) ∧
    (∃ (s : State) (d : Int), 
    (s.timed = true) ∧ (s.time.step = some (.byUnits d)) ∧
      let s1 := s.reach s.time.stepAt

      let s2 := s1.stepTo (BitVec.ofInt 72 ((s1.time.now.toNat : Int) + d))

      let s3 := { s2 with time := { s2.time with good := 0 } }
    (s2.servoRuns = false) ∧ (s2.quality ≠ qUNSET)) ∧
    (∃ (s : State), 
    (s.timed = true) ∧ (s.servoRuns = true) ∧ (s.refSrc = 1) ∧ (s.rb (pg 0x548 0x020) 8 = false) ∧ (s.commitPending 0x018 = false) ∧
      let u := ((s.reg (aTIME 0x54)).toNat * 2 ^ 32 + (s.reg (aTIME 0x50)).toNat) * 256 + s.rf (aTIME 0x58) 7 0

      let e := s.ppsOffset u + s.time.adj
    (2 ^ s.rf (aTIME 0x20) 11 8 * 1000 * 256 < e.natAbs)) ∧
    (∃ (s : State), 
    (s.timed = true) ∧ (s.servoRuns = true) ∧ (s.refSrc = 1) ∧ (s.rb (pg 0x548 0x020) 8 = false) ∧ (s.commitPending 0x018 = false) ∧
      let u := ((s.reg (aTIME 0x54)).toNat * 2 ^ 32 + (s.reg (aTIME 0x50)).toNat) * 256 + s.rf (aTIME 0x58) 7 0

      let e := s.ppsOffset u + s.time.adj

      let t := s.measure (s.ppsOffset u)

      let f := clampRat (-maxRate) maxRate (s.time.f - (e : Rat) / 256 / (256 * (s.servoInterval : Rat)))
    (e.natAbs ≤ 2 ^ s.rf (aTIME 0x20) 11 8 * 1000 * 256)) ∧
    (∃ (s : State), 
    (s.timed = true) ∧ (s.servoRuns = true) ∧ (s.refSrc = 1) ∧ (s.rb (pg 0x548 0x020) 8 = true)) ∧
    (∃ (s : State), 
    (s.timed = true) ∧ (s.servoRuns = true) ∧ (s.time.refLost = false) ∧ (s.commitPending 0x018 = false)) :=
  ⟨⟨(let s := setR live [(pg 0x018 8, 2)]; { s with regs := { s.regs with shd := [(aTIME 0x40, 1)] } }), by decide +kernel⟩,
   ⟨(let s := setR live [(pg 0x018 8, 2)]; { s with regs := { s.regs with shd := [(aTIME 0x40, 2)] } }), by decide +kernel⟩,
   ⟨(setR live [(pg 0x018 4, 1), (aTIME 0x20, 1), (aTIME_STAT, 2)]), by decide +kernel⟩,
   ⟨(tb (fun t => { t with step := some (.toValue 0x123456789) }) live), 0x123456789, by decide +kernel⟩,
   ⟨(setR (tb (fun t => { t with step := some (.toValue 256000) }) live) [(aTIME 0x20, 1), (aTIME_STAT, 0)]), 256000, by decide +kernel⟩,
   ⟨(setR (tb (fun t => { t with step := some (.toValue 256000) }) live) [(aTIME 0x20, 1), (aTIME_STAT, 2)]), 256000, by decide +kernel⟩,
   ⟨(setR ((tb (fun t => { t with step := some (.byUnits (-300)) }) live)) [(pg 0x018 4, 1), (aTIME 0x20, 1)]), (-300), by decide +kernel⟩,
   ⟨(setR ((tb (fun t => { t with step := some (.byUnits (-300)) }) live)) [(aTIME_STAT, 4)]), (-300), by decide +kernel⟩,
   ⟨(setR live [(pg 0x018 4, 1), (aTIME 0x20, 1), (aTIME 0x50, 100000000)]), by decide +kernel⟩,
   ⟨(setR live [(pg 0x018 4, 1), (aTIME 0x20, 1)]), by decide +kernel⟩,
   ⟨(setR live [(pg 0x018 4, 1), (aTIME 0x20, 1), (pg 0x548 0x020, 0x100)]), by decide +kernel⟩,
   ⟨(setR live [(pg 0x018 4, 1), (aTIME 0x20, 2), (aTIME 0x50, 100000000)]), by decide +kernel⟩⟩

theorem witness_TimeInstants :
    (∃ (s : State) (e : DevTime), 
    (s.timed = true) ∧ (laterThan e s.time.now = false)) ∧
    (∃ (s : State), 
    (s.timed = true)) ∧
    (∃ (s : State) (r : ReqId), 
    (Readable s r) ∧ (s.snap (localSnap r.toNat (aTIME 0x24)) = none)) :=
  ⟨⟨live, default, by decide +kernel⟩,
   ⟨live, by decide +kernel⟩,
   ⟨live, 2, by decide +kernel⟩⟩

theorem witness_EdgeQueue :
    (∃ (s : State) (r : ReqId) (p : BitVec 8) (v : Word), 
    (Accepted s r (aEDGE p.toNat 0x28) v)) ∧
    (∃ (s : State) (r : ReqId) (p : BitVec 8) (v : Word), 
    (Accepted s r (aEDGE p.toNat 0x2C) v)) ∧
    (∃ (s : State) (p : BitVec 8) (q : QueueEntry) (l : List QueueEntry), 
    (s.timed = true) ∧ (s.edgeMode p.toNat = 1) ∧ (s.edgeOn p.toNat = true) ∧ ((s.edgeUnit p.toNat).queue = q :: l) ∧ ((s.edgeUnit p.toNat).headLate = false)) ∧
    (∃ (s : State) (p : BitVec 8) (q : QueueEntry) (l : List QueueEntry), 
    (s.timed = true) ∧ (s.edgeMode p.toNat = 1) ∧ (s.edgeOn p.toNat = true) ∧ ((s.edgeUnit p.toNat).queue = q :: l) ∧ ((s.edgeUnit p.toNat).headLate = true) ∧ (s.rb (aEDGE p.toNat 0x20) 16 = true)) ∧
    (∃ (s : State) (p : BitVec 8) (q : QueueEntry) (l : List QueueEntry), 
    (s.timed = true) ∧ (s.edgeMode p.toNat = 1) ∧ (s.edgeOn p.toNat = true) ∧ ((s.edgeUnit p.toNat).queue = q :: l) ∧ ((s.edgeUnit p.toNat).headLate = true) ∧ (s.rb (aEDGE p.toNat 0x20) 16 = false)) ∧
    (∃ (s : State) (r : ReqId) (p : BitVec 8) (v : Word), 
    (Accepted s r (pg (0x100 + p.toNat) 0x004) (setBit v 0 false)) ∧ (s.pageEnable (0x100 + p.toNat) = true) ∧ (bit v 1 = false) ∧ (bit v 2 = false)) ∧
    (∃ (s : State) (r : ReqId) (p : BitVec 8) (v : Word), 
    (Accepted s r (pg (0x100 + p.toNat) 0x004) (setBit v 0 false)) ∧ (s.pageEnable (0x100 + p.toNat) = false) ∧ (bit v 1 = false) ∧ (bit v 2 = false)) ∧
    (∃ (s : State) (r : ReqId) (p : BitVec 8) (v : Word), 
    (Accepted s r (pg (0x100 + p.toNat) 0x004) (setBit v 0 true)) ∧ (s.pageEnable (0x100 + p.toNat) = false) ∧ (bit v 1 = false) ∧ (bit v 2 = false)) ∧
    (∃ (s : State) (r : ReqId) (v : Word), 
    (Accepted s r (pg 0x210 0x30) v)) :=
  ⟨⟨live, 2, 255, 0, by decide +kernel⟩,
   ⟨live, 2, 255, 0, by decide +kernel⟩,
   ⟨(unitAt 255 { queue := [anEntryQ], headLate := false } (setR live [(pg 0x1FF 4, 1), (aEDGE 255 0x20, 1)])), 255, anEntryQ, [], by decide +kernel⟩,
   ⟨(unitAt 255 { queue := [anEntryQ], headLate := true } (setR live [(pg 0x1FF 4, 1), (aEDGE 255 0x20, 0x10001)])), 255, anEntryQ, [], by decide +kernel⟩,
   ⟨(unitAt 255 { queue := [anEntryQ], headLate := true } (setR live [(pg 0x1FF 4, 1), (aEDGE 255 0x20, 1)])), 255, anEntryQ, [], by decide +kernel⟩,
   ⟨(setR live [(pg 0x1FF 4, 1)]), 2, 255, 0, by decide +kernel⟩,
   ⟨live, 2, 255, 0, by decide +kernel⟩,
   ⟨live, 2, 0, 0, by decide +kernel⟩,
   ⟨live, 2, 0, by decide +kernel⟩⟩

theorem witness_PwmAndCapture :
    (∃ (s : State) (p : BitVec 8) (n : DevTime), 
    (s.timed = true) ∧ (s.edgeOn p.toNat = true) ∧ (s.edgeMode p.toNat = 2) ∧ ((s.edgeUnit p.toNat).pwmNext = some n) ∧
      let s1 := (s.pwmFinish p.toNat).reach n

      let s2 := if s1.commitPending (0x100 + p.toNat) then s1.edgeTransfer p.toNat else s1
    (s2.edgePer p.toNat = 0)) ∧
    (∃ (s : State) (p : BitVec 8) (n : DevTime), 
    (s.timed = true) ∧ (s.edgeOn p.toNat = true) ∧ (s.edgeMode p.toNat = 2) ∧ ((s.edgeUnit p.toNat).pwmNext = some n) ∧
      let s1 := (s.pwmFinish p.toNat).reach n

      let s2 := if s1.commitPending (0x100 + p.toNat) then s1.edgeTransfer p.toNat else s1
    (s2.edgePer p.toNat ≠ 0)) ∧
    (∃ (s : State) (p : BitVec 8) (st : DevTime), 
    (s.timed = true) ∧ ((s.edgeUnit p.toNat).pwmStart = some st) ∧ ((s.edgeUnit p.toNat).riseDone = false) ∧ (s.edgeRise p.toNat < s.edgePer p.toNat)) ∧
    (∃ (s : State) (p : BitVec 8) (st : DevTime), 
    (s.timed = true) ∧ ((s.edgeUnit p.toNat).pwmStart = some st) ∧ ((s.edgeUnit p.toNat).fallDone = false) ∧ (s.edgeFall p.toNat < s.edgePer p.toNat)) ∧
    (∃ (s : State) (p : BitVec 8) (falling : Bool) (e : DevTime), 
    (s.timed = true) ∧ (laterThan e s.time.now = false) ∧ (s.capSelects p.toNat falling = true) ∧
      let soon := (s.edgeUnit p.toNat).lastCapture.any fun c => shortSpacing s.time.now c
    (soon = false) ∧ ((s.edgeUnit p.toNat).captures.length < 16)) ∧
    (∃ (s : State) (p : BitVec 8) (falling : Bool) (e : DevTime), 
    (s.timed = true) ∧ (laterThan e s.time.now = false) ∧ (s.capSelects p.toNat falling = true) ∧
      let soon := (s.edgeUnit p.toNat).lastCapture.any fun c => shortSpacing s.time.now c
    (soon = true ∨ 16 ≤ (s.edgeUnit p.toNat).captures.length)) ∧
    (∃ (s : State) (r : ReqId) (p : BitVec 8) (c : Capture) (l : List Capture), 
    (Readable s r) ∧ (s.snap (localSnap r.toNat (aEDGE p.toNat 0x50)) = none) ∧ ((s.edgeUnit p.toNat).captures = c :: l)) :=
  ⟨⟨(unitAt 255 { pwmNext := some 2560, pwmStart := some 0 } (setR live [(pg 0x1FF 4, 1), (aEDGE 255 0x20, 2), (aEDGE 255 0x30, 0)])), 255, 2560, by decide +kernel⟩,
   ⟨(unitAt 255 { pwmNext := some 2560, pwmStart := some 0 } (setR live [(pg 0x1FF 4, 1), (aEDGE 255 0x20, 2), (aEDGE 255 0x30, 1000)])), 255, 2560, by decide +kernel⟩,
   ⟨(unitAt 255 { pwmNext := some 2560, pwmStart := some 0 } (setR live [(pg 0x1FF 4, 1), (aEDGE 255 0x20, 2), (aEDGE 255 0x30, 1000)])), 255, 0, by decide +kernel⟩,
   ⟨(unitAt 255 { pwmNext := some 2560, pwmStart := some 0 } (setR live [(pg 0x1FF 4, 1), (aEDGE 255 0x20, 2), (aEDGE 255 0x30, 1000)])), 255, 0, by decide +kernel⟩,
   ⟨(unitAt 255 { captures := List.replicate 15 aCapture } (setR live [(pg 0x1FF 4, 1), (aEDGE 255 0x20, 0x00E00000)])), 255, false, 0, by decide +kernel⟩,
   ⟨(unitAt 255 { captures := List.replicate 16 aCapture } (setR live [(pg 0x1FF 4, 1), (aEDGE 255 0x20, 0x00E00000)])), 255, false, 0, by decide +kernel⟩,
   ⟨(unitAt 255 { captures := List.replicate 2 aCapture } (setR live [(pg 0x1FF 4, 1), (aEDGE 255 0x20, 0x00E00000)])), 2, 255, aCapture, [aCapture], by decide +kernel⟩⟩

theorem witness_EdgeCalibration :
    (∃ (s : State) (i : BitVec 2), 
    (s.timed = true) ∧ (s.rb (aCAL i.toNat 0x20) 16 = true) ∧ (s.rb (aCAL i.toNat 0x24) 31 = true) ∧
      let s1 := match (s.calEngine i.toNat).startedAt with
            | some t => s.reach (t + ns (1000000 * s.calPeriod i.toNat))
            | none => s
    ((s1.calEngine i.toNat).active = true)) ∧
    (∃ (s : State) (i : BitVec 2), 
    (s.timed = true) ∧ (s.rb (aCAL i.toNat 0x20) 16 = true) ∧ (s.rb (aCAL i.toNat 0x24) 31 = true) ∧
      let s1 := match (s.calEngine i.toNat).startedAt with
            | some t => s.reach (t + ns (1000000 * s.calPeriod i.toNat))
            | none => s
    ((s1.calEngine i.toNat).active = false)) ∧
    (∃ (s : State) (p : BitVec 8), 
    (s.timed = true) ∧ ((s.calEngine (p.toNat / 64)).active = true) ∧ ((s.calEngine (p.toNat / 64)).handled = p.toNat % 64) ∧
      let i := p.toNat / 64

      let c := s.calEngine i

      let s1 := (s.setCal i { c with handled := c.handled + 1 }).setF (aCAL i 0x24) 21 16 (min 63 (c.handled + 1))
    ((s1.edgeUnit p.toNat).idleFailed = false)) ∧
    (∃ (s : State) (p : BitVec 8), 
    (s.timed = true) ∧ ((s.calEngine (p.toNat / 64)).active = true) ∧ ((s.calEngine (p.toNat / 64)).handled = p.toNat % 64) ∧
      let i := p.toNat / 64

      let c := s.calEngine i

      let s1 := (s.setCal i { c with handled := c.handled + 1 }).setF (aCAL i 0x24) 21 16 (min 63 (c.handled + 1))
    ((s1.edgeUnit p.toNat).idleFailed = true)) ∧
    (∃ (s : State) (p : BitVec 8) (t : DevTime), 
    (s.timed = true) ∧ ((s.edgeUnit p.toNat).armed = some t) ∧
      let near := (s.outEdges p.toNat).any fun e => (e - s.time.now).toNat ≤ 512 || (s.time.now - e).toNat ≤ 512
    (laterThan s.time.now (t + ns 1000000) = false) ∧ (near = false)) ∧
    (∃ (s : State) (p : BitVec 8) (t : DevTime), 
    (s.timed = true) ∧ ((s.edgeUnit p.toNat).armed = some t) ∧
      let near := (s.outEdges p.toNat).any fun e => (e - s.time.now).toNat ≤ 512 || (s.time.now - e).toNat ≤ 512
    (laterThan s.time.now (t + ns 1000000) = false) ∧ (near = true)) ∧
    (∃ (s : State) (p : BitVec 8) (t : DevTime), 
    (s.timed = true) ∧ ((s.edgeUnit p.toNat).armed = some t) ∧
      let near := (s.outEdges p.toNat).any fun e => (e - s.time.now).toNat ≤ 512 || (s.time.now - e).toNat ≤ 512
    (laterThan s.time.now (t + ns 1000000) = true)) ∧
    (∃ (s : State) (i : BitVec 2), 
    (s.timed = true) ∧ (s.rb (aCAL i.toNat 0x24) 31 = false) ∧ (s.power.loopGroupDue = false)) :=
  ⟨⟨{ (setR live [(aCAL 3 0x20, 0x10000), (aCAL 3 0x24, 0x80000000)]) with cal := [(3, { active := true })] }, 3, by decide +kernel⟩,
   ⟨(setR live [(aCAL 3 0x20, 0x10000), (aCAL 3 0x24, 0x80000000)]), 3, by decide +kernel⟩,
   ⟨{ live with cal := [(3, { active := true, handled := 63 })] }, 255, by decide +kernel⟩,
   ⟨{ (unitAt 255 { idleFailed := true } live) with cal := [(3, { active := true, handled := 63 })] }, 255, by decide +kernel⟩,
   ⟨(unitAt 255 { armed := some 77 } live), 255, 77, by decide +kernel⟩,
   ⟨(unitAt 255 { armed := some 77, lastEdge := some 0 } live), 255, 77, by decide +kernel⟩,
   ⟨(nowAt 300000000 (unitAt 255 { armed := some 77 } live)), 255, 77, by decide +kernel⟩,
   ⟨live, 3, by decide +kernel⟩⟩

theorem witness_SigmaDeltaOutputs :
    (∃ (s : State) (r : ReqId) (c : BitVec 6) (v : Word), 
    (Accepted s r (aSDF c.toNat 0) (setBit v 0 true)) ∧ (s.rb (aSDF c.toNat 0) 0 = false)) ∧
    (∃ (s : State) (r : ReqId) (c : BitVec 6) (v : Word), 
    (Accepted s r (aSDF c.toNat 0) (setBit v 0 false))) ∧
    (∃ (s : State) (c : BitVec 6), 
    (s.timed = true) ∧ ((s.sdfChan c.toNat).started = false) ∧ (s.rb (aSDF c.toNat 0x14) 0 = true) ∧
      let done (u : State) := (u.setSdf c.toNat { s.sdfChan c.toNat with gen := none, stopEnd := none }).setB (aSDF c.toNat 0x14) 0 false
    ((s.sdfChan c.toNat).stopEnd = none)) ∧
    (∃ (s : State) (c : BitVec 6) (e : _), 
    (s.timed = true) ∧ ((s.sdfChan c.toNat).started = false) ∧ (s.rb (aSDF c.toNat 0x14) 0 = true) ∧
      let done (u : State) := (u.setSdf c.toNat { s.sdfChan c.toNat with gen := none, stopEnd := none }).setB (aSDF c.toNat 0x14) 0 false
    ((s.sdfChan c.toNat).stopEnd = some e)) ∧
    (∃ (s : State) (c : BitVec 6) (o : SdfOutput), 
    (s.timed = true) ∧ ((s.sdfChan c.toNat).out = some o) ∧ (laterThan o.due s.time.now = false)) :=
  ⟨⟨live, 2, 63, 0, by decide +kernel⟩,
   ⟨live, 2, 63, 0, by decide +kernel⟩,
   ⟨(setR live [(aSDF 63 0x14, 1)]), 63, by decide +kernel⟩,
   ⟨((chanAt 63 { stopEnd := some 99 }).setReg (aSDF 63 0x14) 1), 63, (99 : DevTime), by decide +kernel⟩,
   ⟨(chanAt 63 { out := some anOutput }), 63, anOutput, by decide +kernel⟩⟩

theorem witness_SigmaDeltaFaults :
    (∃ (s : State) (c : BitVec 6) (t : DevTime) (q : Nat), 
    (s.timed = true) ∧ ((s.sdfChan c.toNat).hiTrip = some (t, q))) ∧
    (∃ (s : State) (c : BitVec 6) (t : DevTime) (q : Nat), 
    (s.timed = true) ∧ ((s.sdfChan c.toNat).loTrip = some (t, q))) ∧
    (∃ (s : State) (c : BitVec 6) (at_ : DevTime), 
    (s.timed = true) ∧ (laterThan at_ s.time.now = false) ∧ ((s.sdfChan c.toNat).started = true) ∧ (s.sdfDriver c.toNat = none) ∧ (s.sdfEarly c.toNat = true)) ∧
    (∃ (s : State) (c : BitVec 6) (at_ : DevTime), 
    (s.timed = true) ∧ (laterThan at_ s.time.now = false) ∧ ((s.sdfChan c.toNat).started = true) ∧ (s.sdfDriver c.toNat = none) ∧ (s.sdfEarly c.toNat = false)) ∧
    (∃ (s : State) (c : BitVec 6), 
    (s.timed = true) ∧ ((s.sdfChan c.toNat).runTrip = true)) ∧
    (∃ (s : State) (c : BitVec 6) (b : Bool) (at_ : DevTime) (e : DevTime) (k : Nat), 
    (s.timed = true) ∧ ((s.sdfChan c.toNat).started = true) ∧ (s.sdfDriver c.toNat = some k) ∧ (s.genEdge k (s.rb (aSDF c.toNat 0) 2) (s.sdfChan c.toNat).since = some e) ∧
      let s1 (d : DevTime) := (s.reach d).setSdf c.toNat { s.sdfChan c.toNat with since := e }
    (s.sdfGen c.toNat = true)) ∧
    (∃ (s : State) (c : BitVec 6) (b : Bool) (at_ : DevTime) (e : DevTime) (k : Nat), 
    (s.timed = true) ∧ ((s.sdfChan c.toNat).started = true) ∧ (s.sdfDriver c.toNat = some k) ∧ (s.genEdge k (s.rb (aSDF c.toNat 0) 2) (s.sdfChan c.toNat).since = some e) ∧
      let s1 (d : DevTime) := (s.reach d).setSdf c.toNat { s.sdfChan c.toNat with since := e }
    (s.sdfGen c.toNat = false)) ∧
    (∃ (s : State) (c : BitVec 6) (b : Bool) (at_ : DevTime), 
    (s.timed = true) ∧ (laterThan at_ s.time.now = false) ∧ ((s.sdfChan c.toNat).started = true) ∧ (s.sdfDriver c.toNat = none) ∧ (s.sdfEarly c.toNat = true)) ∧
    (∃ (s : State) (c : BitVec 6) (b : Bool) (at_ : DevTime), 
    (s.timed = true) ∧ (laterThan at_ s.time.now = false) ∧ ((s.sdfChan c.toNat).started = true) ∧ (s.sdfDriver c.toNat = none) ∧ (s.sdfEarly c.toNat = false)) :=
  ⟨⟨(chanAt 63 { hiTrip := some (9, 1) }), 63, 9, 1, by decide +kernel⟩,
   ⟨(chanAt 63 { loTrip := some (9, 1) }), 63, 9, 1, by decide +kernel⟩,
   ⟨(chanAt 63 { started := true, lastEdge := some 0 }), 63, 0, by decide +kernel⟩,
   ⟨(chanAt 63 { started := true }), 63, 0, by decide +kernel⟩,
   ⟨(chanAt 63 { runTrip := true }), 63, by decide +kernel⟩,
   ⟨(setR (chanAt 63 { started := true, gen := some 2560 }) [(aSDF 63 0, 3), (aSDF 63 8, 0x40)]), 63, false, 0, 2560, 63, by decide +kernel⟩,
   ⟨(setR { (chanAt 62 { started := true, gen := some 2560 }) with sdf := [(62, { started := true, gen := some 2560 }), (63, { started := true })] } [(aSDF 62 0, 3), (aSDF 62 8, 0x40), (aSDF 63 0, 1)]), 63, false, 0, 2560, 62, by decide +kernel⟩,
   ⟨(chanAt 63 { started := true, lastEdge := some 0 }), 63, false, 0, by decide +kernel⟩,
   ⟨(chanAt 63 { started := true }), 63, false, 0, by decide +kernel⟩⟩

theorem witness_LoopTriggers :
    (∃ (s : State) (n : BitVec 10) (ecc : BitVec 2), 
    (s.timed = true) ∧ (s.cRunning n.toNat = true) ∧ (s.cKind n.toNat = 0) ∧
      let c := s.ctx n.toNat

      let g := gridAt (s.cPeriod n.toNat) (s.reg (aCTX n.toNat 0x4C)).toNat (if laterThan c.notBefore s.time.now then c.notBefore else s.time.now)

      let s1 := s.reach g

      let s2 := s1.setCtx n.toNat { s1.ctx n.toNat with notBefore := g + ns 1 }

      let quiet := s2.power.entry.any fun e => decide (1 ≤ e.passed)

      let skipped := laterThan (s1.ctx n.toNat).notBefore g
    (skipped = true)) ∧
    (∃ (s : State) (n : BitVec 10), 
    (s.timed = true) ∧ (s.cRunning n.toNat = true) ∧ (s.cKind n.toNat = 0) ∧
      let c := s.ctx n.toNat

      let g := gridAt (s.cPeriod n.toNat) (s.reg (aCTX n.toNat 0x4C)).toNat (if laterThan c.notBefore s.time.now then c.notBefore else s.time.now)

      let s1 := s.reach g

      let s2 := s1.setCtx n.toNat { s1.ctx n.toNat with notBefore := g + ns 1 }

      let quiet := s2.power.entry.any fun e => decide (1 ≤ e.passed)

      let skipped := laterThan (s1.ctx n.toNat).notBefore g
    (skipped = false) ∧ (quiet = false)) ∧
    (∃ (s : State) (n : BitVec 10) (ecc : BitVec 2), 
    (s.timed = true) ∧ (s.cRunning n.toNat = true) ∧ (s.cKind n.toNat = 0) ∧
      let c := s.ctx n.toNat

      let g := gridAt (s.cPeriod n.toNat) (s.reg (aCTX n.toNat 0x4C)).toNat (if laterThan c.notBefore s.time.now then c.notBefore else s.time.now)

      let s1 := s.reach g

      let s2 := s1.setCtx n.toNat { s1.ctx n.toNat with notBefore := g + ns 1 }

      let quiet := s2.power.entry.any fun e => decide (1 ≤ e.passed)

      let skipped := laterThan (s1.ctx n.toNat).notBefore g
    (skipped = false) ∧ (quiet = true)) ∧
    (∃ (s : State) (n : BitVec 10) (ecc : BitVec 2), 
    (s.timed = true) ∧ (s.cRunning n.toNat = true) ∧ (s.cKind n.toNat = 1) ∧ (s.trigCount n.toNat ≠ (s.ctx n.toNat).eventSeen) ∧
      let s1 := s.setCtx n.toNat { s.ctx n.toNat with eventSeen := (s.ctx n.toNat).eventSeen + 1 }

      let early := (s1.ctx n.toNat).lastTrigger.any fun t => laterThan (t + ns (s1.cPeriod n.toNat)) s.time.now
    (s1.inAbseil n.toNat = true ∨ laterThan (s1.ctx n.toNat).notBefore s.time.now = true)) ∧
    (∃ (s : State) (n : BitVec 10) (ecc : BitVec 2), 
    (s.timed = true) ∧ (s.cRunning n.toNat = true) ∧ (s.cKind n.toNat = 1) ∧ (s.trigCount n.toNat ≠ (s.ctx n.toNat).eventSeen) ∧
      let s1 := s.setCtx n.toNat { s.ctx n.toNat with eventSeen := (s.ctx n.toNat).eventSeen + 1 }

      let early := (s1.ctx n.toNat).lastTrigger.any fun t => laterThan (t + ns (s1.cPeriod n.toNat)) s.time.now
    (s1.inAbseil n.toNat = false) ∧ (laterThan (s1.ctx n.toNat).notBefore s.time.now = false) ∧ (early = true)) ∧
    (∃ (s : State) (n : BitVec 10) (ecc : BitVec 2), 
    (s.timed = true) ∧ (s.cRunning n.toNat = true) ∧ (s.cKind n.toNat = 1) ∧ (s.trigCount n.toNat ≠ (s.ctx n.toNat).eventSeen) ∧
      let s1 := s.setCtx n.toNat { s.ctx n.toNat with eventSeen := (s.ctx n.toNat).eventSeen + 1 }

      let early := (s1.ctx n.toNat).lastTrigger.any fun t => laterThan (t + ns (s1.cPeriod n.toNat)) s.time.now
    (s1.inAbseil n.toNat = false) ∧ (laterThan (s1.ctx n.toNat).notBefore s.time.now = false) ∧ (early = false)) ∧
    (∃ (s : State) (n : BitVec 10) (ecc : BitVec 2) (a : DevTime), 
    (s.timed = true) ∧ (s.cRunning n.toNat = true) ∧ (s.cKind n.toNat = 2) ∧ (s.trigArrival n.toNat = some a) ∧ ((s.ctx n.toNat).sampleSeen ≠ some a) ∧
      let s1 := s.takeTrigger n.toNat

      let early := (s1.ctx n.toNat).lastTrigger.any fun t => laterThan (t + ns (s1.cPeriod n.toNat)) a
    (s1.inAbseil n.toNat = true ∨ laterThan (s1.ctx n.toNat).notBefore a = true)) ∧
    (∃ (s : State) (n : BitVec 10) (ecc : BitVec 2) (a : DevTime), 
    (s.timed = true) ∧ (s.cRunning n.toNat = true) ∧ (s.cKind n.toNat = 2) ∧ (s.trigArrival n.toNat = some a) ∧ ((s.ctx n.toNat).sampleSeen ≠ some a) ∧
      let s1 := s.takeTrigger n.toNat

      let early := (s1.ctx n.toNat).lastTrigger.any fun t => laterThan (t + ns (s1.cPeriod n.toNat)) a
    (s1.inAbseil n.toNat = false) ∧ (laterThan (s1.ctx n.toNat).notBefore a = false) ∧ (early = true)) ∧
    (∃ (s : State) (n : BitVec 10) (ecc : BitVec 2) (a : DevTime), 
    (s.timed = true) ∧ (s.cRunning n.toNat = true) ∧ (s.cKind n.toNat = 2) ∧ (s.trigArrival n.toNat = some a) ∧ ((s.ctx n.toNat).sampleSeen ≠ some a) ∧
      let s1 := s.takeTrigger n.toNat

      let early := (s1.ctx n.toNat).lastTrigger.any fun t => laterThan (t + ns (s1.cPeriod n.toNat)) a
    (s1.inAbseil n.toNat = false) ∧ (laterThan (s1.ctx n.toNat).notBefore a = false) ∧ (early = false)) ∧
    (∃ (s : State) (n : BitVec 10) (ecc : BitVec 2), 
    (s.timed = true) ∧ (s.cRunning n.toNat = true) ∧ (s.cKind n.toNat = 1 ∨ s.cKind n.toNat = 2) ∧ (s.inAbseil n.toNat = true) ∧
      let t := s.engineTrigger n.toNat

      let s1 := (s.reach t).takeTrigger n.toNat
    (s1.power.entry = none) ∧ (ecc = 0)) ∧
    (∃ (s : State) (n : BitVec 10) (ecc : BitVec 2), 
    (s.timed = true) ∧ (s.cRunning n.toNat = true) ∧ (s.cKind n.toNat = 1 ∨ s.cKind n.toNat = 2) ∧ (s.inAbseil n.toNat = true) ∧
      let t := s.engineTrigger n.toNat

      let s1 := (s.reach t).takeTrigger n.toNat
    (s1.power.entry = none) ∧ (2 ≤ ecc.toNat)) ∧
    (∃ (s : State) (n : BitVec 10) (u : LoopUpdate), 
    (s.timed = true) ∧ ((s.ctx n.toNat).update = some u) ∧ (u.sat = false) ∧ (u.enter = false) ∧ (u.leave = false) ∧ (s.cAbseil n.toNat = false) ∧ (laterThan u.applyAt s.time.now = false) ∧
      let s2 := s.setCtx n.toNat { s.ctx n.toNat with
            update := none, oPrev := u.o, lastNs := nsOf u.applyAt % 2 ^ 32, lastApplied := u.applyAt, arrival := some u.applyAt
            before := { value := s.cq n.toNat 0xF8, valid := true, arrival := (s.ctx n.toNat).arrival } }

      let s3 := (s2.setReg (aCTX n.toNat 0xF8) (BitVec.ofNat 32 (scode 48 u.o))).setReg (aCTX n.toNat 0xFC)
            (BitVec.ofNat 32 (scode 48 u.o / 2 ^ 32))
    (s3.cAbseil n.toNat = false)) :=
  ⟨⟨(nowAt (2 ^ 72 - 1) (setR (ctxOn 0 { notBefore := -1 }) [(aCTX 1023 0x48, 1000)])), 1023, 0, by decide +kernel⟩,
   ⟨(ctxOn 0 {}), 1023, by decide +kernel⟩,
   ⟨((ctxOn 0 {}).updPower fun p => { p with entry := some { anEntry with passed := 1 } }), 1023, (0 : BitVec 2), by decide +kernel⟩,
   ⟨(let s := setR (ctxOn 1 { notBefore := 9 }) [(aCTX 1023 0x44, 5), (aCTX 1023 0x48, 1000)]; { s with evt := { s.evt with counts := [(5, 1)] } }), 1023, 0, by decide +kernel⟩,
   ⟨(let s := setR (ctxOn 1 { lastTrigger := some 0 }) [(aCTX 1023 0x44, 5), (aCTX 1023 0x48, 1000)]; { s with evt := { s.evt with counts := [(5, 1)] } }), 1023, 0, by decide +kernel⟩,
   ⟨(let s := setR (ctxOn 1 {}) [(aCTX 1023 0x44, 5), (aCTX 1023 0x48, 1000)]; { s with evt := { s.evt with counts := [(5, 1)] } }), 1023, 0, by decide +kernel⟩,
   ⟨(let s := (setR (ctxOn 2 { notBefore := 9 }) [(aCTX 1023 0x48, 1000)]); { s with sdf := [(0, { arrival := some 0 })] }), 1023, 0, 0, by decide +kernel⟩,
   ⟨(let s := (setR (ctxOn 2 { lastTrigger := some 0 }) [(aCTX 1023 0x48, 1000)]); { s with sdf := [(0, { arrival := some 0 })] }), 1023, 0, 0, by decide +kernel⟩,
   ⟨(let s := (setR (ctxOn 2 {}) [(aCTX 1023 0x48, 1000)]); { s with sdf := [(0, { arrival := some 0 })] }), 1023, 0, 0, by decide +kernel⟩,
   ⟨(let s := (setR (ctxOn 2 { entered := true }) [(aCTX 1023 0x48, 1000)]); { s with sdf := [(0, { arrival := some 0 })] }), 1023, 0, by decide +kernel⟩,
   ⟨(let s := (setR (ctxOn 2 { entered := true }) [(aCTX 1023 0x48, 1000)]); { s with sdf := [(0, { arrival := some 0 })] }), 1023, 2, by decide +kernel⟩,
   ⟨(ctxOn 0 { update := some anUpdate }), 1023, anUpdate, by decide +kernel⟩⟩

theorem witness_LoopCommands :
    (∃ (s : State) (q : BitVec 2) (w : BitVec 64), 
    (s.timed = true) ∧ (s.loop.held.contains q.toNat = false) ∧ (s.runningCtxs = [])) ∧
    (∃ (s : State) (q : BitVec 2) (w : BitVec 64), 
    (s.timed = true) ∧ (s.loop.held.contains q.toNat = true)) ∧
    (∃ (s : State) (r : ReqId) (v : Word), 
    (Accepted s r (aLOOP 0x24) (setBit v 31 true)) ∧
      let u := s.storeWrite (aLOOP 0x24) (setBit v 31 true) false

      let w := u.reg (aLOOP 0x24)
    (u.rb (aLOOP 0x28) 31 = true)) ∧
    (∃ (s : State) (r : ReqId) (v : Word), 
    (Accepted s r (aLOOP 0x24) (setBit v 31 true)) ∧
      let u := s.storeWrite (aLOOP 0x24) (setBit v 31 true) false

      let w := u.reg (aLOOP 0x24)
    (u.rb (aLOOP 0x28) 31 = false) ∧ (bit w 30 = false) ∧ (fld w 4 0 = 0)) ∧
    (∃ (s : State) (r : ReqId) (v : Word), 
    (Accepted s r (aLOOP 0x24) (setBit v 31 true)) ∧
      let u := s.storeWrite (aLOOP 0x24) (setBit v 31 true) false

      let w := u.reg (aLOOP 0x24)
    (u.rb (aLOOP 0x28) 31 = false) ∧ (bit w 30 = true)) ∧
    (∃ (s : State), 
    (s.timed = true) ∧ (s.power.loopCommitDue = false)) ∧
    (∃ (s : State) (r : ReqId) (v : Word), 
    (Accepted s r (aLOOP 0x2C) (setFld v 31 30 1))) ∧
    (∃ (s : State) (r : ReqId) (v : Word), 
    (Accepted s r (aLOOP 0x2C) (setFld v 31 30 2))) ∧
    (∃ (s : State) (r : ReqId) (w : BitVec 4) (v : Word), 
    (Accepted s r (aLOOP (0x200 + 4 * w.toNat)) v)) ∧
    (∃ (s : State) (r : ReqId) (n : BitVec 10) (v : Word), 
    (Accepted s r (aCTX n.toNat 0xF4) (setBit v 15 true))) :=
  ⟨⟨live, 3, -1, by decide +kernel⟩,
   ⟨{ live with loop := { live.loop with held := [3] } }, 3, 0, by decide +kernel⟩,
   ⟨(live.setReg (aLOOP 0x28) 0x80000000), 2, 0, by decide +kernel⟩,
   ⟨live, 2, 0, by decide +kernel⟩,
   ⟨live, 2, 0x40000000, by decide +kernel⟩,
   ⟨live, by decide +kernel⟩,
   ⟨live, 2, 0, by decide +kernel⟩,
   ⟨live, 2, 0, by decide +kernel⟩,
   ⟨live, 2, 0, 0, by decide +kernel⟩,
   ⟨live, 2, 0, 0, by decide +kernel⟩⟩

theorem witness_Heartbeats :
    (∃ (s : State) (r : ReqId) (v : Word), 
    (Accepted s r (aLOOP 0x38) (setBit v 0 true)) ∧ (s.rb (aLOOP 0x3C) 0 = false)) ∧
    (∃ (s : State), 
    (s.timed = true) ∧ (s.rb (aLOOP 0x3C) 1 = false)) ∧
    (∃ (s : State), 
    (s.timed = true) ∧ (s.rb (aLOOP 0x30) 31 = true) ∧ (s.rb (aLOOP 0x3C) 0 = false)) ∧
    (∃ (s : State), 
    (s.timed = true) ∧ (s.rb (aLOOP 0x34) 31 = true) ∧ (s.rb (aLOOP 0x3C) 1 = false) ∧ (s.hb1Suspended = false)) :=
  ⟨⟨live, 2, 0, by decide +kernel⟩,
   ⟨live, by decide +kernel⟩,
   ⟨(live.setReg (aLOOP 0x30) 0x80000000), by decide +kernel⟩,
   ⟨(live.setReg (aLOOP 0x34) 0x80000000), by decide +kernel⟩⟩

theorem witness_RopeJoining :
    (∃ (s : State) (r : ReqId) (v : Word), 
    (Accepted s r (pg 0x540 0x004) (setBit v 0 true)) ∧ (s.pageEnable 0x540 = false) ∧ (bit v 1 = false) ∧ (bit v 2 = false) ∧ (s.ropeRole ≠ 0) ∧
      let t := s.writeCtl 0x540 (setBit v 0 true) false
    (s.ropeState = rsLEAVING)) ∧
    (∃ (s : State) (r : ReqId) (v : Word), 
    (Accepted s r (pg 0x540 0x004) (setBit v 0 true)) ∧ (s.pageEnable 0x540 = false) ∧ (bit v 1 = false) ∧ (bit v 2 = false) ∧ (s.ropeRole ≠ 0) ∧
      let t := s.writeCtl 0x540 (setBit v 0 true) false
    (s.ropeState ≠ rsLEAVING) ∧ (s.rb (aROPE 0x28) 0 = true)) ∧
    (∃ (s : State) (r : ReqId) (v : Word), 
    (Accepted s r (pg 0x540 0x004) (setBit v 0 true)) ∧ (s.pageEnable 0x540 = false) ∧ (bit v 1 = false) ∧ (bit v 2 = false) ∧ (s.ropeRole ≠ 0) ∧
      let t := s.writeCtl 0x540 (setBit v 0 true) false
    (s.ropeState ≠ rsLEAVING) ∧ (s.rb (aROPE 0x28) 0 = false)) ∧
    (∃ (s : State) (rate : Bool), 
    (s.awake = true) ∧ (s.ropeState = rsLISTEN)) ∧
    (∃ (s : State) (f : CycleFrame) (west : Bool), 
    (s.awake = true) ∧ (s.ropeState = rsLISTEN) ∧ (s.ropeRole = 1) ∧ (s.pageEnable 0x540 = true) ∧ (s.joinRefusal f west = 0)) ∧
    (∃ (s : State) (f : CycleFrame) (west : Bool), 
    (s.awake = true) ∧ (s.ropeState = rsLISTEN) ∧ (s.ropeRole = 1) ∧ (s.pageEnable 0x540 = true) ∧ (s.joinRefusal f west ≠ 0)) ∧
    (∃ (s : State), 
    (s.awake = true) ∧ (s.rope.checked = true) ∧ (s.ropeState = rsLISTEN)) ∧
    (∃ (s : State), 
    (s.awake = true) ∧ (s.ropeState = rsJOINING) ∧ ((s.present false).getLsbD s.ropePos = true)) ∧
    (∃ (s : State), 
    (s.awake = true) ∧ (s.pageEnable 0x540 = true) ∧ (s.ropeRole = 2) ∧ (s.ropeState = rsLISTEN) ∧ (s.rope.own.stopped = false)) ∧
    (∃ (s : State), 
    (s.awake = true) ∧ (s.pageEnable 0x540 = true) ∧ (s.isAnchor = true) ∧ (s.pageEnable 0x543 = true) ∧ (s.rope.br.stopped = false) ∧ (s.rb (aROPE 0x44) 0 = false) ∧ (s.ropeState ≠ rsOFF) ∧ (s.ropeState ≠ rsLEAVING) ∧ (s.ropeState ≠ rsBELAYED)) :=
  ⟨⟨(setR live [(aROPE 0x20, 0x00FC0001), (aROPE 0x2C, 4)]), 2, 0, by decide +kernel⟩,
   ⟨(setR live [(aROPE 0x20, 0x00FC0001), (aROPE 0x28, 1)]), 2, 0, by decide +kernel⟩,
   ⟨(live.setReg (aROPE 0x20) 0x00FC0001), 2, 0, by decide +kernel⟩,
   ⟨(onRope 0x00FC0001 1), false, by decide +kernel⟩,
   ⟨(onRope 0x00FC0001 1), { sizeM1 := 63 }, false, by decide +kernel⟩,
   ⟨(onRope 0x00FC0001 1), { sizeM1 := 62 }, false, by decide +kernel⟩,
   ⟨((onRope 0x00FC0001 1).updRope fun r => { r with checked := true }), by decide +kernel⟩,
   ⟨((onRope 0x00FC0001 2).setReg (aROPE 0x34) 0x80000000), by decide +kernel⟩,
   ⟨(onRope 2 1), by decide +kernel⟩,
   ⟨(onRope 0x10000001 3), by decide +kernel⟩⟩

theorem witness_RopeLeaving :
    (∃ (s : State) (r : ReqId) (v : Word), 
    (Accepted s r (aROPE 0x28) (setBit v 0 true)) ∧ (s.rb (aROPE 0x28) 0 = false) ∧
      let u := s.storeWrite (aROPE 0x28) (setBit v 0 true) false
    (u.ropeState = rsREFUSED)) ∧
    (∃ (s : State) (r : ReqId) (v : Word), 
    (Accepted s r (aROPE 0x28) (setBit v 0 true)) ∧ (s.rb (aROPE 0x28) 0 = false) ∧
      let u := s.storeWrite (aROPE 0x28) (setBit v 0 true) false
    (u.ropeState ≠ rsREFUSED)) ∧
    (∃ (s : State), 
    (s.awake = true) ∧ (s.ropeState = rsLEAVING) ∧
      let left := if s.pageEnable 0x540 = true ∧ s.rb (aROPE 0x28) 0 = true then rsBELAYED else rsOFF

      let t := (((s.closeBypass).setF (aROPE 0x2C) 3 0 left).setB (pg 0x540 0x008) 0 false).setB (aROPE 0x44) 0 false
    (s.rope.again = false ∨ s.pageEnable 0x540 = false)) ∧
    (∃ (s : State), 
    (s.awake = true) ∧ (s.ropeState = rsLEAVING) ∧
      let left := if s.pageEnable 0x540 = true ∧ s.rb (aROPE 0x28) 0 = true then rsBELAYED else rsOFF

      let t := (((s.closeBypass).setF (aROPE 0x2C) 3 0 left).setB (pg 0x540 0x008) 0 false).setB (aROPE 0x44) 0 false
    (s.rope.again = true) ∧ (s.pageEnable 0x540 = true)) ∧
    (∃ (s : State), 
    (s.awake = true) ∧ (s.ropeState = rsJOINED ∨ s.ropeState = rsJOINING)) ∧
    (∃ (s : State), 
    (s.awake = true) ∧ (s.ropeState = rsLISTEN) ∧ (s.rb (aROPE 0x2C) 9 = false)) ∧
    (∃ (s : State), 
    (s.awake = true) ∧ (s.rb (aROPE 0x2C) 9 = false) ∧ (s.rb (pg 0x541 0x24) 3 = false)) ∧
    (∃ (s : State) (p : RopePort) (c : PortCause), 
    (s.awake = true)) ∧
    (∃ (s : State), 
    (s.awake = true) ∧ (s.unclean = [])) ∧
    (∃ (s : State) (p : RopePort), 
    (s.awake = true) ∧ (s.unclean = [p]) ∧ (s.rb (pg (portPage p) 0x24) 3 = true)) ∧
    (∃ (s : State) (p : RopePort), 
    (s.awake = true) ∧ (s.unclean = [p]) ∧ (s.rb (pg (portPage p) 0x24) 3 = false)) ∧
    (∃ (s : State), 
    (s.awake = true) ∧ (2 ≤ s.unclean.length)) ∧
    (∃ (s : State), 
    (s.awake = true) ∧ (s.rope.healNow = true) ∧ (s.rb (aROPE 0x2C) 10 = true) ∧ (s.rb (aROPE 0x2C) 11 = false) ∧ (s.rope.nrWest = false) ∧ (s.pageEnable 0x541 = true)) ∧
    (∃ (s : State), 
    (s.awake = true) ∧ (s.rope.healNow = true) ∧ (s.rb (aROPE 0x2C) 10 = true) ∧ (s.rb (aROPE 0x2C) 11 = false) ∧ (s.rope.nrWest = true ∨ s.pageEnable 0x541 = false)) ∧
    (∃ (s : State) (r : ReqId) (p : RopePort) (v : Word), 
    (Accepted s r (pg (portPage p) 0x34) (setBit v 0 true))) ∧
    (∃ (s : State) (e : BitVec 8), 
    (s.awake = true) ∧ (s.rb (aSUB e.toNat 0x300) 30 = false) ∧ (s.rb (aSUB e.toNat 0x100) 31 = true)) :=
  ⟨⟨(onRope 0x00FC0001 6), 2, 0, by decide +kernel⟩,
   ⟨live, 2, 0, by decide +kernel⟩,
   ⟨(onRope 0x00FC0001 4), by decide +kernel⟩,
   ⟨((onRope 0x00FC0001 4).updRope fun r => { r with again := true }), by decide +kernel⟩,
   ⟨joined, by decide +kernel⟩,
   ⟨(onRope 0x00FC0001 1), by decide +kernel⟩,
   ⟨joined, by decide +kernel⟩,
   ⟨joined, .branch, .noCstart, by decide +kernel⟩,
   ⟨joined, by decide +kernel⟩,
   ⟨((joined.setB (pg 0x541 0x24) 3 true).updRope fun r => { r with nrWest := true }), .west, by decide +kernel⟩,
   ⟨(setR joined [(pg 0x543 4, 1), (pg 0x543 0x24, 0x10)]), .branch, by decide +kernel⟩,
   ⟨(setR joined [(pg 0x541 4, 1), (pg 0x541 0x24, 0x10), (pg 0x543 4, 1), (pg 0x543 0x24, 0x10)]), by decide +kernel⟩,
   ⟨((joined.setB (aROPE 0x2C) 10 true).updRope fun r => { r with healNow := true }), by decide +kernel⟩,
   ⟨((joined.setB (aROPE 0x2C) 10 true).updRope fun r => { r with healNow := true, nrWest := true }), by decide +kernel⟩,
   ⟨live, 2, .east, 0, by decide +kernel⟩,
   ⟨(setR joined [(aSUB 255 0x100, 0x80000000), (aSUB 255 0x300, 0)]), 255, by decide +kernel⟩⟩

theorem witness_RopeCycles :
    (∃ (s : State) (br : Bool) (tc : DevTime), 
    (s.timed = true) ∧ (s.cycleInstant br tc = false)) ∧
    (∃ (s : State) (tc : DevTime), 
    (s.timed = true) ∧ (laterThan tc s.time.now = false) ∧ (s.ropeState = rsLEADING) ∧ (s.rope.own.stopped = false) ∧ (s.transmits false = true) ∧ (s.cycleInstant false tc = true)) ∧
    (∃ (s : State) (f : CycleFrame) (west : Bool) (ta : DevTime) (fwd : Word) (w : Wire), 
    (s.timed = true) ∧ (laterThan ta s.time.now = false) ∧ (s.pageEnable 0x540 = true) ∧
      let p : RopePort := if west then .west else .east
    (s.pageEnable (portPage p) = true) ∧ (cycleCheck f w = .head ∨ cycleCheck f w = .body)) ∧
    (∃ (s : State) (f : CycleFrame) (west : Bool) (ta : DevTime) (fwd : Word) (w : Wire), 
    (s.timed = true) ∧ (laterThan ta s.time.now = false) ∧ (s.pageEnable 0x540 = true) ∧
      let p : RopePort := if west then .west else .east
    (cycleCheck f w = .other)) ∧
    (∃ (s : State) (f : CycleFrame) (west : Bool) (ta : DevTime) (fwd : Word) (w : Wire), 
    (s.timed = true) ∧ (laterThan ta s.time.now = false) ∧ (s.pageEnable 0x540 = true) ∧
      let p : RopePort := if west then .west else .east
    (s.pageEnable (portPage p) = false)) ∧
    (∃ (s : State) (f : CycleFrame) (port : RopePort) (ta : DevTime) (w : Wire), 
    (s.timed = true) ∧ (s.ropeOff = false) ∧ (s.pageEnable (portPage port) = true) ∧ (cycleCheck f w = .whole)) ∧
    (∃ (s : State) (f : CycleFrame) (port : RopePort) (ta : DevTime) (w : Wire), 
    (s.timed = true) ∧ (s.ropeOff = false) ∧ (s.pageEnable (portPage port) = true) ∧ (cycleCheck f w = .head ∨ cycleCheck f w = .body)) ∧
    (∃ (s : State) (f : CycleFrame) (port : RopePort) (ta : DevTime) (w : Wire), 
    (s.timed = true) ∧ (s.ropeOff = false) ∧ (s.pageEnable (portPage port) = true) ∧ (cycleCheck f w = .other)) ∧
    (∃ (s : State), 
    (s.awake = true) ∧ (s.rf (aROPE 0x20) 9 8 = 0) ∧ (s.ropeState = rsLEADING) ∧ (s.ropeRate = true) ∧ (s.rf (aROPE 0x2C) 27 22 ≤ 3) ∧ (s.changing false = false)) ∧
    (∃ (s : State), 
    (s.awake = true) ∧ (s.rf (aROPE 0x20) 9 8 = 0) ∧ (s.rb (aROPE 0x44) 0 = true) ∧ (s.rb (aROPE 0x44) 13 = true) ∧ (s.rf (aROPE 0x44) 11 6 ≤ 3) ∧ (s.changing true = false)) ∧
    (∃ (s : State) (v : Bool), 
    (s.awake = true) ∧ (s.rope.brRateTo = some v)) ∧
    (∃ (s : State) (v : Bool), 
    (s.awake = true) ∧ (s.rope.rateTo = some v)) ∧
    (∃ (s : State) (t3 : DevTime) (t2 : DevTime) (n : BitVec 12), 
    (s.timed = true) ∧ (laterThan t3 s.time.now = false) ∧ (s.rope.westIn = some (n, t2)) ∧ (s.rb (aROPE 0x2C) 9 = false) ∧ (s.pageEnable 0x541 = true) ∧ ((s.rope.hopSent.any fun h => h.1 == n) = false) ∧
      let slot := (s.rope.own.sent.map fun f => f.wrapAny).getD false
    (slot = false ∨ s.rope.filled < s.slotShare false)) ∧
    (∃ (s : State) (seq : BitVec 12) (turn : Word) (t4 : DevTime) (t1 : DevTime) (w : Wire), 
    (s.timed = true) ∧ (laterThan t4 s.time.now = false) ∧ (s.ropeOff = false) ∧ (s.pageEnable 0x542 = true) ∧ (s.rb (aROPE 0x2C) 9 = false) ∧ (s.rope.eastOut = some (seq, t1)) ∧ (checkFrame w (hopHead (headSrc w) seq) (bytesOf 4 turn.toNat) = .whole)) ∧
    (∃ (s : State) (br : Bool) (seq : BitVec 12) (turn : Word) (t4 : DevTime) (w : Wire), 
    (s.timed = true) ∧ (s.ropeOff = false) ∧
      let c := checkFrame w (hopHead (headSrc w) seq) (bytesOf 4 turn.toNat)

      let p : RopePort := if br then .branch else .east
    (s.pageEnable (portPage p) = true) ∧ (c = .whole)) ∧
    (∃ (s : State) (br : Bool) (seq : BitVec 12) (turn : Word) (t4 : DevTime) (w : Wire), 
    (s.timed = true) ∧ (s.ropeOff = false) ∧
      let c := checkFrame w (hopHead (headSrc w) seq) (bytesOf 4 turn.toNat)

      let p : RopePort := if br then .branch else .east
    (s.pageEnable (portPage p) = true) ∧ (c = .head ∨ c = .body)) ∧
    (∃ (s : State) (br : Bool), 
    (s.timed = true) ∧ (s.ropeOff = false)) :=
  ⟨⟨live, false, 1, by decide +kernel⟩,
   ⟨(onRope 2 7), 0, by decide +kernel⟩,
   ⟨joined, {}, true, 0, 0, badWire, by decide +kernel⟩,
   ⟨joined, {}, false, 0, 0, (cycleWire { rope := 1 }), by decide +kernel⟩,
   ⟨(joined.setReg (pg 0x541 0x004) 0), {}, true, 0, 0, badWire, by decide +kernel⟩,
   ⟨(onRope 2 7), {}, .west, default, (cycleWire {}), by decide +kernel⟩,
   ⟨(onRope 2 7), {}, .west, default, badWire, by decide +kernel⟩,
   ⟨(onRope 2 7), {}, .west, default, (cycleWire { rope := 1 }), by decide +kernel⟩,
   ⟨((onRope 2 7).setB (aROPE 0x2C) 13 true), by decide +kernel⟩,
   ⟨((onRope 0x16FC0001 3).setReg (aROPE 0x44) 0x2001), by decide +kernel⟩,
   ⟨(joined.updRope fun r => { r with brRateTo := some false }), false, by decide +kernel⟩,
   ⟨(joined.updRope fun r => { r with rateTo := some false }), false, by decide +kernel⟩,
   ⟨(joined.updRope fun r => { r with westIn := some (0xFFF, 0) }), 0, 0, 0xFFF, by decide +kernel⟩,
   ⟨(joined.updRope fun r => { r with eastOut := some (0xFFF, 0) }), 0xFFF, 0, 0, 0, (hopWire 63 0xFFF 0), by decide +kernel⟩,
   ⟨joined, false, 0, 0, 0, (hopWire 63 0 0), by decide +kernel⟩,
   ⟨joined, false, 0, 0, 0, badWire, by decide +kernel⟩,
   ⟨joined, false, by decide +kernel⟩⟩

theorem witness_RemoteOrigin :
    (∃ (s : State) (r : ReqId) (n : BitVec 9) (a : BitVec 24) (full : Bool) (v : Word) (dw : BitVec 8), 
    (s.reaches r.toNat = true) ∧ ((0x008 ≤ r.toNat ∧ r.toNat ≤ 0x00F) ∨ (r.toNat = rHost ∧ dw.toNat ≤ 16)) ∧ (s.isOwnId n.toNat = true)) ∧
    (∃ (s : State) (r : ReqId) (n : BitVec 9) (a : BitVec 24) (full : Bool) (v : Word) (dw : BitVec 8), 
    (s.reaches r.toNat = true) ∧ ((0x008 ≤ r.toNat ∧ r.toNat ≤ 0x00F) ∨ (r.toNat = rHost ∧ dw.toNat ≤ 16)) ∧ (s.isOwnId n.toNat = false) ∧ (s.ropeOff = true)) ∧
    (∃ (s : State) (r : ReqId) (n : BitVec 9) (a : BitVec 24) (full : Bool) (v : Word) (dw : BitVec 8), 
    (s.reaches r.toNat = true) ∧ ((0x008 ≤ r.toNat ∧ r.toNat ≤ 0x00F) ∨ (r.toNat = rHost ∧ dw.toNat ≤ 16)) ∧ (s.isOwnId n.toNat = false) ∧ (s.ropeOff = false) ∧ (full = true)) ∧
    (∃ (s : State) (r : ReqId) (n : BitVec 9) (a : BitVec 24) (full : Bool) (v : Word) (dw : BitVec 8), 
    (s.reaches r.toNat = true) ∧ ((0x008 ≤ r.toNat ∧ r.toNat ≤ 0x00F) ∨ (r.toNat = rHost ∧ dw.toNat ≤ 16)) ∧ (s.isOwnId n.toNat = false) ∧ (s.ropeOff = false) ∧ (full = false)) ∧
    (∃ (s : State) (br : Bool) (f : AccFrame) (rest : List (Bool × AccFrame)), 
    (s.awake = true) ∧ (s.ropeOff = false) ∧ (s.rope.waiting = (br, f) :: rest) ∧ (s.slotOpen br = true) ∧
      let u := s.updRope fun r => { r with
            waiting := rest, sent := r.sent ++ [(br, f)], filled := r.filled + (!br).toNat, brFilled := r.brFilled + br.toNat }
    (f.src.toNat ≠ s.ownId)) ∧
    (∃ (s : State) (br : Bool) (f : AccFrame) (rest : List (Bool × AccFrame)), 
    (s.awake = true) ∧ (s.ropeOff = false) ∧ (s.rope.waiting = (br, f) :: rest) ∧ (s.slotOpen br = true) ∧
      let u := s.updRope fun r => { r with
            waiting := rest, sent := r.sent ++ [(br, f)], filled := r.filled + (!br).toNat, brFilled := r.brFilled + br.toNat }
    (f.src.toNat = s.ownId)) ∧
    (∃ (s : State), 
    (s.awake = true) ∧ (s.ropeOff = false) ∧ ((∀ x ∈ s.rope.waiting, s.slotOpen x.1 = false))) ∧
    (∃ (s : State) (p : RopePort) (f : AccFrame) (w : Wire) (d : Word) (x : BitVec 8) (l : List Word) (e : BitVec 16), 
    (s.awake = true) ∧ (s.ropeOff = false) ∧ (s.pageEnable (portPage p) = true) ∧ (accCheck f w = .whole) ∧ (s.forMe f = true) ∧ (f.body = .rdRsp d x l e)) ∧
    (∃ (s : State) (p : RopePort) (f : AccFrame) (w : Wire) (x : BitVec 8) (e : BitVec 16), 
    (s.awake = true) ∧ (s.ropeOff = false) ∧ (s.pageEnable (portPage p) = true) ∧ (accCheck f w = .whole) ∧ (s.forMe f = true) ∧ (f.body = .wrAck x e)) ∧
    (∃ (s : State) (p : RopePort) (f : AccFrame) (w : Wire) (k : BitVec 8) (e : BitVec 16), 
    (s.awake = true) ∧ (s.ropeOff = false) ∧ (s.pageEnable (portPage p) = true) ∧ (accCheck f w = .whole) ∧ (s.forMe f = true) ∧ (f.body = .nak k e)) ∧
    (∃ (s : State) (p : RopePort) (f : AccFrame) (w : Wire), 
    (s.awake = true) ∧ (s.ropeOff = false) ∧ (s.pageEnable (portPage p) = true) ∧ (accCheck f w = .whole)) ∧
    (∃ (s : State) (n : BitVec 9) (q : RopeReq) (l : List RopeReq), 
    (s.awake = true) ∧ (s.ropeOff = false) ∧ ((s.pair n.toNat).out = q :: l) ∧ (q.sends ≠ 0) ∧ (s.rf (aACC 0x20) 7 4 < q.sends)) ∧
    (∃ (s : State) (n : BitVec 9) (q : RopeReq) (l : List RopeReq), 
    (s.awake = true) ∧ (s.ropeOff = false) ∧ ((s.pair n.toNat).out = q :: l) ∧ (q.sends ≠ 0) ∧ (q.sends ≤ s.rf (aACC 0x20) 7 4)) :=
  ⟨⟨(live.setB aLINK_STAT 8 true), 1, 0, 0, false, 0, 16, by decide +kernel⟩,
   ⟨(live.setB aLINK_STAT 8 true), 1, 511, 0, false, 0, 16, by decide +kernel⟩,
   ⟨(joined.setB aLINK_STAT 8 true), 1, 64, 0, true, 0, 16, by decide +kernel⟩,
   ⟨(joined.setB aLINK_STAT 8 true), 1, 64, 0, false, 0, 16, by decide +kernel⟩,
   ⟨(joined.updRope fun r => { r with waiting := [(false, aFrame (.wrAck 0 0))] }), false, aFrame (.wrAck 0 0), [], by decide +kernel⟩,
   ⟨(joined.updRope fun r => { r with waiting := [(false, { aFrame (.wrAck 0 0) with src := 63 })] }), false, { aFrame (.wrAck 0 0) with src := 63 }, [], by decide +kernel⟩,
   ⟨joined, by decide +kernel⟩,
   ⟨joined, .west, aFrame (.rdRsp 7 0 [] 0), (accWire (aFrame (.rdRsp 7 0 [] 0))), 7, 0, [], 0, by decide +kernel⟩,
   ⟨joined, .west, aFrame (.wrAck 0 0), (accWire (aFrame (.wrAck 0 0))), 0, 0, by decide +kernel⟩,
   ⟨joined, .west, aFrame (.nak 3 0), (accWire (aFrame (.nak 3 0))), 3, 0, by decide +kernel⟩,
   ⟨joined, .west, aFrame (.mbxAck 0 0), (accWire (aFrame (.mbxAck 0 0))), by decide +kernel⟩,
   ⟨((joined.setReg (aACC 0x20) 0).setPair 511 { out := [aReq] }), 511, aReq, [], by decide +kernel⟩,
   ⟨((joined.setReg (aACC 0x20) 0x10).setPair 511 { out := [aReq] }), 511, aReq, [], by decide +kernel⟩⟩

theorem witness_RemoteDestination :
    (∃ (s : State) (p : RopePort) (f : AccFrame) (w : Wire), 
    (s.awake = true) ∧ (s.ropeOff = false) ∧ (s.pageEnable (portPage p) = true)) ∧
    (∃ (s : State) (p : RopePort) (f : AccFrame) (w : Wire) (a : BitVec 24) (sync : Bool) (e : BitVec 16), 
    (s.awake = true) ∧ (s.ropeOff = false) ∧ (s.pageEnable (portPage p) = true) ∧ (accCheck f w = .whole) ∧ (s.forMe f = true) ∧ (f.body = .rdReq a sync e)) ∧
    (∃ (s : State) (p : RopePort) (f : AccFrame) (w : Wire) (a : BitVec 24) (v : Word) (sync : Bool) (pair : Option Word) (e : BitVec 16), 
    (s.awake = true) ∧ (s.ropeOff = false) ∧ (s.pageEnable (portPage p) = true) ∧ (accCheck f w = .whole) ∧ (s.forMe f = true) ∧ (f.body = .wrReq a v sync pair e)) ∧
    (∃ (s : State) (p : RopePort) (f : AccFrame) (x : Wire) (m : BitVec 5) (sync : Bool) (e : BitVec 16) (w : List Word), 
    (s.awake = true) ∧ (s.ropeOff = false) ∧ (s.pageEnable (portPage p) = true) ∧ (accCheck f x = .whole) ∧ (s.forMe f = true) ∧ (f.body = .mbx m sync e w)) ∧
    (∃ (s : State) (br : Bool) (f : AccFrame), 
    (s.awake = true) ∧ (s.ropeOff = false) ∧ ((br = false ∧ s.ropeRole = 2 ∧ s.rope.own.stopped = false ∧ f.dst.toNat / 64 = s.ropeNo) ∨
      (br = true ∧ s.isAnchor = true ∧ s.rope.br.stopped = false ∧ f.dst.toNat / 64 = s.brRope)) ∧ (s.transmits br = true) ∧
      let there := (s.present br ||| 1).getLsbD (f.dst.toNat % 64)
    (bodyIsRequest f.body = true) ∧ (there = false)) ∧
    (∃ (s : State) (br : Bool) (f : AccFrame), 
    (s.awake = true) ∧ (s.ropeOff = false) ∧ ((br = false ∧ s.ropeRole = 2 ∧ s.rope.own.stopped = false ∧ f.dst.toNat / 64 = s.ropeNo) ∨
      (br = true ∧ s.isAnchor = true ∧ s.rope.br.stopped = false ∧ f.dst.toNat / 64 = s.brRope)) ∧ (s.transmits br = true) ∧
      let there := (s.present br ||| 1).getLsbD (f.dst.toNat % 64)
    (bodyIsRequest f.body = false ∨ there = true) ∧ (f.passed = true)) ∧
    (∃ (s : State) (br : Bool) (f : AccFrame), 
    (s.awake = true) ∧ (s.ropeOff = false) ∧ ((br = false ∧ s.ropeRole = 2 ∧ s.rope.own.stopped = false ∧ f.dst.toNat / 64 = s.ropeNo) ∨
      (br = true ∧ s.isAnchor = true ∧ s.rope.br.stopped = false ∧ f.dst.toNat / 64 = s.brRope)) ∧ (s.transmits br = true) ∧
      let there := (s.present br ||| 1).getLsbD (f.dst.toNat % 64)
    (bodyIsRequest f.body = false ∨ there = true) ∧ (f.passed = false)) ∧
    (∃ (s : State) (br : Bool) (f : AccFrame), 
    (s.awake = true) ∧ (s.ropeOff = false) ∧ (s.transmits br = false)) ∧
    (∃ (s : State) (f : AccFrame), 
    (s.awake = true) ∧ (s.ropeOff = false) ∧ (s.ropeRole = 2) ∧ (s.isAnchor = false) ∧ (f.dst.toNat / 64 ≠ s.ropeNo) ∧ (s.transmits false = true) ∧ (s.rope.own.stopped = false) ∧ (f.passed = true) ∧ (bodyIsRequest f.body = true)) ∧
    (∃ (s : State) (f : AccFrame), 
    (s.awake = true) ∧ (s.ropeOff = false) ∧ (s.ropeRole = 2) ∧ (s.isAnchor = false) ∧ (f.dst.toNat / 64 ≠ s.ropeNo) ∧ (s.transmits false = true) ∧ (s.rope.own.stopped = false) ∧ (f.passed = true) ∧ (bodyIsRequest f.body = false)) ∧
    (∃ (s : State) (f : AccFrame), 
    (s.awake = true) ∧ (s.ropeOff = false) ∧ (s.isAnchor = true) ∧
      let put (br : Bool) : State := s.updRope fun x => { x with waiting := x.waiting ++ [(br, { f with passed := false })] }
    (f.dst.toNat / 64 = s.brRope)) ∧
    (∃ (s : State) (f : AccFrame), 
    (s.awake = true) ∧ (s.ropeOff = false) ∧ (s.isAnchor = true) ∧
      let put (br : Bool) : State := s.updRope fun x => { x with waiting := x.waiting ++ [(br, { f with passed := false })] }
    (s.rb (aROPE 0x24) (f.dst.toNat / 64) = true)) ∧
    (∃ (s : State) (f : AccFrame), 
    (s.awake = true) ∧ (s.ropeOff = false) ∧ (s.isAnchor = true) ∧
      let put (br : Bool) : State := s.updRope fun x => { x with waiting := x.waiting ++ [(br, { f with passed := false })] }
    (f.dst.toNat / 64 ≠ s.brRope) ∧ (s.rb (aROPE 0x24) (f.dst.toNat / 64) = false)) ∧
    (∃ (s : State) (br : Bool) (f : AccFrame), 
    (s.awake = true) ∧ (s.ropeOff = false) ∧ (s.isAnchor = false)) :=
  ⟨⟨joined, .west, aFrame (.wrAck 0 0), badWire, by decide +kernel⟩,
   ⟨joined, .west, aFrame (.rdReq 0x100 true 0), (accWire (aFrame (.rdReq 0x100 true 0))), 0x100, true, 0, by decide +kernel⟩,
   ⟨joined, .east, aFrame (.wrReq 0x100 7 true (some 9) 0), (accWire (aFrame (.wrReq 0x100 7 true (some 9) 0))), 0x100, 7, true, some 9, 0, by decide +kernel⟩,
   ⟨joined, .west, aFrame (.mbx 31 true 0 [1]), (accWire (aFrame (.mbx 31 true 0 [1]))), 31, true, 0, [1], by decide +kernel⟩,
   ⟨(onRope 2 7), false, { aFrame (.rdReq 0 false 0) with dst := 5 }, by decide +kernel⟩,
   ⟨(onRope 2 7), false, { aFrame (.wrAck 0 0) with dst := 0, passed := true }, by decide +kernel⟩,
   ⟨(onRope 2 7), false, { aFrame (.wrAck 0 0) with dst := 0 }, by decide +kernel⟩,
   ⟨(joined.setB (aROPE 0x2C) 9 true), false, aFrame (.wrAck 0 0), by decide +kernel⟩,
   ⟨(onRope 2 7), { aFrame (.rdReq 0 false 0) with dst := 64, passed := true }, by decide +kernel⟩,
   ⟨(onRope 2 7), { aFrame (.wrAck 0 0) with dst := 64, passed := true }, by decide +kernel⟩,
   ⟨(onRope 0x16FC0001 3), { aFrame (.wrAck 0 0) with dst := 3 * 64 }, by decide +kernel⟩,
   ⟨((onRope 0x10FC0001 3).setReg (aROPE 0x24) 0x80), { aFrame (.wrAck 0 0) with dst := 511 }, by decide +kernel⟩,
   ⟨(onRope 0x16FC0001 3), aFrame (.wrAck 0 0), by decide +kernel⟩,
   ⟨(onRope 2 7), true, aFrame (.wrAck 0 0), by decide +kernel⟩⟩

theorem witness_EventCommands :
    (∃ (s : State) (n : BitVec 6), 
    (s.awake = true) ∧ (s.rb (aPBA (n.toNat / 32)) (n.toNat % 32) = true) ∧ (s.msixHeld n.toNat = false)) ∧
    (∃ (s : State) (r : ReqId) (k : BitVec 1) (v : Word), 
    (Accepted s r (aMSIX_PEND k.toNat) v)) ∧
    (∃ (s : State) (e : RopeEvent) (rest : List RopeEvent), 
    (s.awake = true) ∧ (s.evt.ropeWait = e :: rest) ∧ (s.ropeOff = true)) ∧
    (∃ (s : State) (j : BitVec 6), 
    (s.awake = true) ∧ (SMap.get (fun _ => false) s.evt.launched (256 + j.toNat) = true)) ∧
    (∃ (s : State) (j : BitVec 6), 
    (s.awake = true) ∧ (SMap.get (fun _ => false) s.evt.launched (256 + j.toNat) = false)) ∧
    (∃ (s : State) (r : ReqId) (v : Word), 
    (Accepted s r aSW_RAISE (setBit v 0 true)) ∧ (bit v 1 = false)) ∧
    (∃ (s : State) (r : ReqId) (v : Word), 
    (Accepted s r aSW_RAISE (setBit v 1 true)) ∧ (bit v 0 = false)) :=
  ⟨⟨((setR live [(aLINK_STAT, 0x100), (aPBA 1, 0x80000000), (aMSIX 63 0xC, 0)]).updHost fun h => { h with msixEnable := true }), 63, by decide +kernel⟩,
   ⟨live, 2, 0, 0, by decide +kernel⟩,
   ⟨{ live with evt := { live.evt with ropeWait := [⟨72, 1, [1]⟩] } }, ⟨72, 1, [1]⟩, [], by decide +kernel⟩,
   ⟨{ released with evt := { launched := [(319, true)] } }, 63, by decide +kernel⟩,
   ⟨live, 63, by decide +kernel⟩,
   ⟨live, 2, 0, by decide +kernel⟩,
   ⟨live, 2, 0, by decide +kernel⟩⟩

theorem witness_MailboxCommands :
    (∃ (s : State) (r : ReqId) (m : BitVec 5) (w : BitVec 3) (v : Word), 
    (Accepted s r (aMB m.toNat (0x20 + 4 * w.toNat)) v)) ∧
    (∃ (s : State) (r : ReqId) (m : BitVec 5) (v : Word), 
    (Accepted s r (aMB m.toNat 0x40) v) ∧ (m.toNat < 16) ∧ (s.mbTx m.toNat = r.toNat) ∧ (s.mbLockReq m.toNat = false) ∧ ((s.mb m.toNat).msgs.length < 8)) ∧
    (∃ (s : State) (r : ReqId) (m : BitVec 5) (v : Word), 
    (Accepted s r (aMB m.toNat 0x40) v) ∧ (m.toNat < 16) ∧ (s.mbTx m.toNat = r.toNat) ∧ (s.mbLockReq m.toNat = false) ∧ (8 ≤ (s.mb m.toNat).msgs.length)) ∧
    (∃ (s : State) (r : ReqId) (m : BitVec 5) (h : Msg) (rest : List Msg), 
    (Readable s r) ∧ ((s.mb m.toNat).msgs = h :: rest) ∧ (s.mbRx m.toNat = r.toNat)) ∧
    (∃ (s : State) (r : ReqId) (m : BitVec 5), 
    (Readable s r) ∧ ((s.mb m.toNat).lock = 0)) ∧
    (∃ (s : State) (r : ReqId) (m : BitVec 5), 
    (Readable s r) ∧ ((s.mb m.toNat).lock ≠ 0) ∧ ((s.mb m.toNat).lock ≠ r)) ∧
    (∃ (s : State) (r : ReqId) (m : BitVec 5) (v : Word), 
    (Accepted s r (aMB m.toNat 0x0C) v) ∧
      let u := s.storeWrite (aMB m.toNat 0x0C) v false
    ((s.mb m.toNat).lock = r)) ∧
    (∃ (s : State) (r : ReqId) (m : BitVec 5) (v : Word), 
    (Accepted s r (aMB m.toNat 0x0C) v) ∧
      let u := s.storeWrite (aMB m.toNat 0x0C) v false
    ((s.mb m.toNat).lock ≠ r)) ∧
    (∃ (s : State) (m : BitVec 5), 
    (s.timed = true) ∧ (s.rf (aMB m.toNat 0x10) 19 0 ≠ 0) ∧ ((s.mb m.toNat).msgs ≠ []) ∧ ((s.mb m.toNat).timedOut = false)) :=
  ⟨⟨live, 2, 31, 7, 0, by decide +kernel⟩,
   ⟨(live.setReg (aMB 15 0) 0x2000), 2, 15, 0, by decide +kernel⟩,
   ⟨((live.setReg (aMB 15 0) 0x2000).setMb 15 { msgs := List.replicate 8 aMsg }), 2, 15, 0, by decide +kernel⟩,
   ⟨((live.setReg (aMB 31 0) 0x00800000).setMb 31 { msgs := [aMsg] }), 2, 31, aMsg, [], by decide +kernel⟩,
   ⟨live, 2, 31, by decide +kernel⟩,
   ⟨(live.setMb 31 { lock := 1 }), 2, 31, by decide +kernel⟩,
   ⟨(live.setMb 31 { lock := 2 }), 2, 31, 0, by decide +kernel⟩,
   ⟨live, 2, 31, 0, by decide +kernel⟩,
   ⟨((live.setReg (aMB 31 0x10) 5).setMb 31 { msgs := [aMsg] }), 31, by decide +kernel⟩⟩

theorem witness_HostLink :
    (∃ (s : State), 
    (s.awake = false)) ∧
    (∃ (s : State), 
    (s.awake = true) ∧ (s.linkUp = true)) ∧
    (∃ (s : State) (gen : BitVec 3) (width : BitVec 3) (l1 : Bool), 
    (s.awake = true) ∧ (s.power.perst = false) ∧ (gen ≠ 0) ∧ ((s.linkUp = false ∧ s.host.training = true ∧ gen.toNat ≤ s.maxGen) ∨ (s.linkUp = true ∧ gen.toNat ≤ s.host.trainedGen)) ∧ (width = 1 ∨ width = 2 ∨ width = 4)) ∧
    (∃ (s : State) (gen : BitVec 3) (width : BitVec 3) (l1 : Bool), 
    (s.awake = true) ∧ (s.linkUp = true)) ∧
    (∃ (s : State) (r : ReqId) (v : Word), 
    (Accepted s r (pg 0x600 0x24) (setBit v 8 true))) ∧
    (∃ (s : State) (d3hot : Bool) (en : Bool) (mask : Bool), 
    (s.awake = true) ∧ (s.linkUp = true)) :=
  ⟨⟨(inMode mSLEEP), by decide +kernel⟩,
   ⟨(live.setB aLINK_STAT 8 true), by decide +kernel⟩,
   ⟨(live.updHost fun h => { h with training := true }), 4, 4, false, by decide +kernel⟩,
   ⟨(live.setB aLINK_STAT 8 true), 0, 0, false, by decide +kernel⟩,
   ⟨live, 2, 0, by decide +kernel⟩,
   ⟨(live.setB aLINK_STAT 8 true), false, false, false, by decide +kernel⟩⟩

theorem witness_SidebandAndPins :
    (∃ (s : State) (ofs : BitVec 28) (write : Bool) (be : BitVec 64) (data : BitVec 512) (tag : BitVec 6), 
    (s.awake = true) ∧ (s.linkUp = true) ∧ (s.host.d3hot = false) ∧
      let a := (s.bar4Base + ofs.toNat % 2 ^ 28) / 64 * 64

      let u := s.dramRequest { port := 8, addr := a, write := write, line := true, be := be, data := data, close := true,
                                   fence := false, tag := tag, cls := 1, seq := 0 }
    (write = false)) ∧
    (∃ (s : State) (ofs : BitVec 28) (be : BitVec 64) (data : BitVec 512) (tag : BitVec 6), 
    (s.awake = true) ∧ (s.linkUp = true) ∧ (s.host.d3hot = false)) ∧
    (∃ (s : State) (fails : BitVec 16), 
    (s.power.inReset = false) ∧ (s.awake = true) ∧ (s.rb aI2C_CFG 8 = true)) ∧
    (∃ (s : State) (fails : BitVec 16), 
    (s.power.inReset = true)) ∧
    (∃ (s : State) (i : Byte) (d : Byte) (rest : List Byte), 
    (s.awake = true) ∧ (s.host.i2cAck = true) ∧ (i = 0x10 ∧ d = 0xA5)) ∧
    (∃ (s : State) (i : Byte) (d : Byte) (rest : List Byte), 
    (s.awake = true) ∧ (s.host.i2cAck = true) ∧ (¬ (i = 0x10 ∧ d = 0xA5))) ∧
    (∃ (s : State), 
    (s.awake = true) ∧ (s.host.i2cAck = true)) ∧
    (∃ (s : State) (n : BitVec 10), 
    ((s.pinState n.toNat).park.isSome = true)) ∧
    (∃ (s : State) (b : BitVec 5) (meas : BitVec 3), 
    (s.awake = true) ∧ (b.toNat < 20) ∧ (meas.toNat < 5) ∧ (meas.toNat ≠ s.rf (aIOB b.toNat 0x20) 1 0 + 1) ∧ (s.rb (aIOB b.toNat 0x24) 8 = false)) ∧
    (∃ (s : State) (r : ReqId) (n : BitVec 10), 
    (n.toNat < 640) ∧ (Accepted s r (pg 0x522 0x20) (BitVec.ofNat 32 (0x5EED * 2 ^ 16 + n.toNat)))) ∧
    (∃ (s : State) (r : ReqId) (n : BitVec 10), 
    (n.toNat < 640) ∧ (SMap.get (fun _ => 0) s.pins.armed r.toNat = n.toNat + 1) ∧ (Accepted s r (pg 0x522 0x20) (BitVec.ofNat 32 (0xBA4C * 2 ^ 16 + n.toNat)))) :=
  ⟨⟨(live.setB aLINK_STAT 8 true), 0, false, 0, 0, 0, by decide +kernel⟩,
   ⟨(live.setB aLINK_STAT 8 true), 0, 0, 0, 0, by decide +kernel⟩,
   ⟨(live.setReg aI2C_CFG 0x100), 0, by decide +kernel⟩,
   ⟨{ live with power := { inReset := true, cold := false, railsDown := false } }, 0, by decide +kernel⟩,
   ⟨(live.updHost fun h => { h with i2cAck := true }), 0x10, 0xA5, [], by decide +kernel⟩,
   ⟨(live.updHost fun h => { h with i2cAck := true }), 0x10, 0xA4, [], by decide +kernel⟩,
   ⟨(live.updHost fun h => { h with i2cAck := true }), by decide +kernel⟩,
   ⟨(live.setPin 639 { live.pinState 639 with park := some 1 }), 639, by decide +kernel⟩,
   ⟨live, 19, 4, by decide +kernel⟩,
   ⟨live, 2, 639, by decide +kernel⟩,
   ⟨{ live with pins := { live.pins with armed := [(2, 640)] } }, 2, 639, by decide +kernel⟩⟩

theorem witness_DramTraffic :
    (∃ (s : State) (p : BitVec 3) (a : BitVec 31) (write : Bool) (line : Bool) (be : BitVec 64) (data : BitVec 512) (close : Bool) (fence : Bool) (tag : BitVec 6), 
    (s.awake = true) ∧ (s.busPortOpen p.toNat = true) ∧ (line = false ∨ 32 * a.toNat % 64 = 0)) ∧
    (∃ (s : State) (p : BitVec 3) (a : BitVec 31) (write : Bool) (line : Bool) (be : BitVec 64) (data : BitVec 512) (close : Bool) (fence : Bool) (tag : BitVec 6), 
    (s.awake = true) ∧ (s.busPortOpen p.toNat = false)) ∧
    (∃ (s : State) (p : BitVec 3) (a : BitVec 31) (write : Bool) (be : BitVec 64) (data : BitVec 512) (close : Bool) (fence : Bool) (tag : BitVec 6), 
    (s.awake = true) ∧ (s.busPortOpen p.toNat = true) ∧ (32 * a.toNat % 64 ≠ 0) ∧ (s.dram.atPort = []) ∧ (s.portStalls p.toNat = false)) ∧
    (∃ (s : State) (ready : List Nat), 
    (s.awake = true) ∧ (s.dram.wakeTrim ≠ [])) ∧
    (∃ (s : State) (ready : List Nat), 
    (s.awake = true) ∧ (s.dramState = dREADY) ∧ (s.dram.wakeTrim = []) ∧ (s.dramPick ready = none)) ∧
    (∃ (s : State) (ready : List Nat) (r : _), 
    (s.awake = true) ∧ (s.dramState = dREADY) ∧ (s.dram.wakeTrim = []) ∧ (s.dramPick ready = some r)) ∧
    (∃ (s : State) (seq : Nat) (ups : List (BitVec 3 × BitVec 72)) (r : DramReq), 
    (s.awake = true) ∧ (s.dram.queue.find? (fun r => r.seq == seq && r.issued && !r.write && r.result.isNone) = some r) ∧ (r.line = true)) ∧
    (∃ (s : State) (seq : Nat) (ups : List (BitVec 3 × BitVec 72)), 
    (s.awake = true)) ∧
    (∃ (s : State) (seq : Nat) (r : DramReq), 
    (s.awake = true) ∧ (s.dram.queue.find? (fun r => r.seq == seq && !r.issued && !r.promoted) = some r) ∧ (s.rf (aDRAM (0x28 + 4 * (r.cls / 2))) (16 * (r.cls % 2) + 15) (16 * (r.cls % 2)) ≠ 0)) ∧
    (∃ (s : State) (bank : BitVec 5), 
    (s.awake = true) ∧ (s.hintPolicy = false)) ∧
    (∃ (s : State) (rank : BitVec 1), 
    (s.awake = true) ∧ (s.dramState = dREADY) ∧ (rank.toNat < s.dramRanks) ∧ (s.dram.queue.any (fun r => !r.issued && (r.promoted || r.cls < 2)) = true) ∧ (SMap.get (fun _ => 0) s.dram.postponed rank.toNat < 8)) ∧
    (∃ (s : State), 
    (s.awake = true) ∧ (s.dramState = dREADY)) ∧
    (∃ (s : State) (lanes : List (BitVec 8 × BitVec 8 × BitVec 8 × BitVec 8)), 
    (s.awake = true)) :=
  ⟨⟨released, 0, 0, false, false, 0, 0, false, false, 0, by decide +kernel⟩,
   ⟨live, 7, 0, false, false, 0, 0, false, false, 0, by decide +kernel⟩,
   ⟨released, 0, 1, false, 0, 0, false, false, 0, by decide +kernel⟩,
   ⟨((dramIn 2 [aRead]).updDram fun m => { m with wakeTrim := [1] }), [], by decide +kernel⟩,
   ⟨(dramIn 2 [aRead]), [], by decide +kernel⟩,
   ⟨(dramIn 2 [aRead]), [3], aRead, by decide +kernel⟩,
   ⟨(dramIn 2 [{ aRead with issued := true }]), 3, [], { aRead with issued := true }, by decide +kernel⟩,
   ⟨live, 0, [], by decide +kernel⟩,
   ⟨((dramIn 2 [aRead]).setReg (aDRAM 0x28) 0x10001), 3, aRead, by decide +kernel⟩,
   ⟨live, 0, by decide +kernel⟩,
   ⟨(dramIn 2 [aRead]), 0, by decide +kernel⟩,
   ⟨(dramIn 2 []), by decide +kernel⟩,
   ⟨live, [], by decide +kernel⟩⟩

theorem witness_DramStates :
    (∃ (s : State) (r : ReqId) (v : Word), 
    (Accepted s r (pg 0x640 0x004) (setBit v 0 true)) ∧ (s.pageEnable 0x640 = false) ∧ (bit v 1 = false) ∧ (bit v 2 = false)) ∧
    (∃ (s : State) (r : ReqId) (v : Word), 
    (Accepted s r (pg 0x640 0x004) (setBit v 0 false)) ∧ (s.pageEnable 0x640 = true) ∧ (bit v 1 = false) ∧ (bit v 2 = false)) ∧
    (∃ (s : State) (sweeps : List (BitVec 128 × BitVec 128)), 
    (s.awake = true) ∧ (s.dramState = dTRAINING) ∧ (s.dram.keep = false) ∧ (s.dram.trainStopped = false) ∧ (s.pageEnable 0x640 = true)) ∧
    (∃ (s : State), 
    (s.awake = true) ∧ (s.dramState = dREADY) ∧ (s.rb (aECC 0x34) 16 = true) ∧
      let n := (s.reg (aECC 0x38)).toNat

      let u := if s.dramOut (64 * n) then s else s.ownRequest (64 * n) false 0 0
    (s.scrubAfter n < s.dramSize / 64)) ∧
    (∃ (s : State), 
    (s.awake = true) ∧ (s.dramState = dREADY) ∧ (s.rb (aECC 0x34) 16 = true) ∧
      let n := (s.reg (aECC 0x38)).toNat

      let u := if s.dramOut (64 * n) then s else s.ownRequest (64 * n) false 0 0
    (s.dramSize / 64 ≤ s.scrubAfter n)) ∧
    (∃ (s : State) (p : BitVec 3), 
    (s.awake = true)) :=
  ⟨⟨live, 2, 0, by decide +kernel⟩,
   ⟨(live.setReg (pg 0x640 0x004) 1), 2, 0, by decide +kernel⟩,
   ⟨((dramIn 1 []).setReg (pg 0x640 0x004) 1), [], by decide +kernel⟩,
   ⟨(setR live [(aDRAM 0x24, 2), (aECC 0x34, 0x10000), (aECC 0x38, 0)]), by decide +kernel⟩,
   ⟨(setR live [(aDRAM 0x24, 2), (aECC 0x34, 0x10000), (aECC 0x38, 67106815)]), by decide +kernel⟩,
   ⟨(setR live [(aDRAM 0x24, 2), (aECC 0x34, 0x10000), (aECC 0x38, 67108863)]), 0, by decide +kernel⟩⟩

theorem witness_ImageCalls (h0 : Signed 0) (h1 : Signed 1) (h2 : Signed 0x101) (ho : Opens) (hd : Config.sha384 stream3 = -1) :
    (∃ (s : State) (c : Call), 
    (Called s 0x0301 c) ∧
      let u := s.begun 0x0301 c
    (c.w2 &&& 0xFFFFFEFE ≠ 0)) ∧
    (∃ (s : State) (c : Call), 
    (Called s 0x0301 c) ∧
      let u := s.begun 0x0301 c
    (c.w2 &&& 0xFFFFFEFE = 0) ∧ (zeroFrom c 3 = true) ∧ (u.inTransition = false) ∧ (u.mode = mRUN ∨ u.mode = mHOLD) ∧ (u.cfg.load = none) ∧
      let x := u.checkBank (fld c.w2 0 0)
    (x.1 ≠ 0)) ∧
    (∃ (s : State) (c : Call), 
    (Called s 0x0301 c) ∧
      let u := s.begun 0x0301 c
    (c.w2 &&& 0xFFFFFEFE = 0) ∧ (zeroFrom c 3 = true) ∧ (u.inTransition = false) ∧ (u.mode = mRUN ∨ u.mode = mHOLD) ∧ (u.cfg.load = none) ∧
      let x := u.checkBank (fld c.w2 0 0)
    (x.1 = 0)) ∧
    (∃ (s : State) (c : Call) (r : _), 
    (Called s 0x0302 c) ∧
      let u := s.begun 0x0302 c
    (c.w2 &&& 0xFFFFFEFE = 0) ∧ (zeroFrom c 3 = true) ∧ (u.modeRefusal [mRUN, mHOLD] = some r)) ∧
    (∃ (s : State) (c : Call), 
    (Called s 0x0302 c) ∧
      let u := s.begun 0x0302 c
    (c.w2 &&& 0xFFFFFEFE = 0) ∧ (zeroFrom c 3 = true) ∧ (u.modeRefusal [mRUN, mHOLD] = none) ∧ (u.cfg.load.isSome = true)) ∧
    (∃ (s : State) (c : Call), 
    (Called s 0x0302 c) ∧
      let u := s.begun 0x0302 c
    (c.w2 &&& 0xFFFFFEFE = 0) ∧ (zeroFrom c 3 = true) ∧ (u.modeRefusal [mRUN, mHOLD] = none) ∧ (u.cfg.load = none) ∧
      let x := u.checkBank (fld c.w2 0 0)
    (x.1 = 0)) ∧
    (∃ (s : State) (c : Call) (cause : BitVec 4) (uc : Word), 
    (Called s 0x0303 c) ∧
      let u := s.begun 0x0303 c
    (c.w2 &&& 0xFFFFFFFC = 0) ∧ (badSource (fld c.w2 1 0) c = false) ∧ (zeroFrom c 5 = true) ∧ (u.modeRefusal [mRUN, mHOLD, mSERVICE] = none) ∧ (u.cfg.load = none) ∧
      let x := u.checkHeader (fld c.w2 1 0) (bufferOf c.w3 c.w4) none false

      let kind := hdrField x.2.2.1 0x0C 4

      let y := x.2.2.2.verifyStream x.2.1 x.2.2.1
    (x.1 ≠ 0)) ∧
    (∃ (s : State) (c : Call) (cause : BitVec 4) (uc : Word), 
    (Called s 0x0303 c) ∧
      let u := s.begun 0x0303 c
    (c.w2 &&& 0xFFFFFFFC = 0) ∧ (badSource (fld c.w2 1 0) c = false) ∧ (zeroFrom c 5 = true) ∧ (u.modeRefusal [mRUN, mHOLD, mSERVICE] = none) ∧ (u.cfg.load = none) ∧
      let x := u.checkHeader (fld c.w2 1 0) (bufferOf c.w3 c.w4) none false

      let kind := hdrField x.2.2.1 0x0C 4

      let y := x.2.2.2.verifyStream x.2.1 x.2.2.1
    (x.1 = 0) ∧ (y.1 ≠ 0)) ∧
    (∃ (s : State) (c : Call) (cause : BitVec 4) (uc : Word), 
    (Called s 0x0303 c) ∧
      let u := s.begun 0x0303 c
    (c.w2 &&& 0xFFFFFFFC = 0) ∧ (badSource (fld c.w2 1 0) c = false) ∧ (zeroFrom c 5 = true) ∧ (u.modeRefusal [mRUN, mHOLD, mSERVICE] = none) ∧ (u.cfg.load = none) ∧
      let x := u.checkHeader (fld c.w2 1 0) (bufferOf c.w3 c.w4) none false

      let kind := hdrField x.2.2.1 0x0C 4

      let y := x.2.2.2.verifyStream x.2.1 x.2.2.1
    (x.1 = 0) ∧ (y.1 = 0)) ∧
    (∃ (s : State) (c : Call), 
    (Called s 0x0304 c) ∧
      let u := s.begun 0x0304 c
    (c.w2 &&& 0xFFFFF0FC = 0) ∧ (2 ≤ fld c.w2 1 0) ∧ (badSource (fld c.w2 1 0) c = false) ∧ (zeroFrom c 5 = true) ∧ (u.groveDefined (fld c.w2 11 8) = true) ∧ (u.modeRefusal [mRUN] = none) ∧ (u.cfg.load = none) ∧
      let x := u.checkHeader (fld c.w2 1 0) (bufferOf c.w3 c.w4) (some (fld c.w2 11 8)) true
    (x.1 ≠ 0)) ∧
    (∃ (s : State) (c : Call), 
    (Called s 0x0304 c) ∧
      let u := s.begun 0x0304 c
    (c.w2 &&& 0xFFFFF0FC = 0) ∧ (2 ≤ fld c.w2 1 0) ∧ (badSource (fld c.w2 1 0) c = false) ∧ (zeroFrom c 5 = true) ∧ (u.groveDefined (fld c.w2 11 8) = true) ∧ (u.modeRefusal [mRUN] = none) ∧ (u.cfg.load = none) ∧
      let x := u.checkHeader (fld c.w2 1 0) (bufferOf c.w3 c.w4) (some (fld c.w2 11 8)) true
    (x.1 = 0)) ∧
    (∃ (s : State) (c : Call), 
    (Called s 0x0305 c) ∧
      let u := s.begun 0x0305 c
    (c.w2 &&& 0xFFFFFEF0 = 0) ∧ (bufferOf c.w3 c.w4 % 8 = 0) ∧ (zeroFrom c 5 = true) ∧ (bit c.w2 8 = true ∨ u.groveDefined (fld c.w2 3 0) = true) ∧ (u.readbackRefused = true)) ∧
    (∃ (s : State) (c : Call), 
    (Called s 0x0305 c) ∧
      let u := s.begun 0x0305 c
    (c.w2 &&& 0xFFFFFEF0 = 0) ∧ (bufferOf c.w3 c.w4 % 8 = 0) ∧ (zeroFrom c 5 = true) ∧ (bit c.w2 8 = true ∨ u.groveDefined (fld c.w2 3 0) = true) ∧ (u.readbackRefused = false) ∧ (u.modeRefusal [mRUN, mHOLD] = none) ∧ (u.cfg.load = none)) ∧
    (∃ (s : State) (c : Call) (tj : BitVec 16), 
    (Called s 0x0306 c) ∧
      let u := (s.begun 0x0306 c).sampleTj tj.toInt
    (c.w2 &&& 0xFFFFFEFE ≠ 0)) ∧
    (∃ (s : State) (c : Call) (tj : BitVec 16), 
    (Called s 0x0306 c) ∧
      let u := (s.begun 0x0306 c).sampleTj tj.toInt
    (c.w2 &&& 0xFFFFFEFE = 0) ∧ (zeroFrom c 3 = true) ∧ (bit c.w2 8 = false)) ∧
    (∃ (s : State) (c : Call) (tj : BitVec 16), 
    (Called s 0x0306 c) ∧
      let u := (s.begun 0x0306 c).sampleTj tj.toInt
    (c.w2 &&& 0xFFFFFEFE = 0) ∧ (zeroFrom c 3 = true) ∧ (bit c.w2 8 = true)) :=
  ⟨⟨live, { w2 := 2 }, by decide +kernel⟩,
   ⟨live, {}, by decide +kernel⟩,
   ⟨bankA, {}, by decide +kernel, by decide +kernel, by decide +kernel, by decide +kernel, by decide +kernel, by decide +kernel, checkBank_ok (header_ok h0 (by decide +kernel))⟩,
   ⟨(inMode mSERVICE), {}, rcBAD_STATE, by decide +kernel⟩,
   ⟨(loading aLoad), {}, by decide +kernel⟩,
   ⟨bankA, {}, by decide +kernel, by decide +kernel, by decide +kernel, by decide +kernel, by decide +kernel, checkBank_ok (header_ok h0 (by decide +kernel))⟩,
   ⟨live, {}, 0, 0, by decide +kernel⟩,
   ⟨(userImg 0), { w2 := 2 }, 0, 0, by decide +kernel, by decide +kernel, by decide +kernel, by decide +kernel, by decide +kernel, by decide +kernel, header_ok h0 (by decide +kernel), checked_bad h0⟩,
   ⟨verImg, { w2 := 2 }, 0, 0, by decide +kernel, by decide +kernel, by decide +kernel, by decide +kernel, by decide +kernel, by decide +kernel, header_ok h2 (by decide +kernel), checked_good h2 ho hd⟩,
   ⟨(grove0 live), { w2 := 2 }, by decide +kernel⟩,
   ⟨(userImg 1), { w2 := 2 }, by decide +kernel, by decide +kernel, by decide +kernel, by decide +kernel, by decide +kernel, by decide +kernel, by decide +kernel, by decide +kernel, header_ok h1 (by decide +kernel)⟩,
   ⟨((grove0 live).setReg (pg 0x004 0x20) 3), { w2 := 0x100 }, by decide +kernel⟩,
   ⟨(grove0 live), {}, by decide +kernel⟩,
   ⟨live, { w2 := 0x200 }, 0, by decide +kernel⟩,
   ⟨live, {}, 0, by decide +kernel⟩,
   ⟨live, { w2 := 0x101 }, 0, by decide +kernel⟩⟩

theorem witness_StreamPackets (ho : Opens) :
    (∃ (s : State) (l : Load), 
    (s.awake = true) ∧ (s.cfg.load = some l) ∧ (l.phase = .wipe)) ∧
    (∃ (s : State) (l : Load) (h : BitVec 64) (d : List Byte), 
    (PacketNext s l h 0 0 d) ∧
      let u := s.afterPacket l 0
    (l.opened d = none)) ∧
    (∃ (s : State) (l : Load) (h : BitVec 64) (d : List Byte) (b : _), 
    (PacketNext s l h 0 0 d) ∧
      let u := s.afterPacket l 0
    (l.opened d = some b) ∧ (2 ≤ l.pkt) ∧ (l.rollDue = false)) ∧
    (∃ (s : State) (l : Load) (h : BitVec 64) (d : List Byte) (b : _), 
    (PacketNext s l h 0 0 d) ∧
      let u := s.afterPacket l 0
    (l.opened d = some b) ∧ (l.pkt < 2 ∨ l.rollDue = true)) ∧
    (∃ (s : State) (l : Load) (h : BitVec 64) (d : List Byte) (b : List Byte), 
    (PacketNext s l h 1 0 d) ∧ (l.opened d = some b) ∧
      let u := s.afterPacket l 0
    (l.pkt = 0) ∧ (pktArg h = 0x10524AF3)) ∧
    (∃ (s : State) (l : Load) (h : BitVec 64) (d : List Byte) (b : List Byte), 
    (PacketNext s l h 1 0 d) ∧ (l.opened d = some b) ∧
      let u := s.afterPacket l 0
    (l.pkt = 0) ∧ (pktArg h ≠ 0x10524AF3)) ∧
    (∃ (s : State) (l : Load) (h : BitVec 64) (d : List Byte) (b : List Byte), 
    (PacketNext s l h 1 0 d) ∧ (l.opened d = some b) ∧
      let u := s.afterPacket l 0
    (l.pkt ≠ 0)) ∧
    (∃ (s : State) (l : Load) (h : BitVec 64) (d : List Byte) (b : List Byte), 
    (PacketNext s l h 2 0 d) ∧ (l.opened d = some b) ∧
      let u := s.afterPacket l 0
    (pktReg h = 1) ∧ (l.pkt = 1) ∧ ((pktArg h).toNat = modeWanted l)) ∧
    (∃ (s : State) (l : Load) (h : BitVec 64) (d : List Byte) (b : List Byte), 
    (PacketNext s l h 2 0 d) ∧ (l.opened d = some b) ∧
      let u := s.afterPacket l 0
    (pktReg h = 1) ∧ (l.pkt = 1) ∧ ((pktArg h).toNat ≠ modeWanted l)) ∧
    (∃ (s : State) (l : Load) (h : BitVec 64) (d : List Byte) (b : List Byte), 
    (PacketNext s l h 2 0 d) ∧ (l.opened d = some b) ∧
      let u := s.afterPacket l 0
    (pktReg h = 1) ∧ (l.pkt ≠ 1)) ∧
    (∃ (s : State) (l : Load) (h : BitVec 64) (d : List Byte) (b : List Byte), 
    (PacketNext s l h 2 0 d) ∧ (l.opened d = some b) ∧
      let u := s.afterPacket l 0
    (pktReg h = 2) ∧ (2 ≤ l.pkt) ∧ (l.total = 0)) ∧
    (∃ (s : State) (l : Load) (h : BitVec 64) (d : List Byte) (b : List Byte), 
    (PacketNext s l h 2 0 d) ∧ (l.opened d = some b) ∧
      let u := s.afterPacket l 0
    (pktReg h = 2) ∧ (2 ≤ l.pkt) ∧ (l.total ≠ 0)) ∧
    (∃ (s : State) (l : Load) (h : BitVec 64) (d : List Byte) (b : List Byte), 
    (PacketNext s l h 5 40 d) ∧ (l.opened d = some b) ∧
      let u := s.afterPacket l 40
    (2 ≤ l.pkt) ∧ (l.rollDue = true)) ∧
    (∃ (s : State) (l : Load) (h : BitVec 64) (d : List Byte) (b : List Byte), 
    (PacketNext s l h 5 40 d) ∧ (l.opened d = some b) ∧
      let u := s.afterPacket l 40
    (2 ≤ l.pkt) ∧ (l.rollDue = false)) ∧
    (∃ (s : State) (l : Load) (h : BitVec 64) (d : List Byte) (b : List Byte) (ix : _), 
    (PacketNext s l h 3 516 d) ∧ (l.opened d = some b) ∧
      let u := s.afterPacket l 516

      let full := l.grove.isNone || l.fromFull
    (frameIndex (pktArg h) = some ix) ∧ (2 ≤ l.pkt) ∧ (l.rollDue = false) ∧ (l.outOfOrder full ix = false) ∧ (l.fromFull = true ∨ l.grove.any (fun g => !u.inWindow g ix) = false) ∧ (frameChk b = frameCheck (pktArg h) (frameData b))) ∧
    (∃ (s : State) (l : Load) (h : BitVec 64) (d : List Byte) (b : List Byte) (ix : _), 
    (PacketNext s l h 3 516 d) ∧ (l.opened d = some b) ∧
      let u := s.afterPacket l 516

      let full := l.grove.isNone || l.fromFull
    (frameIndex (pktArg h) = some ix) ∧ (2 ≤ l.pkt) ∧ (l.rollDue = false) ∧ (l.outOfOrder full ix = false) ∧ (l.fromFull = true ∨ l.grove.any (fun g => !u.inWindow g ix) = false) ∧ (frameChk b ≠ frameCheck (pktArg h) (frameData b))) ∧
    (∃ (s : State) (l : Load) (h : BitVec 64) (d : List Byte) (b : List Byte) (ix : _), 
    (PacketNext s l h 3 516 d) ∧ (l.opened d = some b) ∧
      let u := s.afterPacket l 516

      let full := l.grove.isNone || l.fromFull
    (frameIndex (pktArg h) = some ix) ∧ (l.rollDue = true ∨ l.last.any (fun k => decide (ix ≤ k)) = true ∨ (full = true ∧ ix ≠ (l.last.map (· + 1)).getD 0))) ∧
    (∃ (s : State) (l : Load) (h : BitVec 64) (d : List Byte) (b : List Byte), 
    (PacketNext s l h 3 516 d) ∧ (l.opened d = some b) ∧
      let u := s.afterPacket l 516

      let full := l.grove.isNone || l.fromFull
    (frameIndex (pktArg h) = none)) ∧
    (∃ (s : State) (l : Load) (h : BitVec 64) (d : List Byte) (x : BitVec 4096) (check : Word), 
    (PacketNext s l h 3 516 d) ∧ (l.opened d = none)) ∧
    (∃ (s : State) (l : Load) (h : BitVec 64) (d : List Byte) (b : List Byte), 
    (PacketNext s l h 7 4 d) ∧ (l.opened d = some b) ∧
      let u := s.afterPacket l 4

      let crc := BitVec.ofNat 32 (ofBytes b)
    (2 ≤ l.pkt) ∧ (l.pos + 28 = l.image.streamLen) ∧ (l.total = 0 ∨ l.seg ≠ 0) ∧ ((pktArg h).toNat = l.total) ∧ (crc = ~~~l.crc) ∧ (l.digestPasses d = true) ∧ (u.covered l = true)) ∧
    (∃ (s : State) (l : Load) (h : BitVec 64) (d : List Byte) (b : List Byte), 
    (PacketNext s l h 7 4 d) ∧ (l.opened d = some b) ∧
      let u := s.afterPacket l 4

      let crc := BitVec.ofNat 32 (ofBytes b)
    (2 ≤ l.pkt) ∧ (l.pos + 28 = l.image.streamLen) ∧ (l.total = 0 ∨ l.seg ≠ 0) ∧ ((pktArg h).toNat ≠ l.total ∨ crc ≠ ~~~l.crc ∨ l.digestPasses d = false ∨ u.covered l = false)) ∧
    (∃ (s : State) (l : Load) (h : BitVec 64) (d : List Byte) (b : List Byte), 
    (PacketNext s l h 7 4 d) ∧ (l.opened d = some b) ∧
      let u := s.afterPacket l 4

      let crc := BitVec.ofNat 32 (ofBytes b)
    (l.pos + 28 ≠ l.image.streamLen)) :=
  ⟨⟨(loading ({ aLoad with phase := .wipe })), { aLoad with phase := .wipe }, by decide +kernel⟩,
   ⟨(atPacket (aLoad : Load) (pkt 0 0 0 0) 0 true), (aLoad : Load), (pkt 0 0 0 0), (pktBytes (pkt 0 0 0 0) 0 true), by decide +kernel, opened_ok (ho.2.2.2.2.2.1 _) (by decide +kernel) (by decide +kernel)⟩,
   ⟨(atPacket (aLoad : Load) (pkt 0 0 0 0) 0 false), (aLoad : Load), (pkt 0 0 0 0), (pktBytes (pkt 0 0 0 0) 0 false), ([] : List Byte), by decide +kernel, opened_ok (ho.1 _) (by decide +kernel) (by decide +kernel), by decide +kernel, by decide +kernel⟩,
   ⟨(atPacket ({ aLoad with pkt := 1 } : Load) (pkt 0 0 0 0) 0 false), ({ aLoad with pkt := 1 } : Load), (pkt 0 0 0 0), (pktBytes (pkt 0 0 0 0) 0 false), ([] : List Byte), by decide +kernel, opened_ok (ho.1 _) (by decide +kernel) (by decide +kernel), by decide +kernel⟩,
   ⟨(atPacket ({ aLoad with pkt := 0 } : Load) (pkt 1 0 0 0x10524AF3) 0 false), ({ aLoad with pkt := 0 } : Load), (pkt 1 0 0 0x10524AF3), (pktBytes (pkt 1 0 0 0x10524AF3) 0 false), ([] : List Byte), by decide +kernel, opened_ok (ho.1 _) (by decide +kernel) (by decide +kernel), by decide +kernel, by decide +kernel⟩,
   ⟨(atPacket ({ aLoad with pkt := 0 } : Load) (pkt 1 0 0 0x10524AF2) 0 false), ({ aLoad with pkt := 0 } : Load), (pkt 1 0 0 0x10524AF2), (pktBytes (pkt 1 0 0 0x10524AF2) 0 false), ([] : List Byte), by decide +kernel, opened_ok (ho.1 _) (by decide +kernel) (by decide +kernel), by decide +kernel, by decide +kernel⟩,
   ⟨(atPacket (aLoad : Load) (pkt 1 0 0 0x10524AF3) 0 false), (aLoad : Load), (pkt 1 0 0 0x10524AF3), (pktBytes (pkt 1 0 0 0x10524AF3) 0 false), ([] : List Byte), by decide +kernel, opened_ok (ho.1 _) (by decide +kernel) (by decide +kernel), by decide +kernel⟩,
   ⟨(atPacket ({ aLoad with pkt := 1 } : Load) (pkt 2 1 0 0) 0 false), ({ aLoad with pkt := 1 } : Load), (pkt 2 1 0 0), (pktBytes (pkt 2 1 0 0) 0 false), ([] : List Byte), by decide +kernel, opened_ok (ho.1 _) (by decide +kernel) (by decide +kernel), by decide +kernel, by decide +kernel, by decide +kernel⟩,
   ⟨(atPacket ({ aLoad with pkt := 1 } : Load) (pkt 2 1 0 1) 0 false), ({ aLoad with pkt := 1 } : Load), (pkt 2 1 0 1), (pktBytes (pkt 2 1 0 1) 0 false), ([] : List Byte), by decide +kernel, opened_ok (ho.1 _) (by decide +kernel) (by decide +kernel), by decide +kernel, by decide +kernel, by decide +kernel⟩,
   ⟨(atPacket (aLoad : Load) (pkt 2 1 0 0) 0 false), (aLoad : Load), (pkt 2 1 0 0), (pktBytes (pkt 2 1 0 0) 0 false), ([] : List Byte), by decide +kernel, opened_ok (ho.1 _) (by decide +kernel) (by decide +kernel), by decide +kernel, by decide +kernel⟩,
   ⟨(atPacket (aLoad : Load) (pkt 2 2 0 0) 0 false), (aLoad : Load), (pkt 2 2 0 0), (pktBytes (pkt 2 2 0 0) 0 false), ([] : List Byte), by decide +kernel, opened_ok (ho.1 _) (by decide +kernel) (by decide +kernel), by decide +kernel, by decide +kernel, by decide +kernel⟩,
   ⟨(atPacket ({ aLoad with total := 1 } : Load) (pkt 2 2 0 0) 0 false), ({ aLoad with total := 1 } : Load), (pkt 2 2 0 0), (pktBytes (pkt 2 2 0 0) 0 false), ([] : List Byte), by decide +kernel, opened_ok (ho.1 _) (by decide +kernel) (by decide +kernel), by decide +kernel, by decide +kernel, by decide +kernel⟩,
   ⟨(atPacket ({ aLoad with rollDue := true } : Load) (pkt 5 0 40 0) 40 false), ({ aLoad with rollDue := true } : Load), (pkt 5 0 40 0), (pktBytes (pkt 5 0 40 0) 40 false), (ffs 40), by decide +kernel, opened_ok (ho.2.2.1 _) (by decide +kernel) (by decide +kernel), by decide +kernel, by decide +kernel⟩,
   ⟨(atPacket (aLoad : Load) (pkt 5 0 40 0) 40 false), (aLoad : Load), (pkt 5 0 40 0), (pktBytes (pkt 5 0 40 0) 40 false), (ffs 40), by decide +kernel, opened_ok (ho.2.2.1 _) (by decide +kernel) (by decide +kernel), by decide +kernel, by decide +kernel⟩,
   ⟨(atPacket ({ aLoad with last := some 17567 } : Load) (pkt 3 0 516 0x30000000) 516 false), ({ aLoad with last := some 17567 } : Load), (pkt 3 0 516 0x30000000), (pktBytes (pkt 3 0 516 0x30000000) 516 false), (frameBody (frameCheck 0x30000000 0)), (17568 : Nat), by decide +kernel, opened_ok ho.2.2.2.1 (by decide +kernel) (by decide +kernel), by decide +kernel, by decide +kernel, by decide +kernel, by decide +kernel, by decide +kernel, by rw [frameBody_chk, frameBody_data]; rfl⟩,
   ⟨(atPacket ({ aLoad with last := some 17567, key := [1] } : Load) (pkt 3 0 516 0x30000000) 516 false), ({ aLoad with last := some 17567, key := [1] } : Load), (pkt 3 0 516 0x30000000), (pktBytes (pkt 3 0 516 0x30000000) 516 false), (frameBody (frameCheck 0x30000000 0 + 1)), (17568 : Nat), by decide +kernel, opened_ok ho.2.2.2.2.1 (by decide +kernel) (by decide +kernel), by decide +kernel, by decide +kernel, by decide +kernel, by decide +kernel, by decide +kernel, by rw [frameBody_chk, frameBody_data]; exact ne_succ _⟩,
   ⟨(atPacket ({ aLoad with last := some 17631 } : Load) (pkt 3 0 516 0x30003F00) 516 false), ({ aLoad with last := some 17631 } : Load), (pkt 3 0 516 0x30003F00), (pktBytes (pkt 3 0 516 0x30003F00) 516 false), (frameBody (frameCheck 0x30000000 0)), (17631 : Nat), by decide +kernel, opened_ok ho.2.2.2.1 (by decide +kernel) (by decide +kernel), by decide +kernel, by decide +kernel⟩,
   ⟨(atPacket (aLoad : Load) (pkt 3 0 516 1) 516 false), (aLoad : Load), (pkt 3 0 516 1), (pktBytes (pkt 3 0 516 1) 516 false), (frameBody (frameCheck 0x30000000 0)), by decide +kernel, opened_ok ho.2.2.2.1 (by decide +kernel) (by decide +kernel), by decide +kernel⟩,
   ⟨(atPacket (aLoad : Load) (pkt 3 0 516 0) 516 true), (aLoad : Load), (pkt 3 0 516 0), (pktBytes (pkt 3 0 516 0) 516 true), 0, 0, by decide +kernel, opened_ok (ho.2.2.2.2.2.2 _) (by decide +kernel) (by decide +kernel)⟩,
   ⟨(atPacket ({ lastLoad with image := { lastLoad.image with digest := (Config.sha384 (pktBytes (pkt 7 0 4 17632) 4 false)).toNat } } : Load) (pkt 7 0 4 17632) 4 false), ({ lastLoad with image := { lastLoad.image with digest := (Config.sha384 (pktBytes (pkt 7 0 4 17632) 4 false)).toNat } } : Load), (pkt 7 0 4 17632), (pktBytes (pkt 7 0 4 17632) 4 false), ([0, 0, 0, 0] : List Byte), ⟨by decide +kernel, by unfold atPacket; rfl, by decide +kernel, by decide +kernel, by decide +kernel, by decide +kernel, by decide +kernel, by decide +kernel, by decide +kernel, by decide +kernel, by decide +kernel⟩, opened_ok (ho.2.1 _) (by decide +kernel) (by decide +kernel), by decide +kernel, by decide +kernel, by decide +kernel, by decide +kernel, by decide +kernel, digest_self rfl rfl, by decide +kernel⟩,
   ⟨(atPacket (lastLoad : Load) (pkt 7 0 4 5) 4 false), (lastLoad : Load), (pkt 7 0 4 5), (pktBytes (pkt 7 0 4 5) 4 false), ([0, 0, 0, 0] : List Byte), by decide +kernel, opened_ok (ho.2.1 _) (by decide +kernel) (by decide +kernel), by decide +kernel, by decide +kernel, by decide +kernel, by decide +kernel⟩,
   ⟨(atPacket (aLoad : Load) (pkt 7 0 4 0) 4 false), (aLoad : Load), (pkt 7 0 4 0), (pktBytes (pkt 7 0 4 0) 4 false), ([0, 0, 0, 0] : List Byte), by decide +kernel, opened_ok (ho.2.1 _) (by decide +kernel) (by decide +kernel), by decide +kernel⟩⟩

theorem witness_ReleaseAndFallback (h0 : Signed 0) :
    (∃ (s : State) (l : Load), 
    (s.awake = true) ∧ (s.cfg.load = some l) ∧ (l.phase = .release) ∧ (l.ranks < 8)) ∧
    (∃ (s : State) (l : Load), 
    (s.awake = true) ∧ (s.cfg.load = some l) ∧ (l.phase = .release) ∧ (8 ≤ l.ranks) ∧ (l.portsDone = false) ∧ (l.grove = none)) ∧
    (∃ (s : State) (l : Load) (g : _), 
    (s.awake = true) ∧ (s.cfg.load = some l) ∧ (l.phase = .release) ∧ (8 ≤ l.ranks) ∧ (l.portsDone = false) ∧ (l.grove = some g)) ∧
    (∃ (s : State) (l : Load), 
    (s.awake = true) ∧ (s.cfg.load = some l) ∧ (l.phase = .release) ∧ (l.portsDone = true) ∧ (l.pinsDone = false)) ∧
    (∃ (s : State) (l : Load) (tj : BitVec 16), 
    (s.awake = true) ∧ (s.cfg.load = some l) ∧ (l.phase = .release) ∧ (l.pinsDone = true)) ∧
    (∃ (s : State), 
    (s.awake = true) ∧ (s.power.entry.isSome = true)) ∧
    (∃ (s : State) (b : Nat), 
    (s.awake = true) ∧ (s.cfg.fallbackFrom = some b) ∧ (s.power.entry = none) ∧
      let x := (s.updCfg fun k => { k with fallbackFrom := none }).checkBank (1 - b)
    (x.1 = 0)) ∧
    (∃ (s : State) (b : Nat), 
    (s.awake = true) ∧ (s.cfg.fallbackFrom = some b) ∧ (s.power.entry = none) ∧
      let x := (s.updCfg fun k => { k with fallbackFrom := none }).checkBank (1 - b)
    (x.1 ≠ 0)) :=
  ⟨⟨(loading { aLoad with phase := .release, ranks := 7 }), { aLoad with phase := .release, ranks := 7 }, by decide +kernel⟩,
   ⟨(loading { aLoad with phase := .release, ranks := 8 }), { aLoad with phase := .release, ranks := 8 }, by decide +kernel⟩,
   ⟨(loading { aLoad with phase := .release, ranks := 8, grove := some 47 }), { aLoad with phase := .release, ranks := 8, grove := some 47 }, (47 : Nat), by decide +kernel⟩,
   ⟨(loading { aLoad with phase := .release, portsDone := true }), { aLoad with phase := .release, portsDone := true }, by decide +kernel⟩,
   ⟨(loading { aLoad with phase := .release, pinsDone := true }), { aLoad with phase := .release, pinsDone := true }, 0, by decide +kernel⟩,
   ⟨(live.updPower fun p => { p with entry := some anEntry }), by decide +kernel⟩,
   ⟨(bankA.updCfg fun k => { k with fallbackFrom := some 1 }), 1, by decide +kernel, by decide +kernel, by decide +kernel, checkBank_ok (header_ok h0 (by decide +kernel))⟩,
   ⟨(live.updCfg fun k => { k with fallbackFrom := some 1 }), 1, by decide +kernel⟩⟩

theorem witness_ReadbackAndScrub :
    (∃ (s : State) (r : Readback), 
    (s.timed = true) ∧ (s.dramWaits = false) ∧ (s.cfg.readback = some r) ∧ (laterThan r.tcap s.time.now = false) ∧
      let s1 := (s.updCfg fun t => { t with readback := none }).setCfgState 0

      let boughs := match r.grove with | none => List.range 128 | some g => s.groveBoughs g
    (s1.bufferOk r.buffer (16 + 520 * boughs.length) = false)) ∧
    (∃ (s : State) (r : Readback), 
    (s.timed = true) ∧ (s.dramWaits = false) ∧ (s.cfg.readback = some r) ∧ (laterThan r.tcap s.time.now = false) ∧
      let s1 := (s.updCfg fun t => { t with readback := none }).setCfgState 0

      let boughs := match r.grove with | none => List.range 128 | some g => s.groveBoughs g
    (s1.bufferOk r.buffer (16 + 520 * boughs.length) = true)) ∧
    (∃ (s : State), 
    (s.timed = true) ∧ (s.dramWaits = true)) ∧
    (∃ (s : State) (flips : BitVec 4096) (cf : Word) (fetched : Bool), 
    (s.awake = true) ∧ (s.rb (aSCRUB 0x20) 0 = true) ∧ (s.cfg.readback = none) ∧
      let ix := scrubIndex s.cfg.scrubPos
    (s.scrubSkips ix = true)) ∧
    (∃ (s : State) (flips : BitVec 4096) (cf : Word) (fetched : Bool), 
    (s.awake = true) ∧ (s.rb (aSCRUB 0x20) 0 = true) ∧ (s.cfg.readback = none) ∧
      let ix := scrubIndex s.cfg.scrubPos
    (s.scrubSkips ix = false) ∧
      let u := SMap.get (fun _ => 0) s.fabric.upset ix ^^^ flips

      let uc := SMap.get (fun _ => 0) s.fabric.upsetCheck ix ^^^ cf
    (frameCheck (frameAddr ix) (s.frame ix ^^^ u) ≠ frameCheck (frameAddr ix) (s.frame ix) ^^^ uc)) ∧
    (∃ (s : State) (b : Nat) (rest : List Nat), 
    (s.awake = true) ∧ (s.cfg.essBough = b :: rest) ∧ (s.guide.long = none) ∧ (s.cfg.load = none) ∧ (s.inTransition = false) ∧ (s.rf (aSCRUB 0x20) 2 1 = 0)) ∧
    (∃ (s : State) (b : Nat) (rest : List Nat), 
    (s.awake = true) ∧ (s.cfg.essBough = b :: rest) ∧ (s.guide.long = none) ∧ (s.cfg.load = none) ∧ (s.inTransition = false) ∧ (s.rf (aSCRUB 0x20) 2 1 = 2) ∧ (s.mode = mRUN ∨ s.mode = mIDLE)) ∧
    (∃ (s : State), 
    (s.awake = true) ∧ (s.cfg.essBough = [])) :=
  ⟨⟨(live.updCfg fun k => { k with readback := some ⟨none, 64, 0⟩ }), ⟨none, 64, 0⟩, by decide +kernel⟩,
   ⟨(((dramIn 2 []).setReg (pg 0x640 0x004) 1).updCfg fun k => { k with readback := some ⟨none, 64, 0⟩ }), ⟨none, 64, 0⟩, by decide +kernel⟩,
   ⟨((dramIn 1 []).setReg (pg 0x640 0x004) 1), by decide +kernel⟩,
   ⟨(live.setReg (aSCRUB 0x20) 1), 0, 0, false, by decide +kernel⟩,
   ⟨(setR live [(aSCRUB 0x20, 1), (aBOUGH 0 0x28, 1)]), 0, 1, false, by decide +kernel, by decide +kernel, by decide +kernel, by decide +kernel, scrub_ne rfl rfl⟩,
   ⟨(live.updCfg fun k => { k with essBough := [127] }), 127, [], by decide +kernel⟩,
   ⟨((live.setReg (aSCRUB 0x20) 4).updCfg fun k => { k with essBough := [127] }), 127, [], by decide +kernel⟩,
   ⟨live, by decide +kernel⟩⟩

theorem witness_FlashCalls :
    (∃ (s : State) (c : Call), 
    (Called s 0x0201 c) ∧
      let u := s.begun 0x0201 c
    (c.w3 = 0)) ∧
    (∃ (s : State) (c : Call), 
    (Called s 0x0201 c) ∧
      let u := s.begun 0x0201 c
    (c.w3.toNat ≠ 0) ∧ (c.w3.toNat ≤ 16) ∧ (bufferOf c.w4 c.w5 = 0) ∧ (readReaches c.w2.toNat c.w3.toNat = true) ∧
      let v := u.suspectRead (u.rangeOpen c.w2.toNat c.w3.toNat)

      let p := v.putBuffer 0 (v.flashRead c.w2.toNat c.w3.toNat)

      let i := p.2.inlineWords (v.flashRead c.w2.toNat c.w3.toNat)

      let f := i.2.free 32
    (p.1 = none)) ∧
    (∃ (s : State) (c : Call) (tj : BitVec 16), 
    (Called s 0x0202 c) ∧
      let u := s.begun 0x0202 c

      let n := fld c.w3 15 0
    (n = 0)) ∧
    (∃ (s : State) (c : Call) (tj : BitVec 16) (r : _), 
    (Called s 0x0202 c) ∧
      let u := s.begun 0x0202 c

      let n := fld c.w3 15 0
    (n ≠ 0) ∧ (n ≤ 2048) ∧ (bufferOf c.w4 c.w5 % 8 = 0) ∧ (bit c.w3 16 = false) ∧ (c.w2.toNat % 32 = 0) ∧ (u.flashRefusal c c.w2.toNat (32 * n) = some r)) ∧
    (∃ (s : State) (c : Call) (tj : BitVec 16), 
    (Called s 0x0202 c) ∧
      let u := s.begun 0x0202 c

      let n := fld c.w3 15 0
    (n ≠ 0) ∧ (n ≤ 2048) ∧ (bufferOf c.w4 c.w5 % 8 = 0) ∧ (bit c.w3 16 = false) ∧ (c.w2.toNat % 32 = 0) ∧ (u.flashRefusal c c.w2.toNat (32 * n) = none) ∧ (u.flashBusy = true)) ∧
    (∃ (s : State) (c : Call) (tj : BitVec 16) (data : _), 
    (Called s 0x0202 c) ∧
      let u := s.begun 0x0202 c

      let n := fld c.w3 15 0
    (n ≠ 0) ∧ (n ≤ 2048) ∧ (bufferOf c.w4 c.w5 % 8 = 0) ∧ (bit c.w3 16 = false) ∧ (c.w2.toNat % 32 = 0) ∧ (u.flashRefusal c c.w2.toNat (32 * n) = none) ∧ (u.flashBusy = false) ∧ ((u.takeBuffer (bufferOf c.w4 c.w5) (32 * n)).1 = some data)) ∧
    (∃ (s : State) (c : Call) (tj : BitVec 16), 
    (Called s 0x0203 c) ∧
      let u := s.begun 0x0203 c
    (c.w2.toNat % 0x10000 ≠ 0)) ∧
    (∃ (s : State) (c : Call) (tj : BitVec 16), 
    (Called s 0x0203 c) ∧
      let u := s.begun 0x0203 c
    (c.w2.toNat % 0x10000 = 0) ∧ (c.w3.toNat ≠ 0) ∧ (c.w3.toNat ≤ 160) ∧ (u.flashRefusal c c.w2.toNat (0x10000 * c.w3.toNat) = none) ∧ (u.flashBusy = true ∨ u.flash.parked.isSome = true)) ∧
    (∃ (s : State) (c : Call) (tj : BitVec 16), 
    (Called s 0x0203 c) ∧
      let u := s.begun 0x0203 c
    (c.w2.toNat % 0x10000 = 0) ∧ (c.w3.toNat ≠ 0) ∧ (c.w3.toNat ≤ 160) ∧ (u.flashRefusal c c.w2.toNat (0x10000 * c.w3.toNat) = none) ∧ (u.flashBusy = false) ∧ (u.flash.parked = none)) ∧
    (∃ (s : State) (c : Call), 
    (Called s 0x0204 c) ∧
      let u := s.begun 0x0204 c
    (u.flash.op = none)) ∧
    (∃ (s : State) (c : Call) (o : _), 
    (Called s 0x0204 c) ∧
      let u := s.begun 0x0204 c
    (u.flash.op = some o) ∧ (o.erase = false)) ∧
    (∃ (s : State) (c : Call) (o : _), 
    (Called s 0x0204 c) ∧
      let u := s.begun 0x0204 c
    (u.flash.op = some o) ∧ (o.erase = true) ∧ (o.detached = true)) ∧
    (∃ (s : State) (c : Call) (o : _), 
    (Called s 0x0204 c) ∧
      let u := s.begun 0x0204 c
    (u.flash.op = some o) ∧ (o.erase = true) ∧ (o.detached = false)) ∧
    (∃ (s : State) (c : Call) (tj : BitVec 16), 
    (Called s 0x0205 c) ∧
      let u := (s.begun 0x0205 c).sampleTj tj.toInt
    (u.flash.parked = none)) ∧
    (∃ (s : State) (c : Call) (tj : BitVec 16) (o : _), 
    (Called s 0x0205 c) ∧
      let u := (s.begun 0x0205 c).sampleTj tj.toInt
    (u.flash.parked = some o) ∧ (u.flashBusy = true)) ∧
    (∃ (s : State) (c : Call) (tj : BitVec 16) (o : _), 
    (Called s 0x0205 c) ∧
      let u := (s.begun 0x0205 c).sampleTj tj.toInt
    (u.flash.parked = some o) ∧ (u.flashBusy = false) ∧
      let wait := u.isHot || (o.tempWait && decide (cool < tj.toInt))

      let v := ((u.updFlash fun f => { f with op := some { o with tempWait := wait }, parked := none }).showOp).answerCall 0x0205 c
              rcOK 0 [BitVec.ofNat 32 (o.addr / 0x10000)]
    (o.retire = none ∨ wait = true)) ∧
    (∃ (s : State) (c : Call) (tj : BitVec 16) (o : _), 
    (Called s 0x0205 c) ∧
      let u := (s.begun 0x0205 c).sampleTj tj.toInt
    (u.flash.parked = some o) ∧ (u.flashBusy = false) ∧
      let wait := u.isHot || (o.tempWait && decide (cool < tj.toInt))

      let v := ((u.updFlash fun f => { f with op := some { o with tempWait := wait }, parked := none }).showOp).answerCall 0x0205 c
              rcOK 0 [BitVec.ofNat 32 (o.addr / 0x10000)]
    (o.retire ≠ none) ∧ (wait = false)) ∧
    (∃ (s : State) (c : Call), 
    (Called s 0x0206 c) ∧
      let u := s.begun 0x0206 c

      let n := c.w3.toNat
    (c.w2.toNat % 32 = 0) ∧ (n ≠ 0) ∧ (n ≤ 65536) ∧ (c.w2.toNat + 32 * n ≤ 0x2000000) ∧ (partOf (c.w2.toNat / 0x10000) ≠ partOf ((c.w2.toNat + 32 * n - 1) / 0x10000))) ∧
    (∃ (s : State) (c : Call), 
    (Called s 0x0206 c) ∧
      let u := s.begun 0x0206 c

      let n := c.w3.toNat
    (c.w2.toNat % 32 = 0) ∧ (n ≠ 0) ∧ (n ≤ 65536) ∧ (c.w2.toNat + 32 * n ≤ 0x2000000) ∧ (partOf (c.w2.toNat / 0x10000) = partOf ((c.w2.toNat + 32 * n - 1) / 0x10000)) ∧ (u.flashBusy = true)) ∧
    (∃ (s : State) (c : Call), 
    (Called s 0x0206 c) ∧
      let u := s.begun 0x0206 c

      let n := c.w3.toNat
    (c.w2.toNat % 32 = 0) ∧ (n ≠ 0) ∧ (n ≤ 65536) ∧ (c.w2.toNat + 32 * n ≤ 0x2000000) ∧ (partOf (c.w2.toNat / 0x10000) = partOf ((c.w2.toNat + 32 * n - 1) / 0x10000)) ∧ (u.flashBusy = false)) ∧
    (∃ (s : State) (c : Call), 
    (Called s 0x0207 c) ∧
      let u := s.begun 0x0207 c

      let sec := c.w2.toNat / 0x10000
    (0x2000000 ≤ c.w2.toNat)) ∧
    (∃ (s : State) (c : Call), 
    (Called s 0x0207 c) ∧
      let u := s.begun 0x0207 c

      let sec := c.w2.toNat / 0x10000
    (c.w2.toNat < 0x2000000)) :=
  ⟨⟨live, {}, by decide +kernel⟩,
   ⟨live, { w2 := 0x13FFFF0, w3 := 16 }, by decide +kernel⟩,
   ⟨live, {}, 0, by decide +kernel⟩,
   ⟨live, { w2 := 0x1FFFFE0, w3 := 1, w4 := 64 }, 0, rcBAD_ARG, by decide +kernel⟩,
   ⟨(flashWith fun f => { f with op := some anErase }), { w2 := 0x1400000, w3 := 1, w4 := 64 }, 0, by decide +kernel⟩,
   ⟨dramOn, { w2 := 0x1400000, w3 := 1, w4 := 64 }, 0, (List.replicate 32 0 : List Byte), by decide +kernel⟩,
   ⟨live, { w2 := 0x1400001 }, 0, by decide +kernel⟩,
   ⟨(flashWith fun f => { f with op := some anErase }), { w2 := 0x1400000, w3 := 1 }, 0, by decide +kernel⟩,
   ⟨live, { w2 := 0x1400000, w3 := 1 }, 0, by decide +kernel⟩,
   ⟨live, {}, by decide +kernel⟩,
   ⟨(flashWith fun f => { f with op := some (aProgram) }), {}, (aProgram : FlashOp), by decide +kernel⟩,
   ⟨(flashWith fun f => { f with op := some ({ anErase with detached := true }) }), {}, ({ anErase with detached := true } : FlashOp), by decide +kernel⟩,
   ⟨(flashWith fun f => { f with op := some (anErase) }), {}, (anErase : FlashOp), by decide +kernel⟩,
   ⟨live, {}, 0, by decide +kernel⟩,
   ⟨(flashWith fun f => { f with op := some anErase, parked := some anErase }), {}, 0, (anErase : FlashOp), by decide +kernel⟩,
   ⟨(flashWith fun f => { f with parked := some (anErase) }), {}, 0, (anErase : FlashOp), by decide +kernel⟩,
   ⟨(flashWith fun f => { f with parked := some ({ anErase with retire := some true }) }), {}, 0, ({ anErase with retire := some true } : FlashOp), by decide +kernel⟩,
   ⟨live, { w2 := 0x1BFFFE0, w3 := 2 }, by decide +kernel⟩,
   ⟨(flashWith fun f => { f with op := some anErase }), { w2 := 0x1FFFFE0, w3 := 1 }, by decide +kernel⟩,
   ⟨live, { w2 := 0x1FFFFE0, w3 := 1 }, by decide +kernel⟩,
   ⟨live, { w2 := 0x2000000 }, by decide +kernel⟩,
   ⟨live, { w2 := 0x1FFFFFF }, by decide +kernel⟩⟩

theorem witness_FlashPulses :
    (∃ (s : State) (o : FlashOp) (tj : BitVec 16), 
    (s.awake = true) ∧ (s.flash.op = some o) ∧ (o.erase = true) ∧ (o.tempWait = false) ∧
      let sec := o.addr / 0x10000

      let o1 := { o with addr := o.addr + 0x10000, left := o.left - 1, done := o.done + 1, pulses := 0 }

      let u := s.sampleTj tj.toInt

      let v := (s.partErase sec).sampleTj tj.toInt

      let worn := decide (endurance (partOf sec) ≤ u.eraseCount sec + 1)
    (worn = false ∨ u.isHot = false) ∧ (o.left = 1)) ∧
    (∃ (s : State) (o : FlashOp) (tj : BitVec 16), 
    (s.awake = true) ∧ (s.flash.op = some o) ∧ (o.erase = true) ∧ (o.tempWait = false) ∧
      let sec := o.addr / 0x10000

      let o1 := { o with addr := o.addr + 0x10000, left := o.left - 1, done := o.done + 1, pulses := 0 }

      let u := s.sampleTj tj.toInt

      let v := (s.partErase sec).sampleTj tj.toInt

      let worn := decide (endurance (partOf sec) ≤ u.eraseCount sec + 1)
    (worn = false ∨ u.isHot = false) ∧ (1 < o.left)) ∧
    (∃ (s : State) (o : FlashOp) (tj : BitVec 16), 
    (s.awake = true) ∧ (s.flash.op = some o) ∧ (o.erase = true) ∧ (o.tempWait = false) ∧
      let sec := o.addr / 0x10000

      let o1 := { o with addr := o.addr + 0x10000, left := o.left - 1, done := o.done + 1, pulses := 0 }

      let u := s.sampleTj tj.toInt

      let v := (s.partErase sec).sampleTj tj.toInt

      let worn := decide (endurance (partOf sec) ≤ u.eraseCount sec + 1)
    (worn = true) ∧ (u.isHot = true)) ∧
    (∃ (s : State) (o : FlashOp) (tj : BitVec 16), 
    (s.awake = true) ∧ (s.flash.op = some o) ∧ (o.erase = true) ∧ (o.tempWait = false) ∧
      let sec := o.addr / 0x10000

      let o1 := { o with addr := o.addr + 0x10000, left := o.left - 1, done := o.done + 1, pulses := 0 }

      let u := s.sampleTj tj.toInt

      let v := (s.partErase sec).sampleTj tj.toInt

      let worn := decide (endurance (partOf sec) ≤ u.eraseCount sec + 1)
    (19 ≤ o.pulses) ∧ (v.isHot = false)) ∧
    (∃ (s : State) (o : FlashOp) (tj : BitVec 16), 
    (s.awake = true) ∧ (s.flash.op = some o) ∧ (o.erase = true) ∧ (o.tempWait = false) ∧
      let sec := o.addr / 0x10000

      let o1 := { o with addr := o.addr + 0x10000, left := o.left - 1, done := o.done + 1, pulses := 0 }

      let u := s.sampleTj tj.toInt

      let v := (s.partErase sec).sampleTj tj.toInt

      let worn := decide (endurance (partOf sec) ≤ u.eraseCount sec + 1)
    (19 ≤ o.pulses) ∧ (v.isHot = true)) ∧
    (∃ (s : State) (o : FlashOp) (tj : BitVec 16), 
    (s.awake = true) ∧ (s.flash.op = some o) ∧ (o.erase = true) ∧ (o.tempWait = false) ∧
      let sec := o.addr / 0x10000

      let o1 := { o with addr := o.addr + 0x10000, left := o.left - 1, done := o.done + 1, pulses := 0 }

      let u := s.sampleTj tj.toInt

      let v := (s.partErase sec).sampleTj tj.toInt

      let worn := decide (endurance (partOf sec) ≤ u.eraseCount sec + 1)
    (o.pulses < 19)) ∧
    (∃ (s : State) (o : FlashOp) (tj : BitVec 16), 
    (s.awake = true) ∧ (s.flash.op = some o) ∧ (o.erase = false) ∧ (7 ≤ o.pulses)) ∧
    (∃ (s : State) (o : FlashOp) (tj : BitVec 16), 
    (s.awake = true) ∧ (s.flash.op = some o) ∧ (o.erase = false) ∧ (o.pulses < 7)) ∧
    (∃ (s : State) (o : FlashOp) (tj : BitVec 16), 
    (s.awake = true) ∧ (s.flash.op = some o) ∧ (o.tempWait = true) ∧ (tj.toInt ≤ cool)) ∧
    (∃ (s : State) (o : FlashOp) (tj : BitVec 16), 
    (s.awake = true) ∧ (s.flash.op = some o) ∧ (cool < tj.toInt)) :=
  ⟨⟨(flashWith fun f => { f with op := some (anErase) }), (anErase : FlashOp), 0, by decide +kernel⟩,
   ⟨(flashWith fun f => { f with op := some ({ anErase with left := 2 }) }), ({ anErase with left := 2 } : FlashOp), 0, by decide +kernel⟩,
   ⟨(let s := flashWith fun f => { f with op := some anErase }; { s with heart := { s.heart with work := { s.heart.work with erase := [(s.physSector 320, 100000)] } } }), anErase, 1001, by decide +kernel⟩,
   ⟨(flashWith fun f => { f with op := some ({ anErase with pulses := 19 }) }), ({ anErase with pulses := 19 } : FlashOp), 0, by decide +kernel⟩,
   ⟨(flashWith fun f => { f with op := some ({ anErase with pulses := 19 }) }), ({ anErase with pulses := 19 } : FlashOp), 1001, by decide +kernel⟩,
   ⟨(flashWith fun f => { f with op := some ({ anErase with pulses := 18 }) }), ({ anErase with pulses := 18 } : FlashOp), 0, by decide +kernel⟩,
   ⟨(flashWith fun f => { f with op := some ({ aProgram with pulses := 7 }) }), ({ aProgram with pulses := 7 } : FlashOp), 0, by decide +kernel⟩,
   ⟨(flashWith fun f => { f with op := some ({ aProgram with pulses := 6 }) }), ({ aProgram with pulses := 6 } : FlashOp), 0, by decide +kernel⟩,
   ⟨(flashWith fun f => { f with op := some ({ anErase with tempWait := true }) }), ({ anErase with tempWait := true } : FlashOp), 960, by decide +kernel⟩,
   ⟨(flashWith fun f => { f with op := some ({ anErase with tempWait := true }) }), ({ anErase with tempWait := true } : FlashOp), 961, by decide +kernel⟩⟩

theorem witness_SettingsCommands :
    (∃ (s : State) (c : Call), 
    (Called s 0x0401 c) ∧
      let u := s.begun 0x0401 c

      let id := fld c.w2 15 0
    (badRecId id = true)) ∧
    (∃ (s : State) (c : Call), 
    (Called s 0x0401 c) ∧
      let u := s.begun 0x0401 c

      let id := fld c.w2 15 0
    (badRecId id = false) ∧ (findRec u.settings.txs id = none)) ∧
    (∃ (s : State) (c : Call) (tsn : _) (r : _), 
    (Called s 0x0401 c) ∧
      let u := s.begun 0x0401 c

      let id := fld c.w2 15 0
    (badRecId id = false) ∧ (findRec u.settings.txs id = some (tsn, r)) ∧ (r.delete = true)) ∧
    (∃ (s : State) (c : Call) (tsn : _) (r : _), 
    (Called s 0x0401 c) ∧
      let u := s.begun 0x0401 c

      let id := fld c.w2 15 0
    (badRecId id = false) ∧ (findRec u.settings.txs id = some (tsn, r)) ∧ (r.delete = false) ∧
      let p := u.putBuffer (bufferOf c.w3 c.w4) r.data

      let i := p.2.inlineWords r.data
    (p.1 = none)) ∧
    (∃ (s : State) (c : Call), 
    (Called s 0x0402 c) ∧
      let u := s.begun 0x0402 c

      let id := fld c.w2 15 0
    (badRecId id = true)) ∧
    (∃ (s : State) (c : Call), 
    (Called s 0x0402 c) ∧
      let u := s.begun 0x0402 c

      let id := fld c.w2 15 0
    (badRecId id = false) ∧ (bit c.w2 31 = true) ∧ (fld c.w2 25 16 ≤ 512) ∧ (0x0C40 ≤ id ∨ fabricCaller c = false) ∧ (u.settings.staged = [])) ∧
    (∃ (s : State) (c : Call) (tj : BitVec 16), 
    (Called s 0x0403 c) ∧
      let u := (s.begun 0x0403 c).sampleTj tj.toInt

      let found := u.settings.staged.find? fun (e : Nat × List StageRec) => e.1 == callerOf c
    (found = none)) ∧
    (∃ (s : State) (c : Call) (tj : BitVec 16) (k : _) (l : _), 
    (Called s 0x0403 c) ∧
      let u := (s.begun 0x0403 c).sampleTj tj.toInt

      let found := u.settings.staged.find? fun (e : Nat × List StageRec) => e.1 == callerOf c
    (found = some (k, l)) ∧ ((u.readStaged l).1 = none)) ∧
    (∃ (s : State) (c : Call) (tj : BitVec 16) (k : _) (l : _) (recs : _), 
    (Called s 0x0403 c) ∧
      let u := (s.begun 0x0403 c).sampleTj tj.toInt

      let found := u.settings.staged.find? fun (e : Nat × List StageRec) => e.1 == callerOf c
    (found = some (k, l)) ∧ ((u.readStaged l).1 = some recs) ∧
      let x := (u.readStaged l).2.commitRecs (callerOf c) recs
    (x.1 = rcNO_SPACE)) ∧
    (∃ (s : State) (c : Call) (tj : BitVec 16) (k : _) (l : _) (recs : _), 
    (Called s 0x0403 c) ∧
      let u := (s.begun 0x0403 c).sampleTj tj.toInt

      let found := u.settings.staged.find? fun (e : Nat × List StageRec) => e.1 == callerOf c
    (found = some (k, l)) ∧ ((u.readStaged l).1 = some recs) ∧
      let x := (u.readStaged l).2.commitRecs (callerOf c) recs
    (x.1 ≠ rcNO_SPACE)) ∧
    (∃ (s : State) (c : Call), 
    (Called s 0x0404 c)) ∧
    (∃ (s : State) (c : Call) (k : _), 
    (Called s 0x0405 c) ∧
      let u := s.begun 0x0405 c

      let i := fld c.w2 5 0

      let p := u.putBuffer (bufferOf c.w3 c.w4) ((u.settings.clampLog.drop i).flatMap clampBytes)
    (p.1 = some k)) ∧
    (∃ (s : State) (c : Call), 
    (Called s 0x0405 c) ∧
      let u := s.begun 0x0405 c

      let i := fld c.w2 5 0

      let p := u.putBuffer (bufferOf c.w3 c.w4) ((u.settings.clampLog.drop i).flatMap clampBytes)
    (p.1 = none)) ∧
    (∃ (s : State) (tj : BitVec 16), 
    (s.awake = true) ∧ ((s.sampleTj tj.toInt).settings.deferred = [] ∨ cool < tj.toInt)) ∧
    (∃ (s : State) (tj : BitVec 16), 
    (s.awake = true) ∧ ((s.sampleTj tj.toInt).settings.deferred ≠ []) ∧ (tj.toInt ≤ cool)) ∧
    (∃ (s : State) (tj : BitVec 16), 
    (s.awake = true) ∧
      let u := s.sampleTj tj.toInt
    (u.storeErased < 3) ∧ (u.isHot = false)) ∧
    (∃ (s : State) (tj : BitVec 16), 
    (s.awake = true) ∧
      let u := s.sampleTj tj.toInt
    (3 ≤ u.storeErased ∨ u.isHot = true)) :=
  ⟨⟨live, { w2 := 0xFFF0 }, by decide +kernel⟩,
   ⟨live, {}, by decide +kernel⟩,
   ⟨(store fun t => { t with txs := [aTx true] }), { w2 := 0x100 }, (1 : Word), (⟨0x100, true, [1, 2]⟩ : SetRec), by decide +kernel⟩,
   ⟨(store fun t => { t with txs := [aTx false] }), { w2 := 0x100 }, (1 : Word), (⟨0x100, false, [1, 2]⟩ : SetRec), by decide +kernel⟩,
   ⟨live, { w2 := 0xFFF0 }, by decide +kernel⟩,
   ⟨live, { w2 := 0x82000C3F }, by decide +kernel⟩,
   ⟨live, {}, 0, by decide +kernel⟩,
   ⟨(store fun t => { t with staged := [aStage (some (64, 1))] }), {}, 0, (0 : Nat), (aStage (some (64, 1))).2, by decide +kernel⟩,
   ⟨(fullStore 524288), {}, 0, (0 : Nat), ([{ id := 0x101, delete := false, data := [] }] : List StageRec), ([{ id := 0x101, delete := false, data := [] }] : List SetRec), by decide +kernel, rfl, rfl, store_full (by decide) rfl rfl⟩,
   ⟨(store fun t => { t with staged := [aStage none] }), {}, 0, (0 : Nat), (aStage none).2, ([{ id := 0x100, delete := false, data := [1] }] : List SetRec), by decide +kernel⟩,
   ⟨live, {}, by decide +kernel⟩,
   ⟨(store fun t => { t with clampLog := [[1, 2, 3, 4]] }), { w3 := 64 }, (rcBUFFER_FAULT : Nat), by decide +kernel⟩,
   ⟨live, {}, by decide +kernel⟩,
   ⟨live, 0, by decide +kernel⟩,
   ⟨(store fun t => { t with deferred := [(0, [])] }), 960, by decide +kernel⟩,
   ⟨(store fun t => { t with written := List.range 14 }), 0, by decide +kernel⟩,
   ⟨live, 0, by decide +kernel⟩⟩

theorem witness_LifeCycle (ht : Config.sha384 (List.replicate 16 0) = 1) :
    (∃ (s : State) (c : Call) (word : BitVec 8) (erased : BitVec 16) (loss : Bool) (tj : BitVec 16), 
    (Called s 0x0601 c) ∧
      let u := (s.begun 0x0601 c).sampleTj tj.toInt

      let cut : Cut := { word := word.toNat, erased := erased.toNat, loss }
    (1 < fld c.w2 31 28)) ∧
    (∃ (s : State) (c : Call) (word : BitVec 8) (erased : BitVec 16) (loss : Bool) (tj : BitVec 16) (r : _), 
    (Called s 0x0601 c) ∧
      let u := (s.begun 0x0601 c).sampleTj tj.toInt

      let cut : Cut := { word := word.toNat, erased := erased.toNat, loss }
    (fld c.w2 31 28 = 0) ∧ (u.transitionRefusal c = some r)) ∧
    (∃ (s : State) (c : Call) (word : BitVec 8) (erased : BitVec 16) (loss : Bool) (tj : BitVec 16) (k : _), 
    (Called s 0x0601 c) ∧
      let u := (s.begun 0x0601 c).sampleTj tj.toInt

      let cut : Cut := { word := word.toNat, erased := erased.toNat, loss }
    (fld c.w2 31 28 = 0) ∧ (u.transitionRefusal c = none) ∧ (u.rf (aLC 0x20) 2 0 ≠ lSCRAP) ∧
      let x := u.tokenCheck c (tokenSlot (fld c.w2 2 0))
    (x.1 = some k)) ∧
    (∃ (s : State) (c : Call) (word : BitVec 8) (erased : BitVec 16) (loss : Bool) (tj : BitVec 16), 
    (Called s 0x0601 c) ∧
      let u := (s.begun 0x0601 c).sampleTj tj.toInt

      let cut : Cut := { word := word.toNat, erased := erased.toNat, loss }
    (fld c.w2 31 28 = 0) ∧ (u.transitionRefusal c = none) ∧ (u.rf (aLC 0x20) 2 0 ≠ lSCRAP) ∧
      let x := u.tokenCheck c (tokenSlot (fld c.w2 2 0))
    (x.1 = none)) ∧
    (∃ (s : State) (c : Call) (word : BitVec 8) (erased : BitVec 16) (loss : Bool) (tj : BitVec 16) (r : _), 
    (Called s 0x0601 c) ∧
      let u := (s.begun 0x0601 c).sampleTj tj.toInt

      let cut : Cut := { word := word.toNat, erased := erased.toNat, loss }
    (fld c.w2 31 28 = 1) ∧ (u.otpRefusal c = some r)) ∧
    (∃ (s : State) (c : Call) (word : BitVec 8) (erased : BitVec 16) (loss : Bool) (tj : BitVec 16) (bytes : _), 
    (Called s 0x0601 c) ∧
      let u := (s.begun 0x0601 c).sampleTj tj.toInt

      let cut : Cut := { word := word.toNat, erased := erased.toNat, loss }
    (fld c.w2 31 28 = 1) ∧ (u.otpRefusal c = none) ∧ ((u.takeBuffer (bufferOf c.w3 c.w4) (8 * fld c.w2 14 8)).1 = some bytes) ∧ (fld c.w2 14 8 < word.toNat)) ∧
    (∃ (s : State) (c : Call), 
    (Called s 0x0602 c) ∧
      let u := s.begun 0x0602 c
    (trustedCaller c = false)) ∧
    (∃ (s : State) (c : Call), 
    (Called s 0x0602 c) ∧
      let u := s.begun 0x0602 c
    (trustedCaller c = true) ∧ (u.rf (aLC 0x20) 2 0 ≠ lFIELD)) ∧
    (∃ (s : State) (c : Call), 
    (Called s 0x0602 c) ∧
      let u := s.begun 0x0602 c
    (trustedCaller c = true) ∧ (u.rf (aLC 0x20) 2 0 = lFIELD) ∧ (fld c.w2 31 16 = 0)) ∧
    (∃ (s : State) (c : Call) (k : _), 
    (Called s 0x0602 c) ∧
      let u := s.begun 0x0602 c
    (trustedCaller c = true) ∧ (u.rf (aLC 0x20) 2 0 = lFIELD) ∧ (fld c.w2 31 16 ≠ 0) ∧ ((u.tokenCheck c 46).1 = some k)) ∧
    (∃ (s : State) (c : Call), 
    (Called s 0x0603 c)) ∧
    (∃ (s : State), 
    (s.awake = true) ∧ (s.rb (aLC 0x28) 0 = true) ∧ (s.debugTimed = true)) :=
  ⟨⟨live, { w2 := 0x20000000 }, 0, 0, false, 0, by decide +kernel⟩,
   ⟨live, { w2 := 5, mbx := 1 }, 0, 0, false, 0, (rcNOT_PERMITTED : Nat), by decide +kernel⟩,
   ⟨(inMode mSERVICE), { w2 := 1 }, 0, 0, false, 0, (rcNOT_PERMITTED : Nat), by decide +kernel⟩,
   ⟨{ inMode mSERVICE with otp := otpOf [(16, 1)] }, { w2 := 1 }, 0, 0, false, 0, by decide +kernel, by decide +kernel, by decide +kernel, by decide +kernel, token_ok ht (by decide +kernel) (by decide +kernel) (by decide +kernel) (by decide +kernel) (by decide +kernel)⟩,
   ⟨live, { w2 := 0x10000000, mbx := 1 }, 0, 0, false, 0, (rcNOT_PERMITTED : Nat), by decide +kernel⟩,
   ⟨(service dramOn), { w2 := 0x1000010F, w3 := 64 }, 2, 0, false, 0, (List.replicate 8 0 : List Byte), by decide +kernel⟩,
   ⟨live, { mbx := 1 }, by decide +kernel⟩,
   ⟨live, {}, by decide +kernel⟩,
   ⟨(live.setReg (pg 0x004 0x20) 3), {}, by decide +kernel⟩,
   ⟨(live.setReg (pg 0x004 0x20) 3), { w2 := 0x10000 }, (rcNOT_PERMITTED : Nat), by decide +kernel⟩,
   ⟨live, {}, by decide +kernel⟩,
   ⟨(live.setReg (aLC 0x28) 0xFFFE0001), by decide +kernel⟩⟩

theorem witness_JtagPort :
    (∃ (s : State) (code : BitVec 8), 
    (s.supplied = true) ∧
      let held (t : State) (code : Nat) : State :=
            ({ t with pins := { t.pins with scan := { t.pins.scan with ir := code, dr := t.jtagCapture code } } }).settlePins
    (jtagListed code.toNat = false)) ∧
    (∃ (s : State) (cells : List (BitVec 10 × Bool × Bool)), s.supplied = true ∧ cells = cells) ∧
    (∃ (s : State) (w : List Word), 
    (s.awake = true) ∧ (s.guide.jtagReq = none) ∧ (s.guide.taken = none)) ∧
    (∃ (s : State) (w : List Word), 
    (s.awake = true) ∧ (s.guide.jtagReq.isSome = true)) ∧
    (∃ (s : State) (write : Bool) (ofs : BitVec 24) (v : Word), 
    (s.supplied = true) ∧ (s.debugOpen = false ∨ s.regsOn = false)) ∧
    (∃ (s : State) (ofs : BitVec 24) (v : Word), 
    (s.supplied = true) ∧ (s.debugOpen = true) ∧ (s.regsOn = true)) :=
  ⟨⟨live, 0, by decide +kernel⟩,
   ⟨live, [(639, true, true)], by decide +kernel, rfl⟩,
   ⟨live, [], by decide +kernel⟩,
   ⟨{ live with guide := { jtagReq := some (3, [0]) } }, [], by decide +kernel⟩,
   ⟨live, false, 0, 0, by decide +kernel⟩,
   ⟨(live.setReg (pg 0x004 0x028) 3), 0, 0, by decide +kernel⟩⟩

theorem witness_Pitches :
    (∃ (s : State), 
    (s.awake = true) ∧ (s.pitchBlocked = true)) ∧
    (∃ (s : State) (c : _), 
    (s.awake = true) ∧ (s.pitchBlocked = false) ∧ (s.bist.running = none) ∧ (s.bist.queue.find? (fun c => !c.waits && decide (elemKind c.elem < 5) && !s.pitchWaits c.elem) = some c)) ∧
    (∃ (s : State) (p : _), 
    (s.awake = true) ∧ (s.pitchBlocked = false) ∧ (s.bist.running = none) ∧ (s.bist.queue.find? (fun c => !c.waits && decide (elemKind c.elem < 5) && !s.pitchWaits c.elem) = none) ∧ (s.bist.request = some p) ∧ (s.runWaits p.elem = false)) ∧
    (∃ (s : State) (late : _), 
    (s.awake = true) ∧ (s.pitchBlocked = false) ∧ (s.bist.running = none) ∧ (s.bist.request = none) ∧ (s.bist.queue.find? (fun c => !c.waits && decide (elemKind c.elem < 5) && !s.pitchWaits c.elem) = none) ∧ (s.bist.due = some late)) ∧
    (∃ (s : State), 
    (s.awake = true) ∧ (s.pitchBlocked = false) ∧ (s.bist.running = none) ∧ (s.bist.request = none) ∧ (s.bist.queue.find? (fun c => !c.waits && decide (elemKind c.elem < 5) && !s.pitchWaits c.elem) = none) ∧ (s.bist.due = none)) ∧
    (∃ (s : State) (p : _), 
    (s.awake = true) ∧ (s.pitchBlocked = false) ∧ (s.bist.running = some p) ∧ (p.waitGrant = true)) ∧
    (∃ (s : State) (p : Pitch) (fails : List Word) (misr : _), 
    (s.awake = true) ∧ (s.bist.running = some p) ∧ (p.waitGrant = false) ∧
      let exp := Config.bistSignature (elemKind p.elem)

      let s1 := (s.showPitch p.elem false false).updBist fun b => { b with
            running := none, full := b.full && !b.fullStops, fullStops := false }

      let answer (t : State) : State := if p.source = 10 then t.pitchAnswer else t
    (misr ≠ exp)) ∧
    (∃ (s : State) (late : Bool), 
    (s.awake = true) ∧ (s.rb (aPITCH 0x20) 16 = true)) ∧
    (∃ (s : State) (p : Pitch), 
    (s.awake = true) ∧ (s.bist.running = some p) ∧ (p.waitGrant = true)) ∧
    (∃ (s : State) (e : Word) (c : Check), 
    (s.awake = true) ∧ (s.bist.queue.find? (fun c => c.waits && c.elem == e) = some c)) ∧
    (∃ (s : State) (e : Word) (c : Check), 
    (s.awake = true) ∧ (s.bist.queue.find? (fun c => c.elem == e && c.source == 8 && !c.ready) = some c)) ∧
    (∃ (s : State) (port : RopePort) (bad : Bool) (c : Check), 
    (s.awake = true) ∧ (s.bist.queue.find? (fun c => c.elem == elemOf 6 (portPage port - 0x541)) = some c)) ∧
    (∃ (s : State) (c : Call), 
    (Called s 0x0701 c) ∧
      let u := s.begun 0x0701 c
    ([mRUN, mHOLD, mSERVICE].contains u.mode = false)) ∧
    (∃ (s : State) (c : Call), 
    (Called s 0x0701 c) ∧
      let u := s.begun 0x0701 c
    ([mRUN, mHOLD, mSERVICE].contains u.mode = true) ∧ (pitchable c.w2 = false)) ∧
    (∃ (s : State) (c : Call), 
    (Called s 0x0701 c) ∧
      let u := s.begun 0x0701 c
    ([mRUN, mHOLD, mSERVICE].contains u.mode = true) ∧ (pitchable c.w2 = true) ∧ (u.groupRetired c.w2 = false)) ∧
    (∃ (s : State) (c : Call), 
    (Called s 0x0702 c) ∧
      let u := s.begun 0x0702 c
    (bit c.w2 31 = true) ∧ (fld c.w2 15 0 = 0)) ∧
    (∃ (s : State) (c : Call), 
    (Called s 0x0702 c) ∧
      let u := s.begun 0x0702 c
    (bit c.w2 31 = false) ∧ (bit c.w3 31 = false)) ∧
    (∃ (s : State) (c : Call), 
    (Called s 0x0702 c) ∧
      let u := s.begun 0x0702 c
    (bit c.w2 31 = true) ∧ (fld c.w2 15 0 ≠ 0) ∧ (bit c.w2 16 = true) ∧ (bit c.w3 31 = false)) :=
  ⟨⟨(bistOn fun b => { b with holdoff := some 5 }), by decide +kernel⟩,
   ⟨(bistOn fun b => { b with queue := [{ aCheck with elem := 0x40000000 }] }), ({ aCheck with elem := 0x40000000 } : Check), by decide +kernel⟩,
   ⟨(let s := runs 0 1 {}; { s with bist := { s.bist with request := some aPitch } }), aPitch, by decide +kernel⟩,
   ⟨(bistOn fun b => { b with due := some true }), true, by decide +kernel⟩,
   ⟨live, by decide +kernel⟩,
   ⟨(bistOn fun b => { b with running := some ({ aPitch with waitGrant := true }) }), ({ aPitch with waitGrant := true } : Pitch), by decide +kernel⟩,
   ⟨(bistOn fun b => { b with running := some aPitch }), aPitch, [], (Config.bistSignature (elemKind aPitch.elem) + 1 : Word), by decide +kernel, by decide +kernel, by decide +kernel, ne_succ _⟩,
   ⟨(live.setReg (aPITCH 0x20) 0x10000), false, by decide +kernel⟩,
   ⟨(bistOn fun b => { b with running := some ({ aPitch with waitGrant := true }) }), ({ aPitch with waitGrant := true } : Pitch), by decide +kernel⟩,
   ⟨(bistOn fun b => { b with queue := [{ aCheck with waits := true }] }), 0x20000000, { aCheck with waits := true }, by decide +kernel⟩,
   ⟨(bistOn fun b => { b with queue := [aCheck] }), 0x20000000, aCheck, by decide +kernel⟩,
   ⟨(bistOn fun b => { b with queue := [{ aCheck with elem := elemOf 6 2 }] }), .branch, false, { aCheck with elem := elemOf 6 2 }, by decide +kernel⟩,
   ⟨(inMode mLOAD), {}, by decide +kernel⟩,
   ⟨live, { w2 := 0xFFFFFFFF }, by decide +kernel⟩,
   ⟨live, { w2 := 0x80000000 }, by decide +kernel⟩,
   ⟨live, { w2 := 0x80000000 }, by decide +kernel⟩,
   ⟨live, {}, by decide +kernel⟩,
   ⟨live, { w2 := 0x80010001 }, by decide +kernel⟩⟩

theorem witness_HeartAndCalendar :
    (∃ (s : State) (c : Call), 
    (Called s 0x0801 c) ∧
      let u := s.begun 0x0801 c
    (u.heartPart (fld c.w2 3 0) (fld c.w2 15 8) = none)) ∧
    (∃ (s : State) (c : Call) (d : _) (k : _), 
    (Called s 0x0801 c) ∧
      let u := s.begun 0x0801 c
    (u.heartPart (fld c.w2 3 0) (fld c.w2 15 8) = some d) ∧ (bufferOf c.w3 c.w4 ≠ 0) ∧
      let p := u.putBuffer (bufferOf c.w3 c.w4) d
    (p.1 = some k)) ∧
    (∃ (s : State) (c : Call) (d : _), 
    (Called s 0x0801 c) ∧
      let u := s.begun 0x0801 c
    (u.heartPart (fld c.w2 3 0) (fld c.w2 15 8) = some d) ∧ (bufferOf c.w3 c.w4 ≠ 0) ∧
      let p := u.putBuffer (bufferOf c.w3 c.w4) d
    (p.1 = none)) ∧
    (∃ (s : State) (c : Call) (d : _), 
    (Called s 0x0801 c) ∧
      let u := s.begun 0x0801 c
    (u.heartPart (fld c.w2 3 0) (fld c.w2 15 8) = some d) ∧ (bufferOf c.w3 c.w4 = 0)) ∧
    (∃ (s : State) (c : Call) (tj : BitVec 16), 
    (Called s 0x0802 c) ∧
      let u := (s.begun 0x0802 c).sampleTj tj.toInt
    (fld c.w3 31 8 ≠ 0)) ∧
    (∃ (s : State) (c : Call) (tj : BitVec 16), 
    (Called s 0x0802 c) ∧
      let u := (s.begun 0x0802 c).sampleTj tj.toInt
    (fld c.w3 31 8 = 0)) ∧
    (∃ (s : State) (tj : BitVec 16), 
    (s.power.cold = false) ∧ (s.awake = false) ∧ (s.calendar + 1 < maxCalendar)) ∧
    (∃ (s : State) (tj : BitVec 16), 
    (s.power.cold = false) ∧ (s.awake = true) ∧ (s.calendar + 1 < maxCalendar)) ∧
    (∃ (s : State) (tj : BitVec 16), 
    (s.power.cold = true)) ∧
    (∃ (s : State) (fails : BitVec 16), 
    (s.awake = true) ∧ (s.rb (aRTC 0x20) 0 = true) ∧ (s.alarmAt ≤ s.calendar)) ∧
    (∃ (s : State) (fails : BitVec 16), 
    (s.awake = true) ∧ (s.rb (aRTC 0x20) 0 = false)) ∧
    (∃ (s : State) (fails : BitVec 16), 
    (s.power.inReset = false) ∧ (s.awake = false) ∧ (s.rb (aRTC 0x20) 0 = true) ∧ (s.alarmAt ≤ s.calendar)) ∧
    (∃ (s : State) (tj : BitVec 16), 
    (s.awake = true) ∧ (s.heartFree < 128)) ∧
    (∃ (s : State) (tj : BitVec 16), 
    (s.awake = true) ∧ (128 ≤ s.heartFree)) :=
  ⟨⟨live, { w2 := 0x1001 }, by decide +kernel⟩,
   ⟨live, { w3 := 1 }, (live.heartPart 0 0).getD [], (rcBAD_ARG : Nat), by decide +kernel⟩,
   ⟨dramOn, { w3 := 64 }, (dramOn.heartPart 0 0).getD [], by decide +kernel⟩,
   ⟨live, { w2 := 0xF01 }, (live.heartPart 1 15).getD [], by decide +kernel⟩,
   ⟨live, { w3 := 0x100 }, 0, by decide +kernel⟩,
   ⟨live, {}, 0, by decide +kernel⟩,
   ⟨(inMode mSLEEP), 0, by decide +kernel⟩,
   ⟨live, 0, by decide +kernel⟩,
   ⟨{ live with power := { inReset := true, cold := true, railsDown := true } }, 0, by decide +kernel⟩,
   ⟨(live.setReg (aRTC 0x20) 1), 0, by decide +kernel⟩,
   ⟨live, 0, by decide +kernel⟩,
   ⟨((inMode mSLEEP).setReg (aRTC 0x20) 1), 0, by decide +kernel⟩,
   ⟨live, 0, by decide +kernel⟩,
   ⟨{ live with heart := { live.heart with valid := true } }, 0, by decide +kernel⟩⟩

theorem witness_FabricAndClocksComplete :
    (∃ (s : State) (r : ReqId) (b : BitVec 7) (v : Word), 
    (s.handshake b.toNat = true) ∧ (s.held b.toNat = false) ∧ (s.pageEnable (0x040 + b.toNat) = true) ∧ (bit v 1 = false) ∧ (bit v 2 = false) ∧ (Accepted s r (pg (0x040 + b.toNat) 0x004) (setBit v 0 false))) ∧
    (∃ (s : State) (r : ReqId) (b : BitVec 7) (v : Word), 
    (s.handshake b.toNat = true) ∧ (s.held b.toNat = false) ∧ (s.pageEnable (0x040 + b.toNat) = false) ∧ (bit v 1 = false) ∧ (bit v 2 = false) ∧ (Accepted s r (pg (0x040 + b.toNat) 0x004) (setBit v 0 true))) ∧
    (∃ (s : State) (r : ReqId) (b : BitVec 7) (v : Word), 
    (Accepted s r (aHS_CTL b.toNat) (setBit v 7 true))) ∧
    (∃ (s : State) (b : BitVec 7), 
    (s.timed = true) ∧ (s.tmode b.toNat ≠ 0) ∧ (s.cadenceEnd b.toNat = s.time.now)) ∧
    (∃ (s : State) (b : BitVec 7) (j : BitVec 9), 
    (s.awake = true) ∧ (s.handshake b.toNat = true) ∧ (s.held b.toNat = false) ∧ ((s.bough b.toNat).cfg.stages.contains j.toNat = true) ∧ (((s.bough b.toNat).stageAt j.toNat).rin = false) ∧ (((s.bough b.toNat).cfg.stageAt j.toNat).inputs.isEmpty = false) ∧ (((s.bough b.toNat).cfg.stageAt j.toNat).inputs.all (s.request b.toNat j.toNat) = true)) ∧
    (∃ (s : State) (b : BitVec 7) (c : BitVec 5), 
    (s.awake = true) ∧ (s.chanLive b.toNat ((s.bough b.toNat).cfg.ochAt c.toNat) = true) ∧ (((s.bough b.toNat).ochAt c.toNat).ready = true) ∧ (s.wire (.dest b.toNat (2560 + c.toNat)) = some true)) ∧
    (∃ (s : State) (b : BitVec 7) (c : BitVec 5) (level : Bool), 
    (s.awake = true) ∧ (s.chanLive b.toNat ((s.bough b.toNat).cfg.ichAt c.toNat) = true) ∧ (s.held b.toNat = false) ∧ (((s.bough b.toNat).cfg.ichAt c.toNat).en = true) ∧ (((s.bough b.toNat).ichAt c.toNat).next = none) ∧ (((s.bough b.toNat).ichAt c.toNat).valid = false) ∧ (s.reqLevel b.toNat c.toNat = some level) ∧ (level ≠ ((s.bough b.toNat).ichAt c.toNat).seen)) ∧
    (∃ (s : State) (b : BitVec 7) (c : BitVec 5), 
    (s.awake = true) ∧ (s.chanLive b.toNat ((s.bough b.toNat).cfg.ichAt c.toNat) = true) ∧ (((s.bough b.toNat).ichAt c.toNat).valid = true) ∧ (s.wire (.dest b.toNat (2592 + c.toNat)) = some true) ∧
      let s2 := (s.updBough b.toNat fun y => y.setIch c.toNat { (s.bough b.toNat).ichAt c.toNat with
            valid := false, ack := !((s.bough b.toNat).ichAt c.toNat).ack }).settle
    (s2.slotAt b.toNat c.toNat = none)) ∧
    (∃ (s : State) (j : BitVec 6), 
    (s.awake = true) ∧ (s.fabricMasked (256 + j.toNat) = false) ∧ (SMap.get (fun _ => false) s.evt.launched (256 + j.toNat) = false)) ∧
    (∃ (s : State) (b : BitVec 7) (n : BitVec 3) (row : BitVec 9) (dbe : Bool), 
    (s.awake = true) ∧ (s.eccLive b.toNat n.toNat = true)) ∧
    (∃ (s : State) (edges : List ClockEdge), 
    ((∀ e ∈ edges, e.falling = false ∧ s.levels.rootRuns e.root.toNat = false))) ∧
    (∃ (s : State) (r : ReqId) (p : BitVec 3) (v : Word), 
    (Accepted s r (aPLL p.toNat 0) (setBit v 0 true)) ∧ (s.rb (aPLL p.toNat 0) 0 = false)) ∧
    (∃ (s : State) (r : ReqId) (p : BitVec 3) (v : Word), 
    (Accepted s r (aPLL p.toNat 0) (setBit v 0 false)) ∧ (s.rb (aPLL p.toNat 0) 0 = true)) ∧
    (∃ (s : State) (p : BitVec 3), 
    (s.awake = true) ∧ (s.rb (aPLL p.toNat 0) 0 = true) ∧ (s.fabric.clocks.badPll.contains p.toNat = false) ∧ (s.power.lockWait = none)) ∧
    (∃ (s : State) (p : BitVec 3), 
    (s.awake = true) ∧ (s.rb (aPLL p.toNat 0xC) 0 = true)) ∧
    (∃ (s : State) (r : ReqId) (n : BitVec 4) (v : Word), 
    (Accepted s r (aROOT n.toNat) v)) ∧
    (∃ (s : State) (n : BitVec 4), 
    (s.awake = true) ∧ (s.rb (aROOT n.toNat) 30 = true) ∧ (s.rootRuns n.toNat = false) ∧ (s.sourceRuns (s.rf (aROOT n.toNat) 5 0) = true)) ∧
    (∃ (s : State) (r : ReqId) (b : BitVec 7) (c : BitVec 3) (v : Word), 
    (Accepted s r (aBCLK b.toNat c.toNat) v)) ∧
    (∃ (s : State) (r : ReqId) (b : BitVec 7) (v : Word), 
    (Accepted s r (aXMERGE b.toNat) (setBit v 15 true))) ∧
    (∃ (s : State), 
    (s.rb aSRC_CTL 0 = true) ∧ (s.fabric.clocks.xtalFailed = false) ∧ (s.rb aSRC_STAT 3 = false)) ∧
    (∃ (s : State), 
    (s.rb aSRC_STAT 3 = true) ∧ (s.awake = true)) :=
  ⟨⟨(setR live [(aBOUGH 127 0x20, 2), (aBOUGH 127 0x28, 1), (pg 0x0BF 4, 1)]), 2, 127, 0, by decide +kernel⟩,
   ⟨(setR live [(aBOUGH 127 0x20, 2), (aBOUGH 127 0x28, 1), (pg 0x0BF 4, 0)]), 2, 127, 0, by decide +kernel⟩,
   ⟨live, 2, 0, 0, by decide +kernel⟩,
   ⟨(let s := runs 127 1 { cadEnd := 256 }; { s with cadenceStep := [127] }), 127, by decide +kernel⟩,
   ⟨(runs 0 2 { cfg := { ich := [(0, { en := true })], twig := [(255, { ctl := { en := true, rin := [256, 511, 511, 511] } })] }, ich := validIn }), 0, 255, by decide +kernel⟩,
   ⟨(clk 0 (runs 0 1 { cfg := inMux, ich := validIn })), 0, 0, by decide +kernel⟩,
   ⟨(slot0 true (clk 0 (runs 0 1 { cfg := inMux }))), 0, 0, true, by decide +kernel⟩,
   ⟨(clk 0 (runs 0 1 { cfg := inMux, ich := validIn })), 0, 0, by decide +kernel⟩,
   ⟨released, 63, by decide +kernel⟩,
   ⟨(runs 0 1 { cfg := { bram := [(7, { ecc := true, a := { width := 6 } })] } }), 0, 7, 0, false, by decide +kernel⟩,
   ⟨live, [{ root := 15, falling := false }], by decide +kernel⟩,
   ⟨live, 2, 7, 0, by decide +kernel⟩,
   ⟨(live.setReg (aPLL 7 0) 1), 2, 7, 0, by decide +kernel⟩,
   ⟨(live.setReg (aPLL 7 0) 1), 7, by decide +kernel⟩,
   ⟨(live.setReg (aPLL 7 0xC) 1), 7, by decide +kernel⟩,
   ⟨live, 2, 0, 0, by decide +kernel⟩,
   ⟨(setR live [(aROOT 15, 0x40000022)]), 15, by decide +kernel⟩,
   ⟨live, 2, 0, 0, 0, by decide +kernel⟩,
   ⟨live, 2, 0, 0, by decide +kernel⟩,
   ⟨(live.setReg aSRC_CTL 1), by decide +kernel⟩,
   ⟨(live.setReg aSRC_STAT 8), by decide +kernel⟩⟩

theorem witness_TimedUnitsComplete :
    (∃ (s : State), 
    (s.awake = true) ∧ (s.commitPending 0x018 = true) ∧ (s.timeAtOnce = true) ∧ (fld (s.shadow (aTIME 0x40)) 1 0 = 1)) ∧
    (∃ (s : State), 
    (s.awake = true) ∧ (s.commitPending 0x018 = true) ∧ (s.timeAtOnce = true) ∧ (fld (s.shadow (aTIME 0x40)) 1 0 = 2) ∧ (s.refSrc ≠ 0)) ∧
    (∃ (s : State) (v : DevTime), 
    (s.timed = true) ∧ (s.time.step = some (.toValue v))) ∧
    (∃ (s : State), 
    (s.timed = true) ∧ (s.servoRuns = true) ∧ (s.refSrc = 1) ∧ (s.commitPending 0x018 = false)) ∧
    (∃ (s : State), 
    (s.timed = true) ∧ (s.servoRuns = true) ∧ (s.time.refLost = false) ∧ (s.commitPending 0x018 = false)) ∧
    (∃ (s : State) (e : DevTime), 
    (s.timed = true) ∧ (laterThan e s.time.now = false)) ∧
    (∃ (s : State) (r : ReqId) (p : BitVec 8) (v : Word), 
    (Accepted s r (aEDGE p.toNat 0x28) v)) ∧
    (∃ (s : State) (r : ReqId) (p : BitVec 8) (v : Word), 
    (Accepted s r (aEDGE p.toNat 0x2C) v) ∧ ((s.edgeUnit p.toNat).queue.length < 16)) ∧
    (∃ (s : State) (r : ReqId) (p : BitVec 8) (v : Word), 
    (Accepted s r (pg (0x100 + p.toNat) 0x004) (setBit v 0 false)) ∧ (s.pageEnable (0x100 + p.toNat) = true) ∧ (bit v 1 = false) ∧ (bit v 2 = false)) ∧
    (∃ (s : State) (p : BitVec 8) (t : DevTime), 
    (s.timed = true) ∧ ((s.edgeUnit p.toNat).armed = some t) ∧ (laterThan s.time.now (t + ns 1000000) = false) ∧ (((s.outEdges p.toNat).any fun e => (e - s.time.now).toNat ≤ 512 || (s.time.now - e).toNat ≤ 512) = false)) ∧
    (∃ (s : State) (i : BitVec 2), 
    (s.timed = true) ∧ (s.rb (aCAL i.toNat 0x24) 31 = false) ∧ (s.power.loopGroupDue = false)) ∧
    (∃ (s : State) (r : ReqId) (c : BitVec 6) (v : Word), 
    (Accepted s r (aSDF c.toNat 0) (setBit v 0 false))) ∧
    (∃ (s : State) (c : BitVec 6) (o : SdfOutput), 
    (s.timed = true) ∧ ((s.sdfChan c.toNat).out = some o) ∧ (laterThan o.due s.time.now = false)) ∧
    (∃ (s : State) (c : BitVec 6), 
    (s.timed = true) ∧ ((s.sdfChan c.toNat).runTrip = true)) ∧
    (∃ (s : State) (q : BitVec 2) (w : BitVec 64), 
    (s.timed = true) ∧ (s.loop.held.contains q.toNat = false) ∧ (s.runningCtxs = [])) ∧
    (∃ (s : State) (r : ReqId) (v : Word), 
    (Accepted s r (aLOOP 0x38) (setBit v 0 true)) ∧ (s.rb (aLOOP 0x3C) 0 = false)) ∧
    (∃ (s : State) (r : ReqId) (n : BitVec 10) (v : Word), 
    (Accepted s r (aCTX n.toNat 0xF4) (setBit v 15 true))) :=
  ⟨⟨(let s := setR live [(pg 0x018 8, 2)]; { s with regs := { s.regs with shd := [(aTIME 0x40, 1)] } }), by decide +kernel⟩,
   ⟨(let s := setR live [(pg 0x018 8, 2), (aTIME 0x20, 1)]; { s with regs := { s.regs with shd := [(aTIME 0x40, 2)] } }), by decide +kernel⟩,
   ⟨(tb (fun t => { t with step := some (.toValue 0x123456789) }) live), 0x123456789, by decide +kernel⟩,
   ⟨(setR live [(pg 0x018 4, 1), (aTIME 0x20, 1)]), by decide +kernel⟩,
   ⟨(setR live [(pg 0x018 4, 1), (aTIME 0x20, 2), (aTIME 0x50, 100000000)]), by decide +kernel⟩,
   ⟨live, 0, by decide +kernel⟩,
   ⟨live, 2, 0, 0, by decide +kernel⟩,
   ⟨live, 2, 0, 0, by decide +kernel⟩,
   ⟨(setR live [(pg 0x1FF 4, 1)]), 2, 255, 0, by decide +kernel⟩,
   ⟨(unitAt 255 { armed := some 77 } live), 255, 77, by decide +kernel⟩,
   ⟨live, 3, by decide +kernel⟩,
   ⟨live, 2, 0, 0, by decide +kernel⟩,
   ⟨(chanAt 63 { out := some anOutput }), 63, anOutput, by decide +kernel⟩,
   ⟨(chanAt 63 { runTrip := true }), 63, by decide +kernel⟩,
   ⟨live, 0, 0, by decide +kernel⟩,
   ⟨live, 2, 0, by decide +kernel⟩,
   ⟨live, 2, 0, 0, by decide +kernel⟩⟩

/-! ### Invariants: a state that meets the premise, and its next state -/

theorem witness_QueueStaysWellFormed : ∃ s t, QueueOk s ∧ s.pending ≠ [] ∧ step s = .next t :=
  ⟨live.withPending [.svcInfo { caller := 1 }, .wipeDone], _, by unfold QueueOk; decide +kernel, by decide +kernel, rfl⟩
theorem witness_MemoryStaysCanonical : ∃ s t, Memory.wf s = true ∧ s.otp.words ≠ [] ∧ step s = .next t :=
  ⟨{ live with otp := { words := [(100, 1)] }, pending := [.wipeDone] }, _, by decide +kernel, by decide +kernel, rfl⟩
theorem witness_OtpBitsStay : ∃ s t, s.otp.words ≠ [] ∧ step s = .next t :=
  ⟨bankA.withPending [.wipeDone], _, by decide +kernel, rfl⟩

theorem witness_IdleStepTicks : (∃ s : State, s.pending = [] ∧ s.time.running = true ∧ s.time.now.toNat + 256 < 2 ^ 72) ∧
    (∃ s : State, s.pending = [] ∧ s.time.running = false) :=
  ⟨⟨live, by decide +kernel⟩, State.reset, by decide +kernel⟩
theorem witness_LutOutput : ∃ (tt : BitVec 16) (x y z : Bool),
    let ix (a b c d : Bool) : Nat := a.toNat + 2 * b.toNat + 4 * c.toNat + 8 * d.toNat
    tt.getLsbD (ix false x y z) = tt.getLsbD (ix true x y z) ∧ tt.getLsbD (ix x false y z) = tt.getLsbD (ix x true y z) ∧
    tt.getLsbD (ix x y false z) = tt.getLsbD (ix x y true z) ∧ tt.getLsbD (ix x y z false) = tt.getLsbD (ix x y z true) :=
  ⟨0x8888, false, false, false, by decide⟩
theorem witness_CarryCell_selects : ∃ (s : State) (ev : Node → Option Bool) (b l : Nat),
    ev (.f b l) = some true ∧ ev (.twig b (l / 16) ((s.bough b).cfg.leafAt l).selA.toNat) = some true ∧ ev (.cin b l) = some true ∧
    ((s.bough b).cfg.leafAt l).osel = 1 ∧ ((s.bough b).cfg.leafAt l).dsel = true :=
  ⟨fab live [(127, { cfg := { leaf := [(4095, { osel := 1, dsel := true })] } })], fun _ => some true, 127, 4095, by decide +kernel⟩
theorem witness_PendingRefusesShadowWrites_2 : ∃ a, rwsMask a = 0 ∧ (regSpec a).isSome = true := ⟨0x018004, by decide +kernel⟩
theorem witness_EventsTouchOnlyTheirPages : (∃ e a, e < 320 ∧ evtPage a = false ∧ e ≠ 104 ∧ e = 319 ∧ a = aMODE) ∧
    ∃ p b a, p < 0x1000 ∧ b < 32 ∧ evtPage a = false ∧ a ≠ pg p 0x00C ∧ evtPage (pg p 0x00C) = false ∧ b = 31 :=
  ⟨⟨319, aMODE, by decide +kernel⟩, 0xFFF, 31, aMODE, by decide +kernel⟩
theorem witness_ClockSites_divisor : ∃ (s : State) (r : ReqId) (v : Word), Accepted s r (aBCLK 127 7) v ∧
    fld (s.reg (aBCLK 127 7)) 23 16 ≠ fld v 23 16 := ⟨live, 2, 0x00010000, by decide +kernel⟩
theorem witness_TimeSteps_slew : ∃ s : State, s.awake = true ∧ s.commitPending 0x018 = true ∧ fld (s.shadow (aTIME 0x40)) 1 0 = 2 ∧ s.refSrc ≠ 0 :=
  ⟨let s := setR live [(pg 0x018 8, 2), (aTIME 0x20, 1)]; { s with regs := { s.regs with shd := [(aTIME 0x40, 2)] } }, by decide +kernel⟩
theorem witness_RopeJoining_ports : ∃ s : State, s.awake = true ∧ s.ropeState = rsLISTEN ∧ s.pageEnable 0x541 = true ∧ s.pageEnable 0x542 = true :=
  ⟨setR (onRope 0x00FC0001 1) [(pg 0x541 4, 1), (pg 0x542 4, 1)], by decide +kernel⟩

/-! ### The well-formedness check refuses -/

theorem test_wf_requester : (Instr.registerWrite 4 0x100 0 true 1 false).wf = false := by decide
theorem test_wf_pin : (Instr.parkEnd 640).wf = false := by decide
theorem test_wf_stage : (Instr.hsRequest 0 287).wf = false ∧ (Instr.hsRequest 0 300).wf = false := by decide
theorem test_wf_caller : (Instr.svcInfo { caller := 0x1FF }).wf = false ∧ (Instr.svcInfo { jtag := true, caller := 1 }).wf = false := by decide
theorem test_wf_rail : (Instr.railFault 0 0).wf = false := by decide
theorem test_wf_entry_steps : (Instr.svcPwrEnter {} 6 0).wf = false := by decide
theorem test_wf_edges : (Instr.activeClockEdge [] []).wf = false := by decide
theorem test_wf_ecc : (Instr.loopGridPoint 0 3).wf = false := by decide
theorem test_wf_access_frame : (Instr.mbxRx .west (aFrame (.mbx 0 false 0 [1])) badWire).wf = false ∧
    (Instr.rdRspRx .west (aFrame (.rdRsp 0 0 (List.replicate 8 0) 0)) badWire).wf = false := by decide
theorem test_wf_cycle_frame : (Instr.joinCheck { valid := [(2048, true)] } true).wf = false ∧
    (Instr.joinCheck { data := [(2048, 0)] } true).wf = false := by decide
theorem test_wf_link : (Instr.linkChange true 5 1 false).wf = false ∧ (Instr.linkChange true 1 3 false).wf = false := by decide
theorem test_wf_bank : (Instr.vccioMeasure 20 0 false).wf = false := by decide
theorem test_wf_upsets : (Instr.dramReadDone 0 (List.replicate 9 (0, 0))).wf = false := by decide
theorem test_wf_lanes : (Instr.retrim (List.replicate 17 (0, 0, 0, 0))).wf = false ∧ (Instr.trainingDone (List.replicate 17 (0, 0))).wf = false := by decide
theorem test_wf_cells : (Instr.extest [(640, true, true)]).wf = false := by decide
theorem test_wf_bypass : (Instr.bypass 0x21).wf = false := by decide
theorem test_wf_guide_call : (Instr.guideCall [0]).wf = false := by decide
theorem test_wf_debug_access : (Instr.debugAccess false 2 0).wf = false := by decide
theorem test_wf_accepts : (Instr.registerWrite 1 0x100 0 true 1 false).wf = true ∧ (Instr.parkEnd 639).wf = true ∧ (Instr.bypass 0x22).wf = true := by decide

/-! ### Values of the spec's own text -/

/-- The example of R453: PASS_MS = 5 of a scrub record is written as 10, with reason 2. -/
theorem test_clamp_example : clampWord 0x006020 0x00050001 = ([2], 0x000A0001) := by decide +kernel
/-- The check value of the IEEE 802.3 CRC-32 (R394), over the bytes 1 to 9 in ASCII. -/
theorem test_crc32 : crc32 [0x31, 0x32, 0x33, 0x34, 0x35, 0x36, 0x37, 0x38, 0x39] = 0xCBF43926 := by decide +kernel
/-- The rope worked example of section 09: K, E and N_SLOT of rope 0 with 40 positions at 10 µs, at 5 and at 1.25 Gbaud. -/
theorem test_rope_slots : ropeK false 2 = 16 ∧ frameEnd 40 16 = 2694 ∧ slotsOf false 2 40 = 40 ∧
    ropeK true 2 = 4 ∧ frameEnd 40 4 = 714 ∧ slotsOf true 2 40 = 9 := by decide +kernel
/-- The last frame index of each address type (R395). -/
theorem test_frame_index : frameIndex 0x00F73F00 = some 8191 ∧ frameIndex 0x10F74700 = some 17407 ∧ frameIndex 0x21300700 = some 17567 ∧
    frameIndex 0x30003F00 = some 17631 ∧ frameIndex 0x30004000 = none := by decide +kernel
/-- The reset word of SYS:MODE leaves no command decoded, for the table gives its rows no bits (log 56). -/
theorem test_no_bits : decodeTableWord 32 0 = none ∧ State.reset.withFetchWord 32 0 = State.reset := ⟨rfl, rfl⟩

end Sys2Proof.Tests
end

section
/-! Reads of a field of a register after a write of another field, or of another register. -/

namespace Sys2Proof.Machine

theorem State.rf_setReg_ne (s : State) (a c hi lo : Nat) (v : Word) (h : c ≠ a) : (s.setReg a v).rf c hi lo = s.rf c hi lo := by
  rw [State.rf, State.reg_setReg_ne _ _ _ _ h, State.rf]

theorem State.rf_setF_ne (s : State) (a hi lo v c hi' lo' : Nat) (h : c ≠ a) : (s.setF a hi lo v).rf c hi' lo' = s.rf c hi' lo' :=
  State.rf_setReg_ne _ _ _ _ _ _ h

/-- A field of the same register that shares no bit with the one written. -/
theorem State.rf_setF_disjoint (s : State) (a hi lo v hi' lo' : Nat) (h : hi' < 32) (hl : lo ≤ hi) (hl' : lo' ≤ hi')
    (hd : hi < lo' ∨ hi' < lo) : (s.setF a hi lo v).rf a hi' lo' = s.rf a hi' lo' := by
  simp only [State.rf, State.reg_setF, if_true, fld_setFld_ne _ _ _ _ _ _ h hl hl' hd]

/-- The field written reads back, where its value fits. -/
theorem State.rf_setF_of_lt (s : State) (a hi lo v : Nat) (h : hi < 32) (hl : lo ≤ hi) (hv : v < 2 ^ (hi - lo + 1)) :
    (s.setF a hi lo v).rf a hi lo = v := by
  rw [State.rf_setF_same _ _ _ _ _ h hl, Nat.mod_eq_of_lt hv]

theorem State.reg_setF_ne (s : State) (a hi lo v c : Nat) (h : c ≠ a) : (s.setF a hi lo v).reg c = s.reg c :=
  State.reg_setReg_ne _ _ _ _ h

@[simp] theorem State.reg_settlePins (s : State) (a : Nat) : s.settlePins.reg a = s.reg a := by
  rw [State.reg, State.settlePins_regs, State.reg]

/-- Updates of the power state that agree on the present one are the same update. -/
theorem State.updPower_congr {s : State} {f g : Power → Power} (h : f s.power = g s.power) : s.updPower f = s.updPower g := by
  simp only [State.updPower, h]

end Sys2Proof.Machine
end

section
/-! How the Guide carries out a call: its body in the state in which it begins, and the modes in which it is refused (R20, R21, R329). -/

namespace Sys2Proof.Machine

/-- A call that the Guide carries out is its body in the state in which it begins (R329). -/
theorem Called.serve {s : State} {svc : Nat} {k : Call} (h : Called s svc k) (body : State → State) :
    s.serve svc k body = body (s.begun svc k) := by
  obtain ⟨_, hwait, hpath, hfree⟩ := h
  have hreply : (16 ≤ k.mbx.toNat && !k.jtag && decide (k.replyMbx.toNat < 16)) = false := by
    rcases hpath with h | h | h
    · simp [show ¬ 16 ≤ k.mbx.toNat by omega]
    · simp [h]
    · simp [show ¬ k.replyMbx.toNat < 16 by omega]
  unfold State.begun at hfree ⊢
  simp [State.serve, hwait, hreply, hfree]

/-- No transition is under way, and the mode is one of those asked for (R20, R21). -/
theorem State.modeRefusal_none {s : State} {modes : List Nat} (ht : s.inTransition = false) (hm : s.mode ∈ modes) :
    s.modeRefusal modes = none := by
  simp [State.modeRefusal, ht, hm]

end Sys2Proof.Machine
end

section
/-! What the requests of the DRAM and the responses of the Guide can change: registers, events, mailboxes, the rope, the DRAM, the checks and
the heartwood that its errors reach, and the Guide's own lists. Every other part of the state is as it was. -/

namespace Sys2Proof.Machine

/-- Nothing but the named parts differs. -/
def SameBeyondTraffic (s t : State) : Prop := t = { s with
  freeIx := t.freeIx, regs := t.regs, evt := t.evt, mbx := t.mbx, mbSeq := t.mbSeq, host := t.host, dramMem := t.dramMem, dram := t.dram
  bist := t.bist, heart := t.heart, rope := t.rope, guide := t.guide }

namespace SameBeyondTraffic

theorem refl (s : State) : SameBeyondTraffic s s := rfl

theorem trans {s t u : State} (h1 : SameBeyondTraffic s t) (h2 : SameBeyondTraffic t u) : SameBeyondTraffic s u := by
  unfold SameBeyondTraffic at *
  rw [h1] at h2
  exact h2

theorem of_same {s t : State} (h : SameOutside s t) : SameBeyondTraffic s t := by
  unfold SameOutside at h
  unfold SameBeyondTraffic
  rw [h]

theorem branch {s t u : State} {c : Prop} [Decidable c] (h1 : SameBeyondTraffic s t) (h2 : SameBeyondTraffic s u) :
    SameBeyondTraffic s (if c then t else u) := by split <;> assumption

theorem fold {α : Type} (f : State → α → State) (hf : ∀ t x, SameBeyondTraffic t (f t x)) (l : List α) (s : State) :
    SameBeyondTraffic s (l.foldl f s) := by
  induction l generalizing s with
  | nil => exact refl s
  | cons x l ih => exact (hf s x).trans (ih (f s x))

theorem otp {s t : State} (h : SameBeyondTraffic s t) : t.otp = s.otp := by
  unfold SameBeyondTraffic at h; have e := congrArg State.otp h; exact e

theorem raise {s t : State} (h : SameBeyondTraffic s t) (e : Nat) : SameBeyondTraffic s (t.raise e) := h.trans (of_same (t.raise_same e))

theorem setErr {s t : State} (h : SameBeyondTraffic s t) (p b : Nat) : SameBeyondTraffic s (t.setErr p b) :=
  h.trans (of_same (t.setErr_same p b))

theorem setReg {s t : State} (h : SameBeyondTraffic s t) (a : Nat) (v : Word) : SameBeyondTraffic s (t.setReg a v) := h.trans rfl

theorem satAdd {s t : State} (h : SameBeyondTraffic s t) (a hi lo n : Nat) : SameBeyondTraffic s (t.satAdd a hi lo n) := h.trans rfl

theorem updDram {s t : State} (h : SameBeyondTraffic s t) (f : Dram → Dram) : SameBeyondTraffic s (t.updDram f) := h.trans rfl

theorem updBist {s t : State} (h : SameBeyondTraffic s t) (f : Bist → Bist) : SameBeyondTraffic s (t.updBist f) := h.trans rfl

theorem setF {s t : State} (h : SameBeyondTraffic s t) (a hi lo v : Nat) : SameBeyondTraffic s (t.setF a hi lo v) := h.trans rfl

end SameBeyondTraffic

section
open SameBeyondTraffic

/-! ### Requests of the DRAM -/

theorem State.dramPut_traffic (l : List Byte) (s : State) (a : Nat) : SameBeyondTraffic s (s.dramPut a l) := by
  induction l generalizing s a with
  | nil => exact refl s
  | cons b t ih => exact trans rfl (ih _ _)

theorem State.dramRewritten_traffic (s : State) (a : Nat) : SameBeyondTraffic s (s.dramRewritten a) := branch rfl rfl

theorem State.dramStore_traffic (s : State) (a : Nat) (r : BitVec 72) : SameBeyondTraffic s (s.dramStore a r) := by
  unfold State.dramStore
  exact ((s.dramPut_traffic _ a).trans (State.dramRewritten_traffic _ a)).updDram _

theorem State.openAnswers_traffic (s : State) (p : Nat) (l : List DramResp) : SameBeyondTraffic s (s.openAnswers p l).2 := by
  have draw (l : List DramResp) (acc : List DramResp × State) : SameBeyondTraffic acc.2 (l.foldl (fun (acc : List DramResp × State) r =>
      let (d, t) := acc.2.free 512
      let (e, u) := t.freeBool
      (acc.1 ++ [{ r with data := d, err := e }], u)) acc).2 := by
    induction l generalizing acc with
    | nil => exact refl _
    | cons r l ih => exact trans rfl (ih _)
  unfold State.openAnswers
  split
  · exact draw l ([], s)
  · exact refl s

theorem State.answerPort_traffic (s : State) (p : Nat) : SameBeyondTraffic s (s.answerPort p) := by
  unfold State.answerPort
  extract_lets mine due answers
  have h := s.openAnswers_traffic p answers
  generalize s.openAnswers p answers = x at *
  obtain ⟨resp, t⟩ := x
  exact branch ((h.updDram _).satAdd _ _ _ _) (h.updDram _)

theorem State.enqueue_traffic (s : State) (r : DramReq) (bad : Bool) : SameBeyondTraffic s (s.enqueue r bad) := by
  unfold State.enqueue
  extract_lets b r1 s1 s2 s3
  have h1 : SameBeyondTraffic s s1 := (branch rfl (branch rfl rfl) : SameBeyondTraffic s (if b then s else s.dropBacks r)).updDram _
  have h2 : SameBeyondTraffic s1 s2 := branch rfl rfl
  have h3 : SameBeyondTraffic s2 s3 := branch ((branch ((refl s2).setErr _ _) (refl s2)).setErr _ _) (refl s2)
  exact ((h1.trans h2).trans h3).trans (State.answerPort_traffic _ _)

theorem State.ownRequest_traffic (s : State) (a : Nat) (w : Bool) (be : BitVec 64) (d : BitVec 512) :
    SameBeyondTraffic s (s.ownRequest a w be d) := branch rfl (State.enqueue_traffic _ _ _)

/-! ### Errors of the DRAM -/

theorem State.heartLimit_traffic (s : State) (o m : Nat) : SameBeyondTraffic s (s.heartLimit o m) :=
  branch (((refl s).setErr _ _).raise _) (refl s)

theorem State.heartErr_traffic (s : State) (k r : Nat) : SameBeyondTraffic s (s.heartErr k r) := by
  unfold State.heartErr
  refine branch (refl s) ?_
  have h (f : HeartCount → HeartCount) : SameBeyondTraffic s (s.updCount f) := rfl
  exact (h _).trans (State.heartLimit_traffic _ _ _)

theorem State.checkResult_traffic (s : State) (e : Word) (src res : Nat) (t : Bool) (m x : Word) :
    SameBeyondTraffic s (s.checkResult e src res t m x) := by
  unfold State.checkResult
  extract_lets t0 s1 s2 s3 s4 s5 s6 s7
  have h1 : SameBeyondTraffic s s1 := (((refl s).setReg _ _).setReg _ _).setReg _ _
  have h2 : SameBeyondTraffic s s2 := ((h1.setReg _ _).setReg _ _).setReg _ _
  clear_value s2
  have h3 : SameBeyondTraffic s s3 := by unfold s3; split <;> exact h2.satAdd _ _ _ _
  clear_value s3
  have h4 : SameBeyondTraffic s s4 := h3.trans (State.heartErr_traffic _ _ _)
  clear_value s4
  have h5 : SameBeyondTraffic s s5 := branch (h4.setErr _ _) (branch (h4.setErr _ _) h4)
  clear_value s5
  have h6 : SameBeyondTraffic s s6 := branch (h5.setErr _ _) (branch (h5.setErr _ _) h5)
  clear_value s6
  have h7 : SameBeyondTraffic s s7 := by
    unfold s7
    split
    iterate 6 exact h6.raise _
    exact h6
  clear_value s7
  exact branch (h7.raise _) (branch (h7.raise _) h7)

theorem State.queueCheck_traffic (s : State) (e : Word) (src w : Nat) : SameBeyondTraffic s (s.queueCheck e src w) := by
  unfold State.queueCheck
  refine branch rfl (branch rfl (branch rfl (branch rfl (branch ?_ rfl))))
  exact ((refl s).setErr _ _).trans (State.checkResult_traffic _ _ _ _ _ _ _)

theorem State.dramFetch_traffic (s : State) (a : Nat) : SameBeyondTraffic s (s.dramFetch a).2 := by
  unfold State.dramFetch; split <;> rfl

theorem State.readWord_traffic (s : State) (a req : Nat) (q back : Bool) : SameBeyondTraffic s (s.readWord a req q back).2.2.2 := by
  have h0 := s.dramFetch_traffic a
  unfold State.readWord
  generalize s.dramFetch a = p at *
  obtain ⟨r, s0⟩ := p
  dsimp -zeta only
  generalize eccRead r = e
  obtain ⟨w, sbe, dbe⟩ := e
  dsimp -zeta only
  split
  · exact h0
  · extract_lets d s1 s2 s3
    have h1 : SameBeyondTraffic s s1 := h0.trans rfl
    clear_value s1
    have h2 : SameBeyondTraffic s s2 := branch ((h1.satAdd _ _ _ _).raise _) (branch (h1.raise _) ((h1.satAdd _ _ _ _).raise _))
    clear_value s2
    have h3 : SameBeyondTraffic s s3 := branch (h2.trans (State.ownRequest_traffic _ _ _ _ _)) h2
    clear_value s3
    exact branch (h3.trans (State.queueCheck_traffic _ _ _ _)) h3

theorem State.dramWriteWord_traffic (s : State) (a be req : Nat) (d : BitVec 64) : SameBeyondTraffic s (s.dramWriteWord a be req d) := by
  have h := s.readWord_traffic a req true false
  unfold State.dramWriteWord
  generalize s.readWord a req true false = p at *
  obtain ⟨d0, dbe, b, u⟩ := p
  exact branch (s.dramStore_traffic _ _) (branch (h.trans (State.dramStore_traffic _ _ _)) (h.trans (State.dramStore_traffic _ _ _)))

theorem State.dramWrite_traffic (s : State) (r : DramReq) : SameBeyondTraffic s (s.dramWrite r) := by
  unfold State.dramWrite
  exact fold _ (fun t k => branch (refl t) ((State.dramWriteWord_traffic t _ _ _ _).updBist _)) _ s

theorem State.drainWrites_traffic (s : State) : SameBeyondTraffic s s.drainWrites := by
  unfold State.drainWrites
  exact (fold _ (fun t r => State.dramWrite_traffic t r) _ s).updDram _

theorem State.selfRefresh_traffic (s : State) (brace : Bool) : SameBeyondTraffic s (s.selfRefresh brace) := by
  unfold State.selfRefresh
  extract_lets s0 s1 s2
  have hc : SameBeyondTraffic s s.trainedContent := branch rfl rfl
  have h0 : SameBeyondTraffic s s0 := branch (hc.trans rfl) (refl s)
  have h1 : SameBeyondTraffic s s1 := h0.trans s0.drainWrites_traffic
  exact branch (refl s) (((h1.updDram _).setF _ _ _ _).raise 100)

/-! ### Responses of the Guide -/

theorem State.freeWords_traffic (n : Nat) (s : State) : SameBeyondTraffic s (s.freeWords n).2 := by
  induction n generalizing s with
  | zero => exact refl s
  | succ k ih => exact trans rfl (ih (s.free 32).2)

theorem State.mbFlag_traffic (s : State) (m b : Nat) : SameBeyondTraffic s (s.mbFlag m b) := by
  have h : SameBeyondTraffic s ((s.setB (aMB m 8) b true).mbLevel m) :=
    of_same ((State.setB_same s _ _ _).trans (State.setErrLevel_same _ _ _ _))
  exact branch (h.raise _) h

theorem State.mbAppend_traffic (s : State) (m r : Nat) (e : BitVec 16) (w : List Word) : SameBeyondTraffic s (s.mbAppend m r e w) := by
  unfold State.mbAppend
  refine trans ?_ (State.mbFlag_traffic _ m 0)
  rfl

theorem State.mbTryPost_traffic (s : State) (m r : Nat) (e : BitVec 16) (w : List Word) : SameBeyondTraffic s (s.mbTryPost m r e w).2 := by
  unfold State.mbTryPost
  dsimp only
  split
  · exact (s.mbFlag_traffic m 4).trans rfl
  · split
    · exact (s.mbFlag_traffic m 3).trans rfl
    · exact (s.mbAppend_traffic m r e w).trans rfl

theorem State.ropeMessage_traffic (s : State) (n m r : Nat) (w : List Word) (reply : Option (Call × Bool)) :
    SameBeyondTraffic s (s.ropeMessage n m r w reply) := by
  have hfail : SameBeyondTraffic s (s.accFail acNO_ROUTE r n (aMB m 0x40) false) := by
    unfold State.accFail State.accErr
    exact ((((((refl s).setReg _ _).setReg _ _).satAdd _ _ _ _).setErr 0x555 16).raise 73)
  have hissue (body : AccBody) : SameBeyondTraffic s (s.ropeIssue n r (aMB m 0x40) body reply) := branch rfl rfl
  exact branch hfail (hissue _)

theorem State.postReply_traffic (s : State) (r : Reply) : SameBeyondTraffic s (s.postReply r) := by
  unfold State.postReply
  extract_lets c
  refine branch rfl (branch (s.ropeMessage_traffic _ _ _ _ _) (branch rfl ?_))
  have h := s.mbTryPost_traffic (c.mbx.toNat + 1) rGuide (s.mb (c.mbx.toNat + 1)).txEpoch r.words
  dsimp only
  exact branch h (h.trans rfl)

theorem State.answerCall_traffic (s : State) (svc : Nat) (c : Call) (r d : Nat) (res : List Word) :
    SameBeyondTraffic s (s.answerCall svc c r d res) :=
  (State.freeWords_traffic _ s).trans (State.postReply_traffic _ _)

theorem State.startLong_traffic (s : State) (svc : Nat) (c : Call) : SameBeyondTraffic s (s.startLong svc c) :=
  (branch (s.answerCall_traffic _ _ _ _ _) (refl s)).trans rfl

theorem State.begun_traffic (s : State) (svc : Nat) (c : Call) : SameBeyondTraffic s (s.begun svc c) := by
  have h : SameBeyondTraffic s s.wakeGuide := branch ((trans rfl ((refl _).raise 0)) : SameBeyondTraffic s (s.setMode mRUN)) (refl s)
  exact h.trans rfl

end

end Sys2Proof.Machine
end

section
/-! Commands on a device that is not awake: unpowered, in reset, or in OFF, BIVOUAC or SLEEP (R17, R48). -/

namespace Sys2Proof.Machine

/-! ### What sleep closes -/

/-- The register region is off, so no local requester reaches it (R48). -/
theorem State.regsOn_asleep {s : State} (h : s.awake = false) : s.regsOn = false := by
  rcases Bool.and_eq_false_iff.mp h with h | h
  · have hr : s.power.inReset = true := by simpa using h
    simp [State.regsOn, hr]
  · have h3 : ¬ mIDLE ≤ s.mode := of_decide_eq_false h
    simp only [mIDLE] at h3
    have hm : s.mode = 0 ∨ s.mode = 1 ∨ s.mode = 2 := by omega
    rcases hm with hm | hm | hm <;> simp [State.regsOn, mOFF, mBIVOUAC, mSLEEP, hm]

theorem State.reaches_asleep {s : State} (h : s.awake = false) (r : Nat) : s.reaches r = false := by
  simp [State.reaches, State.regsOn_asleep h]

theorem State.localWrite_asleep {s : State} (h : s.awake = false) (r a : Nat) (v : Word) : s.localWrite r a v = s := by
  simp [State.localWrite, State.reaches_asleep h]

theorem State.localRead_asleep {s : State} (h : s.awake = false) (r a : Nat) : s.localRead r a = s := by
  simp [State.localRead, State.reaches_asleep h]

theorem State.remoteAccess_asleep {s : State} (h : s.awake = false) (r n a : Nat) (full : Bool) (k : AccessKind) :
    s.remoteAccess r n a full k = s := by
  simp [State.remoteAccess, State.reaches_asleep h]

/-- No TLP of the host is carried out; any other requester's access is what f makes of it. -/
theorem State.tlp_asleep {s : State} (h : s.awake = false) (r dwords : Nat) (poisoned read : Bool) {f : State → State} (hf : f s = s) :
    s.tlp r dwords poisoned read f = s := by
  simp [State.tlp, State.reaches_asleep h, hf]

/-! ### What each class of commands then answers -/

theorem Answers.asleep_live {c : Instr} {s : State} {f : State → State} (h : exec c s = s.actLive f) (ha : s.awake = false) :
    Answers c s s := by
  unfold Answers; rw [h, State.actLive, ha, actWhen_off]

theorem Answers.asleep_timed {c : Instr} {s : State} {f : State → State} (h : exec c s = s.actTimed f) (ha : s.awake = false) :
    Answers c s s := by
  have ht : s.timed = false := by simp [State.timed, ha]
  unfold Answers; rw [h, State.actTimed, ht, actWhen_off]

theorem Answers.asleep_call {c : Instr} {s : State} {svc : Nat} {k : Call} {f : State → State} (h : exec c s = s.actCall svc k f)
    (ha : s.awake = false) : Answers c s s := Answers.asleep_live h ha

theorem Answers.asleep_write {c : Instr} {s : State} {r : ReqId} {a : Nat} {v : Word} (h : exec c s = s.actWrite r a v)
    (ha : s.awake = false) : Answers c s s := Answers.act h (State.localWrite_asleep ha _ _ _)

theorem Answers.asleep_read {c : Instr} {s : State} {r : ReqId} {a : Nat} (h : exec c s = s.actRead r a)
    (ha : s.awake = false) : Answers c s s := Answers.act h (State.localRead_asleep ha _ _)

/-- Settles O10: each command that outsideModes does not list belongs to a class that asks for an awake device or for the register region, or
is a TLP that asks for that region. -/
theorem asleepNothingElseActs : Obligations.AsleepNothingElseActs := by
  intro c s ha ho
  cases c
  case svcDeviceReset | svcInfo | svcPageOwner | svcPinOwner | svcHoldEnter | svcHoldRelease | svcServiceEnter | svcServiceExit |
    svcImageLoad | svcImageSwitch | svcImageVerify | svcGroveLoad | svcReadback | svcBootBank | svcFlashRead | svcFlashProgram |
    svcFlashErase | svcFlashSuspend | svcFlashResume | svcFlashBlankCheck | svcFlashStatus | svcSettingsRead | svcSettingsStage |
    svcSettingsCommit | svcSettingsAbort | svcClampLog | svcPwrPolicy | svcPitchRun | svcPitchSchedule | lcTransition | otpWrite |
    svcDebugOpen | svcDebugClose | svcHeartRead | svcCalendarSet =>
    exact Answers.asleep_call (by unfold exec; exact rfl) ha
  case guideResponsePost | commitTransfer | hsRequest | channelPush | channelValid | channelPop | crossingEvent | bramEccError |
    pllLock | pllLossOfLock | clockSwitchDone | ropeLock | joinCheck | leadingStart | subStale | portFault | rateReturn | rateSwitch
    | rdReqRx | wrReqRx | mbxRx | rdRspRx | wrAckRx | mbxAckRx | nakRx | retxTimeout | pos0Pass | frameForward | msixSend |
    fabricEvent | linkChange | bar4Access | vccioMeasure | dramRequest | dramIssue | dramReadDone | agePromote | rowIdleClose |
    refresh | retrim | trainingDone | portClkMeasure | nop | deviceId | wregMode | wregUsercode | frame | keyRoll | end_ |
    releaseDone | scrubFrame | erasePulseDone | programPulseDone | eraseTempResume | deferredCommitWrite | compaction | svcPwrEnter
    | pitchDone | periodicPitch | pitchRetry | dbeCheckTimeout | linkCheckDone | configurationSpaceWrite | autoHoldRelease |
    guideWait | guideTakeRequest | guideReplyRetry | refclkLoss | tpllRelock | timeStepCommit | timeSlewCommit | joinOpen | joined |
    joinTimeout | leaveDone | wrapNrClear | unwrap | syncLost | listenTimeout | accessFrameSend | ropeEventSend | hotReset | flr |
    dramScrubRead | wipeDone | fallbackLoad | releaseRank | releasePorts | releasePins | essAction | eraseTempTimeout | entryUndo |
    pitchStart | grantTimeout | holdoffEnd | debugTimeout =>
    exact Answers.asleep_live (by unfold exec; exact rfl) ha
  case cadenceWindow | ppsEdge | queueEdge | pwmPeriodStart | pwmEdge | captureEdge | calCycleStart | lineCalDone | lineSwap |
    swapAbandon | bootCalDone | sdfStopDone | sdfOutput | sdfCmpTrip | sdfClkFault | sdfRunFault | loopGridPoint | loopEventTrigger
    | loopSampleTrigger | abseilTrigger | outputApply | fslotWord | hbMiss | cycleStart | cycleFrameRx | cycleFrameReturn | hopSend
    | hopRx | hopHold | mbTimeout | sdfBitSample | stepApply | servoMeasure | refLost | timeWrap | boundUpdate | admissionDone |
    hb1Kick | readbackCapture =>
    exact Answers.asleep_timed (by unfold exec; exact rfl) ha
  case commit | lock | boughFreeze | boughResume | cadClr | pllEnable | pllDisable | clockSwitch | divWrite | bclkGate | rootGate |
    xmergeClr | eqLo | eqHi | edgeDisable | edgeEnable | grpCommit | sdfStart | sdfStop | ctxCommit | abseilEnter | abseilRelease |
    hbKick | stateWrite | missedClr | ropeEnable | belay | portCntClr | msixPendClear | sw0Raise | sw1Raise | txWord | txPost |
    mbLockWrite | retrain | pinLockArm | pinLockKey | dramEnable | dramDisable =>
    exact Answers.asleep_write (by unfold exec; exact rfl) ha
  case timeStatRead | capLoRead | rxInfo0Read | mbLockRead =>
    exact Answers.asleep_read (by unfold exec; exact rfl) ha
  case registerWrite => exact Answers.act rfl (if_neg (by simp [State.reaches_asleep ha]))
  case snapshotRead r a n =>
    exact Answers.act (f := fun t => t.tlp r.toNat n.toNat false true fun u => u.localRead r.toNat a.toNat) rfl
      (State.tlp_asleep ha _ _ _ _ (State.localRead_asleep ha _ _))
  case remoteAccess r n a full k dw poisoned =>
    exact Answers.act (f := fun t => t.tlp r.toNat dw.toNat (poisoned && k != .read) (k == .read) fun u =>
      u.remoteAccess r.toNat n.toNat a.toNat full k) rfl (State.tlp_asleep ha _ _ _ _ (State.remoteAccess_asleep ha _ _ _ _ _))
  all_goals exact nomatch ho

end Sys2Proof.Machine
end

section
/-! The refusal of SVC_PWR_ENTER while a loop context runs (R22), and the start of an entry where every running context is at its safe value. -/

namespace Sys2Proof.Machine

/-! ### Running contexts -/

/-- A key reads as its default, or its value stands in the store. -/
theorem SMap.get_mem {α : Type} (d : Nat → α) (m : SMap α) (k : Nat) : SMap.get d m k = d k ∨ (k, SMap.get d m k) ∈ m := by
  induction m with
  | nil => exact .inl rfl
  | cons e t ih =>
    obtain ⟨j, v⟩ := e
    by_cases hj : j = k
    · simp [SMap.get, hj]
    · simpa [SMap.get, hj, Ne.symm hj] using ih

theorem pageInfo_ctx (p : Nat) (h : p < 64) : (pageInfo (0x400 + p)).kind = .loopctx := by
  revert p; decide

theorem loopctxMap_stat (k : Nat) (h : k < 16) : (loopctxMap.find? (·.holds (0x100 * k + 0xF0))).map (·.reset) = some 0 := by
  revert k; decide +kernel

/-- STAT of a loop context lies in LOOPCTX page n / 16, at the record of n (R208). -/
theorem aCTX_stat (n : Nat) :
    aCTX n 0xF0 / 0x1000 = 0x400 + n / 16 ∧ aCTX n 0xF0 % 0x1000 = 0x100 * (n % 16) + 0xF0 := by
  unfold aCTX pg; omega

/-- A context does not run after reset: STAT reads 0 (R209). -/
theorem regReset_ctxStat (n : Nat) (h : n < 1024) : regReset (aCTX n 0xF0) = 0 := by
  obtain ⟨hpage, hofs⟩ := aCTX_stat n
  have hkind := pageInfo_ctx (n / 16) (by omega)
  obtain ⟨r, hr, h0⟩ := Option.map_eq_some_iff.mp (loopctxMap_stat (n % 16) (by omega))
  have hspec : regSpec (aCTX n 0xF0) = some r := by
    simp [regSpec, hpage, hofs, hkind, pageMap, hr]
  simp [regReset, hspec, hofs, h0]

/-- A context whose STAT shows RUNNING is one of the running contexts. -/
theorem State.mem_runningCtxs {s : State} {n : Nat} (h : n < 1024) (hr : s.rb (aCTX n 0xF0) 30 = true) : n ∈ s.runningCtxs := by
  obtain ⟨hpage, hofs⟩ := aCTX_stat n
  have hlisted : (aCTX n 0xF0, s.reg (aCTX n 0xF0)) ∈ s.regs.act := by
    refine (SMap.get_mem regReset s.regs.act (aCTX n 0xF0)).resolve_left fun h0 => ?_
    rw [State.rb, State.reg, h0, regReset_ctxStat n h] at hr
    exact absurd hr (by decide)
  have hrun : bit (s.reg (aCTX n 0xF0)) 30 = true := hr
  refine List.mem_map.mpr ⟨_, List.mem_filter.mpr ⟨hlisted, ?_⟩, ?_⟩
  · have h1 : aCTX n 0xF0 % 0x100 = 0xF0 := by omega
    have h2 : 0x400 + n / 16 ≤ 0x43F := by omega
    simp only [hpage, h1, hrun, h2, Nat.le_add_right, decide_true, beq_self_eq_true, Bool.and_self]
  · simp only [hpage, hofs]; omega

/-! ### The entry -/

/-- A running context that is not at the end of its abseil keeps the loops active (R22, R228). -/
theorem State.loopsActive_of_running {s : State} {n : Nat} (h : n < 1024) (hr : s.rb (aCTX n 0xF0) 30 = true)
    (hs : s.rb (aCTX n 0xF0) 28 = false) : s.loopsActive = true :=
  List.any_eq_true.mpr ⟨n, State.mem_runningCtxs h hr, by simp [hs]⟩

theorem State.loopsActive_of_safe {s : State} (h : ∀ n ∈ s.runningCtxs, s.rb (aCTX n 0xF0) 28 = true) : s.loopsActive = false :=
  List.any_eq_false.mpr fun n hn => by simp [h n hn]

/-- An entry that is refused answers so (R473). -/
theorem State.pwrEnter_refused {s : State} {c : Call} {passed : Nat} {tj : Int} {r : Nat} (h3 : fld c.w2 1 0 ≠ 3)
    (hr : (s.sampleTj tj).enterRefusal (fld c.w2 1 0) = some r) :
    s.pwrEnter c passed tj = (s.sampleTj tj).longOnce 0x0501 c r 0 [] := by
  simp [State.pwrEnter, h3, hr]

/-- An entry that is not refused starts, and waits before its first abort point. -/
theorem State.pwrEnter_starts {s : State} {c : Call} {tj : Int} (h3 : fld c.w2 1 0 ≠ 3)
    (hr : (s.sampleTj tj).enterRefusal (fld c.w2 1 0) = none) :
    s.pwrEnter c 0 tj = ((s.sampleTj tj).startLong 0x0501 c).enterStart (fld c.w2 1 0) c := by
  simp [State.pwrEnter, h3, hr]

/-- SVC_PWR_ENTER does not wait for a pitch that runs: it is the body of its call. -/
theorem svcPwrEnter_answers {s t : State} {c : Call} {passed : BitVec 3} {tj : BitVec 16} (hc : Called s 0x0501 c)
    (hp : (s.bist.running.any fun p => !p.waitGrant) = false) (ht : (s.begun 0x0501 c).pwrEnter c passed.toNat tj.toInt = t) :
    Answers (.svcPwrEnter c passed tj) s t := by
  refine Answers.live (f := fun u => if u.bist.running.any (fun p => !p.waitGrant) then u
    else u.serve 0x0501 c fun v => v.pwrEnter c passed.toNat tj.toInt) rfl hc.1 ?_
  simp only [hp, Bool.false_eq_true, if_false]
  rw [hc.serve, ht]

/-- Settles O11: of the tests of R473 only that of the loops is left, and it reads AT_SAFE of each running context. -/
theorem loopsActiveRefusesEntry : Obligations.LoopsActiveRefusesEntry := by
  intro s c tj hc hp u ht hm
  have hmode : u.modeRefusal [mRUN, mHOLD] = none := State.modeRefusal_none ht (by simpa using hm)
  refine ⟨fun passed n h3 hr hs => svcPwrEnter_answers hc hp ?_, fun h2 hs => svcPwrEnter_answers hc hp ?_⟩
  · refine State.pwrEnter_refused h3 ?_
    have hloops : u.loopsActive = true := State.loopsActive_of_running n.isLt hr hs
    simp only [State.enterRefusal, u, hmode, hloops, if_true]
  · rw [← h2]
    refine State.pwrEnter_starts (by omega) ?_
    have hloops : u.loopsActive = false := State.loopsActive_of_safe hs
    simp [State.enterRefusal, u, hmode, hloops, h2, mSLEEP]

end Sys2Proof.Machine
end

section
/-! A brace, its heartwood entry, the release of its HOLD, and the measurement of the supply (R24, R462, R470, R531). -/

namespace Sys2Proof.Machine

/-! ### What a measurement leaves -/

/-- The SUPPLY registers take the measured values m, with VCORE at v and n phases active (R470). -/
def State.measured (s : State) (m : SupplySample) (v n : Nat) : State :=
  (((((s.setVin m.vin.toNat).setF (aSUP 0x2C) 31 24 m.k.toNat).setF (aSUP 0x2C) 15 0 v).setReg (aSUP 0x30)
    (BitVec.ofNat 32 (m.vaux.toNat + m.vio.toNat * 2 ^ 16))).setF (aSUP 0x3C) 15 0 m.icore.toNat).setF (aSUP 0x3C) 19 16 n

theorem State.measured_same (s : State) (m : SupplySample) (v n : Nat) : SameOutside s (s.measured m v n) := rfl

theorem State.measured_vin (s : State) (m : SupplySample) (v n : Nat) : (s.measured m v n).rf (aSUP 0x24) 15 0 = m.vin.toNat := by
  simp (disch := decide) only [State.measured, State.rf_setF_ne, State.rf_setReg_ne]
  exact State.rf_setF_of_lt _ _ _ _ _ (by decide) (by decide) m.vin.isLt

theorem State.measured_k (s : State) (m : SupplySample) (v n : Nat) : (s.measured m v n).rf (aSUP 0x2C) 31 24 = m.k.toNat := by
  simp (disch := decide) only [State.measured, State.rf_setF_ne, State.rf_setReg_ne, State.rf_setF_disjoint]
  exact State.rf_setF_of_lt _ _ _ _ _ (by decide) (by decide) m.k.isLt

theorem State.measured_vcore (s : State) (m : SupplySample) (v n : Nat) (hv : v < 2 ^ 16) :
    (s.measured m v n).rf (aSUP 0x2C) 15 0 = v := by
  simp (disch := decide) only [State.measured, State.rf_setF_ne, State.rf_setReg_ne]
  exact State.rf_setF_of_lt _ _ _ _ _ (by decide) (by decide) hv

theorem State.measured_rails (s : State) (m : SupplySample) (v n : Nat) :
    (s.measured m v n).reg (aSUP 0x30) = BitVec.ofNat 32 (m.vaux.toNat + m.vio.toNat * 2 ^ 16) := by
  simp (disch := decide) only [State.measured, State.reg_setF_ne, State.reg_setReg_same]

theorem State.measured_icore (s : State) (m : SupplySample) (v n : Nat) : (s.measured m v n).rf (aSUP 0x3C) 15 0 = m.icore.toNat := by
  simp (disch := decide) only [State.measured, State.rf_setF_disjoint]
  exact State.rf_setF_of_lt _ _ _ _ _ (by decide) (by decide) m.icore.isLt

theorem State.measured_phases (s : State) (m : SupplySample) (v n : Nat) (hn : n < 16) : (s.measured m v n).rf (aSUP 0x3C) 19 16 = n :=
  State.rf_setF_of_lt _ _ _ _ _ (by decide) (by decide) hn

/-- Where the board supplies VCORE, its value is the measured one, and no phase switches. -/
theorem State.kMeasure_board {s : State} (m : SupplySample) (ha : s.awake = true) (hb : s.boardVcore = true) :
    s.kMeasure m = s.measured m m.vcore.toNat 0 := by
  simp [State.kMeasure, State.measured, ha, hb]

/-- In FIXED mode VCORE stands, no limit is noted, and at most four phases switch. -/
theorem State.kMeasure_fixed {s : State} (m : SupplySample) (ha : s.awake = true) (hb : s.boardVcore = false)
    (hf : s.rb (aSUP 0x28) 0 = false) : ∃ n ≤ 4, s.kMeasure m = s.measured m (s.rf (aSUP 0x2C) 15 0) n := by
  have hstep : s.adaptStep m.k.toNat = 0 := by simp [State.adaptStep, hf]
  simp only [State.kMeasure, ha, hb, hf, hstep, Bool.not_true, Bool.false_eq_true, if_false, Bool.false_and, add_zero, Int.toNat_natCast]
  exact ⟨_, (Nat.min_le_left _ _).trans (Nat.sub_le _ _), rfl⟩

/-! ### The brace -/

/-- Below VIN_WARN, with brace not yet armed, only VIN_STAT shows the crossing (R460, R486). -/
theorem State.brace_unarmed {s : State} (vin : Nat) (ha : s.awake = true) (hr : s.braceArmed = false) (hb : s.power.belowWarn = false) :
    s.brace vin = (s.setVin vin).setB (aSUP 0x24) 16 true := by
  simp [State.brace, ha, hr, hb]

/-- The crossing is noted in VIN_STAT and counted, with its heartwood entry due (R462, R531). -/
def State.braceNoted (s : State) (vin : Nat) (due : DevTime × Nat) : State :=
  (((s.setVin vin).setB (aSUP 0x24) 16 true).satAdd (aSUP 0x34) 31 16 1).updPower fun p =>
    { p with belowWarn := true, braceDue := some due }

/-- What a crossing that has been noted does: event 11, what runs stops, and the device enters HOLD (R23 to R25, R462 to R464). -/
def State.braceActs (s1 : State) : State :=
  let s2 := ((s1.setErr 0x002 16).raise 11).heartVin 0
  let s3 := match s2.power.entry with
    | some e => (s2.undoEntry e true).endLong rcABORTED e.passed []
    | none => s2
  let s4 := s3.flashBrace.pitchStop.braceLoad.updCfg fun c => { c with readback := none }
  (s4.abortLong.setHoldCause 18 true).toHold.dramBrace

/-- An armed brace: a heartwood entry that is due already keeps its time and its voltage (R531). -/
theorem State.brace_armed {s : State} (vin : Nat) (ha : s.awake = true) (hr : s.braceArmed = true) (hb : s.power.belowWarn = false) :
    s.brace vin = (s.braceNoted vin (s.power.braceDue.getD (s.time.now, vin))).braceActs := by
  unfold State.brace
  rw [if_neg (by simp [ha, hb]), if_neg (by simp [hr])]
  refine congrArg State.braceActs (State.updPower_congr ?_)
  change { s.power with belowWarn := true, braceDue := match s.power.braceDue with | some d => some d | none => some (s.time.now, vin) } =
    { s.power with belowWarn := true, braceDue := some (s.power.braceDue.getD (s.time.now, vin)) }
  cases s.power.braceDue <;> rfl

/-- Settles O18: BRACE in its two branches, the entry that is due, the release of HOLD, and the measurement by who supplies VCORE. -/
theorem braceAndMeasure : Obligations.BraceAndMeasure := by
  refine ⟨fun s vin ha hr hb => ?_, fun s vin ha hr hb => ?_, fun s tj t0 vin hd => ?_, fun s ha hm he hc hb ht => ?_,
    fun s k vcore vaux vio icore vin ha hb => ?_, fun s k vcore vaux vio icore vin ha hb hf => ?_⟩
  · refine Answers.act (f := (·.brace vin.toNat)) rfl ?_
    rw [State.brace_armed _ ha hr hb]
    cases s.power.braceDue <;> rfl
  · exact Answers.act (f := (·.brace vin.toNat)) rfl (State.brace_unarmed _ ha hr hb)
  · refine Completes.act (f := (·.heartBraceWrite tj.toInt)) rfl ?_
    simp [State.heartBraceWrite, hd, State.updPower]
  · refine Answers.live rfl ha ?_
    simp [State.autoRelease, hm, he, hc, hb, ht]
  · intro t
    have hk : t = s.measured ⟨k, vcore, vaux, vio, icore, vin⟩ vcore.toNat 0 := State.kMeasure_board _ ha hb
    refine ⟨Answers.act (f := (·.kMeasure { k, vcore, vaux, vio, icore, vin })) rfl rfl, ?_⟩
    rw [hk]
    exact ⟨State.measured_vin _ _ _ _, State.measured_k _ _ _ _, State.measured_vcore _ _ _ _ vcore.isLt, State.measured_rails _ _ _ _,
      State.measured_icore _ _ _ _, State.measured_phases _ _ _ _ (by decide), State.measured_same _ _ _ _⟩
  · intro t
    obtain ⟨n, hn, hk⟩ := State.kMeasure_fixed ⟨k, vcore, vaux, vio, icore, vin⟩ ha hb hf
    refine ⟨Answers.act (f := (·.kMeasure { k, vcore, vaux, vio, icore, vin })) rfl rfl, ?_⟩
    rw [show t = _ from hk]
    exact ⟨State.measured_vin _ _ _ _, State.measured_k _ _ _ _, State.measured_icore _ _ _ _,
      (State.measured_phases _ _ _ _ (by omega)).trans_le hn, State.measured_same _ _ _ _⟩

end Sys2Proof.Machine
end

section
/-! The calls of the system view (R23, R24, R330, R332, R461). -/

namespace Sys2Proof.Machine

/-! ### The device reset -/

/-- A reset that is asserted leaves the device in reset, in mode LOAD, with its OTP (R18, R461). -/
theorem State.resetAssert_left (s : State) :
    s.resetAssert.power.inReset = true ∧ s.resetAssert.otp = s.otp ∧ s.resetAssert.rf aMODE 3 0 = mLOAD := by
  refine ⟨rfl, rfl, ?_⟩
  have hreg : s.resetAssert.reg aMODE = BitVec.ofNat 32 (mRUN * 2 ^ 12 + s.mode * 2 ^ 8 + mLOAD) := by
    simp only [State.resetAssert, State.reg_settlePins, State.reg_setReg_same]
  simp only [State.rf, hreg, fld, BitVec.toNat_ofNat, Nat.shiftRight_zero, mRUN, mLOAD]
  omega

/-- SVC_DEVICE_RESET keeps the OTP through the start of its long call and the self-refresh of the DRAM. -/
theorem State.deviceReset_left (s : State) (c : Call) :
    (s.deviceReset c).power.inReset = true ∧ (s.deviceReset c).otp = s.otp ∧ (s.deviceReset c).rf aMODE 3 0 = mLOAD := by
  obtain ⟨hreset, hotp, hmode⟩ := ((s.startLong 0x0002 c).selfRefresh false).resetAssert_left
  have hkept := (s.startLong_traffic 0x0002 c).trans (State.selfRefresh_traffic _ false)
  exact ⟨hreset, hotp.trans hkept.otp, hmode⟩

/-! ### The owner of a page -/

theorem State.pageOwnerCall_badArg {s : State} {c : Call} (h : pageAssigned (fld c.w2 11 0) = false ∨ fld c.w2 31 12 ≠ 0 ∨
    fld c.w3 31 10 ≠ 0 ∨ ownerBad (fld c.w3 9 0) = true) :
    s.pageOwnerCall c = s.answerCall 0x0003 c rcBAD_ARG 0 [c.w2, s.reg (pg (fld c.w2 11 0) 0x014)] := by
  have hbad : (!pageAssigned (fld c.w2 11 0) || fld c.w2 31 12 != 0 || fld c.w3 31 10 != 0 || ownerBad (fld c.w3 9 0)) = true := by
    simpa [or_assoc] using h
  simp [State.pageOwnerCall, hbad, rcBAD_ARG, rcOK]

/-- The arguments of SVC_PAGE_OWNER name an assigned page and an ID that makes register accesses (R566). -/
abbrev OwnerArgs (c : Call) : Prop :=
  pageAssigned (fld c.w2 11 0) = true ∧ fld c.w2 31 12 = 0 ∧ fld c.w3 31 10 = 0 ∧ ownerBad (fld c.w3 9 0) = false

theorem State.pageOwnerCall_fixed {s : State} {c : Call} (h : OwnerArgs c) (hf : (pageInfo (fld c.w2 11 0)).fixed = true) :
    s.pageOwnerCall c = s.answerCall 0x0003 c rcFIXED 0 [c.w2, s.reg (pg (fld c.w2 11 0) 0x014)] := by
  obtain ⟨hp, h2, h3, hid⟩ := h
  simp [State.pageOwnerCall, hp, h2, h3, hid, hf, rcFIXED, rcOK]

theorem State.pageOwnerCall_foreign {s : State} {c : Call} (h : OwnerArgs c) (hf : (pageInfo (fld c.w2 11 0)).fixed = false)
    (h0 : s.pageOwner (fld c.w2 11 0) ≠ 0) (hc : s.pageOwner (fld c.w2 11 0) ≠ c.caller.toNat) :
    s.pageOwnerCall c = s.answerCall 0x0003 c rcNOT_PERMITTED 0 [c.w2, s.reg (pg (fld c.w2 11 0) 0x014)] := by
  obtain ⟨hp, h2, h3, hid⟩ := h
  simp [State.pageOwnerCall, hp, h2, h3, hid, hf, h0, hc, rcNOT_PERMITTED, rcOK]

theorem State.pageOwnerCall_done {s : State} {c : Call} (h : OwnerArgs c) (hf : (pageInfo (fld c.w2 11 0)).fixed = false)
    (ho : s.pageOwner (fld c.w2 11 0) = 0 ∨ s.pageOwner (fld c.w2 11 0) = c.caller.toNat) :
    s.pageOwnerCall c = (s.setF (pg (fld c.w2 11 0) 0x014) 9 0 (fld c.w3 9 0)).answerCall 0x0003 c rcOK 0
      [c.w2, (s.setF (pg (fld c.w2 11 0) 0x014) 9 0 (fld c.w3 9 0)).reg (pg (fld c.w2 11 0) 0x014)] := by
  obtain ⟨hp, h2, h3, hid⟩ := h
  have hown : ¬ (s.pageOwner (fld c.w2 11 0) ≠ 0 ∧ s.pageOwner (fld c.w2 11 0) ≠ c.caller.toNat) := by tauto
  simp [State.pageOwnerCall, hp, h2, h3, hid, hf, hown, rcOK]

/-! ### The owner of pins -/

theorem State.pinOwnerCall_badArg {s : State} {c : Call} (h : (s.pinOwners (fld c.w2 9 0) (fld c.w2 25 16) (fld c.w3 2 0)).1 = rcBAD_ARG) :
    s.pinOwnerCall c = (s.pinOwners (fld c.w2 9 0) (fld c.w2 25 16) (fld c.w3 2 0)).2.2.2.answerCall 0x0004 c rcBAD_ARG 0 [] := by
  simp [State.pinOwnerCall, h]

theorem State.pinOwnerCall_done {s : State} {c : Call} (h : (s.pinOwners (fld c.w2 9 0) (fld c.w2 25 16) (fld c.w3 2 0)).1 ≠ rcBAD_ARG) :
    s.pinOwnerCall c =
      let o := s.pinOwners (fld c.w2 9 0) (fld c.w2 25 16) (fld c.w3 2 0)
      o.2.2.2.settlePins.answerCall 0x0004 c o.1 0 [BitVec.ofNat 32 o.2.1, BitVec.ofNat 32 o.2.2.1] := by
  simp [State.pinOwnerCall, h]

/-! ### HOLD and SERVICE -/

/-- SVC_HOLD_ENTER: the mode refuses it, or the device enters HOLD with the cause COMMAND (R20). -/
theorem holdEnter_answers (s : State) (c : Call) (hc : Called s 0x0101 c) : let u := s.begun 0x0101 c
    (∀ r, u.modeRefusal [mRUN] = some r → Answers (.svcHoldEnter c) s (u.longOnce 0x0101 c r 0 [])) ∧
    (u.inTransition = false → u.mode = mRUN →
      Answers (.svcHoldEnter c) s ((u.setB aMODE 19 true).toHold.longOnce 0x0101 c rcOK 0 [])) := by
  refine ⟨fun r hr => ?_, fun ht hm => ?_⟩ <;> refine begun_call (f := (·.holdEnter c)) rfl hc ?_
  · simp [State.holdEnter, hr]
  · simp [State.holdEnter, State.modeRefusal_none ht (List.mem_singleton.mpr hm), State.setHoldCause]

/-- SVC_HOLD_RELEASE: the mode refuses it, no image is left, or the causes BRACE and COMMAND clear (R24). -/
theorem holdRelease_answers (s : State) (c : Call) (hc : Called s 0x0102 c) : let u := s.begun 0x0102 c
    (∀ r, u.modeRefusal [mHOLD] = some r → Answers (.svcHoldRelease c) s (u.longOnce 0x0102 c r 0 [])) ∧
    (u.inTransition = false → u.mode = mHOLD → u.rb aMODE 17 = true →
      Answers (.svcHoldRelease c) s (u.longOnce 0x0102 c rcNO_IMAGE 0 [])) ∧
    (u.inTransition = false → u.mode = mHOLD → u.rb aMODE 17 = false →
      Answers (.svcHoldRelease c) s ((((u.setB aMODE 18 false).setB aMODE 19 false).leaveHold).longOnce 0x0102 c rcOK 0 [])) := by
  refine ⟨fun r hr => ?_, fun ht hm hi => ?_, fun ht hm hi => ?_⟩ <;> refine begun_call (f := (·.holdRelease c)) rfl hc ?_
  · simp [State.holdRelease, hr]
  · simp [State.holdRelease, State.modeRefusal_none ht (List.mem_singleton.mpr hm), State.cause, hi]
  · simp [State.holdRelease, State.modeRefusal_none ht (List.mem_singleton.mpr hm), State.cause, hi, State.setHoldCause]

/-- SVC_SERVICE_ENTER: the mode refuses it, or the device enters SERVICE (R20). -/
theorem serviceEnter_answers (s : State) (c : Call) (hc : Called s 0x0103 c) : let u := s.begun 0x0103 c
    (∀ r, u.modeRefusal [mRUN, mHOLD] = some r → Answers (.svcServiceEnter c) s (u.longOnce 0x0103 c r 0 [])) ∧
    (u.inTransition = false → u.mode = mRUN ∨ u.mode = mHOLD →
      Answers (.svcServiceEnter c) s (((u.updCfg fun g => { g with fallbackFrom := none }).toService).longOnce 0x0103 c rcOK 0 [])) := by
  refine ⟨fun r hr => ?_, fun ht hm => ?_⟩ <;> refine begun_call (f := (·.serviceEnter c)) rfl hc ?_
  · simp [State.serviceEnter, hr]
  · have hfree : (s.begun 0x0103 c).modeRefusal [mRUN, mHOLD] = none := State.modeRefusal_none ht (by simpa using hm)
    simp [State.serviceEnter, hfree]

/-- SVC_SERVICE_EXIT: the mode refuses it, or the present bank is loaded, the loop group due with it (R461). -/
theorem serviceExit_answers (s : State) (c : Call) (hc : Called s 0x0104 c) : let u := s.begun 0x0104 c
    (∀ r, u.modeRefusal [mSERVICE] = some r → Answers (.svcServiceExit c) s (u.longOnce 0x0104 c r 0 [])) ∧
    (u.inTransition = false → u.mode = mSERVICE →
      let u1 := (u.startLong 0x0104 c).updPower fun p => { p with loopGroupDue := true, loopCommitDue := true }
      Answers (.svcServiceExit c) s (u1.loadBank u1.presentBank true)) := by
  refine ⟨fun r hr => ?_, fun ht hm => ?_⟩ <;> refine begun_call (f := (·.serviceExit c)) rfl hc ?_
  · simp [State.serviceExit, hr]
  · simp [State.serviceExit, State.modeRefusal_none ht (List.mem_singleton.mpr hm)]

/-- Settles O19: each call is its body in the state in which it begins, and each clause a case of that body. -/
theorem systemCalls : Obligations.SystemCalls := by
  refine ⟨fun s c hc => ?_, fun s c hc => ?_, fun s c hc => ⟨fun h => ?_, fun hp h2 h3 hid => ⟨fun hf => ?_, fun hf h0 ho => ?_, fun hf ho => ?_⟩⟩,
    fun s c hc => ⟨fun h => ?_, fun h => ?_⟩, holdEnter_answers, holdRelease_answers, serviceEnter_answers, serviceExit_answers⟩
  · exact begun_call (f := (·.svcInfo c)) rfl hc rfl
  · intro u
    obtain ⟨hreset, hotp, hmode⟩ := u.deviceReset_left c
    exact ⟨_, begun_call (f := (·.deviceReset c)) rfl hc rfl, rfl, hreset, hotp.trans (s.begun_traffic 0x0002 c).otp, hmode⟩
  · exact begun_call (f := (·.pageOwnerCall c)) rfl hc (State.pageOwnerCall_badArg h)
  · exact begun_call (f := (·.pageOwnerCall c)) rfl hc (State.pageOwnerCall_fixed ⟨hp, h2, h3, hid⟩ hf)
  · exact begun_call (f := (·.pageOwnerCall c)) rfl hc (State.pageOwnerCall_foreign ⟨hp, h2, h3, hid⟩ hf h0 ho)
  · exact begun_call (f := (·.pageOwnerCall c)) rfl hc (State.pageOwnerCall_done ⟨hp, h2, h3, hid⟩ hf ho)
  · exact begun_call (f := (·.pinOwnerCall c)) rfl hc (State.pinOwnerCall_badArg h)
  · exact begun_call (f := (·.pinOwnerCall c)) rfl hc (State.pinOwnerCall_done h)

end Sys2Proof.Machine
end

section
/-! The Guide between calls: IDLE, the next request, and the responses that wait (R17, R20, R329). -/

namespace Sys2Proof.Machine

/-! ### IDLE -/

/-- The change to mode m shows in MODE, counts event 0, and touches nothing but registers and what an event changes (R18, R19). -/
theorem State.setMode_left (s : State) (m : Nat) (hm : m < 16) (hs : s.mode < 16) :
    (s.setMode m).rf aMODE 3 0 = m ∧ (s.setMode m).rf aMODE 15 12 = m ∧ (s.setMode m).rf aMODE 11 8 = s.mode ∧
      (s.setMode m).count 0 = s.count 0 + 1 ∧ SameOutside s (s.setMode m) := by
  have hraise (u : State) (hi lo : Nat) : (u.raise 0).rf aMODE hi lo = u.rf aMODE hi lo := by
    rw [State.rf, State.raise_reg _ _ _ (by decide) (by decide), State.rf]
  refine ⟨?_, ?_, ?_, ?_, (((State.setF_same s aMODE 11 8 s.mode).trans (State.setF_same _ aMODE 3 0 m)).trans
    (State.setF_same _ aMODE 15 12 m)).trans (State.raise_same _ 0)⟩
  · simp (disch := decide) only [State.setMode, hraise, State.rf_setF_disjoint]
    exact State.rf_setF_of_lt _ _ _ _ _ (by decide) (by decide) hm
  · simp only [State.setMode, hraise]
    exact State.rf_setF_of_lt _ _ _ _ _ (by decide) (by decide) hm
  · simp (disch := decide) only [State.setMode, hraise, State.rf_setF_disjoint]
    exact State.rf_setF_of_lt _ _ _ _ _ (by decide) (by decide) hs
  · simp only [State.setMode, State.count_raise _ 0 (by decide), State.count_setF]

/-- With nothing left to do the Guide enters IDLE (R17, R472). -/
theorem State.guideWait_idle {s : State} (hm : s.mode = mRUN) (he : s.rb (aPMU 0x2C) 0 = true) (hi : s.guideIdle = true)
    (hop : s.flash.op = none) (hl : s.cfg.load = none) (hr : s.cfg.readback = none) (hp : s.bist.running = none)
    (hq : s.bist.request = none) (hc : ∀ c ∈ s.bist.queue, c.waits = true ∨
      (elemKind c.elem < 5 ∧ (s.pitchBlocked = true ∨ s.pitchWaits c.elem = true)))
    (hb : s.power.braceDue = none) (hess : s.cfg.essBough = []) (hlock : s.power.lockWait = none) : s.guideWait = s.setMode mIDLE := by
  have hchecks : (s.bist.queue.any fun c => !c.waits && (decide (5 ≤ elemKind c.elem) || (!s.pitchBlocked && !s.pitchWaits c.elem))) = false := by
    refine List.any_eq_false.mpr fun c hmem => ?_
    rcases hc c hmem with h | ⟨h5, h | h⟩
    · simp [h]
    · simp [h, show ¬ 5 ≤ elemKind c.elem by omega]
    · simp [h, show ¬ 5 ≤ elemKind c.elem by omega]
  simp [State.guideWait, hm, he, hi, hop, hl, hr, hp, hq, hchecks, hb, hess, hlock]

/-! ### The next request -/

/-- The request that was posted first is that of mailbox m. -/
theorem State.takeRequest_mailbox {s : State} {q m : Nat} {h : Msg} {rest : List Msg} (ht : s.guide.taken = none)
    (hn : s.nextRequest = some (q, m)) (hj : ∀ x, s.guide.jtagReq = some x → q ≤ x.1) (hm : (s.mb m).msgs = h :: rest) :
    s.takeRequest = ((s.wakeGuide.rxTake m rGuide).2).admitCall (callOf m false h.src.toNat h.words).1
      (callOf m false h.src.toNat h.words).2 := by
  have htake : s.takeRequest = s.takeFrom m := by
    cases hreq : s.guide.jtagReq with
    | none => simp [State.takeRequest, ht, hn, hreq]
    | some x => simp [State.takeRequest, ht, hn, hreq, Nat.not_lt.mpr (hj x hreq)]
  rw [htake]
  simp [State.takeFrom, hm]

/-- The request of GUIDE_CALL was posted before that of any mailbox. -/
theorem State.takeRequest_jtag {s : State} {w : List Word} {qj : Nat} (ht : s.guide.taken = none)
    (hn : ∀ x, s.nextRequest = some x → qj < x.1) (hj : s.guide.jtagReq = some (qj, w)) :
    s.takeRequest = (s.wakeGuide.updGuide fun g => { g with jtagReq := none }).admitCall (callOf 0 true rDebug w).1
      (callOf 0 true rDebug w).2 := by
  have htake : s.takeRequest = s.takeJtag w := by
    cases hreq : s.nextRequest with
    | none => simp [State.takeRequest, ht, hj, hreq]
    | some x => simp [State.takeRequest, ht, hj, hreq, hn x hreq]
  rw [htake]
  simp [State.takeJtag]

/-! ### Responses that wait -/

theorem State.responsePost_room {s : State} {m : Nat} {r : Reply} (hr : s.guide.held.find? (fun h => h.call.mbx.toNat == m) = some r)
    (hlock : s.mbLockReq (m + 1) = false ∨ (s.mb (m + 1)).lock.toNat = rGuide) (hroom : (s.mb (m + 1)).msgs.length < 8) :
    s.responsePost m = ((s.mbTryPost (m + 1) rGuide (s.mb (m + 1)).txEpoch r.words).2).updGuide fun g => { g with held := g.held.erase r } := by
  have hok : (!s.mbLockReq (m + 1) || (s.mb (m + 1)).lock.toNat == rGuide) = true := by simpa using hlock
  simp only [State.responsePost, hr, hok, hroom, decide_true, Bool.and_self, Bool.not_true, Bool.false_eq_true, if_false]

/-- Settles O20: each command of the Guide in the case that its hypotheses name. -/
theorem guideWork : Obligations.GuideWork := by
  refine ⟨fun s ha hm he hi hop hl hr hp hq hc hb hess hlock => ?_, fun s m q h rest ha ht hn hj hmsg => ?_,
    fun s w qj ha ht hn hj => ?_, fun s m r ha hr hlock hroom => ?_, fun s r rest ha hr => ?_⟩
  · have hmode : s.setMode mIDLE = (((s.setF aMODE 11 8 mRUN).setF aMODE 3 0 mIDLE).setF aMODE 15 12 mIDLE).raise 0 := by
      simp only [State.setMode, hm]
    obtain ⟨hcur, htgt, hprev, hcount, hsame⟩ := s.setMode_left mIDLE (by decide) (by rw [hm]; decide)
    rw [hm] at hprev
    rw [← hmode]
    exact ⟨Answers.live (f := State.guideWait) rfl ha (State.guideWait_idle hm he hi hop hl hr hp hq hc hb hess hlock),
      hcur, htgt, hprev, hcount, hsame⟩
  · exact Answers.live (f := State.takeRequest) rfl ha (State.takeRequest_mailbox ht hn hj hmsg)
  · exact Answers.live (f := State.takeRequest) rfl ha (State.takeRequest_jtag ht hn hj)
  · exact Answers.live (f := (·.responsePost m.toNat)) rfl ha (State.responsePost_room hr hlock hroom)
  · refine Answers.live (f := State.replyRetry) rfl ha ?_
    simp [State.replyRetry, hr]

end Sys2Proof.Machine
end

section
/-! The release of a load, and what follows a load that failed (R21, R398 to R401, R404). -/

namespace Sys2Proof.Machine

/-! ### The release, step by step (R458) -/

/-- The ranks are released in turn. -/
theorem State.releaseRank_next {s : State} {l : Load} (hl : s.cfg.load = some l) (hp : l.phase = .release) (hr : l.ranks < 8) :
    s.releaseRank = (((((s.loadBoughs l).filter fun b => s.rankOf b == l.ranks).foldl (fun (t : State) b => t.releaseHold b) s).updLoad
      fun l => { l with ranks := l.ranks + 1 }).settle).settlePins := by
  simp only [State.releaseRank, hl]
  rw [if_neg (by simp [hp, Nat.not_le.mpr hr])]

/-- The ports follow the last rank: of a full load all of them, with the bus ports opened. -/
theorem State.releasePorts_full {s : State} {l : Load} (hl : s.cfg.load = some l) (hp : l.phase = .release) (hr : 8 ≤ l.ranks)
    (hd : l.portsDone = false) (hg : l.grove = none) :
    s.releasePorts = ((List.range 4).foldl (fun (t : State) q => t.releasePort q) s.openPorts).updLoad fun l => { l with portsDone := true } := by
  simp only [State.releasePorts, hl]
  rw [if_neg (by simp [hp, hr, hd])]
  simp [hg]

/-- The slot ports of the grove that a grove load releases. -/
theorem State.releasePorts_grove {s : State} {l : Load} {g : Nat} (hl : s.cfg.load = some l) (hp : l.phase = .release) (hr : 8 ≤ l.ranks)
    (hd : l.portsDone = false) (hg : l.grove = some g) :
    s.releasePorts = ((s.groveSlots g).foldl (fun (t : State) q => t.releasePort q) s).updLoad fun l => { l with portsDone := true } := by
  simp only [State.releasePorts, hl]
  rw [if_neg (by simp [hp, hr, hd])]
  simp [hg]

/-- The pins follow the ports. -/
theorem State.releasePins_next {s : State} {l : Load} (hl : s.cfg.load = some l) (hp : l.phase = .release) (ho : l.portsDone = true)
    (hd : l.pinsDone = false) : s.releasePins = (s.updLoad fun l => { l with pinsDone := true }).settlePins := by
  simp [State.releasePins, hl, hp, ho, hd]

/-- With the pins released the load is done. -/
theorem State.releaseDone_last {s : State} {l : Load} (tj : Int) (hl : s.cfg.load = some l) (hp : l.phase = .release)
    (hd : l.pinsDone = true) : s.releaseDone tj = (s.sampleTj tj).loadDone l := by
  simp [State.releaseDone, hl, hp, hd]

/-! ### After a failure -/

/-- The other bank is tried only once no power-state entry is under way (R21). -/
theorem State.fallbackLoad_waits {s : State} (h : s.power.entry.isSome = true) : s.fallbackLoad = s := by
  simp [State.fallbackLoad, h]

/-- The other bank is loaded, or no image is left where its header fails too (R401, R404). -/
theorem State.fallbackLoad_other {s : State} {b : Nat} (hb : s.cfg.fallbackFrom = some b) (he : s.power.entry = none) :
    s.fallbackLoad =
      let x := (s.updCfg fun k => { k with fallbackFrom := none }).checkBank (1 - b)
      if x.1 = 0 then x.2.2.loadBegin { image := x.2.1, grove := none, fallback := true }
      else (x.2.2.failHold true).endFailed rcNO_IMAGE x.1 [] := by
  simp [State.fallbackLoad, hb, he]

/-- Settles O50: each step of the release in its turn, and the load that follows a failure by what its header shows. -/
theorem releaseAndFallback : Obligations.ReleaseAndFallback := by
  refine ⟨fun s l ha hl hp => ⟨fun hr => ?_, fun hr hd hg => ?_, fun g hr hd hg => ?_, fun ho hd => ?_, fun tj hd => ?_⟩,
    fun s ha he => ?_, fun s b ha hb he => ⟨fun hx => ?_, fun hx => ?_⟩⟩
  · exact Answers.live (f := State.releaseRank) rfl ha (State.releaseRank_next hl hp hr)
  · exact Answers.live (f := State.releasePorts) rfl ha (State.releasePorts_full hl hp hr hd hg)
  · exact Answers.live (f := State.releasePorts) rfl ha (State.releasePorts_grove hl hp hr hd hg)
  · exact Answers.live (f := State.releasePins) rfl ha (State.releasePins_next hl hp ho hd)
  · exact Answers.live (f := (·.releaseDone tj.toInt)) rfl ha (State.releaseDone_last _ hl hp hd)
  · exact Answers.live (f := State.fallbackLoad) rfl ha (State.fallbackLoad_waits he)
  · exact Answers.live (f := State.fallbackLoad) rfl ha ((State.fallbackLoad_other hb he).trans (if_pos hx))
  · exact Answers.live (f := State.fallbackLoad) rfl ha ((State.fallbackLoad_other hb he).trans (if_neg hx))

end Sys2Proof.Machine
end

section
/-! What the record of a refused write keeps (R39, R50, R53): no shadow changes, and a PAGE_ERR bit that reads 1 goes on reading 1, whatever
events the bits raise. -/

namespace Sys2Proof.Machine

/-- The shadow copies are as they were, and every PAGE_ERR bit that read 1 reads 1. -/
def KeepsErrs (s t : State) : Prop :=
  (∀ x, t.shadow x = s.shadow x) ∧ ∀ p b, b < 32 → s.rb (pg p 0x00C) b = true → t.rb (pg p 0x00C) b = true

namespace KeepsErrs

theorem refl (s : State) : KeepsErrs s s := ⟨fun _ => rfl, fun _ _ _ h => h⟩

theorem trans {s t u : State} (h1 : KeepsErrs s t) (h2 : KeepsErrs t u) : KeepsErrs s u :=
  ⟨fun x => (h2.1 x).trans (h1.1 x), fun p b hb h => h2.2 p b hb (h1.2 p b hb h)⟩

theorem ite {s t u : State} {c : Prop} [Decidable c] (h1 : KeepsErrs s t) (h2 : KeepsErrs s u) : KeepsErrs s (if c then t else u) := by
  split <;> assumption

/-- An operation on parts other than the register file. -/
theorem of_regs {s t : State} (h : t.regs = s.regs) : KeepsErrs s t :=
  ⟨fun x => by rw [State.shadow, h, State.shadow], fun p b _ hp => by rwa [State.rb, State.reg, h]⟩

/-- A write of a register that is no PAGE_ERR. -/
theorem setReg (s : State) {a : Nat} (v : Word) (h : a % 0x1000 ≠ 0x00C) : KeepsErrs s (s.setReg a v) := by
  refine ⟨fun _ => rfl, fun p b _ hp => ?_⟩
  have hne : pg p 0x00C ≠ a := by unfold pg; omega
  rwa [State.rb, State.reg_setReg_ne _ _ _ _ hne]

/-- A bit set in any register. -/
theorem setBit_true (s : State) (a i : Nat) : KeepsErrs s (s.setB a i true) := by
  refine ⟨fun _ => rfl, fun p b hb hp => ?_⟩
  by_cases h : pg p 0x00C = a ∧ b = i
  · obtain ⟨rfl, rfl⟩ := h
    exact State.rb_setB_same _ _ _ _ hb
  · rwa [State.rb_setB_ne _ _ _ _ _ _ hb (by tauto)]

theorem satAdd (s : State) {a : Nat} (hi lo n : Nat) (h : a % 0x1000 ≠ 0x00C) : KeepsErrs s (s.satAdd a hi lo n) := setReg s _ h

theorem setF (s : State) {a : Nat} (hi lo v : Nat) (h : a % 0x1000 ≠ 0x00C) : KeepsErrs s (s.setF a hi lo v) := setReg s _ h

end KeepsErrs

section
open KeepsErrs

/-! ### The routes of an occurrence -/

theorem State.dmaWrite_keepsErrs (s : State) {d : Nat} (r : List Word) (hd : d < 4) : KeepsErrs s (s.dmaWrite d r) := by
  have ha : aDMA d 0x18 % 0x1000 ≠ 0x00C := by unfold aDMA pg; omega
  unfold State.dmaWrite
  exact ite (KeepsErrs.setReg s _ ha) (KeepsErrs.setReg s _ ha)

theorem State.msixRoute_keepsErrs (s : State) (v : Nat) : KeepsErrs s (s.msixRoute v) := by
  unfold State.msixRoute State.msixMessage
  exact ite (KeepsErrs.satAdd s _ _ _ (by decide)) ((setBit_true s _ _).trans (ite (setBit_true _ _ _) (of_regs rfl)))

theorem State.lineRoute_keepsErrs (s : State) (j : Nat) : KeepsErrs s (s.lineRoute j) := by
  unfold State.lineRoute
  exact ite ((setBit_true s _ _).trans (KeepsErrs.satAdd _ _ _ _ (by decide))) (of_regs rfl)

theorem State.ropeRoute_keepsErrs (s : State) (e k : Nat) (r : List Word) : KeepsErrs s (s.ropeRoute e k r) := by
  have hm : KeepsErrs s (s.satAdd aCNT_MERGE 31 0 1) := KeepsErrs.satAdd s _ _ _ (by decide)
  unfold State.ropeRoute
  generalize s.rope.renew (s.rf (aRTGT k) 8 0) (s.rf (aRTGT k) 13 9) e r = y
  obtain ⟨found, x⟩ := y
  exact ite (refl s) (ite hm (ite hm (of_regs rfl)))

theorem State.occur_keepsErrs (s : State) (e : Nat) (t : DevTime) (q : Nat) (he : e < 320) : KeepsErrs s (s.occur e t q).2 := by
  have hlo : aTS_LO e % 0x1000 ≠ 0x00C := by unfold aTS_LO pg; omega
  have hhi : aTS_HI e % 0x1000 ≠ 0x00C := by unfold aTS_HI pg; omega
  have hinfo : aTS_INFO e % 0x1000 ≠ 0x00C := by unfold aTS_INFO pg; omega
  have hd : fld (s.reg (aROUTE e)) 13 12 < 4 := fld_lt _ 13 12
  have hdrop : ∀ d < 4, aDMA d 0x1C % 0x1000 ≠ 0x00C := by unfold aDMA pg; omega
  unfold State.occur
  refine trans ?_ (ite (State.ropeRoute_keepsErrs _ _ _ _) (refl _))
  refine trans ?_ (ite (State.lineRoute_keepsErrs _ _) (refl _))
  refine trans ?_ (ite (State.msixRoute_keepsErrs _ _) (refl _))
  refine trans ?_ (ite ((KeepsErrs.satAdd _ _ _ _ (hdrop _ hd)).trans (KeepsErrs.satAdd _ _ _ _ (by decide)))
    (ite (State.dmaWrite_keepsErrs _ _ hd) (refl _)))
  refine trans ?_ (setBit_true _ _ _)
  refine trans ?_ (KeepsErrs.setReg _ _ hinfo)
  refine trans ?_ (KeepsErrs.setReg _ _ hhi)
  exact trans (of_regs rfl) (KeepsErrs.setReg _ _ hlo)

theorem State.raise_keepsErrs (s : State) (e : Nat) (he : e < 320) : KeepsErrs s (s.raise e) := by
  unfold State.raise State.raiseAt State.raiseWith
  refine trans (State.occur_keepsErrs s e _ _ he) (ite ?_ (refl _))
  exact (setBit_true _ _ _).trans (ite (State.occur_keepsErrs _ 104 _ _ (by decide)) (refl _))

/-! ### Page errors -/

/-- The number of pages of a kind where the event depends on which of them it is; a bound for the other kinds. -/
def kindPages (k : PageKind) : Nat :=
  match k with | .mbx => 8 | .edge => 256 | .sdf => 8 | .edgecal => 4 | .ropePort => 3 | _ => 0x800

theorem pageInfo_inst_lt {p : Nat} (h : p < 0x801) : (pageInfo p).inst < kindPages (pageInfo p).kind := by
  revert p; decide +kernel

theorem pageInfo_none {p : Nat} (h : 0x801 ≤ p) : (pageInfo p).kind = .none := by
  unfold pageInfo
  repeat rw [if_neg (by omega)]

/-- A page event is one of the 320 events. -/
theorem pageEvent_lt {p b e : Nat} (h : pageEvent p b = some e) : e < 320 := by
  by_cases hp : p < 0x801
  · have hi := pageInfo_inst_lt hp
    unfold pageEvent at h
    cases hk : (pageInfo p).kind <;> simp only [hk, kindPages, reduceCtorEq, Option.some.injEq] at h hi
    case mbx | sdf => split at h <;> omega
    case headerOnly => split_ifs at h <;> simp only [Option.some.injEq] at h <;> omega
    all_goals omega
  · simp [pageEvent, pageInfo_none (p := p) (by omega)] at h

theorem State.setErr_keepsErrs (s : State) (p b : Nat) : KeepsErrs s (s.setErr p b) := by
  unfold State.setErr
  refine ite (refl s) ((setBit_true s _ _).trans (ite ?_ (refl _)))
  split
  · next e he => exact State.raise_keepsErrs _ e (pageEvent_lt he)
  · exact refl _

/-- The bit set reads 1, on every page. -/
theorem State.setErr_reads (s : State) (p : Nat) {b : Nat} (hb : b < 32) : (s.setErr p b).rb (pg p 0x00C) b = true := by
  unfold State.setErr
  split
  · assumption
  · have hset : (s.setB (pg p 0x00C) b true).rb (pg p 0x00C) b = true := State.rb_setB_same _ _ _ _ hb
    dsimp only
    split
    · split
      · next e he => exact (State.raise_keepsErrs _ e (pageEvent_lt he)).2 p b hb hset
      · exact hset
    · exact hset

/-! ### A refused write -/

/-- The bit of one check, set where the write fails it. -/
def State.setErrIf (s : State) (p b : Nat) (on : Bool) : State := if on then s.setErr p b else s

theorem KeepsErrs.setErrIf {s t : State} (h : KeepsErrs s t) (p b : Nat) (on : Bool) : KeepsErrs s (t.setErrIf p b on) :=
  h.trans (ite (t.setErr_keepsErrs p b) (refl t))

/-- The record of a refused write, check by check. -/
theorem State.recordChecks_eq (s : State) (a r : Nat) (v : Word) (c : WriteChecks) :
    let p := a / 0x1000
    let u := ((s.setErrIf p 0 c.owner).setErrIf p 1 c.lock).setErrIf p 2 c.width
    let w := ((u.setErrIf p 3 c.pending).setErrIf p (if 0x100 ≤ p ∧ p ≤ 0x1FF then 21 else 16) c.pinOwner).setErrIf p 17 c.pinLock
    s.recordChecks a r v c = (if c.pinOwner || c.pinLock then w.pinRefused r ((s.pinOf a r v).getD 0) else w).recordRefusal p r := rfl

theorem State.pinRefused_keepsErrs (s : State) (r n : Nat) : KeepsErrs s (s.pinRefused r n) :=
  (KeepsErrs.satAdd s _ _ _ (by decide)).trans (KeepsErrs.setReg _ _ (by decide))

theorem State.recordRefusal_keepsErrs (s : State) (p r : Nat) : KeepsErrs s (s.recordRefusal p r) :=
  (KeepsErrs.setF s _ _ _ (by unfold pg; omega)).trans (KeepsErrs.satAdd _ _ _ _ (by unfold pg; omega))

/-- A PAGE_ERR bit that was set on the way reads 1 at the end. -/
theorem KeepsErrs.reads {s u t : State} {p b : Nat} (hb : b < 32) (h1 : KeepsErrs s u) (h2 : KeepsErrs (u.setErr p b) t) :
    (∀ x, t.shadow x = s.shadow x) ∧ t.rb (pg p 0x00C) b = true :=
  ⟨((h1.trans (u.setErr_keepsErrs p b)).trans h2).1, h2.2 p b hb (u.setErr_reads p hb)⟩

/-- The record of a write that fails the pending check: no shadow changes, and PENDING_WR reads 1 (R42, R53). -/
theorem State.recordChecks_pending (s : State) (a r : Nat) (v : Word) {c : WriteChecks} (h : c.pending = true) :
    (∀ x, (s.recordChecks a r v c).shadow x = s.shadow x) ∧ (s.recordChecks a r v c).rb (pg (a / 0x1000) 0x00C) 3 = true := by
  rw [State.recordChecks_eq, h]
  generalize a / 0x1000 = p
  refine KeepsErrs.reads (by decide) ((((refl s).setErrIf p 0 c.owner).setErrIf p 1 c.lock).setErrIf p 2 c.width) ?_
  refine trans ?_ (State.recordRefusal_keepsErrs _ _ _)
  refine trans ?_ (ite (State.pinRefused_keepsErrs _ _ _) (refl _))
  exact ((refl _).setErrIf _ _ _).setErrIf _ _ _

end

end Sys2Proof.Machine
end

section
/-! Register writes as commands: what REGISTER_WRITE makes of the checks (R40, R48, R53). -/

namespace Sys2Proof.Machine

/-- A TLP of at most 16 dwords that is not poisoned is carried out; the access of a requester other than the host is no TLP (R48, R348). -/
theorem State.tlp_carriedOut {s : State} {r dwords : Nat} (read : Bool) (f : State → State) (hr : s.reaches r = true)
    (hd : r ≠ rHost ∨ dwords ≤ 16) : s.tlp r dwords false read f = f s := by
  unfold State.tlp
  by_cases h : r = rHost
  · subst h
    have hle : ¬ 16 < dwords := by omega
    simp [hr, hle]
  · rw [if_pos h]

/-- A write that fails a check other than the lock is recorded, and does nothing else but end its requester's arming (R53, R346). -/
theorem State.writeReg_refused {s : State} {r a : Nat} {full : Bool} {v : Word} (hw : byteAddressed r = false ∨ a % 4 = 0)
    (hs : (regSpec (a / 4 * 4)).isSome = true) (hk : (s.checkWrite (a / 4 * 4) r full v).onlyLock = false) :
    (s.writeReg r a full v).2 =
      (s.disarm (a / 4 * 4) r).recordChecks (a / 4 * 4) r v (s.checkWrite (a / 4 * 4) r full v) := by
  have hn : (regSpec (a / 4 * 4)).isNone = false := by simpa using hs
  have hwidth : (byteAddressed r && a % 4 != 0) = false := by rcases hw with h | h <;> simp [h]
  simp [State.writeReg, hn, hwidth, WriteChecks.pass, hk]

/-- REGISTER_WRITE of a requester that reaches the registers. -/
theorem Answers.registerWrite {s t : State} {r : ReqId} {addr : BitVec 24} {v : Word} {full : Bool} {dwords : BitVec 8}
    (hr : s.reaches r.toNat = true) (hd : r.toNat ≠ rHost ∨ dwords.toNat ≤ 16)
    (ht : (s.writeReg r.toNat addr.toNat full v).2 = t) : Answers (.registerWrite r addr v full dwords false) s t :=
  Answers.act rfl (by rw [if_pos hr, State.tlp_carriedOut false _ hr hd, ht])

theorem State.checkWrite_pending (s : State) (a r : Nat) (full : Bool) (v : Word) :
    (s.checkWrite a r full v).pending = (rwsMask a != 0 && s.commitPending (a / 0x1000)) := rfl

@[simp] theorem State.shadow_disarm (s : State) (a r x : Nat) : (s.disarm a r).shadow x = s.shadow x := by
  unfold State.disarm; split <;> rfl

/-- Settles O14: a pending commit fails the check of every register with an RWS field, and of no other; the record of the refusal
sets PENDING_WR and keeps the shadows. -/
theorem pendingRefusesShadowWrites : Obligations.PendingRefusesShadowWrites := by
  refine ⟨fun s r a v ha hr hh hs hm hp => ?_, fun s r a full v hm => ?_⟩
  · have hword : a.toNat / 4 * 4 = a.toNat := by omega
    have hfails : (s.checkWrite a.toNat r.toNat true v).pending = true := by simpa [State.checkWrite_pending, hp] using hm
    have hrefused := State.writeReg_refused (s := s) (r := r.toNat) (a := a.toNat) (full := true) (v := v) (.inr ha) (by rwa [hword])
      (by rw [hword]; simp [WriteChecks.onlyLock, hfails])
    rw [hword] at hrefused
    obtain ⟨hshadow, hbit⟩ := (s.disarm a.toNat r.toNat).recordChecks_pending a.toNat r.toNat v hfails
    exact ⟨Answers.registerWrite hr (.inl hh) hrefused, hbit, fun x => (hshadow x).trans (s.shadow_disarm _ _ x)⟩
  · simp [State.checkWrite_pending, hm]

end Sys2Proof.Machine
end

section
/-! Instants of the time base (R47, R165, R169, R175): the PPS stamp, and a read of TIME_STAT. -/

namespace Sys2Proof.Machine

theorem pageInfo_time : (pageInfo 0x018).kind = .time := rfl

/-- No register of the TIME page is one that an event may change. -/
theorem evtPage_time {o : Nat} (h : o < 0x1000) : evtPage (aTIME o) = false := by
  have hpage : aTIME o / 0x1000 = 0x018 := by unfold aTIME pg; omega
  simp [evtPage, hpage]

/-- An instant that is not ahead is taken at the present device time. -/
theorem State.reach_past {s : State} {t : DevTime} (h : laterThan t s.time.now = false) : s.reach t = s := by
  simp [State.reach, h]

/-- A PPS edge stamps its device time in PPS_LO, PPS_HI and PPS_FRAC (R169). -/
theorem State.reg_ppsEdge (s : State) (e : DevTime) :
    (s.ppsEdge e).reg (aTIME 0x50) = BitVec.ofNat 32 (nsOf e) ∧
      (s.ppsEdge e).reg (aTIME 0x54) = BitVec.ofNat 32 (nsOf e / 2 ^ 32) ∧
      (s.ppsEdge e).reg (aTIME 0x58) = BitVec.ofNat 32 (fracOf e) := by
  have hev (t : State) {o : Nat} (h : o < 0x1000) : (t.raiseAt 83 e).reg (aTIME o) = t.reg (aTIME o) :=
    State.raiseAt_reg _ 83 _ _ (by decide) (evtPage_time h)
  simp only [State.ppsEdge, hev _ (show 0x50 < 0x1000 by decide), hev _ (show 0x54 < 0x1000 by decide), hev _ (show 0x58 < 0x1000 by decide)]
  simp [State.reg_setReg, aTIME, pg]

/-- A PPS edge raises event 83 (R169). -/
theorem State.count_ppsEdge (s : State) (e : DevTime) : (s.ppsEdge e).count 83 = s.count 83 + 1 :=
  State.count_raiseAt _ 83 e (by decide)

theorem State.ppsEdge_same (s : State) (e : DevTime) : SameOutside s (s.ppsEdge e) :=
  (((s.setReg_same _ _).trans (State.setReg_same _ _ _)).trans (State.setReg_same _ _ _)).trans (State.raiseAt_same _ _ _)

/-- A read of TIME_STAT that no snapshot serves shows the register and clears STEP_SEEN (R47, R168). -/
theorem State.readReg_timeStat {s : State} {r : Nat} (h : s.snap (localSnap r (aTIME 0x24)) = none) :
    s.readReg r (aTIME 0x24) = (s.showReg r (aTIME 0x24), s.setB (aTIME 0x24) 8 false) := by
  have hpage : aTIME 0x24 / 0x1000 = 0x018 := rfl
  have hoff : aTIME 0x24 % 0x1000 = 0x24 := rfl
  have hword : aTIME 0x24 / 4 * 4 = aTIME 0x24 := rfl
  have halign : aTIME 0x24 % 4 = 0 := rfl
  simp [State.readReg, hpage, hoff, hword, halign, pageInfo_time, h]

/-- A local read answers its word (R48). -/
theorem State.localRead_readable {s : State} {r : ReqId} (h : Readable s r) (a : Nat) :
    s.localRead r.toNat a = { (s.readReg r.toNat a).2 with lastRead := (s.readReg r.toNat a).1, lastUr := false } := by
  rw [State.localRead, if_pos h]

/-- Settles O28: an instant not ahead is stamped at once, and every other clause is the meaning of its command. -/
theorem timeInstants : Obligations.TimeInstants := by
  refine ⟨fun s e ht he => ?_, fun s e ht => ?_, fun s ht => ?_, fun s ht => ?_, fun s r hr hs => ?_⟩
  · obtain ⟨hlo, hhi, hfrac⟩ := s.reg_ppsEdge e
    exact ⟨Answers.timed (f := fun t => (t.reach e).ppsEdge e) rfl ht (by rw [State.reach_past he]; rfl), hlo, hhi, hfrac,
      s.count_ppsEdge e, s.ppsEdge_same e⟩
  · exact Answers.timed (f := fun t => (t.reach e).ppsEdge e) rfl ht rfl
  · exact Answers.timed (f := (·.reach 0)) rfl ht rfl
  · exact Answers.timed (f := State.updateBound) rfl ht rfl
  · exact Answers.act (f := (·.localRead r.toNat (aTIME 0x24))) rfl (by rw [State.localRead_readable hr, State.readReg_timeStat hs])

end Sys2Proof.Machine
end

section
/-! A write of PAGE_CTL to a disabled EDGE unit: with ENABLE = 0 it empties the queue, whatever COMMIT and LOCK say (R38, R180). A clause that
keeps everything else than COMMIT_PENDING must leave this write out. -/

namespace Sys2Proof.Machine

theorem pageInfo_edge {p : Nat} (h : p < 0x100) : (pageInfo (0x100 + p)).kind = .edge := by
  unfold pageInfo
  repeat rw [if_neg (by omega)]
  rw [if_pos (by omega)]

/-- A commit requested of an EDGE page changes no edge unit. -/
theorem State.edge_pageCommit (s : State) {p : Nat} (h : p < 0x100) : (s.pageCommit (0x100 + p)).edge = s.edge := by
  unfold State.pageCommit
  rw [pageInfo_edge h]
  split <;> rfl

theorem State.queue_edgeEmpty (s : State) (p : Nat) : ((s.edgeEmpty p).edgeUnit p).queue = [] := by
  simp [State.edgeEmpty, State.edgeUnit, State.setEdge, SMap.get_set]

/-- ENABLE = 0 written to a disabled EDGE unit empties the unit's queue, and what COMMIT and LOCK do then changes no edge unit. -/
theorem State.edge_writeCtl_disabled (s : State) {p : Nat} {v : Word} (hp : p < 0x100) (he : s.pageEnable (0x100 + p) = false)
    (hv : bit v 0 = false) : (s.writeCtl (0x100 + p) v false).edge = (s.edgeEmpty p).edge := by
  have hempties : s.writeCtl (0x100 + p) v false =
      let u := if bit v 1 then (s.edgeEmpty p).pageCommit (0x100 + p) else s.edgeEmpty p
      if bit v 2 then u.setB (pg (0x100 + p) 0x004) 2 true else u := by
    simp [State.writeCtl, he, hv, pageInfo_edge hp]
  have hcommit := (s.edgeEmpty p).edge_pageCommit hp
  rw [hempties]
  cases bit v 1 <;> cases bit v 2
  · rfl
  · rfl
  · exact hcommit
  · exact hcommit

/-- A device in RUN whose EDGE unit 0 is disabled and holds an entry, which EQ_HI pushes whether the unit is enabled or not (R181). -/
def disabledQueued : State :=
  { State.reset with
    power := { State.reset.power with inReset := false }
    regs := { State.reset.regs with act := [(aMODE, 0x4004)] } }.queuePush 0 { time := ns 1000, level := true }

/-- Refutes O22: COMMIT = 1 written with ENABLE = 0 to the page of a disabled EDGE unit that holds an entry empties its queue, and so changes more
than registers and events. -/
theorem not_registerCommands : ¬ Obligations.RegisterCommands := by
  intro h
  obtain ⟨_, _, _, _, _, hcommit, _⟩ := h
  have haccepted : Accepted disabledQueued 2 (pg 0x100 0x004) (setBit 0 1 true) := by decide +kernel
  have hdisabled : disabledQueued.pageEnable 0x100 = false := by decide +kernel
  have hqueued : (disabledQueued.edgeUnit 0).queue ≠ [] := by decide +kernel
  have hkind : (pageInfo 0x100).kind = .edge := rfl
  obtain ⟨_, _, hsame, _⟩ := hcommit disabledQueued 2 0x100 0 haccepted hdisabled (by decide) (by simp [hkind]) (by simp [hkind])
  have hkept : (disabledQueued.edgeEmpty 0).edge = disabledQueued.edge :=
    (disabledQueued.edge_writeCtl_disabled (p := 0) (by decide) hdisabled (by decide)).symm.trans hsame.edge
  have hempty := disabledQueued.queue_edgeEmpty 0
  rw [State.edgeUnit, hkept] at hempty
  exact hqueued hempty

end Sys2Proof.Machine
end

section
/-! The LUT and the carry cell of a leaf (R60 to R62). An input of the LUT reads none where nothing fixes its level: it may stand for either one. -/

namespace Sys2Proof.Machine

/-! ### The LUT output -/

/-- The index of a truth table that the inputs select (R60). -/
def lutIndex (a b c d : Bool) : Nat := a.toNat + 2 * b.toNat + 4 * c.toNat + 8 * d.toNat

/-- An input that reads o may stand at level v. -/
def MayBe (o : Option Bool) (v : Bool) : Prop := ∀ x, o = some x → v = x

theorem mayBe_some {x v : Bool} (h : MayBe (some x) v) : v = x := h x rfl

theorem mayBe_getD (o : Option Bool) : MayBe o (o.getD false) := by
  intro x h; simp [h]

theorem mayBe_iff_ne_not {o : Option Bool} {v : Bool} : MayBe o v ↔ o ≠ some (!v) := by
  unfold MayBe
  cases o with
  | none => simp
  | some x => cases x <;> cases v <;> simp

/-- The index i agrees with what is known of the inputs. -/
def lutFits (a b c d : Option Bool) (i : Nat) : Bool :=
  a != some (!Nat.testBit i 0) && b != some (!Nat.testBit i 1) && c != some (!Nat.testBit i 2) && d != some (!Nat.testBit i 3)

theorem lutFits_iff {a b c d : Option Bool} {i : Nat} : lutFits a b c d i = true ↔
    MayBe a (i.testBit 0) ∧ MayBe b (i.testBit 1) ∧ MayBe c (i.testBit 2) ∧ MayBe d (i.testBit 3) := by
  simp [lutFits, mayBe_iff_ne_not, and_assoc]

theorem lutIndex_testBits {i : Nat} (h : i < 16) : lutIndex (i.testBit 0) (i.testBit 1) (i.testBit 2) (i.testBit 3) = i := by
  revert i; decide

theorem lutIndex_bits (a b c d : Bool) : lutIndex a b c d < 16 ∧ (lutIndex a b c d).testBit 0 = a ∧ (lutIndex a b c d).testBit 1 = b ∧
    (lutIndex a b c d).testBit 2 = c ∧ (lutIndex a b c d).testBit 3 = d := by
  revert a b c d; decide

theorem lutVal_eq (tt : BitVec 16) (a b c d : Option Bool) : lutVal tt a b c d =
    let idx := (List.range 16).filter (lutFits a b c d)
    if idx.all (fun i => tt.getLsbD i) then some true else if idx.all (fun i => !tt.getLsbD i) then some false else none := rfl

/-- Some index agrees with any inputs. -/
theorem lutFits_exists (a b c d : Option Bool) : ∃ i ∈ List.range 16, lutFits a b c d i = true := by
  obtain ⟨hlt, h0, h1, h2, h3⟩ := lutIndex_bits (a.getD false) (b.getD false) (c.getD false) (d.getD false)
  refine ⟨_, List.mem_range.mpr hlt, lutFits_iff.mpr ?_⟩
  rw [h0, h1, h2, h3]
  exact ⟨mayBe_getD a, mayBe_getD b, mayBe_getD c, mayBe_getD d⟩

/-- Where the table reads v whatever the open inputs stand at, the output is v. -/
theorem lutVal_of_agree {tt : BitVec 16} {a b c d : Option Bool} {v : Bool}
    (h : ∀ x y z w, MayBe a x → MayBe b y → MayBe c z → MayBe d w → tt.getLsbD (lutIndex x y z w) = v) : lutVal tt a b c d = some v := by
  have hall : ∀ i ∈ (List.range 16).filter (lutFits a b c d), tt.getLsbD i = v := by
    intro i hi
    obtain ⟨hlt, hfit⟩ := List.mem_filter.mp hi
    obtain ⟨ha, hb, hc, hd⟩ := lutFits_iff.mp hfit
    rw [← lutIndex_testBits (List.mem_range.mp hlt)]
    exact h _ _ _ _ ha hb hc hd
  rw [lutVal_eq]
  cases v with
  | true => exact if_pos (List.all_eq_true.mpr hall)
  | false =>
    obtain ⟨i, hi, hfit⟩ := lutFits_exists a b c d
    have hmem := List.mem_filter.mpr ⟨hi, hfit⟩
    have hnot : ¬ (((List.range 16).filter (lutFits a b c d)).all fun i => tt.getLsbD i) = true := fun ht =>
      absurd (List.all_eq_true.mp ht i hmem) (by simp [hall i hmem])
    exact (if_neg hnot).trans (if_pos (List.all_eq_true.mpr fun i hi => by simp [hall i hi]))

/-- With every input at a level the output is the bit that they select. -/
theorem lutVal_some (tt : BitVec 16) (a b c d : Bool) :
    lutVal tt (some a) (some b) (some c) (some d) = some (tt.getLsbD (lutIndex a b c d)) :=
  lutVal_of_agree fun x y z w ha hb hc hd => by
    rw [mayBe_some ha, mayBe_some hb, mayBe_some hc, mayBe_some hd]

/-- The table of functions of R60. -/
theorem lutTable_functions (a b c d : Bool) : let at_ (tt : BitVec 16) := tt.getLsbD (lutIndex a b c d)
    at_ 0x0000 = false ∧ at_ 0xAAAA = a ∧ at_ 0x8888 = (a && b) ∧ at_ 0xEEEE = (a || b) ∧ at_ 0x6666 = (a ^^ b) ∧
      at_ 0x6996 = (a ^^ b ^^ c ^^ d) ∧ at_ 0xCCAA = if d then b else a := by
  revert a b c d; decide

/-- What does not depend on an input reads at either level as it does at 0. -/
theorem reads_of_ignored {f : Bool → Bool} (h : f false = f true) (v : Bool) : f v = f false := by
  cases v
  · rfl
  · exact h.symm

/-- Settles O12: the output is the bit on which every index that the inputs leave open agrees. -/
theorem lutOutput : Obligations.LutOutput := by
  refine ⟨lutVal_some, fun a b c d => ?_, fun tt x y z => ⟨fun h a => ?_, fun h b => ?_, fun h c => ?_, fun h d => ?_⟩, fun s ev b l => rfl⟩
  · simp only [lutVal_some, Option.some.injEq]
    exact lutTable_functions a b c d
  · refine lutVal_of_agree fun v _ _ _ _ hx hy hz => ?_
    rw [mayBe_some hx, mayBe_some hy, mayBe_some hz]
    exact reads_of_ignored (f := fun v => tt.getLsbD (lutIndex v x y z)) h v
  · refine lutVal_of_agree fun _ v _ _ hx _ hy hz => ?_
    rw [mayBe_some hx, mayBe_some hy, mayBe_some hz]
    exact reads_of_ignored (f := fun v => tt.getLsbD (lutIndex x v y z)) h v
  · refine lutVal_of_agree fun _ _ v _ hx hy _ hz => ?_
    rw [mayBe_some hx, mayBe_some hy, mayBe_some hz]
    exact reads_of_ignored (f := fun v => tt.getLsbD (lutIndex x y v z)) h v
  · refine lutVal_of_agree fun _ _ _ v hx hy hz _ => ?_
    rw [mayBe_some hx, mayBe_some hy, mayBe_some hz]
    exact reads_of_ignored (f := fun v => tt.getLsbD (lutIndex x y z v)) h v

/-! ### The carry cell -/

theorem carryOut_some (p g c : Bool) : carryOut (some p) (some g) (some c) = some (if p then c else g) := by
  cases p <;> rfl

theorem xor3_some (a b : Bool) : xor3 (some a) (some b) = some (a ^^ b) := by
  cases a <;> cases b <;> rfl

/-- O of a leaf on no combinational loop is what its OSEL selects (R62, R75). -/
theorem nodeStep_o_of_noLoop {s : State} {ev : Node → Option Bool} {b l : Nat} (h : ∀ e ∈ (s.bough b).loop, e.1 ≠ l) :
    nodeStep s ev (.o b l) = outputO s b l ev := by
  have hnone : (s.bough b).loop.find? (·.1 == l) = none := List.find?_eq_none.mpr fun e he => by simpa using h e he
  simp [nodeStep, hnone]

/-- OSEL = 1 selects the sum. -/
theorem outputO_sum {s : State} {ev : Node → Option Bool} {b l : Nat} (h : ((s.bough b).cfg.leafAt l).osel = 1) :
    outputO s b l ev = xor3 (ev (.f b l)) (ev (.cin b l)) := by
  simp [outputO, h]

/-- DSEL = 1 selects the sum. -/
theorem nodeStep_d_sum {s : State} {ev : Node → Option Bool} {b l : Nat} (h : ((s.bough b).cfg.leafAt l).dsel = true) :
    nodeStep s ev (.d b l) = xor3 (ev (.f b l)) (ev (.cin b l)) := by
  simp [nodeStep, h]

/-- Settles O13: COUT, O and D by the equations of the carry cell, from P, G and CIN at known levels. -/
theorem carryCell : Obligations.CarryCell := by
  intro s ev b l p g cin k hp hg hcin
  refine ⟨?_, fun hsel hloop => ?_, fun hsel => ?_⟩
  · have hcell : nodeStep s ev (.cout b l) = carryOut (some p) (some g) (some cin) := by rw [← hp, ← hg, ← hcin]; rfl
    rw [hcell, carryOut_some]
  · rw [nodeStep_o_of_noLoop hloop, outputO_sum hsel, hp, hcin, xor3_some]
  · rw [nodeStep_d_sum hsel, hp, hcin, xor3_some]

end Sys2Proof.Machine
end

section
/-! Handshake controllers and channels (R103, R160, R161), the cadence counter (R111), and instants at which no root has an edge (R148). -/

namespace Sys2Proof.Machine

/-! ### Boughs -/

theorem State.bough_updBough_same (s : State) (b : Nat) (f : Bough → Bough) : (s.updBough b f).bough b = f (s.bough b) := by
  simp [State.updBough, State.setBough, State.bough, SMap.get_set]

/-- A state with the same fabric has the same boughs. -/
theorem State.bough_congr {s t : State} (h : t.fabric = s.fabric) (b : Nat) : t.bough b = s.bough b := by
  rw [State.bough, h, State.bough]

/-- A wire whose level is fixed draws no free value. -/
theorem State.wireBit_some {s0 : State} {n : Node} {v : Bool} (h : s0.wire n = some v) (s : State) : s0.wireBit n s = (v, s) := by
  simp [State.wireBit, h]

/-! ### Handshake controllers -/

/-- The request of a controller whose inputs all request rises (R103). -/
theorem State.hsRequest_rises {s : State} {b j : Nat} (hh : s.handshake b = true) (hheld : s.held b = false)
    (hst : (s.bough b).cfg.stages.contains j = true) (hr : ((s.bough b).stageAt j).rin = false)
    (hi : ((s.bough b).cfg.stageAt j).inputs.isEmpty = false) (hq : ((s.bough b).cfg.stageAt j).inputs.all (s.request b j) = true) :
    s.hsRequest b j = (s.updBough b fun y => y.setStage j { (s.bough b).stageAt j with rin := true }).settle := by
  unfold State.hsRequest
  dsimp only
  rw [if_pos (by simp only [hh, hheld, hst, hr, hi, hq, Bool.not_false, Bool.and_self])]

/-! ### Channels -/

/-- A channel that is not live, or is not ready, takes no PUSH (R160). -/
theorem State.channelPush_idle {s : State} {b c : Nat}
    (h : s.chanLive b ((s.bough b).cfg.ochAt c) = false ∨ ((s.bough b).ochAt c).ready = false) : s.channelPush b c = s := by
  unfold State.channelPush
  dsimp only
  rw [if_neg (by rcases h with h | h <;> simp [h])]

/-- With RDY = 1 the PUSH wire tells whether the word is sent (R160). -/
theorem State.channelPush_ready {s : State} {b c : Nat} {push : Bool} (hl : s.chanLive b ((s.bough b).cfg.ochAt c) = true)
    (hr : ((s.bough b).ochAt c).ready = true) (hw : s.wire (.dest b (2560 + c)) = some push) :
    s.channelPush b c = if push then ((s.upWord b c s).2.updBough b fun x => x.setOch c
      { x.ochAt c with req := !(x.ochAt c).req, word := (s.upWord b c s).1 }).propagate else s := by
  simp [State.channelPush, hl, hr, State.wireBit_some hw, State.sendWord]

/-- The interface of an incoming channel acts: in a handshake bough, or where the clock of the channel runs. -/
theorem State.channelValid_acts {s : State} {b c : Nat} (hheld : s.held b = false) (hen : ((s.bough b).cfg.ichAt c).en = true)
    (hl : s.handshake b = true ∨ s.chanLive b ((s.bough b).cfg.ichAt c) = true) :
    (!(((s.bough b).cfg.ichAt c).en && !s.held b && (s.handshake b || s.chanLive b ((s.bough b).cfg.ichAt c)))) = false := by
  rcases hl with h | h <;> simp [hheld, hen, h]

/-- A word that waits in the receiving cell is shown (R161). -/
theorem State.channelValid_second {s : State} {b c : Nat} {w : BitVec 64} (hheld : s.held b = false)
    (hen : ((s.bough b).cfg.ichAt c).en = true) (hl : s.handshake b = true ∨ s.chanLive b ((s.bough b).cfg.ichAt c) = true)
    (hn : ((s.bough b).ichAt c).next = some w) (hv : ((s.bough b).ichAt c).valid = false) :
    s.channelValid b c =
      (s.updBough b fun y => y.setIch c { (s.bough b).ichAt c with valid := true, word := w, next := none }).propagate := by
  simp [State.channelValid, State.channelValid_acts hheld hen hl, hn, hv]

/-- An empty channel shows the word of a request that has changed, and stays as it is where the request has not (R160). -/
theorem State.channelValid_empty {s : State} {b c : Nat} {level : Bool} (hheld : s.held b = false)
    (hen : ((s.bough b).cfg.ichAt c).en = true) (hl : s.handshake b = true ∨ s.chanLive b ((s.bough b).cfg.ichAt c) = true)
    (hn : ((s.bough b).ichAt c).next = none) (hv : ((s.bough b).ichAt c).valid = false) (hq : s.reqLevel b c = some level) :
    s.channelValid b c = if level = ((s.bough b).ichAt c).seen then s else
      ((s.downWord b c s).2.updBough b fun y => y.setIch c { (s.bough b).ichAt c with
        seen := level, valid := true, word := (s.downWord b c s).1 }).propagate := by
  simp [State.channelValid, State.channelValid_acts hheld hen hl, hn, hv, hq]

/-- POP = 1 at VALID = 1 takes the word and sends the acknowledge, which leaves state u; the slot port at the channel's other end, where one is,
then sends its next word (R215). -/
theorem State.channelPop_taken {s u : State} {b c : Nat} (hl : s.chanLive b ((s.bough b).cfg.ichAt c) = true)
    (hv : ((s.bough b).ichAt c).valid = true) (hw : s.wire (.dest b (2592 + c)) = some true)
    (hu : (s.updBough b fun y => y.setIch c { (s.bough b).ichAt c with valid := false, ack := !((s.bough b).ichAt c).ack }).settle = u) :
    s.channelPop b c = (u.slotAt b c).elim u u.slotSend := by
  simp only [State.channelPop, hl, hv, Bool.and_self, if_true, State.wireBit_some hw, hu]
  cases u.slotAt b c <;> rfl

/-- POP = 0 takes nothing. -/
theorem State.channelPop_idle {s : State} {b c : Nat} (hw : s.wire (.dest b (2592 + c)) = some false) : s.channelPop b c = s := by
  simp [State.channelPop, State.wireBit_some hw]

/-! ### The cadence counter -/

/-- The state once the window of bough b has ended at e: its count begins afresh, and a step of device time no longer marks it. -/
def State.windowClosed (s : State) (b : Nat) (e : DevTime) : State :=
  ({ s with cadenceStep := s.cadenceStep.filter (· ≠ b) }).updBough b fun y => { y with cadCount := 0, cadEnd := e }

/-- CADENCE shows n edges, and whether a step of device time fell into the window. -/
def State.showCount (s : State) (b n : Nat) (stepped : Bool) : State := (s.setF (aBOUGH b 0x2C) 15 0 n).setB (aBOUGH b 0x2C) 29 stepped

/-- VALID rises at the end of a whole window; the first end after a restart begins one. -/
def State.showWhole (s : State) (b : Nat) : State :=
  if s.regs.cadWhole.contains b then s.setB (aBOUGH b 0x2C) 28 true else { s with regs := { s.regs with cadWhole := b :: s.regs.cadWhole } }

/-- CAD_MINMAX takes in a count of n edges. -/
def State.widenRange (s : State) (b n : Nat) : State :=
  (s.setF (aBOUGH b 0x30) 15 0 (min n (s.rf (aBOUGH b 0x30) 15 0))).setF (aBOUGH b 0x30) 31 16 (max n (s.rf (aBOUGH b 0x30) 31 16))

/-- The end of a window in a configured bough, but for its stall check. -/
def State.windowShown (s : State) (b : Nat) : State :=
  let n := min (s.bough b).cadCount 0xFFFF
  let u := ((s.windowClosed b s.time.now).showCount b n (s.cadenceStep.contains b)).showWhole b
  if s.cadenceStep.contains b then u else u.widenRange b n

theorem laterThan_self (t : DevTime) : laterThan t t = false := by simp [laterThan]

theorem State.cadenceWindow_configured {s : State} {b : Nat} (hm : s.tmode b ≠ 0) (he : s.cadenceEnd b = s.time.now) :
    s.cadenceWindow b = if s.tmode b = 2 then (s.windowShown b).stallCheck b else s.windowShown b := by
  have hreach : s.reach s.time.now = s := State.reach_past (laterThan_self _)
  unfold State.cadenceWindow
  dsimp only
  rw [he, hreach, if_neg hm]
  rfl

/-- An unconfigured bough counts no edges (R111). -/
theorem State.cadenceWindow_unconfigured {s : State} {b : Nat} (hm : s.tmode b = 0) : s.cadenceWindow b =
    ((s.reach (s.cadenceEnd b)).windowClosed b (s.cadenceEnd b)).showCount b 0 ((s.reach (s.cadenceEnd b)).cadenceStep.contains b) := by
  unfold State.cadenceWindow
  dsimp only
  rw [if_pos hm]
  rfl

theorem aBOUGH_ne {b o o' : Nat} (h : o ≠ o') : aBOUGH b o ≠ aBOUGH b o' := by unfold aBOUGH pg; omega

theorem evtPage_bough {b o : Nat} (hb : b < 128) (ho : o < 0x1000) : evtPage (aBOUGH b o) = false := by
  have hpage : aBOUGH b o / 0x1000 = 0x040 + b := by unfold aBOUGH pg; omega
  simp only [evtPage, hpage, Bool.or_eq_false_iff, beq_eq_false_iff_ne]
  omega

/-- The stall check changes of its page HS_STAT and PAGE_ERR alone (R94 to R96). -/
theorem State.reg_stallCheck (s : State) {b o : Nat} (hb : b < 128) (ho : o < 0x1000) (herr : o ≠ 0x00C) (hstat : o ≠ 0x28) :
    (s.stallCheck b).reg (aBOUGH b o) = s.reg (aBOUGH b o) := by
  unfold State.stallCheck
  refine State.reg_ite _ _ _ _ ?_ rfl
  have hother : aBOUGH b o ≠ aHS_STAT b := aBOUGH_ne hstat
  rw [State.setErr_reg _ _ _ _ (fun e he => pageEvent_lt he) (evtPage_bough hb ho) (aBOUGH_ne herr), State.reg_setB_ne _ _ _ _ _ hother]
  rfl

theorem State.cadCount_stallCheck (s : State) (b : Nat) : ((s.stallCheck b).bough b).cadCount = (s.bough b).cadCount := by
  unfold State.stallCheck
  extract_lets x w st waits c s1
  have hcounted : (s1.bough b).cadCount = (s.bough b).cadCount := by rw [State.bough_updBough_same]
  clear_value s1
  split
  · rw [State.bough_congr (s := s1) (by rw [State.setErr_fabric, State.setB_fabric]), hcounted]
  · exact hcounted

/-- The end of a window in a configured bough shows in CADENCE and CAD_MINMAX, and in the count, what windowShown gives: the stall check
leaves them alone. -/
theorem State.cadenceWindow_shown {s : State} {b : Nat} (hb : b < 128) (hm : s.tmode b ≠ 0) (he : s.cadenceEnd b = s.time.now) :
    (s.cadenceWindow b).reg (aBOUGH b 0x2C) = (s.windowShown b).reg (aBOUGH b 0x2C) ∧
      (s.cadenceWindow b).reg (aBOUGH b 0x30) = (s.windowShown b).reg (aBOUGH b 0x30) ∧
      ((s.cadenceWindow b).bough b).cadCount = ((s.windowShown b).bough b).cadCount := by
  rw [State.cadenceWindow_configured hm he]
  split
  · exact ⟨State.reg_stallCheck _ hb (by decide) (by decide) (by decide), State.reg_stallCheck _ hb (by decide) (by decide) (by decide),
      State.cadCount_stallCheck _ _⟩
  · exact ⟨rfl, rfl, rfl⟩

theorem State.cadCount_windowClosed (s : State) (b : Nat) (e : DevTime) : ((s.windowClosed b e).bough b).cadCount = 0 := by
  rw [State.windowClosed, State.bough_updBough_same]

@[simp] theorem State.fabric_showWhole (s : State) (b : Nat) : (s.showWhole b).fabric = s.fabric := by
  unfold State.showWhole; split <;> rfl

theorem State.cadCount_windowShown (s : State) (b : Nat) : ((s.windowShown b).bough b).cadCount = 0 := by
  have hfabric : (s.windowShown b).fabric = (s.windowClosed b s.time.now).fabric := by
    unfold State.windowShown
    dsimp only
    split
    · exact State.fabric_showWhole _ _
    · exact State.fabric_showWhole _ _
  rw [State.bough_congr hfabric, State.cadCount_windowClosed]

/-! ### CADENCE and CAD_MINMAX -/

/-- The count shown reads back (R95). -/
theorem State.rf_showCount (s : State) (b : Nat) {n : Nat} (stepped : Bool) (hn : n ≤ 0xFFFF) :
    (s.showCount b n stepped).rf (aBOUGH b 0x2C) 15 0 = n := by
  have hset : (s.setF (aBOUGH b 0x2C) 15 0 n).rf (aBOUGH b 0x2C) 15 0 = n := State.rf_setF_of_lt _ _ _ _ _ (by decide) (by decide) (by omega)
  exact (State.rf_setF_disjoint _ _ 29 29 _ _ _ (by decide) (by decide) (by decide) (by decide)).trans hset

theorem State.rb_showCount (s : State) (b n : Nat) (stepped : Bool) : (s.showCount b n stepped).rb (aBOUGH b 0x2C) 29 = stepped :=
  State.rb_setB_same _ _ _ _ (by decide)

/-- VALID changes neither the count shown nor the mark of a step. -/
theorem State.showWhole_keeps (s : State) (b : Nat) : (s.showWhole b).rf (aBOUGH b 0x2C) 15 0 = s.rf (aBOUGH b 0x2C) 15 0 ∧
    (s.showWhole b).rb (aBOUGH b 0x2C) 29 = s.rb (aBOUGH b 0x2C) 29 ∧ (s.showWhole b).reg (aBOUGH b 0x30) = s.reg (aBOUGH b 0x30) := by
  unfold State.showWhole
  split
  · exact ⟨State.rf_setF_disjoint _ _ 28 28 _ _ _ (by decide) (by decide) (by decide) (by decide),
      State.rb_setB_ne _ _ _ _ _ _ (by decide) (.inr (by decide)), State.reg_setB_ne _ _ _ _ _ (aBOUGH_ne (by decide))⟩
  · exact ⟨rfl, rfl, rfl⟩

theorem State.rb_showWhole {s : State} {b : Nat} (h : s.regs.cadWhole.contains b = true) :
    (s.showWhole b).rb (aBOUGH b 0x2C) 28 = true := by
  rw [State.showWhole, if_pos h]
  exact State.rb_setB_same _ _ _ _ (by decide)

/-- CAD_MINMAX holds the least and the greatest count. -/
theorem State.rf_widenRange (s : State) (b : Nat) {n : Nat} (hn : n ≤ 0xFFFF) :
    (s.widenRange b n).rf (aBOUGH b 0x30) 15 0 = min n (s.rf (aBOUGH b 0x30) 15 0) ∧
      (s.widenRange b n).rf (aBOUGH b 0x30) 31 16 = max n (s.rf (aBOUGH b 0x30) 31 16) := by
  have hmax : max n (s.rf (aBOUGH b 0x30) 31 16) < 2 ^ 16 := Nat.max_lt.mpr ⟨by omega, State.rf_lt s _ 31 16⟩
  constructor
  · exact (State.rf_setF_disjoint _ _ 31 16 _ 15 0 (by decide) (by decide) (by decide) (by decide)).trans
      (State.rf_setF_of_lt _ _ 15 0 _ (by decide) (by decide) ((Nat.min_le_left _ _).trans_lt (by omega)))
  · exact State.rf_setF_of_lt _ _ 31 16 _ (by decide) (by decide) hmax

theorem State.reg_widenRange_cadence (s : State) (b n : Nat) : (s.widenRange b n).reg (aBOUGH b 0x2C) = s.reg (aBOUGH b 0x2C) := by
  rw [State.widenRange, State.reg_setF_ne _ _ _ _ _ _ (aBOUGH_ne (by decide)), State.reg_setF_ne _ _ _ _ _ _ (aBOUGH_ne (by decide))]

/-- Showing a count leaves CAD_MINMAX as it was. -/
theorem State.reg_showCount_range (s : State) (b n : Nat) (stepped : Bool) :
    (s.showCount b n stepped).reg (aBOUGH b 0x30) = s.reg (aBOUGH b 0x30) := by
  rw [State.showCount, State.reg_setB_ne _ _ _ _ _ (aBOUGH_ne (by decide)), State.reg_setF_ne _ _ _ _ _ _ (aBOUGH_ne (by decide))]

/-- CADENCE after a window: its count and the mark of a step. -/
theorem State.cadence_windowShown (s : State) (b : Nat) :
    (s.windowShown b).rf (aBOUGH b 0x2C) 15 0 = min (s.bough b).cadCount 0xFFFF ∧
      (s.windowShown b).rb (aBOUGH b 0x2C) 29 = s.cadenceStep.contains b := by
  obtain ⟨hcount, hmark, _⟩ := State.showWhole_keeps
    ((s.windowClosed b s.time.now).showCount b (min (s.bough b).cadCount 0xFFFF) (s.cadenceStep.contains b)) b
  rw [State.rf_showCount _ _ _ (Nat.min_le_right _ _)] at hcount
  rw [State.rb_showCount] at hmark
  unfold State.windowShown
  dsimp only
  split
  · exact ⟨hcount, hmark⟩
  · rw [State.rf, State.rb, State.reg_widenRange_cadence]
    exact ⟨hcount, hmark⟩

/-- VALID rises after a whole window. -/
theorem State.valid_windowShown {s : State} {b : Nat} (h : s.regs.cadWhole.contains b = true) :
    (s.windowShown b).rb (aBOUGH b 0x2C) 28 = true := by
  unfold State.windowShown
  dsimp only
  split
  · exact State.rb_showWhole h
  · rw [State.rb, State.reg_widenRange_cadence]
    exact State.rb_showWhole h

/-- Up to its taking in the count, the end of a window leaves CAD_MINMAX as it was. -/
theorem State.reg_countShown_range (s : State) (b n : Nat) (e : DevTime) (stepped : Bool) :
    (((s.windowClosed b e).showCount b n stepped).showWhole b).reg (aBOUGH b 0x30) = s.reg (aBOUGH b 0x30) := by
  obtain ⟨_, _, hrange⟩ := ((s.windowClosed b e).showCount b n stepped).showWhole_keeps b
  rw [hrange, State.reg_showCount_range]
  rfl

/-- A window without a step of device time is taken into CAD_MINMAX. -/
theorem State.range_windowShown {s : State} {b : Nat} (h : s.cadenceStep.contains b = false) : let n := min (s.bough b).cadCount 0xFFFF
    (s.windowShown b).rf (aBOUGH b 0x30) 15 0 = min n (s.rf (aBOUGH b 0x30) 15 0) ∧
      (s.windowShown b).rf (aBOUGH b 0x30) 31 16 = max n (s.rf (aBOUGH b 0x30) 31 16) := by
  intro n
  have hshown : s.windowShown b = (((s.windowClosed b s.time.now).showCount b n false).showWhole b).widenRange b n := by
    simp only [State.windowShown, h, Bool.false_eq_true, if_false, n]
  have hrange := State.rf_widenRange (((s.windowClosed b s.time.now).showCount b n false).showWhole b) b (n := n) (Nat.min_le_right _ _)
  rw [hshown]
  simpa only [State.rf, State.reg_countShown_range] using hrange

/-- A window into which a step of device time fell is not. -/
theorem State.range_windowShown_stepped {s : State} {b : Nat} (h : s.cadenceStep.contains b = true) :
    (s.windowShown b).reg (aBOUGH b 0x30) = s.reg (aBOUGH b 0x30) := by
  simp only [State.windowShown, h, if_true, State.reg_countShown_range]

/-! ### Instants of clock edges -/

/-- Edges of roots that do not run do not occur (R148). -/
theorem State.clockEdges_stopped {s : State} {edges : List ClockEdge}
    (h : ∀ e ∈ edges, e.falling = false ∧ s.levels.rootRuns e.root.toNat = false) : s.clockEdges edges [] = s.clockEdges [] [] := by
  have hnone : (edges.filter fun e => if e.falling then s.levels.fabric.clocks.high.contains (rootKey e.root.toNat)
      else s.levels.rootRuns e.root.toNat) = [] :=
    List.filter_eq_nil_iff.mpr fun e he => by
      obtain ⟨hrise, hstopped⟩ := h e he
      simp [hrise, hstopped]
  simp only [State.clockEdges, List.foldl_nil, hnone, List.filter_nil]

/-- Settles O24: each command in the case that its hypotheses name; CADENCE and CAD_MINMAX by the window as it is shown. -/
theorem handshakeAndChannels : Obligations.HandshakeAndChannels := by
  refine ⟨fun s b j ha hh hheld hst hr hi hq => ?_, fun s b c ha hl hr => ⟨fun hw => ?_, fun hw => ?_⟩, fun s b c ha h => ?_,
    fun s b c level ha hheld hen hl hn hv hq => ⟨fun hs => ?_, fun hs => ?_⟩, fun s b c w ha hheld hen hh hn hv => ?_,
    fun s b c ha hl hv => ?_,
    fun s b ht hm he hstep hwhole => ?_, fun s b ht hm he hstep => ?_, fun s b ht hm => ?_, fun s edges h => ?_, fun s edges balls => ?_⟩
  · exact Answers.live (f := (·.hsRequest b.toNat j.toNat)) rfl ha (State.hsRequest_rises hh hheld hst hr hi hq)
  · exact Answers.live (f := (·.channelPush b.toNat c.toNat)) rfl ha ((State.channelPush_ready hl hr hw).trans (if_pos rfl))
  · exact Answers.live (f := (·.channelPush b.toNat c.toNat)) rfl ha ((State.channelPush_ready hl hr hw).trans (if_neg Bool.false_ne_true))
  · exact Answers.live (f := (·.channelPush b.toNat c.toNat)) rfl ha (State.channelPush_idle h)
  · exact Answers.live (f := (·.channelValid b.toNat c.toNat)) rfl ha ((State.channelValid_empty hheld hen hl hn hv hq).trans (if_pos hs))
  · exact Answers.live (f := (·.channelValid b.toNat c.toNat)) rfl ha ((State.channelValid_empty hheld hen hl hn hv hq).trans (if_neg hs))
  · exact Answers.live (f := (·.channelValid b.toNat c.toNat)) rfl ha (State.channelValid_second hheld hen (.inl hh) hn hv)
  · intro s2
    have htaken (hw : s.wire (.dest b.toNat (2592 + c.toNat)) = some true) := State.channelPop_taken hl hv hw (u := s2) rfl
    clear_value s2
    refine ⟨fun hw hslot => ?_, fun q hw hslot => ?_, fun hw => ?_⟩
    · exact Answers.live (f := (·.channelPop b.toNat c.toNat)) rfl ha ((htaken hw).trans (by rw [hslot, Option.elim_none]))
    · exact Answers.live (f := (·.channelPop b.toNat c.toNat)) rfl ha ((htaken hw).trans (by rw [hslot, Option.elim_some]))
    · exact Answers.live (f := (·.channelPop b.toNat c.toNat)) rfl ha (State.channelPop_idle hw)
  · obtain ⟨hcad, hrange, hcount⟩ := State.cadenceWindow_shown b.isLt hm he
    obtain ⟨hn, hmark⟩ := s.cadence_windowShown b.toNat
    obtain ⟨hmin, hmax⟩ := State.range_windowShown hstep
    refine ⟨Answers.timed (f := (·.cadenceWindow b.toNat)) rfl ht rfl, ?_⟩
    simp only [State.rf, State.rb, hcad, hrange, hcount]
    exact ⟨hn, hmark.trans hstep, State.valid_windowShown hwhole, hmin, hmax, s.cadCount_windowShown _⟩
  · obtain ⟨hcad, hrange, hcount⟩ := State.cadenceWindow_shown b.isLt hm he
    obtain ⟨hn, hmark⟩ := s.cadence_windowShown b.toNat
    refine ⟨Answers.timed (f := (·.cadenceWindow b.toNat)) rfl ht rfl, ?_⟩
    simp only [State.rf, State.rb, hcad, hrange, hcount]
    exact ⟨hn, hmark.trans hstep, State.range_windowShown_stepped hstep, s.cadCount_windowShown _⟩
  · refine ⟨Answers.timed (f := (·.cadenceWindow b.toNat)) rfl ht rfl, ?_⟩
    rw [State.cadenceWindow_unconfigured hm]
    exact ⟨State.rf_showCount _ _ _ (by decide), State.cadCount_windowClosed _ _ _⟩
  · exact Answers.act (f := (·.clockEdges edges [])) rfl (State.clockEdges_stopped h)
  · unfold Answers
    rfl

end Sys2Proof.Machine
end

section
/-! CAD_CLR and VALID (R94, R95). CAD_CLR has to clear VALID of CADENCE, but in the model VALID stays: State.cadenceRestart clears the bit and
then takes the register file from the state before the clear. A clause that reads VALID = 0 after CAD_CLR fails wherever VALID read 1 before. -/

namespace Sys2Proof.Machine

/-! ### What leaves a register alone -/

@[simp] theorem State.reg_markUndefined (s : State) (c p ch a : Nat) : (s.markUndefined c p ch).reg a = s.reg a := by
  unfold State.markUndefined
  split <;> rfl

/-- What is noted of a quiet-only register changes no register. -/
@[simp] theorem State.reg_noteQuiet (s : State) (a : Nat) (old : Word) (quiet : Bool) (b : Nat) :
    (s.noteQuiet a old quiet).reg b = s.reg b := by
  have hnoted (t : State) (c : Bool) (p ch : Nat) : (if c then t.markUndefined 1 p ch else t).reg b = t.reg b :=
    State.reg_ite _ _ _ _ (State.reg_markUndefined _ _ _ _ _) rfl
  unfold State.noteQuiet
  dsimp only
  split
  · rfl
  · refine State.reg_ite _ _ _ _ rfl (State.reg_ite _ _ _ _ ((State.reg_markUndefined _ _ _ _ _).trans ?_) ?_)
    · exact State.reg_ite _ _ _ _ rfl (hnoted _ _ _ _)
    · exact State.reg_ite _ _ _ _ rfl (hnoted _ _ _ _)

/-- A write stores into the register it names alone. -/
theorem State.reg_storeWrite_ne (s : State) {a b : Nat} (v : Word) (keep : Bool) (h : b ≠ a) : (s.storeWrite a v keep).reg b = s.reg b := by
  unfold State.storeWrite
  split
  · rfl
  · next sp _ =>
    have hset (w : Word) : (s.setReg a w).reg b = s.reg b := State.reg_setReg_ne _ _ _ _ h
    exact (State.reg_noteQuiet _ _ _ _ _).trans (State.reg_ite _ _ _ _ (hset _) (hset _))

@[simp] theorem State.reg_updBough (s : State) (b : Nat) (f : Bough → Bough) (a : Nat) : (s.updBough b f).reg a = s.reg a := rfl

@[simp] theorem State.reg_tryDelays (s : State) (b a : Nat) : (s.tryDelays b).reg a = s.reg a :=
  State.reg_ite _ _ _ _ (State.reg_markUndefined _ _ _ _ _) rfl

/-! ### HS_CTL -/

theorem pageInfo_bough {b : Nat} (h : b < 128) : (pageInfo (0x040 + b)).kind = .bough := by
  unfold pageInfo
  repeat rw [if_neg (by omega)]
  rw [if_pos (by omega)]

theorem State.blockWritten_hsCtl (s : State) {b : Nat} (hb : b < 128) (r : Nat) (old v : Word) (keep : Bool) :
    s.blockWritten (aHS_CTL b) r old v keep = s.hsCtlWritten b old v keep := by
  have hpage : aHS_CTL b / 0x1000 = 0x040 + b := by unfold aHS_CTL aBOUGH pg; omega
  have hofs : aHS_CTL b % 0x1000 = 0x024 := by unfold aHS_CTL aBOUGH pg; omega
  simp [State.blockWritten, hpage, hofs, pageInfo_bough hb]

/-- The restart of the cadence counter changes no register: its clear of VALID is lost. -/
theorem State.reg_cadenceRestart (s : State) (b a : Nat) : (s.cadenceRestart b).reg a = s.reg a := rfl

/-- So what a write of HS_CTL does leaves CADENCE as it was, CAD_CLR or not. -/
theorem State.cadence_hsCtlWritten (s : State) (b : Nat) (old v : Word) (keep : Bool) :
    (s.hsCtlWritten b old v keep).reg (aBOUGH b 0x2C) = s.reg (aBOUGH b 0x2C) := by
  have hclear : (s.cadClr b).reg (aBOUGH b 0x2C) = s.reg (aBOUGH b 0x2C) :=
    (State.reg_cadenceRestart _ _ _).trans (State.reg_setReg_ne _ _ _ _ (aBOUGH_ne (by decide)))
  unfold State.hsCtlWritten
  extract_lets s0 s1 s2
  have h0 : s0.reg (aBOUGH b 0x2C) = s.reg (aBOUGH b 0x2C) := State.reg_ite _ _ _ _ hclear rfl
  have h1 : s1.reg (aBOUGH b 0x2C) = s.reg (aBOUGH b 0x2C) := State.reg_ite _ _ _ _ ((s0.reg_cadenceRestart b _).trans h0) h0
  have h2 : s2.reg (aBOUGH b 0x2C) = s.reg (aBOUGH b 0x2C) :=
    State.reg_ite _ _ _ _ h1 (((State.reg_setB_ne _ _ _ _ _ (aBOUGH_ne (by decide))).trans (s1.reg_updBough b _ _)).trans h1)
  exact (s2.reg_tryDelays b _).trans h2

/-- The command CAD_CLR, accepted, leaves CADENCE as it was, VALID with it. -/
theorem cadence_cadClr {s t : State} {r : ReqId} {b : BitVec 7} {v : Word} (hc : Accepted s r (aHS_CTL b.toNat) (setBit v 7 true))
    (h : exec (.cadClr r b v) s = .next t) : t.reg (aBOUGH b.toNat 0x2C) = s.reg (aBOUGH b.toNat 0x2C) := by
  have halign : aHS_CTL b.toNat % 4 = 0 := by unfold aHS_CTL aBOUGH pg; omega
  have hctl : aHS_CTL b.toNat % 0x1000 ≠ 4 := by unfold aHS_CTL aBOUGH pg; omega
  have hanswer : exec (.cadClr r b v) s = _ := hc.stored rfl halign hctl
  rw [h, State.blockWritten_hsCtl _ b.isLt] at hanswer
  rw [Host.Outcome.next.inj hanswer, State.reg_withPending, State.cadence_hsCtlWritten]
  exact s.reg_storeWrite_ne _ _ (aBOUGH_ne (by decide))

/-! ### A state whose CADENCE is valid -/

/-- A device in RUN whose bough 0 shows VALID. -/
def cadenceValid : State :=
  { State.reset with
    power := { State.reset.power with inReset := false }
    regs := { State.reset.regs with act := [(aMODE, 0x4004), (aBOUGH 0 0x2C, 0x10000000)] } }

/-- There CAD_CLR, which requester 2 may write, does not complete with VALID = 0. -/
theorem cadenceValid_stays : Accepted cadenceValid 2 (aHS_CTL 0) (setBit 0 7 true) ∧
    ∀ t, exec (.cadClr 2 0 0) cadenceValid = .next t → t.rb (aBOUGH 0 0x2C) 28 = true := by
  have haccepted : Accepted cadenceValid 2 (aHS_CTL 0) (setBit 0 7 true) := by decide +kernel
  have hvalid : cadenceValid.rb (aBOUGH 0 0x2C) 28 = true := by decide +kernel
  refine ⟨haccepted, fun t ht => ?_⟩
  have hkept : t.reg (aBOUGH 0 0x2C) = cadenceValid.reg (aBOUGH 0 0x2C) :=
    cadence_cadClr (b := 0) (v := 0) haccepted ht
  rw [State.rb, hkept]
  exact hvalid

/-- Refutes O23: CAD_CLR of bough 0, whose CADENCE shows VALID, leaves VALID at 1. -/
theorem not_boughsAndCrossings : ¬ Obligations.BoughsAndCrossings := by
  intro h
  obtain ⟨_, _, _, hclear, _⟩ := h
  obtain ⟨haccepted, hstays⟩ := cadenceValid_stays
  obtain ⟨t, ht, _, hvalid, _⟩ := hclear cadenceValid 2 0 0 haccepted
  exact Bool.false_ne_true (hvalid.symm.trans (hstays t ht))

/-- Refutes O59: CAD_CLR of bough 0, whose CADENCE shows VALID, does not complete with VALID at 0. -/
theorem not_fabricAndClocksComplete : ¬ Obligations.FabricAndClocksComplete := by
  intro h
  obtain ⟨_, _, hclear, _⟩ := h
  obtain ⟨haccepted, hstays⟩ := cadenceValid_stays
  obtain ⟨t, ht, _, hvalid⟩ := hclear cadenceValid 2 0 0 haccepted
  exact Bool.false_ne_true (hvalid.symm.trans (hstays t ht))

end Sys2Proof.Machine
end

section
/-! What an accepted write stores, and the registers of the clock pages: which register each address names, and which rule its write starts
(R35, R40, R147 to R150). -/

namespace Sys2Proof.Machine

/-! ### What a write stores -/

/-- An accepted write stores its bit where the field is RW or RWQ, and is no W1C bit (R35). -/
theorem State.rb_storeWrite {s : State} {a i : Nat} {v : Word} {sp : RegSpec} (hspec : regSpec a = some sp) (hi : i < 32)
    (hheld : (s.heldMask a).testBit i = true) (hlive : (sp.rw ||| sp.rwq).testBit i = true) (hclear : sp.w1c.testBit i = false) :
    (s.storeWrite a v false).rb a i = bit v i := by
  have hreg (w x : Word) (c : Prop) [Decidable c] : (if c then s.setReg a w else (s.setReg a w).setShadow a x).reg a = w :=
    State.reg_ite _ _ _ _ (State.reg_setReg_same _ _ _) (State.reg_setReg_same _ _ _)
  simp only [State.rb, State.storeWrite, hspec, State.reg_noteQuiet, hreg]
  rw [Nat.testBit_or, Bool.or_eq_true] at hlive
  rcases hlive with hrw | hrwq
  · simp [-BitVec.getLsbD_eq_getElem, bit, BitVec.getLsbD_ofNat, BitVec.getLsbD_not, hi, hheld, hclear, hrw]
  · simp [-BitVec.getLsbD_eq_getElem, bit, BitVec.getLsbD_ofNat, BitVec.getLsbD_not, hi, hheld, hclear, hrwq]

/-- A field whose bits a write stores reads the value written. -/
theorem State.rf_storeWrite {s : State} {a hi lo : Nat} {v : Word} {sp : RegSpec} (hspec : regSpec a = some sp) (hhi : hi < 32) (hlo : lo ≤ hi)
    (h : ∀ i, lo ≤ i → i ≤ hi → (s.heldMask a).testBit i = true ∧ (sp.rw ||| sp.rwq).testBit i = true ∧ sp.w1c.testBit i = false) :
    (s.storeWrite a v false).rf a hi lo = fld v hi lo := by
  refine Nat.eq_of_testBit_eq fun k => ?_
  rw [State.rf, fld_testBit, fld_testBit]
  by_cases hk : k < hi - lo + 1
  · obtain ⟨hheld, hlive, hclear⟩ := h (lo + k) (by omega) (by omega)
    have hbit : bit ((s.storeWrite a v false).reg a) (lo + k) = bit v (lo + k) :=
      State.rb_storeWrite hspec (by omega) hheld hlive hclear
    rw [hbit]
  · simp [hk]

/-- Off PAGE_CTL and the BOUGH pages a page lock holds every RW, RWS and RWQ bit (R52). -/
theorem State.heldMask_eq {s : State} {a : Nat} {sp : RegSpec} (hspec : regSpec a = some sp) (hctl : a % 0x1000 ≠ 0x004)
    (hkind : (pageInfo (a / 0x1000)).kind ≠ .bough) : s.heldMask a = sp.rw ||| sp.rws ||| sp.rwq := by
  simp [State.heldMask, hspec, hctl, hkind]

theorem State.noteQuiet_same (s : State) (a : Nat) (old : Word) (quiet : Bool) : SameOutside s (s.noteQuiet a old quiet) := by
  unfold State.noteQuiet
  dsimp only
  split
  · rfl
  · next sp _ =>
    have hreserved (t : State) (c : Bool) (p ch : Nat) (h : SameOutside s t) : SameOutside s (if c then t.markUndefined 2 p ch else t) :=
      SameOutside.ite (h.trans (State.markUndefined_same _ _ _ _)) h
    refine SameOutside.ite (SameOutside.refl s) (hreserved _ _ _ _ (SameOutside.ite ?_ ?_))
    · rfl
    · exact SameOutside.ite (State.markUndefined_same _ _ _ _) (SameOutside.refl s)

/-- A write stores into the registers and their marks alone. -/
theorem State.storeWrite_same (s : State) (a : Nat) (v : Word) (keep : Bool) : SameOutside s (s.storeWrite a v keep) := by
  unfold State.storeWrite
  split
  · rfl
  · refine SameOutside.trans (SameOutside.ite ?_ ?_) (State.noteQuiet_same _ _ _ _)
    · rfl
    · rfl

/-! ### The clock pages -/

theorem pageInfo_pll {q : Nat} (h : q < 4) : (pageInfo (0x022 + q)).kind = .clkPll := by
  revert q; decide

theorem pageInfo_bclk {q : Nat} (h : q < 8) : (pageInfo (0x028 + q)).kind = .clkBclk := by
  revert q; decide

theorem aPLL_page {p o : Nat} (h : o < 0x20) : aPLL p o / 0x1000 = 0x022 + p / 2 := by unfold aPLL pg; omega

theorem aPLL_offset {p o : Nat} (h : o < 0x20) : aPLL p o % 0x1000 = 0x020 + 0x20 * (p % 2) + o := by unfold aPLL pg; omega

theorem aROOT_page {n : Nat} (h : n < 16) : aROOT n / 0x1000 = 0x021 := by unfold aROOT pg; omega

theorem aROOT_offset {n : Nat} (h : n < 16) : aROOT n % 0x1000 = 0x020 + 4 * n := by unfold aROOT pg; omega

theorem aBCLK_page {b c : Nat} (h : c < 8) : aBCLK b c / 0x1000 = 0x028 + b / 16 := by unfold aBCLK pg; omega

theorem aBCLK_offset {b c : Nat} (h : c < 8) : aBCLK b c % 0x1000 = 0x100 + 0x20 * (b % 16) + 4 * c := by unfold aBCLK pg; omega

theorem aXMERGE_page (b : Nat) : aXMERGE b / 0x1000 = 0x028 + b / 16 := by unfold aXMERGE pg; omega

theorem aXMERGE_offset (b : Nat) : aXMERGE b % 0x1000 = 0x040 + 4 * (b % 16) := by unfold aXMERGE pg; omega

theorem evtPage_bclk {b c : Nat} (hb : b < 128) (hc : c < 8) : evtPage (aBCLK b c) = false := by
  simp only [evtPage, aBCLK_page hc, Bool.or_eq_false_iff, beq_eq_false_iff_ne]
  omega

/-- PLL_CTL (R149). -/
def pllCtlSpec (p : Nat) : RegSpec := { off := 0x020 + 0x20 * (p % 2), rw := 0x1, rwq := 0x00033F02 }

theorem regSpec_pllCtl {p : Nat} (h : p < 8) : regSpec (aPLL p 0) = some (pllCtlSpec p) := by
  revert p; decide +kernel

/-- The BCLK registers of a page (R150). -/
def bclkSpec : RegSpec := { off := 0x100, count := 128, rw := 0x8CFFFFFF }

theorem regSpec_bclk {b c : Nat} (hb : b < 128) (hc : c < 8) : regSpec (aBCLK b c) = some bclkSpec := by
  have hkind : (pageInfo (0x028 + b / 16)).kind = .clkBclk := pageInfo_bclk (by omega)
  have hxmerge : ¬ (0x100 + 0x20 * (b % 16) + 4 * c - 0x40) / 4 < 16 := by omega
  have halign : (0x100 + 0x20 * (b % 16) + 4 * c - 0x100) % 4 = 0 := by omega
  have hcount : (0x100 + 0x20 * (b % 16) + 4 * c - 0x100) / 4 < 128 := by omega
  have hblock : ¬ 0x100 + 0x20 * (b % 16) + 4 * c < 0x20 := by omega
  have hoff : 0x100 ≤ 0x100 + 0x20 * (b % 16) + 4 * c := by omega
  simp only [regSpec, aBCLK_page hc, aBCLK_offset hc, hkind, if_neg hblock, reduceCtorEq, if_false, pageMap, clkBclkMap, List.find?, RegSpec.holds,
    hxmerge, halign, hcount, hoff]
  simp [bclkSpec]

/-! ### The rule that a write starts -/

theorem State.blockWritten_pllCtl (s : State) {p : Nat} (hp : p < 8) (r : Nat) (old v : Word) :
    s.blockWritten (aPLL p 0) r old v false =
      if s.rb (aPLL p 0) 0 && !bit old 0 then (s.unitEnabled (0x022 + p / 2) p).pllStart p
      else if bit old 0 && !s.rb (aPLL p 0) 0 then s.pllStop p else s := by
  have hkind : (pageInfo (0x022 + p / 2)).kind = .clkPll := pageInfo_pll (by omega)
  have hpll : 2 * (0x022 + p / 2 - 0x022) + (0x020 + 0x20 * (p % 2) + 0 - 0x020) / 0x20 = p := by omega
  have hctl : (0x020 + 0x20 * (p % 2) + 0 - 0x020) % 0x20 = 0 := by omega
  simp only [State.blockWritten, State.clkWritten, aPLL_page (show 0 < 0x20 by decide), aPLL_offset (show 0 < 0x20 by decide), hkind, hpll,
    hctl, if_true]

theorem State.blockWritten_root (s : State) {n : Nat} (hn : n < 16) (r : Nat) (old v : Word) :
    s.blockWritten (aROOT n) r old v false = s.rootWritten n old := by
  have hkind : (pageInfo 0x021).kind = .clkRoot := rfl
  have hoff : 0x020 ≤ 0x020 + 4 * n ∧ 0x020 + 4 * n < 0x060 := by omega
  have hroot : (0x020 + 4 * n - 0x020) / 4 = n := by omega
  simp only [State.blockWritten, State.clkWritten, aROOT_page hn, aROOT_offset hn, hkind, if_pos hoff, hroot]

theorem State.blockWritten_srcCtl (s : State) (r : Nat) (old v : Word) : s.blockWritten aSRC_CTL r old v false = s.srcCtlWritten old := rfl

theorem State.blockWritten_bclk (s : State) {b c : Nat} (hb : b < 128) (hc : c < 8) (r : Nat) (old v : Word) :
    s.blockWritten (aBCLK b c) r old v false = s.bclkWritten b c old := by
  have hkind : (pageInfo (0x028 + b / 16)).kind = .clkBclk := pageInfo_bclk (by omega)
  have hxmerge : ¬ (0x040 ≤ 0x100 + 0x20 * (b % 16) + 4 * c ∧ 0x100 + 0x20 * (b % 16) + 4 * c < 0x080) := by omega
  have hoff : 0x100 ≤ 0x100 + 0x20 * (b % 16) + 4 * c := by omega
  have hbough : 16 * (0x028 + b / 16 - 0x028) + (0x100 + 0x20 * (b % 16) + 4 * c - 0x100) / 0x20 = b := by omega
  have hclock : (0x100 + 0x20 * (b % 16) + 4 * c - 0x100) % 0x20 / 4 = c := by omega
  simp only [State.blockWritten, State.clkWritten, aBCLK_page hc, aBCLK_offset hc, hkind, if_neg hxmerge, if_pos hoff, hbough, hclock]

theorem State.blockWritten_xmerge (s : State) {b : Nat} (hb : b < 128) (r : Nat) (old v : Word) :
    s.blockWritten (aXMERGE b) r old v false = if bit v 15 then s.xmergeClr b else s := by
  have hkind : (pageInfo (0x028 + b / 16)).kind = .clkBclk := pageInfo_bclk (by omega)
  have hoff : 0x040 ≤ 0x040 + 4 * (b % 16) ∧ 0x040 + 4 * (b % 16) < 0x080 := by omega
  have hbough : 16 * (0x028 + b / 16 - 0x028) + (0x040 + 4 * (b % 16) - 0x040) / 4 = b := by omega
  simp only [State.blockWritten, State.clkWritten, aXMERGE_page, aXMERGE_offset, hkind, if_pos hoff, hbough]

/-- An accepted write of a register of the clock pages stores its value and starts the rule of its register. -/
theorem Accepted.clock {c : Instr} {s : State} {r : ReqId} {a : Nat} {v : Word} (h : exec c s = s.actWrite r a v) (halign : a % 4 = 0)
    (hoff : 0x020 ≤ a % 0x1000) (hpage : a / 0x1000 < 0x030) (hc : Accepted s r a v) :
    Answers c s ((s.storeWrite a v false).blockWritten a r.toNat (s.reg a) v false) := by
  have hanswer := hc.stored h halign (by omega)
  rwa [State.stored_reg _ _ (by omega)] at hanswer

end Sys2Proof.Machine
end

section
/-! PLLs, the reference of the TIMING PLL, and the crystal (R142 to R147, R166, R174). -/

namespace Sys2Proof.Machine

theorem evtPage_srcStat : evtPage aSRC_STAT = false := rfl

/-! ### PLLs -/

/-- EN of PLL_CTL reads the value written. -/
theorem State.rb_pllCtl_written (s : State) {p : Nat} (hp : p < 8) (v : Word) :
    (s.storeWrite (aPLL p 0) v false).rb (aPLL p 0) 0 = bit v 0 := by
  have hspec := regSpec_pllCtl hp
  have hpage : aPLL p 0 / 0x1000 = 0x022 + p / 2 := aPLL_page (by decide)
  have hkind : (pageInfo (aPLL p 0 / 0x1000)).kind ≠ .bough := by rw [hpage, pageInfo_pll (by omega)]; decide
  have hctl : aPLL p 0 % 0x1000 ≠ 0x004 := by rw [aPLL_offset (by decide)]; omega
  have hheld : s.heldMask (aPLL p 0) = 0x1 ||| 0 ||| 0x00033F02 := State.heldMask_eq hspec hctl hkind
  exact State.rb_storeWrite hspec (by decide) (by rw [hheld]; decide) (show (0x1 ||| 0x00033F02).testBit 0 = true by decide) (Nat.zero_testBit 0)

/-- A write of PLL_CTL stores its value and acts by the change of EN (R144). -/
theorem Accepted.pllCtl {c : Instr} {s : State} {r : ReqId} {p : BitVec 3} {v : Word} (h : exec c s = s.actWrite r (aPLL p.toNat 0) v)
    (hc : Accepted s r (aPLL p.toNat 0) v) : let u := s.storeWrite (aPLL p.toNat 0) v false
    Answers c s (if bit v 0 && !s.rb (aPLL p.toNat 0) 0 then (u.unitEnabled (0x022 + p.toNat / 2) p.toNat).pllStart p.toNat
      else if s.rb (aPLL p.toNat 0) 0 && !bit v 0 then u.pllStop p.toNat else u) := by
  have hp : p.toNat < 8 := p.isLt
  have hpage : aPLL p.toNat 0 / 0x1000 = 0x022 + p.toNat / 2 := aPLL_page (by decide)
  have hoff : aPLL p.toNat 0 % 0x1000 = 0x020 + 0x20 * (p.toNat % 2) + 0 := aPLL_offset (by decide)
  have hanswer := hc.clock h (by omega) (by omega) (by omega)
  rwa [State.blockWritten_pllCtl _ hp, State.rb_pllCtl_written _ hp] at hanswer

theorem State.reg_pllStop_ne (s : State) (p : Nat) {a : Nat} (h : a ≠ aPLL p 0xC) : (s.pllStop p).reg a = s.reg a :=
  State.reg_setB_ne s _ _ _ _ h

theorem State.rb_pllStop_lock (s : State) (p : Nat) : (s.pllStop p).rb (aPLL p 0xC) 0 = false :=
  State.rb_setB_same s _ _ _ (by decide)

/-- Where nothing waits for the clocks, a lock is the lock indication alone (R146). -/
theorem State.clockCheck_idle {s : State} (h : s.power.lockWait = none) : s.clockCheck = s := by
  simp [State.clockCheck, h]

theorem State.pllLocked_inRange {s : State} {p : Nat} (hp : p < 8) (ha : s.awake = true) (hen : s.rb (aPLL p 0) 0 = true)
    (hgood : s.fabric.clocks.badPll.contains p = false) (hidle : s.power.lockWait = none) : s.pllLocked p = s.setB (aPLL p 0xC) 0 true := by
  have hreset : s.power.inReset = false := by
    simp only [State.awake, Bool.and_eq_true, Bool.not_eq_true'] at ha
    exact ha.1
  have hlock : s.pllLock p = s.setB (aPLL p 0xC) 0 true := by
    rw [State.pllLock, if_neg (by simp [hen]), if_neg (by simp only [hgood, Bool.false_eq_true, not_false_eq_true])]
  rw [State.pllLocked, if_neg (by simp [hreset, hp]), hlock, State.clockCheck_idle (by simpa using hidle)]

/-! ### The reference -/

/-- What QUALITY leaves alone: the status of the sources, device time, holdover, and the count of good measurements. -/
def KeepsSources (s t : State) : Prop :=
  t.reg aSRC_STAT = s.reg aSRC_STAT ∧ t.time.now = s.time.now ∧ t.time.holdover = s.time.holdover ∧ t.time.good = s.time.good

theorem KeepsSources.refl (s : State) : KeepsSources s s := ⟨rfl, rfl, rfl, rfl⟩

theorem KeepsSources.ite {s t u : State} {c : Prop} [Decidable c] (h1 : KeepsSources s t) (h2 : KeepsSources s u) :
    KeepsSources s (if c then t else u) := by split <;> assumption

theorem State.setQuality_keepsSources (s : State) (q : Nat) : KeepsSources s (s.setQuality q) := by
  unfold State.setQuality
  refine KeepsSources.ite (KeepsSources.refl s) ⟨?_, ?_, ?_, ?_⟩
  · exact (State.raise_reg _ 80 _ (by decide) evtPage_srcStat).trans (State.reg_setF_ne s aTIME_STAT _ _ _ _ (by decide))
  all_goals rw [State.raise_time]; rfl

/-- The sources once REFCLK is back and the TIMING PLL has relocked: no holdover, and no good measurement yet (R174). -/
def State.relocked (s : State) : State :=
  { (s.setB aSRC_STAT 1 true).setB aSRC_STAT 4 true with time := { s.time with holdover := false, leaderAtLoss := false, good := 0 } }

theorem State.relocked_shows (s : State) : s.relocked.rb aSRC_STAT 1 = true ∧ s.relocked.rb aSRC_STAT 4 = true := by
  have href : ((s.setB aSRC_STAT 1 true).setB aSRC_STAT 4 true).rb aSRC_STAT 1 = true :=
    (State.rb_setB_ne _ _ _ _ _ _ (by decide) (.inr (by decide))).trans (State.rb_setB_same s _ _ _ (by decide))
  have hlock : ((s.setB aSRC_STAT 1 true).setB aSRC_STAT 4 true).rb aSRC_STAT 4 = true := State.rb_setB_same _ _ _ _ (by decide)
  exact ⟨href, hlock⟩

/-- The QUALITY that the end of a holdover gives leaves the sources alone (R174, R175). -/
theorem State.relocked_keepsSources (s : State) (leader : Bool) :
    KeepsSources s (if s.servoRuns then s.setQuality qTRACKING else if leader then s.setQuality qLEADER else s) :=
  .ite (s.setQuality_keepsSources _) (.ite (s.setQuality_keepsSources _) (.refl s))

/-- The first lock of the TIMING PLL, where no time is to be rebuilt, starts device time at 0 (R166). -/
theorem State.timingLocked_starts {s : State} (hstill : s.time.running = false) (hwait : s.power.lockWait.isSome = true)
    (hfresh : s.power.rebuildTime = false) : s.timingLocked =
      (({ s with time := { s.time with running := true, holdover := false, now := 0 } }.setB aSRC_STAT 4 true).clockCheck) := by
  have hnone : s.power.lockWait.isNone = false := by simpa using hwait
  simp [State.timingLocked, State.timingPllLock, hstill, hnone, hfresh]

/-- At a wake whose time is to be rebuilt the lock shows in SRC_STAT alone (R166). -/
theorem State.timingLocked_rebuilds {s : State} (hstill : s.time.running = false) (hwait : s.power.lockWait.isSome = true)
    (hrebuild : s.power.rebuildTime = true) : s.timingLocked = s.setB aSRC_STAT 4 true := by
  have hnone : s.power.lockWait.isNone = false := by simpa using hwait
  simp [State.timingLocked, hstill, hnone, hrebuild]

/-! ### The crystal -/

/-- A failure of the crystal that drives the AON domain clears XTAL_OK and AON_SRC, is remembered, and sets PAGE_ERR bit 17 (R142). -/
theorem State.xtalFail_shows {s : State} (h : s.rb aSRC_STAT 3 = true) :
    s.xtalFail.rb aSRC_STAT 2 = false ∧ s.xtalFail.rb aSRC_STAT 3 = false ∧ s.xtalFail.fabric.clocks.xtalFailed = true ∧
      s.xtalFail.rb (pg 0x020 0x00C) 17 = true ∧ s.xtalFail.power = s.power := by
  let u := (s.setB aSRC_STAT 2 false).setB aSRC_STAT 3 false
  have hfail : s.xtalFail = (u.updClocks fun c => { c with xtalFailed := true }).setErr 0x020 17 := if_pos h
  have hreg : s.xtalFail.reg aSRC_STAT = u.reg aSRC_STAT := by
    rw [hfail, State.setErr_reg _ _ _ _ (fun e he => pageEvent_lt he) evtPage_srcStat (by decide)]
    rfl
  have hok : u.rb aSRC_STAT 2 = false := (State.rb_setB_ne _ _ _ _ _ _ (by decide) (.inr (by decide))).trans (State.rb_setB_same s _ _ _ (by decide))
  have hsrc : u.rb aSRC_STAT 3 = false := State.rb_setB_same _ _ _ _ (by decide)
  refine ⟨by rwa [State.rb, hreg], by rwa [State.rb, hreg], ?_, ?_, ?_⟩
  · rw [hfail, State.setErr_fabric]; rfl
  · rw [hfail]; exact State.setErr_reads _ _ (by decide)
  · rw [hfail, State.setErr_power]; rfl

/-- Settles O25: a write of PLL_CTL by the change of EN, and each other command in the case that its hypotheses name. -/
theorem pllsAndReference : Obligations.PllsAndReference := by
  refine ⟨fun s r p v hc hoff => ?_, fun s r p v hc hon => ?_, fun s p ha hen hgood hidle => ?_, fun s p ha hlocked => ?_, fun s ha href => ?_,
    fun s ha hlive => ?_, fun s ha hover => ?_, fun s hstill hwait => ⟨fun hrebuild => ?_, fun hfresh => ?_⟩, fun s hen hgood hoff => ?_,
    fun s hon ha => ?_⟩
  · have hanswer := hc.pllCtl (c := .pllEnable r p v) rfl
    rwa [bit_setBit_same _ _ _ (by decide), hoff] at hanswer
  · have hanswer := hc.pllCtl (c := .pllDisable r p v) rfl
    have hen := s.rb_pllCtl_written p.isLt (setBit v 0 false)
    rw [bit_setBit_same _ _ _ (by decide)] at hanswer hen
    rw [hon] at hanswer
    have hstat : aPLL p.toNat 0 ≠ aPLL p.toNat 0xC := by unfold aPLL pg; omega
    refine ⟨_, hanswer, rfl, ?_, State.rb_pllStop_lock _ _⟩
    exact (congrArg (bit · 0) (State.reg_pllStop_ne _ _ hstat)).trans hen
  · exact Answers.live (f := (·.pllLocked p.toNat)) rfl ha (State.pllLocked_inRange p.isLt ha hen hgood hidle)
  · exact Answers.live (f := (·.pllLoss p.toNat)) rfl ha (if_pos hlocked)
  · exact Answers.live (f := State.refclkLoss) rfl ha (if_neg (by simp [href]))
  · exact Answers.live (f := State.tpllRelock) rfl ha (if_pos (by simp [hlive]))
  · intro s1 t
    obtain ⟨hsrc, hnow, hhold, hgood⟩ : KeepsSources s1 t := s1.relocked_keepsSources s.time.leaderAtLoss
    obtain ⟨href, hlock⟩ : s1.rb aSRC_STAT 1 = true ∧ s1.rb aSRC_STAT 4 = true := s.relocked_shows
    have hanswer : Answers .tpllRelock s t := Answers.live (f := State.tpllRelock) rfl ha (if_neg (by simp [hover]))
    exact ⟨hanswer, hhold, hgood, (congrArg (bit · 1) hsrc).trans href, (congrArg (bit · 4) hsrc).trans hlock, hnow⟩
  · exact Answers.act (f := State.timingLocked) rfl (State.timingLocked_rebuilds hstill hwait hrebuild)
  · exact Answers.act (f := State.timingLocked) rfl (State.timingLocked_starts hstill hwait hfresh)
  · exact Answers.act (f := State.xtalStart) rfl (if_pos (by simp [hen, hgood, hoff]))
  · obtain ⟨hok, hsrc, hfailed, herr, hpower⟩ := State.xtalFail_shows hon
    refine ⟨Answers.act (f := State.xtalFailed) rfl ?_, hok, hsrc, hfailed, herr, ?_⟩
    · simp [State.xtalFailed, hon, ha]
    · rw [State.updPower, hpower]

end Sys2Proof.Machine
end

section
/-! Clock switches, dividers and gates (R148 to R154). -/

namespace Sys2Proof.Machine

/-! ### Writes of the clock sites -/

/-- A write of BCLK stores it and starts the switch or the restart that it asks for, whichever command makes it. -/
theorem Accepted.bclk {i : Instr} {s : State} {r : ReqId} {b : BitVec 7} {c : BitVec 3} {v : Word}
    (h : exec i s = s.actWrite r (aBCLK b.toNat c.toNat) v) (hc : Accepted s r (aBCLK b.toNat c.toNat) v) :
    Answers i s ((s.storeWrite (aBCLK b.toNat c.toNat) v false).bclkWritten b.toNat c.toNat (s.reg (aBCLK b.toNat c.toNat))) := by
  have hpage : aBCLK b.toNat c.toNat / 0x1000 = 0x028 + b.toNat / 16 := aBCLK_page c.isLt
  have hoff : aBCLK b.toNat c.toNat % 0x1000 = 0x100 + 0x20 * (b.toNat % 16) + 4 * c.toNat := aBCLK_offset c.isLt
  have hanswer := hc.clock h (by omega) (by omega) (by omega)
  rwa [State.blockWritten_bclk _ b.isLt c.isLt] at hanswer

theorem Accepted.root {i : Instr} {s : State} {r : ReqId} {n : BitVec 4} {v : Word}
    (h : exec i s = s.actWrite r (aROOT n.toNat) v) (hc : Accepted s r (aROOT n.toNat) v) :
    Answers i s ((s.storeWrite (aROOT n.toNat) v false).rootWritten n.toNat (s.reg (aROOT n.toNat))) := by
  have hpage : aROOT n.toNat / 0x1000 = 0x021 := aROOT_page n.isLt
  have hoff : aROOT n.toNat % 0x1000 = 0x020 + 4 * n.toNat := aROOT_offset n.isLt
  have hanswer := hc.clock h (by omega) (by omega) (by omega)
  rwa [State.blockWritten_root _ n.isLt] at hanswer

theorem Accepted.xmerge {i : Instr} {s : State} {r : ReqId} {b : BitVec 7} {v : Word}
    (h : exec i s = s.actWrite r (aXMERGE b.toNat) v) (hclr : bit v 15 = true) (hc : Accepted s r (aXMERGE b.toNat) v) :
    Answers i s ((s.storeWrite (aXMERGE b.toNat) v false).xmergeClr b.toNat) := by
  have hpage := aXMERGE_page b.toNat
  have hoff := aXMERGE_offset b.toNat
  have hanswer := hc.clock h (by omega) (by omega) (by omega)
  rwa [State.blockWritten_xmerge _ b.isLt, if_pos hclr] at hanswer

/-- DIV reads the value written. -/
theorem State.div_written (s : State) {b c : Nat} (hb : b < 128) (hc : c < 8) (v : Word) :
    (s.storeWrite (aBCLK b c) v false).rf (aBCLK b c) 23 16 = fld v 23 16 := by
  have hspec := regSpec_bclk hb hc
  have hkind : (pageInfo (aBCLK b c / 0x1000)).kind ≠ .bough := by rw [aBCLK_page hc, pageInfo_bclk (by omega)]; decide
  have hctl : aBCLK b c % 0x1000 ≠ 0x004 := by rw [aBCLK_offset hc]; omega
  have hheld : s.heldMask (aBCLK b c) = 0x8CFFFFFF ||| 0 ||| 0 := State.heldMask_eq hspec hctl hkind
  have hbits : ∀ i, 16 ≤ i → i ≤ 23 → Nat.testBit 0x8CFFFFFF i = true := by decide
  refine State.rf_storeWrite hspec (by decide) (by decide) fun i hlo hhi => ⟨?_, hbits i hlo hhi, Nat.zero_testBit i⟩
  rw [hheld]
  exact hbits i hlo hhi

theorem State.reg_beginSwitch (s : State) (k source ratio : Nat) (moves : Bool) (a : Nat) :
    (s.beginSwitch k source ratio moves).reg a = s.reg a := rfl

/-- What a write of BCLK starts leaves DIV as written, and a new DIV shows in SW_BUSY (R153). -/
theorem State.div_bclkWritten (s : State) (b c : Nat) (old : Word) :
    (s.bclkWritten b c old).rf (aBCLK b c) 23 16 = s.rf (aBCLK b c) 23 16 ∧
      (fld old 23 16 ≠ s.rf (aBCLK b c) 23 16 → (s.bclkWritten b c old).rb (aBCLK b c) 30 = true) := by
  unfold State.bclkWritten
  extract_lets w sel moves
  split
  · refine ⟨?_, fun _ => ?_⟩
    · rw [State.rf, State.reg_beginSwitch]
      exact State.rf_setF_disjoint s _ 30 30 _ _ _ (by decide) (by decide) (by decide) (by decide)
    · rw [State.rb, State.reg_beginSwitch]
      exact State.rb_setB_same s _ 30 true (by decide)
  · next hsame =>
    refine ⟨rfl, fun hnew => absurd ?_ hsame⟩
    have hdiv : fld old 23 16 ≠ fld w 23 16 := hnew
    simp [hdiv]

/-! ### The end of a switch -/

theorem State.clockSwitch_setSwitch (s : State) (k : Nat) (x : Option ClockSwitch) : (s.setSwitch k x).clockSwitch k = x := by
  simp [State.clockSwitch, State.setSwitch, State.updClocks, SMap.get_set]

theorem State.switchDone_idle {s : State} {k : ClkSite} (h : s.switching k = false) : s.switchDone k = s := by
  simp [State.switchDone, h]

/-- The old side of a switch ends with registers as they were, but for PAGE_ERR and what its event changes (R151, R152). -/
theorem State.reg_oldSideDone (s : State) (b c : Nat) {a : Nat} (hevt : evtPage a = false) (ha : a ≠ pg (0x028 + b / 16) 0x00C) :
    (s.oldSideDone b c).reg a = s.reg a :=
  State.reg_ite _ _ _ _ (State.setErr_reg _ _ _ _ (fun _ he => pageEvent_lt he) hevt ha) rfl

/-- The output of the clock is low. -/
theorem State.low_oldSideDone (s : State) (b c : Nat) : (s.oldSideDone b c).fabric.clocks.high.contains (bclkKey b c) = false := by
  unfold State.oldSideDone
  extract_lets k s1
  have hlow : s1.fabric.clocks.high.contains k = false := by simp [s1, State.updClocks]
  split
  · rwa [State.setErr_fabric]
  · exact hlow

/-- The escape of R152 sets DEAD. -/
theorem State.dead_oldSideDone {s : State} {b c : Nat} (h : s.escapes b c = true) :
    (s.oldSideDone b c).rb (pg (0x028 + b / 16) 0x00C) 17 = true := by
  simp only [State.oldSideDone, h, if_true]
  exact State.setErr_reads _ _ (by decide)

/-- The switch of a bough clock has taken the new input, at the alignment point or on its way there (R151, R153). -/
def State.bclkSwitched (s : State) (b c : Nat) : State :=
  let a := aBCLK b c
  let r := s.bclkWanted b c
  let waits := s.startsAligned r (s.rf a 23 16 + 1)
  (((s.oldSideDone b c).setF a 29 28 (s.rf a 27 26)).setB a 30 waits).updClocks fun x => { x with
    switches := SMap.set (fun _ => none) x.switches (bclkKey b c) none
    toAlign := (if waits then [bclkKey b c] else []) ++ x.toAlign.filter (· ≠ bclkKey b c)
    start := SMap.set (fun _ => 0) x.start (bclkKey b c) (SMap.get (fun _ => 0) x.ticks r + 1) }

/-- The three ends of a switch of a bough clock that is under way (R151, R152). -/
theorem State.switchDone_bclk {s : State} {b : BitVec 7} {c : BitVec 3} (h : s.rb (aBCLK b.toNat c.toNat) 30 = true) :
    s.switchDone (.bclk b c) = if !s.oldSideOver b.toNat c.toNat then s
      else if !s.rootRuns (s.bclkWanted b.toNat c.toNat) then s.oldSideDone b.toNat c.toNat else s.bclkSwitched b.toNat c.toNat :=
  if_neg (by simp [State.switching, h])

theorem State.clockSwitch_bclkSwitched (s : State) (b c : Nat) : (s.bclkSwitched b c).clockSwitch (bclkKey b c) = none := by
  simp [State.clockSwitch, State.bclkSwitched, State.updClocks, SMap.get_set]

theorem State.reg_bclkSwitched (s : State) (b c x : Nat) : (s.bclkSwitched b c).reg x =
    (((s.oldSideDone b c).setF (aBCLK b c) 29 28 (s.rf (aBCLK b c) 27 26)).setB (aBCLK b c) 30
      (s.startsAligned (s.bclkWanted b c) (s.rf (aBCLK b c) 23 16 + 1))).reg x := rfl

/-- CUR_SEL reads SEL, and SW_BUSY whether the divider starts at A = 0. -/
theorem State.bclk_bclkSwitched (s : State) (b c : Nat) :
    (s.bclkSwitched b c).rf (aBCLK b c) 29 28 = s.rf (aBCLK b c) 27 26 ∧
      (s.bclkSwitched b c).rb (aBCLK b c) 30 = s.startsAligned (s.bclkWanted b c) (s.rf (aBCLK b c) 23 16 + 1) := by
  have hsel : s.rf (aBCLK b c) 27 26 < 2 ^ (29 - 28 + 1) := s.rf_lt _ 27 26
  refine ⟨?_, ?_⟩
  · rw [State.rf, State.reg_bclkSwitched]
    exact (State.rf_setF_disjoint _ _ 30 30 _ _ _ (by decide) (by decide) (by decide) (by decide)).trans
      (State.rf_setF_of_lt _ _ 29 28 _ (by decide) (by decide) hsel)
  · rw [State.rb, State.reg_bclkSwitched]
    exact State.rb_setB_same _ _ 30 _ (by decide)

/-- DEAD stays as the old side left it. -/
theorem State.pageErr_bclkSwitched (s : State) {b c : Nat} (hc : c < 8) (i : Nat) :
    (s.bclkSwitched b c).rb (pg (0x028 + b / 16) 0x00C) i = (s.oldSideDone b c).rb (pg (0x028 + b / 16) 0x00C) i := by
  have hother : pg (0x028 + b / 16) 0x00C ≠ aBCLK b c := by unfold aBCLK pg; omega
  rw [State.rb, State.reg_bclkSwitched, State.reg_setB_ne _ _ _ _ _ hother, State.reg_setF_ne _ _ _ _ _ _ hother, State.rb]

/-- The switch of a root clock has taken the new source (R151). -/
def State.rootSwitched (s : State) (n : Nat) : State :=
  (((s.setF (aROOT n) 21 16 (s.rf (aROOT n) 5 0)).setB (aROOT n) 30 false).setSwitch (rootKey n) none).updClocks fun x =>
    { x with high := x.high.filter (· ≠ rootKey n) }

theorem State.reg_rootSwitched (s : State) (n x : Nat) : (s.rootSwitched n).reg x =
    ((s.setF (aROOT n) 21 16 (s.rf (aROOT n) 5 0)).setB (aROOT n) 30 false).reg x := rfl

/-- The three ends of a switch of a root clock that is under way (R151, R152). -/
theorem State.switchDone_root {s : State} {n : BitVec 4} (h : s.rb (aROOT n.toNat) 30 = true) :
    s.switchDone (.root n) = if s.rootRuns n.toNat then s
      else if !s.sourceRuns (s.rf (aROOT n.toNat) 5 0) then
        s.setSwitch (rootKey n.toNat) ((s.clockSwitch (rootKey n.toNat)).map fun x => { x with low := true })
      else s.rootSwitched n.toNat :=
  if_neg (by simp [State.switching, h])

/-- CUR_SRC reads SRC, SW_BUSY 0, no switch is under way, and the output is low. -/
theorem State.rootSwitched_shows (s : State) (n : Nat) :
    (s.rootSwitched n).rf (aROOT n) 21 16 = s.rf (aROOT n) 5 0 ∧ (s.rootSwitched n).rb (aROOT n) 30 = false ∧
      (s.rootSwitched n).clockSwitch (rootKey n) = none ∧ (s.rootSwitched n).fabric.clocks.high.contains (rootKey n) = false := by
  have hsrc : s.rf (aROOT n) 5 0 < 2 ^ (21 - 16 + 1) := s.rf_lt _ 5 0
  refine ⟨?_, ?_, ?_, ?_⟩
  · rw [State.rf, State.reg_rootSwitched]
    exact (State.rf_setF_disjoint _ _ 30 30 _ _ _ (by decide) (by decide) (by decide) (by decide)).trans
      (State.rf_setF_of_lt s _ 21 16 _ (by decide) (by decide) hsrc)
  · rw [State.rb, State.reg_rootSwitched]
    exact State.rb_setB_same _ _ 30 _ (by decide)
  · exact State.clockSwitch_setSwitch _ _ none
  · simp [State.rootSwitched, State.updClocks]

/-! ### XMERGE -/

/-- CLR of XMERGE clears both counts (R150). -/
theorem State.xmergeClr_clears (s : State) (b : Nat) :
    (s.xmergeClr b).rf (aXMERGE b) 31 16 = 0 ∧ (s.xmergeClr b).rf (aXMERGE b) 7 0 = 0 := by
  refine ⟨?_, State.rf_setF_of_lt _ _ 7 0 0 (by decide) (by decide) (by decide)⟩
  exact (State.rf_setF_disjoint _ _ 7 0 _ _ _ (by decide) (by decide) (by decide) (by decide)).trans
    (State.rf_setF_of_lt s _ 31 16 0 (by decide) (by decide) (by decide))

/-! ### CLOCK_SWITCH_DONE -/

section
variable {s : State} {b : BitVec 7} {c : BitVec 3} {n : BitVec 4}

theorem clockSwitchDone_answers {k : ClkSite} {t : State} (ha : s.awake = true) (h : s.switchDone k = t) : Answers (.clockSwitchDone k) s t :=
  Answers.live (f := (·.switchDone k)) rfl ha h

/-- The switch of a bough clock takes the new input, and its escape shows in DEAD (R151, R152). -/
theorem clockSwitchDone_bclk_takes (ha : s.awake = true) (hbusy : s.rb (aBCLK b.toNat c.toNat) 30 = true)
    (hover : s.oldSideOver b.toNat c.toNat = true) (hruns : s.rootRuns (s.bclkWanted b.toNat c.toNat) = true) :
    Answers (.clockSwitchDone (.bclk b c)) s (s.bclkSwitched b.toNat c.toNat) ∧
      (s.escapes b.toNat c.toNat = true → (s.bclkSwitched b.toNat c.toNat).rb (pg (0x028 + b.toNat / 16) 0x00C) 17 = true) :=
  ⟨clockSwitchDone_answers ha (by simp [State.switchDone_bclk hbusy, hover, hruns]),
    fun hdead => (s.pageErr_bclkSwitched c.isLt 17).trans (State.dead_oldSideDone hdead)⟩

/-- While the new input shows no edge, the output of a bough clock is low and SW_BUSY stands (R152). -/
theorem clockSwitchDone_bclk_waits (ha : s.awake = true) (hbusy : s.rb (aBCLK b.toNat c.toNat) 30 = true)
    (hover : s.oldSideOver b.toNat c.toNat = true) (hstill : s.rootRuns (s.bclkWanted b.toNat c.toNat) = false) :
    Answers (.clockSwitchDone (.bclk b c)) s (s.oldSideDone b.toNat c.toNat) ∧
      (s.oldSideDone b.toNat c.toNat).rb (aBCLK b.toNat c.toNat) 30 = true := by
  have hother : aBCLK b.toNat c.toNat ≠ pg (0x028 + b.toNat / 16) 0x00C := by unfold aBCLK pg; omega
  refine ⟨clockSwitchDone_answers ha (by simp [State.switchDone_bclk hbusy, hover, hstill]), ?_⟩
  rwa [State.rb, s.reg_oldSideDone _ _ (evtPage_bclk b.isLt c.isLt) hother]

end

/-- Settles O26: a write by the rule that its register starts; CLOCK_SWITCH_DONE by the end that the old side and the new input allow. -/
theorem clockSites : Obligations.ClockSites := by
  refine ⟨fun s r b c v hc => ⟨hc.bclk rfl, hc.bclk rfl, hc.bclk rfl⟩, fun s r n v hc => ⟨hc.root rfl, hc.root rfl⟩, fun s r v hc => ?_,
    fun s r b c v hc => ?_, fun s b c ha => ?_, fun s b c ha hidle => ?_, fun s n ha => ?_, fun s ha hbusy hready => ?_, fun s r b v hc => ?_⟩
  · exact hc.clock (a := aSRC_CTL) rfl (by decide) (by decide) (by decide)
  · obtain ⟨hdiv, hnew⟩ := (s.storeWrite (aBCLK b.toNat c.toNat) v false).div_bclkWritten b.toNat c.toNat (s.reg (aBCLK b.toNat c.toNat))
    rw [State.div_written s b.isLt c.isLt] at hdiv hnew
    exact ⟨_, hc.bclk (i := .divWrite r b c v) rfl, hdiv, hnew⟩
  · intro a hbusy
    refine ⟨fun hgoes => ?_, fun hover hruns => ?_, fun hover hstill => ?_⟩
    · exact clockSwitchDone_answers ha (by simp [State.switchDone_bclk hbusy, hgoes])
    · obtain ⟨hanswer, hdead⟩ := clockSwitchDone_bclk_takes ha hbusy hover hruns
      obtain ⟨hsel, hwaits⟩ := s.bclk_bclkSwitched b.toNat c.toNat
      exact ⟨_, hanswer, hsel, hwaits, s.clockSwitch_bclkSwitched _ _, hdead⟩
    · obtain ⟨hanswer, hwaits⟩ := clockSwitchDone_bclk_waits ha hbusy hover hstill
      exact ⟨hanswer, hwaits, s.low_oldSideDone _ _⟩
  · exact clockSwitchDone_answers ha (State.switchDone_idle hidle)
  · intro a hbusy
    have hdone := State.switchDone_root (n := n) hbusy
    refine ⟨fun hgoes => ?_, fun hover hruns => ?_, fun hover hstill => ?_⟩
    · exact clockSwitchDone_answers ha (by rw [hdone, if_pos hgoes])
    · have hanswer : Answers (.clockSwitchDone (.root n)) s (s.rootSwitched n.toNat) :=
        clockSwitchDone_answers ha (by rw [hdone, if_neg (by simp [hover]), if_neg (by simpa using hruns)])
      exact ⟨_, hanswer, s.rootSwitched_shows n.toNat⟩
    · exact clockSwitchDone_answers ha (by rw [hdone, if_neg (by simp [hover]), if_pos (by simpa using hstill)])
  · have hgoes : ¬ (s.guideWanted = 1 && !s.time.running) = true := by simpa [imp_iff_not_or] using hready
    exact clockSwitchDone_answers ha (by simp [State.switchDone, State.switching, hbusy, hgoes])
  · have hclr : bit (setBit v 15 true) 15 = true := bit_setBit_same _ _ _ (by decide)
    obtain ⟨hmerges, hlate⟩ := (s.storeWrite (aXMERGE b.toNat) (setBit v 15 true) false).xmergeClr_clears b.toNat
    exact ⟨hc.xmerge rfl hclr, hmerges, hlate, (s.storeWrite_same _ _ _).trans rfl⟩

end Sys2Proof.Machine
end

section
/-! Rules that the time base, the edge units and the sigma-delta channels share: the parts of the state that hold the units, the pages of their
registers, and what an event, a page error or a commit transfer leaves alone. -/

namespace Sys2Proof.Machine

/-! ### The units -/

@[simp] theorem State.edgeUnit_setEdge_same (s : State) (p : Nat) (u : EdgeUnit) : (s.setEdge p u).edgeUnit p = u := by
  simp [State.edgeUnit, State.setEdge, SMap.get_set]

theorem State.edgeUnit_setEdge_ne (s : State) {p q : Nat} (u : EdgeUnit) (h : q ≠ p) : (s.setEdge p u).edgeUnit q = s.edgeUnit q := by
  simp [State.edgeUnit, State.setEdge, SMap.get_set, h]

theorem State.edgeUnit_congr {s t : State} (h : t.edge = s.edge) (p : Nat) : t.edgeUnit p = s.edgeUnit p := by
  rw [State.edgeUnit, h, State.edgeUnit]

@[simp] theorem State.sdfChan_setSdf_same (s : State) (c : Nat) (u : SdfChannel) : (s.setSdf c u).sdfChan c = u := by
  simp [State.sdfChan, State.setSdf, SMap.get_set]

theorem State.sdfChan_setSdf_ne (s : State) {c k : Nat} (u : SdfChannel) (h : k ≠ c) : (s.setSdf c u).sdfChan k = s.sdfChan k := by
  simp [State.sdfChan, State.setSdf, SMap.get_set, h]

theorem State.sdfChan_congr {s t : State} (h : t.sdf = s.sdf) (c : Nat) : t.sdfChan c = s.sdfChan c := by
  rw [State.sdfChan, h, State.sdfChan]

/-! ### The pages -/

theorem aEDGE_page {p o : Nat} (h : o < 0x1000) : aEDGE p o / 0x1000 = 0x100 + p := by unfold aEDGE pg; omega

theorem aEDGE_offset {p o : Nat} (h : o < 0x1000) : aEDGE p o % 0x1000 = o := by unfold aEDGE pg; omega

theorem evtPage_edge {p o : Nat} (hp : p < 0x100) (h : o < 0x1000) : evtPage (aEDGE p o) = false := by
  simp only [evtPage, aEDGE_page h, Bool.or_eq_false_iff, beq_eq_false_iff_ne]
  omega

theorem pageInfo_sdf {p : Nat} (h : p < 8) : (pageInfo (0x200 + p)).kind = .sdf := by
  revert p; decide

theorem aSDF_page {c o : Nat} (h : o < 0x40) : aSDF c o / 0x1000 = 0x200 + c / 8 := by unfold aSDF sdfPage pg; omega

theorem aSDF_offset {c o : Nat} (h : o < 0x40) : aSDF c o % 0x1000 = 0x100 + 0x40 * (c % 8) + o := by unfold aSDF sdfPage pg; omega

/-! ### Errors and commits -/

/-- Setting a PAGE_ERR bit leaves the registers of the other pages alone, but for those that an event may change, and of its own page all but PAGE_ERR. -/
theorem State.reg_setErr (s : State) (p b : Nat) {a : Nat} (hevt : evtPage a = false) (ha : a ≠ pg p 0x00C) : (s.setErr p b).reg a = s.reg a :=
  s.setErr_reg p b a (fun _ he => pageEvent_lt he) hevt ha

theorem State.reg_transferReg (s : State) (a : Nat) {b : Nat} (h : rwsMask b = 0) : (s.transferReg a).reg b = s.reg b := by
  unfold State.transferReg
  rw [State.reg_setReg]
  split
  · next hb =>
    subst hb
    simp only [h, BitVec.ofNat_eq_ofNat, BitVec.and_zero, BitVec.or_zero, BitVec.not_zero, BitVec.and_allOnes]
  · rfl

/-- A commit transfer leaves alone every register without RWS bits but PAGE_SEQ and PAGE_STAT of its page, and those that its event changes (R41). -/
theorem State.reg_commitTransfer (s : State) {p a : Nat} (hrws : rwsMask a = 0) (hevt : evtPage a = false) (hseq : a ≠ pg p 0x018)
    (hstat : a ≠ pg p 0x008) : (s.commitTransfer p).reg a = s.reg a := by
  have hpage : (s.transferPage p).reg a = s.reg a :=
    List.foldlRecOn (motive := fun t => t.reg a = s.reg a) (s.listedRegs p) State.transferReg rfl
      fun t ht x _ => (t.reg_transferReg x hrws).trans ht
  have hheader : (((s.transferPage p).wrapAdd (pg p 0x018) 23 0 1).setPending p false).reg a = s.reg a :=
    (State.reg_setB_ne _ _ _ _ _ hstat).trans ((State.reg_setF_ne _ _ _ _ _ _ hseq).trans hpage)
  unfold State.commitTransfer
  refine State.reg_ite _ _ _ _ ?_ hheader
  split
  · next e he => exact (State.raise_reg _ _ _ (pageEvent_lt he) hevt).trans hheader
  · exact hheader

end Sys2Proof.Machine
end

section
/-! The time base (R168 to R173, R175): the TIME commit, a step, a measurement of the servo, and the loss of its reference. -/

namespace Sys2Proof.Machine

/-! ### Operations that change device time or its settings alone -/

theorem SameOutside.with_time {s t : State} (h : SameOutside s t) (x : TimeBase) : SameOutside { s with time := x } { t with time := x } := by
  unfold SameOutside at *
  exact congrArg (fun u : State => { u with time := x }) h

/-- QUALITY becomes q, whether or not it was (R175). -/
theorem State.quality_setQuality (s : State) {q : Nat} (hq : q < 16) : (s.setQuality q).quality = q := by
  unfold State.setQuality
  split
  · assumption
  · rw [State.quality, State.rf, State.raise_reg _ 80 _ (by decide) (by decide)]
    exact State.rf_setF_of_lt s _ 3 0 q (by decide) (by decide) hq

/-- QUALITY stands in TIME_STAT; a change of it touches no other register but those that its event changes. -/
theorem State.reg_setQuality (s : State) (q : Nat) {a : Nat} (hevt : evtPage a = false) (ha : a ≠ aTIME_STAT) :
    (s.setQuality q).reg a = s.reg a := by
  unfold State.setQuality
  refine State.reg_ite _ _ _ _ rfl ?_
  exact (State.raise_reg _ 80 _ (by decide) hevt).trans (State.reg_setF_ne s _ _ _ _ _ ha)

/-- Of the time base a change of QUALITY notes BOUND, the instant of the entry, and that no wake made it (R175). -/
theorem State.time_setQuality (s : State) (q : Nat) :
    (s.setQuality q).time = { s.time with
      boundAtEntry := (s.setQuality q).time.boundAtEntry, entryTime := (s.setQuality q).time.entryTime
      fromWake := (s.setQuality q).time.fromWake } := by
  unfold State.setQuality
  split
  · rfl
  · rw [State.raise_time]; rfl

section
variable (s : State) (q : Nat)
@[simp] theorem State.now_setQuality : (s.setQuality q).time.now = s.time.now := by rw [s.time_setQuality q]
@[simp] theorem State.f_setQuality : (s.setQuality q).time.f = s.time.f := by rw [s.time_setQuality q]
@[simp] theorem State.r_setQuality : (s.setQuality q).time.r = s.time.r := by rw [s.time_setQuality q]
@[simp] theorem State.step_setQuality : (s.setQuality q).time.step = s.time.step := by rw [s.time_setQuality q]
@[simp] theorem State.adj_setQuality : (s.setQuality q).time.adj = s.time.adj := by rw [s.time_setQuality q]
@[simp] theorem State.good_setQuality : (s.setQuality q).time.good = s.time.good := by rw [s.time_setQuality q]
@[simp] theorem State.refLost_setQuality : (s.setQuality q).time.refLost = s.time.refLost := by rw [s.time_setQuality q]
end

/-! ### The TIME commit (R168, R172) -/

/-- The value of TGT in the shadow. -/
def State.stepTarget (s : State) : DevTime := BitVec.ofNat 72
  (((s.shadow (aTIME 0x3C)).toNat * 2 ^ 32 + (s.shadow (aTIME 0x38)).toNat) * 256 + fld (s.shadow (aTIME 0x40)) 15 8)

/-- The commit of the TIME page has transferred, and OP reads 0 in both copies. -/
def State.opCleared (s : State) : State :=
  ((s.commitTransfer 0x018).setF (aTIME 0x40) 1 0 0).setShadow (aTIME 0x40) (setFld ((s.commitTransfer 0x018).shadow (aTIME 0x40)) 1 0 0)

theorem State.opCleared_eq (s : State) : s.opCleared =
    ((s.commitTransfer 0x018).setF (aTIME 0x40) 1 0 0).setShadow (aTIME 0x40) (setFld ((s.commitTransfer 0x018).shadow (aTIME 0x40)) 1 0 0) := rfl

theorem State.opCleared_same (s : State) : SameOutside s s.opCleared := (s.commitTransfer_same 0x018).trans rfl

theorem State.op_opCleared (s : State) : s.opCleared.rf (aTIME 0x40) 1 0 = 0 ∧ fld (s.opCleared.shadow (aTIME 0x40)) 1 0 = 0 := by
  refine ⟨?_, ?_⟩
  · rw [State.rf, State.opCleared_eq, State.reg_setShadow]
    exact State.rf_setF_of_lt _ _ 1 0 0 (by decide) (by decide) (by decide)
  · rw [State.opCleared_eq, State.shadow_setShadow, if_pos rfl, fld_setFld _ _ _ _ (by decide) (by decide), Nat.zero_mod]

theorem State.refSrc_opCleared (s : State) : s.opCleared.refSrc = s.refSrc := by
  have hother : aTIME 0x20 ≠ aTIME 0x40 := by decide
  have hctl : (s.commitTransfer 0x018).reg (aTIME 0x20) = s.reg (aTIME 0x20) :=
    s.reg_commitTransfer (by decide +kernel) (by decide) (by decide) (by decide)
  rw [State.refSrc, State.rf, State.opCleared_eq, State.reg_setShadow, State.reg_setF_ne _ _ _ _ _ _ hother, hctl]
  rfl

section
variable {s : State}

theorem State.timeTransfer_step (hop : fld (s.shadow (aTIME 0x40)) 1 0 = 1) :
    s.timeTransfer = s.opCleared.requestStep (.toValue s.stepTarget) := by
  simp only [State.timeTransfer, hop, ← State.opCleared_eq, State.stepTarget]

/-- With a reference the servo adds ADJ at its next measurement. -/
theorem State.timeTransfer_slew_ref (hop : fld (s.shadow (aTIME 0x40)) 1 0 = 2) (href : s.refSrc ≠ 0) :
    s.timeTransfer = { s.opCleared with time := { s.opCleared.time with adj := s.opCleared.time.adj + s.adjShadow * 256 } } := by
  simp only [State.timeTransfer, hop, ← State.opCleared_eq, State.refSrc_opCleared, href, ne_eq, not_false_eq_true, if_true]

/-- Without a reference a slew of ADJ at 400 ppm begins. -/
theorem State.timeTransfer_slew_free (hop : fld (s.shadow (aTIME 0x40)) 1 0 = 2) (href : s.refSrc = 0) :
    s.timeTransfer = if s.adjShadow = 0 then s.opCleared else
      ({ s.opCleared with time := { s.opCleared.time with
        slewUp := s.adjShadow < 0, slewLeft := s.adjShadow.natAbs * 256 * 2500 } }).showRate := by
  simp only [State.timeTransfer, hop, ← State.opCleared_eq, State.refSrc_opCleared, href, ne_eq, not_true_eq_false, if_false]

end

/-- OP reads 0 after the commit, whatever it asked for. -/
theorem State.op_timeTransfer (s : State) : s.timeTransfer.rf (aTIME 0x40) 1 0 = 0 := by
  have hreg : s.timeTransfer.reg (aTIME 0x40) = s.opCleared.reg (aTIME 0x40) := by
    simp only [State.timeTransfer, ← State.opCleared_eq]
    split
    · rfl
    · refine State.reg_ite _ _ _ _ rfl (State.reg_ite _ _ _ _ rfl ?_)
      exact State.reg_setReg_ne _ _ _ _ (by decide)
    · rfl
  rw [State.rf, hreg]
  exact s.op_opCleared.1

/-- A commit of the TIME page that waits for no measurement transfers when its command names the operation that it asks for. -/
theorem State.timeOp_transfers {s : State} {op : Nat} (hp : s.commitPending 0x018 = true) (hw : s.timeAtOnce = true)
    (hop : fld (s.shadow (aTIME 0x40)) 1 0 = op) : s.timeOp op = s.timeTransfer := if_pos (by simp [hp, hw, hop])

/-- While the servo runs the commit waits (R167). -/
theorem State.timeOp_waits {s : State} (hw : s.timeAtOnce = false) (op : Nat) : s.timeOp op = s := if_neg (by simp [hw])

/-! ### A step (R171, R175) -/

section
variable {s : State}

theorem State.applyStep_toValue {v : DevTime} (h : s.time.step = some (.toValue v)) :
    let s1 := s.reach s.time.stepAt
    let s2 := s1.stepTo (v + (s1.time.now - s.time.stepAt))
    s.applyStep = if s2.refSrc = 0 then s2.setQuality qLEADER else if s2.quality = qUNSET then s2.setQuality qTRACKING else s2 := by
  simp only [State.applyStep, h]

theorem State.applyStep_byUnits {d : Int} (h : s.time.step = some (.byUnits d)) :
    let s1 := s.reach s.time.stepAt
    let s2 := s1.stepTo (BitVec.ofInt 72 ((s1.time.now.toNat : Int) + d))
    let s3 := { s2 with time := { s2.time with good := 0 } }
    s.applyStep = if s2.servoRuns || s2.quality == qUNSET then s3.setQuality qTRACKING else s3 := by
  simp only [State.applyStep, h]

/-! ### A measurement (R169, R170) -/

/-- The offset e of a measurement shows in OFFSET; ADJ is used up, and the reference is there. -/
def State.offsetTaken (s : State) (e : Int) : State :=
  ({ s with time := { s.time with adj := 0, refLost := false } }).setReg (aTIME 0x4C)
    (BitVec.ofNat 32 (scode 32 (clampInt (-2147483648) 2147483647 e)))

/-- The state s with n measurements within the lock threshold behind it. -/
def State.withGood (s : State) (n : Nat) : State := { s with time := { s.time with good := n } }

/-- The rates f and r of the servo after the offset e, and the count of good measurements. -/
def State.servoF (s : State) (e : Int) : Rat := clampRat (-maxRate) maxRate (s.time.f - (e : Rat) / 256 / (256 * (s.servoInterval : Rat)))
def State.servoR (s : State) (e : Int) : Rat :=
  clampRat (-maxRate) maxRate (s.servoF e - (e : Rat) / 256 / (16 * (s.servoInterval : Rat)))
def State.servoGood (s : State) (e : Int) : Nat := if e.natAbs ≤ 2 ^ s.rf (aTIME 0x20) 19 16 * 256 then s.time.good + 1 else 0

/-- The servo has taken the offset e into its rates. -/
def State.steered (s : State) (e : Int) : State :=
  ({ s with time := { s.time with f := s.servoF e, r := s.servoR e, good := s.servoGood e } }).showRate

/-- A measurement in which no commit waits, of the offset e with ADJ added. -/
theorem State.measure_eq {e0 : Int} (hc : s.commitPending 0x018 = false) :
    let e := e0 + s.time.adj
    let u := s.offsetTaken e
    s.measure e0 = if 2 ^ u.rf (aTIME 0x20) 11 8 * 1000 * 256 < e.natAbs then
        (if (u.withGood 0).quality = qUNSET ∨ (u.withGood 0).upstream then u.withGood 0 else (u.withGood 0).setQuality qTRACKING).requestStep (.byUnits (-e))
      else if (u.steered e).upstream then u.steered e else (u.steered e).setQuality (if 16 ≤ u.servoGood e then qLOCKED else qTRACKING) := by
  simp only [State.measure, hc]
  rfl

theorem State.rf_offsetTaken (e : Int) {a : Nat} (hi lo : Nat) (h : a ≠ aTIME 0x4C) : (s.offsetTaken e).rf a hi lo = s.rf a hi lo :=
  State.rf_setReg_ne _ _ _ _ _ _ h

theorem State.refSrc_offsetTaken (e : Int) : (s.offsetTaken e).refSrc = s.refSrc := State.rf_offsetTaken e 2 0 (by decide)

theorem State.servoInterval_offsetTaken (e : Int) : (s.offsetTaken e).servoInterval = s.servoInterval := by
  rw [State.servoInterval, State.refSrc_offsetTaken, State.rf_offsetTaken e 15 14 (by decide), State.servoInterval]

/-- The offset shown changes neither the rates nor the count that it gives. -/
theorem State.servo_offsetTaken (e : Int) : (s.offsetTaken e).servoF e = s.servoF e ∧ (s.offsetTaken e).servoR e = s.servoR e ∧
    (s.offsetTaken e).servoGood e = s.servoGood e := by
  have hf : (s.offsetTaken e).servoF e = s.servoF e := by
    rw [State.servoF, State.servoInterval_offsetTaken]; rfl
  refine ⟨hf, ?_, ?_⟩
  · rw [State.servoR, hf, State.servoInterval_offsetTaken, State.servoR]
  · rw [State.servoGood, State.rf_offsetTaken e 19 16 (by decide)]; rfl

/-- Only a node that follows ROPE takes the QUALITY of an anchor (R281). -/
theorem State.upstream_pps (href : s.refSrc = 1) : s.upstream = false := by simp [State.upstream, href]

theorem State.refSrc_steered (e : Int) : (s.steered e).refSrc = s.refSrc := State.rf_setReg_ne _ _ _ _ _ _ (by decide)

/-- An offset beyond the step limit asks for a step against it. -/
theorem State.measure_far {e0 : Int} (href : s.refSrc = 1) (hc : s.commitPending 0x018 = false)
    (hfar : 2 ^ s.rf (aTIME 0x20) 11 8 * 1000 * 256 < (e0 + s.time.adj).natAbs) :
    let u := (s.offsetTaken (e0 + s.time.adj)).withGood 0
    s.measure e0 = (if s.quality = qUNSET then u else u.setQuality qTRACKING).requestStep (.byUnits (-(e0 + s.time.adj))) := by
  intro u
  have hup : u.upstream = false := State.upstream_pps ((State.refSrc_offsetTaken _).trans href)
  have hq : u.quality = s.quality := State.rf_offsetTaken _ 3 0 (by decide)
  rw [State.measure_eq hc]
  simp only [State.rf_offsetTaken _ 11 8 (show aTIME 0x20 ≠ aTIME 0x4C by decide), if_pos hfar]
  simp only [u] at hup hq ⊢
  simp only [hup, hq, Bool.false_eq_true, or_false]

/-- An offset within it steers the rates, and QUALITY follows the count of good measurements. -/
theorem State.measure_near {e0 : Int} (href : s.refSrc = 1) (hc : s.commitPending 0x018 = false)
    (hnear : (e0 + s.time.adj).natAbs ≤ 2 ^ s.rf (aTIME 0x20) 11 8 * 1000 * 256) :
    let e := e0 + s.time.adj
    s.measure e0 = ((s.offsetTaken e).steered e).setQuality (if 16 ≤ s.servoGood e then qLOCKED else qTRACKING) := by
  intro e
  have hup : ((s.offsetTaken e).steered e).upstream = false :=
    State.upstream_pps ((State.refSrc_steered _).trans ((State.refSrc_offsetTaken _).trans href))
  have hlim : ¬ 2 ^ (s.offsetTaken e).rf (aTIME 0x20) 11 8 * 1000 * 256 < e.natAbs := by
    rw [State.rf_offsetTaken _ 11 8 (by decide)]; exact Nat.not_lt.mpr hnear
  obtain ⟨_, _, hgood⟩ := State.servo_offsetTaken (s := s) e
  rw [State.measure_eq hc]
  simp only [e] at hlim hup hgood ⊢
  simp only [if_neg hlim, hup, hgood, Bool.false_eq_true, if_false]

/-- What a measurement that steers shows. -/
theorem State.measure_near_shows {e0 : Int} (href : s.refSrc = 1) (hc : s.commitPending 0x018 = false)
    (hnear : (e0 + s.time.adj).natAbs ≤ 2 ^ s.rf (aTIME 0x20) 11 8 * 1000 * 256) :
    let e := e0 + s.time.adj
    let t := s.measure e0
    t.time.f = s.servoF e ∧ t.time.r = s.servoR e ∧ t.time.good = s.servoGood e ∧
      t.quality = (if 16 ≤ s.servoGood e then qLOCKED else qTRACKING) ∧ t.time.now = s.time.now := by
  intro e t
  obtain ⟨hf, hr, hgood⟩ := State.servo_offsetTaken (s := s) e
  have ht : t = ((s.offsetTaken e).steered e).setQuality (if 16 ≤ s.servoGood e then qLOCKED else qTRACKING) := State.measure_near href hc hnear
  rw [ht]
  refine ⟨?_, ?_, ?_, ?_, ?_⟩
  · rw [State.f_setQuality]; exact hf
  · rw [State.r_setQuality]; exact hr
  · rw [State.good_setQuality]; exact hgood
  · exact State.quality_setQuality _ (by split <;> decide)
  · rw [State.now_setQuality]; rfl

/-- The servo on the PPS reference measures the rising edge as it is stamped, or a falling one at a free time (R283, log 132). -/
theorem State.servoMeasure_rising (hr : s.servoRuns = true) (href : s.refSrc = 1) (hedge : s.rb (pg 0x548 0x020) 8 = false) :
    s.servoMeasure = s.measure (s.ppsOffset (((s.reg (aTIME 0x54)).toNat * 2 ^ 32 + (s.reg (aTIME 0x50)).toNat) * 256 + s.rf (aTIME 0x58) 7 0)) := by
  simp [State.servoMeasure, State.ppsAt, hr, href, hedge]

theorem State.servoMeasure_falling (hr : s.servoRuns = true) (href : s.refSrc = 1) (hedge : s.rb (pg 0x548 0x020) 8 = true) :
    s.servoMeasure = (s.free 72).2.measure ((s.free 72).2.ppsOffset (s.free 72).1.toNat) := by
  simp [State.servoMeasure, State.ppsAt, hr, href, hedge]

/-- SERVO_MEASURE that finds the offset e0. The offset is a variable here, so that no unfolding computes the nearest second of a time. -/
theorem servoMeasure_steps (ht : s.timed = true) {e0 : Int} (hm : s.servoMeasure = s.measure e0) (href : s.refSrc = 1)
    (hc : s.commitPending 0x018 = false) (hfar : 2 ^ s.rf (aTIME 0x20) 11 8 * 1000 * 256 < (e0 + s.time.adj).natAbs) :
    let e := e0 + s.time.adj
    let s2 := { s.setReg (aTIME 0x4C) (BitVec.ofNat 32 (scode 32 (clampInt (-2147483648) 2147483647 e))) with
      time := { s.time with adj := 0, refLost := false, good := 0 } }
    Answers .servoMeasure s ((if s.quality = qUNSET then s2 else s2.setQuality qTRACKING).requestStep (.byUnits (-e))) :=
  Answers.timed (f := State.servoMeasure) rfl ht (hm.trans (State.measure_far href hc hfar))

theorem servoMeasure_steers (ht : s.timed = true) {e0 : Int} (hm : s.servoMeasure = s.measure e0) (href : s.refSrc = 1)
    (hc : s.commitPending 0x018 = false) (hnear : (e0 + s.time.adj).natAbs ≤ 2 ^ s.rf (aTIME 0x20) 11 8 * 1000 * 256) :
    let e := e0 + s.time.adj
    let t := s.measure e0
    let f := clampRat (-maxRate) maxRate (s.time.f - (e : Rat) / 256 / (256 * (s.servoInterval : Rat)))
    Answers .servoMeasure s t ∧ t.time.f = f ∧ t.time.r = clampRat (-maxRate) maxRate (f - (e : Rat) / 256 / (16 * (s.servoInterval : Rat))) ∧
      t.time.good = (if e.natAbs ≤ 2 ^ s.rf (aTIME 0x20) 19 16 * 256 then s.time.good + 1 else 0) ∧
      t.quality = (if 16 ≤ t.time.good then qLOCKED else qTRACKING) ∧ t.time.now = s.time.now := by
  intro e t f
  obtain ⟨hf, hrate, hgood, hq, hnow⟩ := State.measure_near_shows href hc hnear
  exact ⟨Answers.timed (f := State.servoMeasure) rfl ht hm, hf, hrate, hgood, hgood ▸ hq, hnow⟩

/-! ### The loss of the reference (R173) -/

/-- The reference is lost, and no commit waits for it. -/
def State.heldOver (s : State) : State :=
  (((({ s with time := { s.time with refLost := true, good := 0, r := s.time.f } }).showRate).setErr 0x018 16).setQuality qHOLDOVER)

/-- HOLDOVER with f held, and REF_LOST in PAGE_ERR. -/
theorem State.heldOver_shows (s : State) : s.heldOver.time.refLost = true ∧ s.heldOver.time.good = 0 ∧ s.heldOver.time.r = s.time.f ∧
    s.heldOver.time.f = s.time.f ∧ s.heldOver.rf aTIME_STAT 3 0 = qHOLDOVER ∧ s.heldOver.rb (pg 0x018 0x00C) 16 = true := by
  let u := ({ s with time := { s.time with refLost := true, good := 0, r := s.time.f } } : State).showRate
  have hu : s.heldOver = (u.setErr 0x018 16).setQuality qHOLDOVER := rfl
  have htime : (u.setErr 0x018 16).time = { s.time with refLost := true, good := 0, r := s.time.f } := State.setErr_time u 0x018 16
  rw [hu]
  refine ⟨?_, ?_, ?_, ?_, ?_, ?_⟩
  · rw [State.refLost_setQuality, htime]
  · rw [State.good_setQuality, htime]
  · rw [State.r_setQuality, htime]
  · rw [State.f_setQuality, htime]
  · exact State.quality_setQuality _ (by decide)
  · rw [State.rb, State.reg_setQuality _ _ (by decide) (by decide)]
    exact State.setErr_reads u 0x018 (by decide)

theorem State.loseReference_idle (hc : s.commitPending 0x018 = false) : s.loseReference = s.heldOver := by
  have hstat : s.heldOver.commitPending 0x018 = s.commitPending 0x018 := by
    rw [State.commitPending, State.rb, State.heldOver, State.reg_setQuality _ _ (by decide) (by decide),
      State.reg_setErr _ _ _ (by decide) (by decide)]
    exact congrArg (bit · 1) (State.reg_setReg_ne _ _ _ _ (by decide))
  exact if_neg (by rw [← State.heldOver, hstat, hc]; decide)

end

/-- Settles O27: each command in the case that its hypotheses name; a commit by its operation, a measurement by the size of its offset. -/
theorem timeSteps : Obligations.TimeSteps := by
  refine ⟨fun s ha hp hw hop => ?_, fun s ha hp hw hop => ?_, fun s ha hw => ?_, fun s v ht hstep => ?_, fun s d ht hstep => ?_,
    fun s ht hr href hedge hc => ?_, fun s ht hr href hedge hc => ?_, fun s ht hr href => ?_, fun s ht hr hlost hc => ?_⟩
  · have heq := State.timeTransfer_step hop
    have hanswer : Answers .timeStepCommit s s.timeTransfer := Answers.live (f := (·.timeOp 1)) rfl ha (State.timeOp_transfers hp hw hop)
    have htime : s.opCleared.time = s.time := s.opCleared_same.time
    refine ⟨hanswer, ?_, s.op_timeTransfer, ?_, ?_⟩
    · rw [heq, State.requestStep, htime]; rfl
    · rw [heq]; exact s.op_opCleared.2
    · rw [heq]; exact s.opCleared_same.with_time _
  · have htime : s.opCleared.time = s.time := s.opCleared_same.time
    refine ⟨Answers.live (f := (·.timeOp 2)) rfl ha (State.timeOp_transfers hp hw hop), s.op_timeTransfer, fun href => ?_, fun href hadj => ?_⟩
    · rw [State.timeTransfer_slew_ref hop href, htime]
    · rw [State.timeTransfer_slew_free hop href, if_neg hadj, htime]; rfl
  · exact ⟨Answers.live (f := (·.timeOp 1)) rfl ha (State.timeOp_waits hw 1), Answers.live (f := (·.timeOp 2)) rfl ha (State.timeOp_waits hw 2)⟩
  · intro s1 s2
    have heq := State.applyStep_toValue hstep
    refine ⟨fun href => ?_, fun href hq => ?_, fun href hq => ?_⟩
    · exact Answers.timed (f := State.applyStep) rfl ht (heq.trans (if_pos href))
    · exact Answers.timed (f := State.applyStep) rfl ht (heq.trans ((if_neg href).trans (if_pos hq)))
    · exact Answers.timed (f := State.applyStep) rfl ht (heq.trans ((if_neg href).trans (if_neg hq)))
  · intro s1 s2 s3
    have heq := State.applyStep_byUnits hstep
    refine ⟨fun h => ?_, fun hr hq => ?_⟩
    · exact Answers.timed (f := State.applyStep) rfl ht (heq.trans (if_pos (by simpa using h)))
    · have hoff : ¬ (s2.servoRuns || s2.quality == qUNSET) = true := by simp [hr, hq]
      exact Answers.timed (f := State.applyStep) rfl ht (heq.trans (if_neg hoff))
  · exact fun hfar => servoMeasure_steps ht (State.servoMeasure_rising hr href hedge) href hc hfar
  · exact fun hnear => servoMeasure_steers ht (State.servoMeasure_rising hr href hedge) href hc hnear
  · exact ⟨fun hedge => Answers.timed (f := State.servoMeasure) rfl ht (State.servoMeasure_rising hr href hedge),
      fun hedge => Answers.timed (f := State.servoMeasure) rfl ht (State.servoMeasure_falling hr href hedge)⟩
  · refine ⟨Answers.timed (f := fun t => if t.servoRuns && !t.time.refLost then t.loseReference else t) rfl ht ?_, s.heldOver_shows⟩
    rw [if_pos (by simp [hr, hlost]), State.loseReference_idle hc]
    rfl

end Sys2Proof.Machine
end

section
/-! Edge units: the queue, ENABLE and group commits (R178 to R184). -/

namespace Sys2Proof.Machine

/-! ### Writes of an EDGE page -/

/-- An accepted write of an EDGE register stores its value and acts as R178 to R181 say. -/
theorem Accepted.edge {i : Instr} {s : State} {r : ReqId} {p : BitVec 8} {o : Nat} {v : Word} (h : exec i s = s.actWrite r (aEDGE p.toNat o) v)
    (ho : o < 0x1000) (halign : o % 4 = 0) (hctl : o ≠ 0x004) (hc : Accepted s r (aEDGE p.toNat o) v) :
    Answers i s ((s.storeWrite (aEDGE p.toNat o) v false).edgeWritten p.toNat r.toNat o (s.stored (aEDGE p.toNat o)) v) := by
  have hp : p.toNat < 0x100 := p.isLt
  have hoff : aEDGE p.toNat o % 0x1000 = o := aEDGE_offset ho
  have hanswer := hc.stored h (by unfold aEDGE pg; omega) (by rwa [hoff])
  have hpin : 0x100 + p.toNat - 0x100 = p.toNat := by omega
  simpa only [State.blockWritten, aEDGE_page ho, hoff, pageInfo_edge hp, hpin] using hanswer

theorem Accepted.eqLo {s : State} {r : ReqId} {p : BitVec 8} {v : Word} (hc : Accepted s r (aEDGE p.toNat 0x28) v) :
    Answers (.eqLo r p v) s ((s.storeWrite (aEDGE p.toNat 0x28) v false).stageLow p.toNat r.toNat v) :=
  hc.edge (i := .eqLo r p v) rfl (by decide) (by decide) (by decide)

theorem Accepted.eqHi {s : State} {r : ReqId} {p : BitVec 8} {v : Word} (hc : Accepted s r (aEDGE p.toNat 0x2C) v) :
    Answers (.eqHi r p v) s ((s.storeWrite (aEDGE p.toNat 0x2C) v false).pushEntry p.toNat r.toNat v) :=
  hc.edge (i := .eqHi r p v) rfl (by decide) (by decide) (by decide)

/-- Only the block of an EDGE page has its ENABLE written (R38). -/
theorem State.heldMask_edgeCtl (s : State) {p : Nat} (hp : p < 0x100) : s.heldMask (pg (0x100 + p) 0x004) = 1 := by
  have hpage : pg (0x100 + p) 0x004 / 0x1000 = 0x100 + p := by unfold pg; omega
  have hoff : pg (0x100 + p) 0x004 % 0x1000 = 0x004 := by unfold pg; omega
  have hkind := pageInfo_edge hp
  have hspec : regSpec (pg (0x100 + p) 0x004) = some { off := 0x004, rw := 0x1, w1s := 0x6 } := by
    simp only [regSpec, hpage, hoff, hkind]
    rfl
  simp [State.heldMask, hspec, hpage, hoff, hkind, pageHasEnable]

/-- A change of ENABLE starts or stops the unit, and its pad follows (R180, R183). -/
theorem State.enableChanged_edge (s : State) {p : Nat} (hp : p < 0x100) (on : Bool) : s.enableChanged (0x100 + p) on =
    (if on then (s.unitEnabled (0x100 + p) 0xFFFF).edgeStarts p else s.edgeStops p).settlePin p := by
  have hpin : 0x100 + p - 0x100 = p := by omega
  have hkind := pageInfo_edge hp
  unfold State.enableChanged
  generalize 0x100 + p = k at hpin hkind ⊢
  rw [hkind]
  subst hpin
  cases on
  · simp only [Bool.false_eq_true, if_false]
  · simp only [if_true]

/-- A write of ENABLE alone that changes it. -/
theorem State.writeCtl_edge_changes (s : State) {p : Nat} {v : Word} {on : Bool} (hp : p < 0x100) (hwas : s.pageEnable (0x100 + p) = !on)
    (hen : bit v 0 = on) (hcommit : bit v 1 = false) (hlock : bit v 2 = false) :
    s.writeCtl (0x100 + p) v false = (s.setB (pg (0x100 + p) 0x004) 0 on).enableChanged (0x100 + p) on := by
  have hchange : (s.heldMask (pg (0x100 + p) 0x004) != 0 && !false && s.pageEnable (0x100 + p) != bit v 0) = true := by
    simp [s.heldMask_edgeCtl hp, hwas, hen]
  unfold State.writeCtl
  dsimp only
  rw [if_pos hchange, hcommit, hlock, hen, if_neg Bool.false_ne_true, if_neg Bool.false_ne_true]

/-- A write of ENABLE = 0 alone to a disabled unit empties its queue (R180, log 135). -/
theorem State.writeCtl_edge_disabled (s : State) {p : Nat} {v : Word} (hp : p < 0x100) (hoff : s.pageEnable (0x100 + p) = false)
    (hen : bit v 0 = false) (hcommit : bit v 1 = false) (hlock : bit v 2 = false) : s.writeCtl (0x100 + p) v false = s.edgeEmpty p := by
  simp [State.writeCtl, hoff, hen, hcommit, hlock, pageInfo_edge hp]

section
variable {i : Instr} {s : State} {r : ReqId} {p : BitVec 8} {v : Word}

/-- EDGE_ENABLE and EDGE_DISABLE without COMMIT and LOCK: a change of ENABLE. -/
theorem Accepted.edgeCtl_changes {on : Bool} (h : exec i s = s.actWrite r (pg (0x100 + p.toNat) 0x004) (setBit v 0 on))
    (hc : Accepted s r (pg (0x100 + p.toNat) 0x004) (setBit v 0 on)) (hwas : s.pageEnable (0x100 + p.toNat) = !on)
    (hcommit : bit v 1 = false) (hlock : bit v 2 = false) :
    Answers i s ((s.setB (pg (0x100 + p.toNat) 0x004) 0 on).enableChanged (0x100 + p.toNat) on) := by
  have hanswer := hc.ctl h
  rwa [State.writeCtl_edge_changes s p.isLt hwas (bit_setBit_same _ _ _ (by decide))
    ((bit_setBit _ _ 1 _ (by decide)).trans hcommit) ((bit_setBit _ _ 2 _ (by decide)).trans hlock)] at hanswer

/-- EDGE_DISABLE of a unit that is disabled. -/
theorem Accepted.edgeCtl_disabled (h : exec i s = s.actWrite r (pg (0x100 + p.toNat) 0x004) (setBit v 0 false))
    (hc : Accepted s r (pg (0x100 + p.toNat) 0x004) (setBit v 0 false)) (hoff : s.pageEnable (0x100 + p.toNat) = false)
    (hcommit : bit v 1 = false) (hlock : bit v 2 = false) : Answers i s (s.edgeEmpty p.toNat) := by
  have hanswer := hc.ctl h
  rwa [State.writeCtl_edge_disabled s p.isLt hoff (bit_setBit_same _ _ _ (by decide))
    ((bit_setBit _ _ 1 _ (by decide)).trans hcommit) ((bit_setBit _ _ 2 _ (by decide)).trans hlock)] at hanswer

end

/-! ### Group commits (R184) -/

/-- GRP of CTL of pin p names a group that v commits. -/
def State.inGroup (s : State) (v : Word) (p : Nat) : Bool := s.rf (aEDGE p 0x20) 31 27 ≠ 0 && bit v (s.rf (aEDGE p 0x20) 31 27)

/-- A write of GRP_COMMIT requests the commits of the pins in its groups. -/
theorem State.blockWritten_grpCommit (s : State) (r : Nat) (old v : Word) : s.blockWritten (pg 0x210 0x30) r old v false =
    ((List.range 256).filter (s.inGroup v)).foldl (fun t p => t.requestCommit (0x100 + p)) s := rfl

theorem State.inGroup_storeWrite (s : State) (v w : Word) (keep : Bool) {a p : Nat} (h : a ≠ aEDGE p 0x20) :
    (s.storeWrite a w keep).inGroup v p = s.inGroup v p := by
  rw [State.inGroup, State.rf, s.reg_storeWrite_ne w keep h.symm, ← State.rf, ← State.inGroup]

/-! ### The queue -/

theorem State.stage_stageLow (s : State) (p r : Nat) (w : Word) : SMap.get (fun _ => 0) ((s.stageLow p r w).edgeUnit p).stage r = w := by
  rw [State.stageLow, State.edgeUnit_setEdge_same, SMap.get_set, if_pos rfl]

theorem State.queue_stageLow (s : State) (p r : Nat) (w : Word) : ((s.stageLow p r w).edgeUnit p).queue = (s.edgeUnit p).queue := by
  rw [State.stageLow, State.edgeUnit_setEdge_same]

theorem State.level_stageLow (s : State) (p r : Nat) (w : Word) : ((s.stageLow p r w).edgeUnit p).level = (s.edgeUnit p).level := by
  rw [State.stageLow, State.edgeUnit_setEdge_same]

section
variable {s : State} {p : Nat} {q : QueueEntry} {l : List QueueEntry}

/-- A head that is not late is placed at its time. -/
theorem State.queueEdge_due (hm : s.edgeMode p = 1) (hon : s.edgeOn p = true) (hq : (s.edgeUnit p).queue = q :: l)
    (hlate : (s.edgeUnit p).headLate = false) : s.queueEdge p = ((s.reach q.time).placeEdge p q.time q.level).queuePop p := by
  simp [State.queueEdge, hm, hon, hq, hlate]

/-- A late head sets LATE_EDGE, and is placed now unless LATE_DROP is 1. -/
theorem State.queueEdge_late (hp : p < 0x100) (hm : s.edgeMode p = 1) (hon : s.edgeOn p = true) (hq : (s.edgeUnit p).queue = q :: l)
    (hlate : (s.edgeUnit p).headLate = true) : s.queueEdge p =
      if s.rb (aEDGE p 0x20) 16 then (s.setErr (0x100 + p) 16).queuePop p
      else ((s.setErr (0x100 + p) 16).placeEdge p s.time.now q.level).queuePop p := by
  have hother : aEDGE p 0x20 ≠ pg (0x100 + p) 0x00C := by unfold aEDGE pg; omega
  have hdrop : (s.setErr (0x100 + p) 16).rb (aEDGE p 0x20) 16 = s.rb (aEDGE p 0x20) 16 := by
    rw [State.rb, s.reg_setErr _ _ (evtPage_edge hp (by decide)) hother, State.rb]
  simp [State.queueEdge, hm, hon, hq, hlate, State.edgeErr, hdrop]

end

/-- Settles O29: a write by the register it names, and the head of the queue by whether it is late. -/
theorem edgeQueue : Obligations.EdgeQueue := by
  refine ⟨fun s r p v hc => ?_, fun s r p v hc => ?_, fun s p q l ht hm hon hq => ⟨fun hlate => ?_, fun hlate hdrop => ?_, fun hlate hdrop => ?_⟩,
    fun s r p v hc hon hcommit hlock => ?_, fun s r p v hc hoff hcommit hlock => ?_, fun s r p v hc hoff hcommit hlock => ?_, fun s r v hc => ?_⟩
  · have hedge : (s.storeWrite (aEDGE p.toNat 0x28) v false).edge = s.edge := (s.storeWrite_same _ _ _).edge
    exact ⟨hc.eqLo, State.stage_stageLow _ _ _ _, by rw [State.queue_stageLow, State.edgeUnit_congr hedge],
      by rw [State.level_stageLow, State.edgeUnit_congr hedge],
      fun q hq => (State.edgeUnit_setEdge_ne _ _ hq).trans (State.edgeUnit_congr hedge q)⟩
  · have hanswer := hc.eqHi
    rw [State.pushEntry, State.edgeUnit_congr (s.storeWrite_same _ _ _).edge, (s.storeWrite_same _ _ _).time] at hanswer
    exact hanswer
  · exact Answers.timed (f := (·.queueEdge p.toNat)) rfl ht (State.queueEdge_due hm hon hq hlate)
  · exact Answers.timed (f := (·.queueEdge p.toNat)) rfl ht ((State.queueEdge_late p.isLt hm hon hq hlate).trans (if_pos hdrop))
  · exact Answers.timed (f := (·.queueEdge p.toNat)) rfl ht ((State.queueEdge_late p.isLt hm hon hq hlate).trans (if_neg (by simp [hdrop])))
  · have hanswer := hc.edgeCtl_changes (i := .edgeDisable r p v) rfl hon hcommit hlock
    rwa [State.enableChanged_edge _ p.isLt] at hanswer
  · exact ⟨hc.edgeCtl_disabled (i := .edgeDisable r p v) rfl hoff hcommit hlock, s.queue_edgeEmpty _, fun q hq => s.edgeUnit_setEdge_ne _ hq⟩
  · have hanswer := hc.edgeCtl_changes (i := .edgeEnable r p v) rfl hoff hcommit hlock
    rwa [State.enableChanged_edge _ p.isLt] at hanswer
  · have hanswer := hc.stored (c := .grpCommit r v) rfl (by decide) (by decide)
    have hgroups : (s.storeWrite (pg 0x210 0x30) v false).inGroup v = s.inGroup v :=
      funext fun p => s.inGroup_storeWrite v v false (by unfold aEDGE pg; omega)
    rwa [State.blockWritten_grpCommit, hgroups] at hanswer

end Sys2Proof.Machine
end

section
/-! PWM and capture (R183, R184, R186, R187). -/

namespace Sys2Proof.Machine

/-! ### PWM -/

section
variable {s : State} {p : Nat}

/-- The rising edge of a period is placed once, where RISE lies in the period. -/
theorem State.pwmRise_places {st : DevTime} (hst : (s.edgeUnit p).pwmStart = some st) (hdone : (s.edgeUnit p).riseDone = false)
    (hin : s.edgeRise p < s.edgePer p) : let t := st + BitVec.ofNat 72 (s.edgeRise p)
    s.pwmRise p = ((s.reach t).setEdge p { s.edgeUnit p with riseDone := true }).placeEdge p t (s.edgeRise p != s.edgeFall p) := by
  simp [State.pwmRise, hst, hdone, hin]

theorem State.pwmFall_places {st : DevTime} (hst : (s.edgeUnit p).pwmStart = some st) (hdone : (s.edgeUnit p).fallDone = false)
    (hin : s.edgeFall p < s.edgePer p) : let t := st + BitVec.ofNat 72 (s.edgeFall p)
    s.pwmFall p = ((s.reach t).setEdge p { s.edgeUnit p with fallDone := true }).placeEdge p t false := by
  simp [State.pwmFall, hst, hdone, hin]

/-- At the boundary n of its periods a unit takes the commit that waits, and begins the next period unless its PER is now 0. -/
theorem State.pwmPeriodStart_boundary {n : DevTime} (hon : s.edgeOn p = true) (hm : s.edgeMode p = 2) (hn : (s.edgeUnit p).pwmNext = some n) :
    let s1 := (s.pwmFinish p).reach n
    let s2 := if s1.commitPending (0x100 + p) then s1.edgeTransfer p else s1
    s.pwmPeriodStart p = if s2.edgePer p = 0 then s2 else s2.setEdge p { s2.edgeUnit p with
      pwmStart := some n, pwmNext := some (n + BitVec.ofNat 72 (s2.edgePer p)), riseDone := false, fallDone := false } := by
  simp only [State.pwmPeriodStart, hon, hm, hn, and_self, if_true]

/-! ### Captures -/

/-- The capture of an edge at the present instant. -/
def State.captureNow (s : State) (p : Nat) (falling : Bool) : Capture :=
  { time := s.time.now - s.inOfs p, falling := falling, quality := s.quality, lost := (s.edgeUnit p).captureLost }

/-- The capture enters the FIFO. -/
def State.captureStored (s : State) (p : Nat) (falling : Bool) : State := s.setEdge p { s.edgeUnit p with
  captures := (s.edgeUnit p).captures ++ [s.captureNow p falling], lastCapture := some s.time.now, captureLost := false }

/-- The edge is counted as lost, in CAP_LOST and in PAGE_ERR. -/
def State.captureMissed (s : State) (p : Nat) : State :=
  ((s.setEdge p { s.edgeUnit p with captureLost := true }).satAdd (aEDGE p 0x5C) 31 0 1).edgeErr p 18

/-- The edge comes too soon after the one recorded before it. -/
def State.captureSoon (s : State) (p : Nat) : Bool := (s.edgeUnit p).lastCapture.any fun c => shortSpacing s.time.now c

theorem State.captureEdge_selected {falling : Bool} (hsel : s.capSelects p falling = true) : s.captureEdge p falling =
    if s.captureSoon p ∨ 16 ≤ (s.edgeUnit p).captures.length then s.captureMissed p
    else if (s.edgeUnit p).captures.isEmpty ∧ s.rb (aEDGE p 0x20) 20 then
      (s.captureStored p falling).raiseAt (128 + p / 4) s.time.now
    else s.captureStored p falling := by
  unfold State.captureEdge State.captureSoon State.captureMissed State.captureStored State.captureNow
  rw [if_pos hsel]
  dsimp only
  cases (s.edgeUnit p).lastCapture
  · simp only [Option.any_none]
  · simp only [Option.any_some]

/-- The FIFO holds the capture, and no other unit changes, whether or not the first capture raises its event. -/
theorem State.captureStored_shows (falling : Bool) (e : Nat) (c : Prop) [Decidable c] :
    let t := if c then (s.captureStored p falling).raiseAt e s.time.now else s.captureStored p falling
    (t.edgeUnit p).captures = (s.edgeUnit p).captures ++ [s.captureNow p falling] ∧ (t.edgeUnit p).captureLost = false ∧
      ∀ q, q ≠ p → t.edgeUnit q = s.edgeUnit q := by
  intro t
  have hedge : t.edge = (s.captureStored p falling).edge := by
    unfold t
    split
    · exact State.raiseAt_edge _ _ _
    · rfl
  refine ⟨?_, ?_, fun q hq => ?_⟩
  · rw [State.edgeUnit_congr hedge, State.captureStored, State.edgeUnit_setEdge_same]
  · rw [State.edgeUnit_congr hedge, State.captureStored, State.edgeUnit_setEdge_same]
  · exact (State.edgeUnit_congr hedge q).trans (State.edgeUnit_setEdge_ne s _ hq)

/-- A lost edge leaves the FIFO as it was, and shows in the next capture and in PAGE_ERR. -/
theorem State.captureMissed_shows : ((s.captureMissed p).edgeUnit p).captures = (s.edgeUnit p).captures ∧
    ((s.captureMissed p).edgeUnit p).captureLost = true ∧ (s.captureMissed p).rb (pg (0x100 + p) 0x00C) 18 = true ∧
      ∀ q, q ≠ p → (s.captureMissed p).edgeUnit q = s.edgeUnit q := by
  have hedge : (s.captureMissed p).edge = (s.setEdge p { s.edgeUnit p with captureLost := true }).edge := State.setErr_edge _ _ _
  refine ⟨?_, ?_, State.setErr_reads _ _ (by decide), fun q hq => ?_⟩
  · rw [State.edgeUnit_congr hedge, State.edgeUnit_setEdge_same]
  · rw [State.edgeUnit_congr hedge, State.edgeUnit_setEdge_same]
  · exact (State.edgeUnit_congr hedge q).trans (State.edgeUnit_setEdge_ne s _ hq)

/-- A read of CAP_LO that no snapshot serves takes the oldest capture and latches its other words (R47, R186). -/
theorem State.readReg_capLo {r : Nat} {c : Capture} {l : List Capture} (hp : p < 0x100) (hsnap : s.snap (localSnap r (aEDGE p 0x50)) = none)
    (hfifo : (s.edgeUnit p).captures = c :: l) : s.readReg r (aEDGE p 0x50) =
      (c.words.1, ((s.setEdge p { s.edgeUnit p with captures := l }).setSnap (localSnap r (aEDGE p 0x50 + 4)) c.words.2.1).setSnap
        (localSnap r (aEDGE p 0x50 + 8)) c.words.2.2) := by
  have hpage : aEDGE p 0x50 / 0x1000 = 0x100 + p := aEDGE_page (by decide)
  have hoff : aEDGE p 0x50 % 0x1000 = 0x50 := aEDGE_offset (by decide)
  have halign : aEDGE p 0x50 % 4 = 0 := by unfold aEDGE pg; omega
  have hword : aEDGE p 0x50 / 4 * 4 = aEDGE p 0x50 := by omega
  simp [State.readReg, hpage, hoff, halign, hword, pageInfo_edge hp, hsnap, State.captureTake, hfifo]

end

/-- Settles O30: PWM by the boundary or the edge that comes, a capture by the room for it, and a read of CAP_LO by the FIFO. -/
theorem pwmAndCapture : Obligations.PwmAndCapture := by
  refine ⟨fun s p n ht hon hm hn => ?_, fun s p st ht hst => ⟨fun hdone hin => ?_, fun hdone hin => ?_⟩,
    fun s p falling e ht he hsel => ⟨fun hsoon hroom => ?_, fun hlost => ?_⟩, fun s r p c l hr hsnap hfifo => ?_⟩
  · intro s1 s2
    have heq := State.pwmPeriodStart_boundary hon hm hn
    exact ⟨fun hper => Answers.timed (f := (·.pwmPeriodStart p.toNat)) rfl ht (heq.trans (if_pos hper)),
      fun hper => Answers.timed (f := (·.pwmPeriodStart p.toNat)) rfl ht (heq.trans (if_neg hper))⟩
  · exact Answers.timed (f := (·.pwmRise p.toNat)) rfl ht (State.pwmRise_places hst hdone hin)
  · exact Answers.timed (f := (·.pwmFall p.toNat)) rfl ht (State.pwmFall_places hst hdone hin)
  · have hapart : s.captureSoon p.toNat = false := hsoon
    have hstored : ¬ (s.captureSoon p.toNat = true ∨ 16 ≤ (s.edgeUnit p.toNat).captures.length) := by simp [hapart, hroom]
    refine ⟨Answers.timed (f := fun t => (t.reach e).captureEdge p.toNat falling) rfl ht ?_, State.captureStored_shows falling _ _⟩
    rw [State.reach_past he, State.captureEdge_selected hsel, if_neg hstored]
    rfl
  · refine ⟨Answers.timed (f := fun t => (t.reach e).captureEdge p.toNat falling) rfl ht ?_, State.captureMissed_shows⟩
    rw [State.reach_past he, State.captureEdge_selected hsel]
    exact if_pos hlost
  · intro t
    have hread := State.readReg_capLo (r := r.toNat) p.isLt hsnap hfifo
    have ht : t.edge = (s.setEdge p.toNat { s.edgeUnit p.toNat with captures := l }).edge := by unfold t; rw [hread]; rfl
    refine ⟨Answers.act (f := (·.localRead r.toNat (aEDGE p.toNat 0x50))) rfl (s.localRead_readable hr _), ?_, ?_, rfl, fun q hq => ?_⟩
    · exact congrArg Prod.fst hread
    · rw [State.edgeUnit_congr ht, State.edgeUnit_setEdge_same]
    · exact (State.edgeUnit_congr ht q).trans (State.edgeUnit_setEdge_ne s _ hq)

end Sys2Proof.Machine
end

section
/-! Calibration of the edge lines (R188 to R190). -/

namespace Sys2Proof.Machine

/-! ### Background cycles -/

section
variable {s : State} {i : Nat}

/-- A cycle that falls due begins, or waits for the one before it to end. -/
theorem State.calCycleStart_due (hen : s.rb (aCAL i 0x20) 16 = true) (hboot : s.rb (aCAL i 0x24) 31 = true) {s1 : State}
    (hs1 : s1 = match (s.calEngine i).startedAt with | some t => s.reach (t + ns (1000000 * s.calPeriod i)) | none => s) :
    s.calCycleStart i = if (s1.calEngine i).active then s1.setCal i { s1.calEngine i with due := true } else s1.calBegin i := by
  subst hs1
  exact if_neg (by simp [hen, hboot])

end

section
variable {s : State} {p : Nat}

/-- The line of the pin whose turn it is has been handled. -/
def State.lineHandled (s : State) (p : Nat) : State :=
  let c := s.calEngine (p / 64)
  (s.setCal (p / 64) { c with handled := c.handled + 1 }).setF (aCAL (p / 64) 0x24) 21 16 (min 63 (c.handled + 1))

/-- The calibration of the line whose turn it is: one that fails, or has failed, stays out of service, and any other is armed. -/
theorem State.lineCalDone_turn (hact : (s.calEngine (p / 64)).active = true) (hturn : (s.calEngine (p / 64)).handled = p % 64) (ok : Bool) :
    let s1 := s.lineHandled p
    s.lineCalDone p ok =
      if !ok then ((s1.setEdge p { s1.edgeUnit p with idleFailed := true }).setErr (0x210 + p / 64) 16).calFinish (p / 64)
      else if (s1.edgeUnit p).idleFailed then s1.calFinish (p / 64)
      else (s1.setEdge p { s1.edgeUnit p with armed := some s1.time.now }).calFinish (p / 64) :=
  if_neg (by simp [hact, hturn])

/-! ### Line swaps -/

/-- An output edge within 2 ns of the present instant. -/
def State.edgeNear (s : State) (p : Nat) : Bool :=
  (s.outEdges p).any fun e => (e - s.time.now).toNat ≤ 512 || (s.time.now - e).toNat ≤ 512

/-- The idle line of pin p has taken over. -/
def State.lineSwapped (s : State) (p : Nat) : State :=
  ((s.setEdge p { s.edgeUnit p with
    armed := none, line := !(s.edgeUnit p).line, calValid := true, calLate := false, calAt := some s.time.now, calCycles := 0 }).setB
      (pg (0x100 + p) 0x00C) 19 false).calFinish (p / 64)

/-- An armed swap: 1 ms after it was armed it is abandoned; before, it takes place unless an output edge is near. -/
theorem State.lineSwap_armed {t : DevTime} (harmed : (s.edgeUnit p).armed = some t) : s.lineSwap p =
    if laterThan s.time.now (t + ns 1000000) then s.swapDrop p else if s.edgeNear p then s else s.lineSwapped p := by
  simp only [State.lineSwap, harmed]
  rfl

theorem State.swapAbandon_armed {t : DevTime} (harmed : (s.edgeUnit p).armed = some t) :
    s.swapAbandon p = (s.reach (t + ns 1000000)).swapDrop p := by
  simp only [State.swapAbandon, harmed]

end

/-! ### Boot calibration -/

/-- The lines of page i are calibrated, and CAL_DONE reads 1. -/
def State.linesBooted (s : State) (i : Nat) : State :=
  ((calPins i).foldl (fun t p => t.setEdge p { t.edgeUnit p with calAt := some t.time.now, calValid := false, calCycles := 0 }) s).setB
    (aCAL i 0x24) 31 true

section
variable {s : State} {i : Nat}

theorem State.bootCalDone_eq (s : State) (i : Nat) : s.bootCalDone i =
    if s.rb (aCAL i 0x24) 31 ∨ !s.time.running then s
    else if (s.linesBooted i).rb (aCAL i 0x20) 16 then (s.linesBooted i).calBegin i else s.linesBooted i := rfl

theorem State.rb_calBegin (s : State) (i : Nat) : (s.calBegin i).rb (aCAL i 0x24) 31 = s.rb (aCAL i 0x24) 31 := by
  rw [State.rb, State.calBegin, State.reg_setF, if_pos rfl]
  exact bit_setFld _ _ _ _ _ (by decide)

/-- The boot calibration of a page marks it done. -/
theorem State.bootCalDone_marks (hrun : s.time.running = true) (hboot : s.rb (aCAL i 0x24) 31 = false) :
    (s.bootCalDone i).rb (aCAL i 0x24) 31 = true := by
  have hdone : (s.linesBooted i).rb (aCAL i 0x24) 31 = true := State.rb_setB_same _ _ _ _ (by decide)
  rw [State.bootCalDone_eq, if_neg (by simp [hrun, hboot])]
  split
  · exact (State.rb_calBegin _ _).trans hdone
  · exact hdone

theorem State.power_bootCalDone (s : State) (i : Nat) : (s.bootCalDone i).power = s.power := by
  have hlines : (s.linesBooted i).power = s.power := by
    rw [State.linesBooted, State.setB_power]
    exact List.foldlRecOn (motive := fun t : State => t.power = s.power) (calPins i) _ rfl fun t ht p _ => ht
  have hbegin : ((s.linesBooted i).calBegin i).power = s.power := by
    rw [State.calBegin, State.setF_power, State.setCal_power, hlines]
  rw [State.bootCalDone_eq]
  split
  · rfl
  · split
    · exact hbegin
    · exact hlines

/-- Where the loop group does not wait for the last page, BOOT_CAL_DONE is the calibration alone (R454). -/
theorem State.bootCalPage_notDue (hi : i < 4) (hdue : s.power.loopGroupDue = false) : s.bootCalPage i = s.bootCalDone i := by
  have hwait : (s.bootCalDone i).power.loopGroupDue = false := by rw [s.power_bootCalDone]; exact hdue
  have hpage : ¬ 4 ≤ i := by omega
  simp [State.bootCalPage, hpage, hwait]

end

/-- Settles O31: a cycle by whether one is under way, a line by its result, a swap by its age and the edges near it. -/
theorem edgeCalibration : Obligations.EdgeCalibration := by
  refine ⟨fun s i ht hen hboot => ?_, fun s p ht hact hturn => ?_, fun s p t ht harmed => ?_, fun s i ht hboot hdue => ?_⟩
  · intro s1
    have heq := State.calCycleStart_due hen hboot (s1 := s1) rfl
    exact ⟨fun hact => Answers.timed (f := (·.calCycleStart i.toNat)) rfl ht (heq.trans (if_pos hact)),
      fun hidle => Answers.timed (f := (·.calCycleStart i.toNat)) rfl ht (heq.trans (if_neg (by simp [hidle])))⟩
  · intro i c s1
    have heq := State.lineCalDone_turn hact hturn
    exact ⟨fun hgood => Answers.timed (f := (·.lineCalDone p.toNat true)) rfl ht
        ((heq true).trans ((if_neg (by decide)).trans (if_neg (ne_true_of_eq_false hgood)))),
      fun hbad => Answers.timed (f := (·.lineCalDone p.toNat true)) rfl ht ((heq true).trans ((if_neg (by decide)).trans (if_pos hbad))),
      Answers.timed (f := (·.lineCalDone p.toNat false)) rfl ht (heq false)⟩
  · intro near
    have heq := State.lineSwap_armed harmed
    refine ⟨fun hfresh hclear => ?_, fun hfresh hnear => ?_, fun hold => ?_, ?_⟩
    · have hfar : s.edgeNear p.toNat = false := hclear
      exact Answers.timed (f := (·.lineSwap p.toNat)) rfl ht (heq.trans ((if_neg (by simp [hfresh])).trans (if_neg (by simp [hfar]))))
    · exact Answers.timed (f := (·.lineSwap p.toNat)) rfl ht (heq.trans ((if_neg (by simp [hfresh])).trans (if_pos hnear)))
    · exact Answers.timed (f := (·.lineSwap p.toNat)) rfl ht (heq.trans (if_pos hold))
    · exact Answers.timed (f := (·.swapAbandon p.toNat)) rfl ht (State.swapAbandon_armed harmed)
  · have hrun : s.time.running = true := by simp only [State.timed, Bool.and_eq_true] at ht; exact ht.2
    exact ⟨Answers.timed (f := (·.bootCalPage i.toNat)) rfl ht (State.bootCalPage_notDue i.isLt hdue), State.bootCalDone_marks hrun hboot⟩

end Sys2Proof.Machine
end

section
/-! Sigma-delta channels (R196 to R203): start and stop, outputs, bits, trips and faults. -/

namespace Sys2Proof.Machine

/-! ### Writes of CH_CTL -/

/-- CH_CTL of channel c (R197). -/
def sdfCtlSpec (c : Nat) : RegSpec := { off := 0x100 + 0x40 * (c % 8), rw := 0x101, rwq := 0x676 }

theorem regSpec_sdfCtl {c : Nat} (h : c < 64) : regSpec (aSDF c 0) = some (sdfCtlSpec c) := by
  revert c; decide +kernel

/-- EN reads the value written. -/
theorem State.sdfEn_written (s : State) {c : Nat} (hc : c < 64) (v : Word) : (s.storeWrite (aSDF c 0) v false).sdfEn c = bit v 0 := by
  have hspec := regSpec_sdfCtl hc
  have hkind : (pageInfo (aSDF c 0 / 0x1000)).kind ≠ .bough := by rw [aSDF_page (by decide), pageInfo_sdf (by omega)]; decide
  have hctl : aSDF c 0 % 0x1000 ≠ 0x004 := by rw [aSDF_offset (by decide)]; omega
  have hheld : s.heldMask (aSDF c 0) = 0x101 ||| 0 ||| 0x676 := State.heldMask_eq hspec hctl hkind
  exact State.rb_storeWrite hspec (by decide) (by rw [hheld]; decide) (show (0x101 ||| 0x676).testBit 0 = true by decide) (Nat.zero_testBit 0)

/-- A channel that runs under a reserved encoding is in case 2 of R56; then it follows EN, and its clock pin with it. -/
def State.sdfCtlActs (s : State) (c : Nat) : State :=
  let s1 := if (s.sdfChan c).started && s.sdfReserved c then s.markUndefined 2 (sdfPage c) (c % 8) else s
  (s1.sdfFollow c).settlePin (s1.sdfClkPin c)

theorem State.blockWritten_sdfCtl (s : State) {c : Nat} (hc : c < 64) (r : Nat) (old v : Word) : s.blockWritten (aSDF c 0) r old v false =
    (if s.sdfEn c && !bit old 0 then s.unitEnabled (sdfPage c) (c % 8) else s).sdfCtlActs c := by
  have hoff : ¬ 0x100 + 0x40 * (c % 8) + 0 < 0x100 := by omega
  have hchan : 8 * (0x200 + c / 8 - 0x200) + (0x100 + 0x40 * (c % 8) + 0 - 0x100) / 0x40 = c := by omega
  have hreg : (0x100 + 0x40 * (c % 8) + 0) % 0x40 = 0 := by omega
  have hkind : (pageInfo (0x200 + c / 8)).kind = .sdf := pageInfo_sdf (by omega)
  simp only [State.blockWritten, State.sdfWritten, aSDF_page (show 0 < 0x40 by decide), aSDF_offset (show 0 < 0x40 by decide), hkind, if_neg hoff,
    hchan, hreg]
  rfl

/-- An accepted write of CH_CTL stores its value, and the channel follows. -/
theorem Accepted.sdfCtl {i : Instr} {s : State} {r : ReqId} {c : BitVec 6} {v : Word} (h : exec i s = s.actWrite r (aSDF c.toNat 0) v)
    (hc : Accepted s r (aSDF c.toNat 0) v) : let u := s.storeWrite (aSDF c.toNat 0) v false
    Answers i s ((if bit v 0 && !s.rb (aSDF c.toNat 0) 0 then u.unitEnabled (sdfPage c.toNat) (c.toNat % 8) else u).sdfCtlActs c.toNat) := by
  have hlt : c.toNat < 64 := c.isLt
  have hpage : aSDF c.toNat 0 / 0x1000 = 0x200 + c.toNat / 8 := aSDF_page (by decide)
  have hoff : aSDF c.toNat 0 % 0x1000 = 0x100 + 0x40 * (c.toNat % 8) + 0 := aSDF_offset (by decide)
  have hanswer := hc.stored h (by omega) (by omega)
  rwa [State.stored_reg _ _ (by omega), State.blockWritten_sdfCtl _ hlt, State.sdfEn_written _ hlt] at hanswer

/-! ### The end of a stop -/

section
variable {s : State} {c : Nat}

theorem State.sdfStopDone_busy (hstop : (s.sdfChan c).started = false) (hbusy : s.rb (aSDF c 0x14) 0 = true) {s1 : State}
    (hs1 : s1 = match (s.sdfChan c).stopEnd with | some t => s.reach t | none => s) :
    s.sdfStopDone c = (s1.setSdf c { s.sdfChan c with gen := none, stopEnd := none }).setB (aSDF c 0x14) 0 false := by
  subst hs1
  exact if_neg (by simp [hstop, hbusy])

/-! ### Outputs -/

/-- The registers of an output: SEQ and VALID of CH_STAT, CH_OUT, its timestamp and TS_INFO (R201). -/
def State.sdfShow (s : State) (c : Nat) (o : SdfOutput) : State :=
  let st := s.reg (aSDF c 0x14)
  let seq := (fld st 31 16 + 1) % 2 ^ 16
  ((((s.setReg (aSDF c 0x14) (setBit (setFld st 31 16 seq) 1 true)).setReg (aSDF c 0x1C) o.value).setReg (aSDF c 0x20)
    (BitVec.ofNat 32 (nsOf o.stamp))).setReg (aSDF c 0x24) (BitVec.ofNat 32 (nsOf o.stamp / 2 ^ 32))).setReg (aSDF c 0x28)
    (BitVec.ofNat 32 (seq * 2 ^ 16 + (o.quality % 16) * 2 ^ 8 + fracOf o.stamp))

/-- The channel gives up its output, which arrives now, and keeps the one before it. -/
def State.sdfArrives (s : State) (c : Nat) : State := s.setSdf c { s.sdfChan c with
  out := none, arrival := some s.time.now
  before := { value := sext 32 (s.reg (aSDF c 0x1C)).toNat, valid := true, arrival := (s.sdfChan c).arrival } }

theorem State.sdfPublish_due {o : SdfOutput} (hout : (s.sdfChan c).out = some o) (hdue : laterThan o.due s.time.now = false) :
    s.sdfPublish c = (s.sdfArrives c).sdfShow c o := by
  simp only [State.sdfPublish, hout, State.reach_past hdue]
  rfl

end

theorem aSDF_inj {c o o' : Nat} : aSDF c o = aSDF c o' ↔ o = o' := by unfold aSDF pg; omega

/-- SEQ and FRAC of a word of TS_INFO. -/
theorem fld_tsInfo {seq q f : Nat} (hseq : seq < 2 ^ 16) (hq : q < 16) (hf : f < 256) :
    fld (BitVec.ofNat 32 (seq * 2 ^ 16 + q * 2 ^ 8 + f)) 31 16 = seq ∧ fld (BitVec.ofNat 32 (seq * 2 ^ 16 + q * 2 ^ 8 + f)) 7 0 = f := by
  simp only [fld, BitVec.toNat_ofNat, Nat.shiftRight_eq_div_pow]
  omega

/-- The registers of an output as they read. -/
theorem State.sdfShow_reads (s : State) (c : Nat) (o : SdfOutput) :
    let t := s.sdfShow c o
    let seq := (s.rf (aSDF c 0x14) 31 16 + 1) % 2 ^ 16
    t.reg (aSDF c 0x1C) = o.value ∧ t.reg (aSDF c 0x20) = BitVec.ofNat 32 (nsOf o.stamp) ∧
      t.reg (aSDF c 0x24) = BitVec.ofNat 32 (nsOf o.stamp / 2 ^ 32) ∧ t.rf (aSDF c 0x14) 31 16 = seq ∧ t.rb (aSDF c 0x14) 1 = true ∧
      t.rf (aSDF c 0x28) 31 16 = seq ∧ t.rf (aSDF c 0x28) 7 0 = fracOf o.stamp := by
  intro t seq
  have hseq : seq < 2 ^ 16 := Nat.mod_lt _ (by decide)
  have hfrac : fracOf o.stamp < 256 := Nat.mod_lt _ (by decide)
  have hstat : t.reg (aSDF c 0x14) = setBit (setFld (s.reg (aSDF c 0x14)) 31 16 seq) 1 true := by
    simp [t, seq, State.sdfShow, State.reg_setReg, aSDF_inj, State.rf]
  have hinfo : t.reg (aSDF c 0x28) = BitVec.ofNat 32 (seq * 2 ^ 16 + (o.quality % 16) * 2 ^ 8 + fracOf o.stamp) := State.reg_setReg_same _ _ _
  obtain ⟨hinfoSeq, hinfoFrac⟩ := fld_tsInfo hseq (Nat.mod_lt o.quality (by decide)) hfrac
  refine ⟨?_, ?_, ?_, ?_, ?_, ?_, ?_⟩
  · simp [t, State.sdfShow, State.reg_setReg, aSDF_inj]
  · simp [t, State.sdfShow, State.reg_setReg, aSDF_inj]
  · simp [t, State.sdfShow, State.reg_setReg, aSDF_inj]
  · rw [State.rf, hstat, fld_setBit_ne _ _ _ _ _ (by decide) (by decide) (by decide), fld_setFld _ _ _ _ (by decide) (by decide)]
    exact Nat.mod_eq_of_lt hseq
  · rw [State.rb, hstat, bit_setBit_same _ _ _ (by decide)]
  · rw [State.rf, hinfo, hinfoSeq]
  · rw [State.rf, hinfo, hinfoFrac]

/-- Settles O32: a write of CH_CTL by EN as it was and as it is written, a stop by the clock that the channel generates, and the registers of an
output one by one. -/
theorem sigmaDeltaOutputs : Obligations.SigmaDeltaOutputs := by
  refine ⟨fun s r c v hc hoff => ?_, fun s r c v hc => ?_, fun s c ht hstop hbusy => ?_, fun s c o ht hout hdue => ?_⟩
  · have hanswer := hc.sdfCtl (i := .sdfStart r c v) rfl
    rwa [bit_setBit_same _ _ _ (by decide), hoff] at hanswer
  · have hanswer := hc.sdfCtl (i := .sdfStop r c v) rfl
    rwa [bit_setBit_same _ _ _ (by decide)] at hanswer
  · intro done
    refine ⟨fun hnone => ?_, fun e hend => ?_⟩
    · refine Answers.timed (f := fun t => (t.sdfStopDone c.toNat).settlePin (t.sdfClkPin c.toNat)) rfl ht ?_
      rw [State.sdfStopDone_busy hstop hbusy (s1 := s) (by rw [hnone])]
    · refine Answers.timed (f := fun t => (t.sdfStopDone c.toNat).settlePin (t.sdfClkPin c.toNat)) rfl ht ?_
      rw [State.sdfStopDone_busy hstop hbusy (s1 := s.reach e) (by rw [hend])]
  · intro t
    have heq : t = (s.sdfArrives c.toNat).sdfShow c.toNat o := State.sdfPublish_due hout hdue
    have hsdf : t.sdf = (s.sdfArrives c.toNat).sdf := by rw [heq]; rfl
    obtain ⟨hvalue, hlo, hhi, hseq, hvalid, hinfoSeq, hinfoFrac⟩ := (s.sdfArrives c.toNat).sdfShow_reads c.toNat o
    rw [← heq] at hvalue hlo hhi hseq hvalid hinfoSeq hinfoFrac
    refine ⟨Answers.timed (f := (·.sdfPublish c.toNat)) rfl ht rfl, hvalue, hlo, hhi, hseq, hvalid, hinfoSeq, hinfoFrac, ?_, ?_, fun k hk => ?_⟩
    · rw [State.sdfChan_congr hsdf, State.sdfArrives, State.sdfChan_setSdf_same]
    · rw [State.sdfChan_congr hsdf, State.sdfArrives, State.sdfChan_setSdf_same]
    · exact (State.sdfChan_congr hsdf k).trans (State.sdfChan_setSdf_ne s _ hk)

/-! ### Flags and faults -/

theorem State.sdfFlag_same (s : State) (c b : Nat) (t : DevTime) (q : Nat) : SameOutside s (s.sdfFlag c b t q) := by
  unfold State.sdfFlag
  exact SameOutside.ite (SameOutside.refl s) (((s.setB_same _ _ _).trans (State.raiseWith_same _ _ _ _)).trans (State.setErrLevel_same _ _ _ _))

section
variable {s : State} {c : Nat}

theorem State.sdfTrip_high {t : DevTime} {q : Nat} (h : (s.sdfChan c).hiTrip = some (t, q)) :
    s.sdfTrip c true = (s.setSdf c { s.sdfChan c with hiTrip := none }).sdfFlag c 0 t q := by
  simp only [State.sdfTrip, if_true, h]

theorem State.sdfTrip_low {t : DevTime} {q : Nat} (h : (s.sdfChan c).loTrip = some (t, q)) :
    s.sdfTrip c false = (s.setSdf c { s.sdfChan c with loTrip := none }).sdfFlag c 1 t q := by
  simp only [State.sdfTrip, Bool.false_eq_true, if_false, h]

/-- A clock fault of an external clock: an edge that comes too early, or none for 1 µs. -/
theorem State.sdfClkFault_external (hstart : (s.sdfChan c).started = true) (hext : s.sdfDriver c = none) (gap : Bool) :
    let s1 := if gap then s.reach ((s.sdfChan c).since + ns 1000) else s
    s.sdfClkFault c gap = if !gap && !s.sdfEarly c then s else (s1.sdfFlag c 2 s1.time.now s1.quality).sdfStale c :=
  if_neg (by simp [hstart, hext])

/-- The run fault is noted, and the output is stale (R198, R202). -/
def State.sdfRunNoted (s : State) (c : Nat) : State :=
  ((s.setSdf c { s.sdfChan c with runTrip := false }).sdfFlag c 3 s.time.now s.quality).setB (aSDF c 0x14) 2 true

theorem State.sdfRunNoted_shows (s : State) (c : Nat) :
    (s.sdfRunNoted c).rb (aSDF c 0x14) 2 = true ∧ ((s.sdfRunNoted c).sdfChan c).runTrip = false := by
  have hsdf : (s.sdfRunNoted c).sdf = (s.setSdf c { s.sdfChan c with runTrip := false }).sdf := (State.sdfFlag_same _ _ _ _ _).sdf
  refine ⟨State.rb_setB_same _ _ _ _ (by decide), ?_⟩
  rw [State.sdfChan_congr hsdf, State.sdfChan_setSdf_same]

/-! ### Bits -/

/-- A bit at the next edge of a generated clock: a channel that generates its clock samples SAMPLE_DLY after it, any other as the pin's offsets
correct it. -/
theorem State.sdfBit_generated {k : Nat} {e : DevTime} (hstart : (s.sdfChan c).started = true) (hdriver : s.sdfDriver c = some k)
    (he : s.genEdge k (s.rb (aSDF c 0) 2) (s.sdfChan c).since = some e) (b : Bool) :
    let s1 := s.reach (if s.sdfGen c then e + BitVec.ofNat 72 (64 * s.rf (aSDF c 4) 23 16) else e)
    s.sdfBit c b = (s1.setSdf c { s.sdfChan c with since := e }).sdfEnter c b
      (if s.sdfGen c then e else e + s1.outOfs (s.sdfClkPin c) - s1.inOfs (s.sdfClkPin c)) e := by
  simp only [State.sdfBit, hstart, hdriver, he, Bool.not_true, Bool.false_eq_true, if_false]

/-- A bit at an edge of an external clock, unless the edge comes too early. -/
theorem State.sdfBit_external (hstart : (s.sdfChan c).started = true) (hext : s.sdfDriver c = none) (b : Bool) :
    s.sdfBit c b = if s.sdfEarly c then (s.sdfFlag c 2 s.time.now s.quality).sdfStale c
      else (s.setSdf c { s.sdfChan c with lastEdge := some s.time.now, since := s.time.now }).sdfEnter c b
        (s.time.now - s.inOfs (s.sdfClkPin c)) s.time.now := by
  simp only [State.sdfBit, hstart, hext, Bool.not_true, Bool.false_eq_true, if_false]

end

/-- Settles O33: a trip by its side, a fault by what shows it, and a bit by the clock of its channel. -/
theorem sigmaDeltaFaults : Obligations.SigmaDeltaFaults := by
  refine ⟨fun s c t q ht => ⟨fun htrip => ?_, fun htrip => ?_⟩, fun s c e ht he hstart hext => ?_, fun s c ht htrip => ?_,
    fun s c b at_ e k ht hstart hdriver he => ?_, fun s c b e ht he hstart hext => ?_⟩
  · exact Answers.timed (f := (·.sdfTrip c.toNat true)) rfl ht (State.sdfTrip_high htrip)
  · exact Answers.timed (f := (·.sdfTrip c.toNat false)) rfl ht (State.sdfTrip_low htrip)
  · have hfault (gap : Bool) {u : State} (hu : s.sdfClkFault c.toNat gap = u) : Answers (.sdfClkFault c gap e) s u :=
      Answers.timed (f := fun t => (t.reach e).sdfClkFault c.toNat gap) rfl ht (by rw [State.reach_past he, hu])
    have heq := State.sdfClkFault_external hstart hext
    refine ⟨fun hearly => hfault false ((heq false).trans (if_neg (by simp [hearly]))),
      fun hlate => hfault false ((heq false).trans (if_pos (by simp [hlate]))), hfault true ?_⟩
    simpa only [Bool.not_true, Bool.false_and, Bool.false_eq_true, if_true, if_false] using heq true
  · exact ⟨Answers.timed (f := (·.sdfRunFault c.toNat)) rfl ht (if_pos htrip), s.sdfRunNoted_shows c.toNat⟩
  · intro s1
    have hbit {u : State} (hu : s.sdfBit c.toNat b = u) : Answers (.sdfBitSample c b at_) s u :=
      Answers.timed (f := fun t => (if (t.sdfDriver c.toNat).isNone then t.reach at_ else t).sdfBit c.toNat b) rfl ht (by simp [hdriver, hu])
    have heq := State.sdfBit_generated hstart hdriver he b
    refine ⟨fun hgen => hbit ?_, fun hgen => hbit ?_⟩
    · simpa only [hgen, if_true] using heq
    · simpa only [hgen, Bool.false_eq_true, if_false] using heq
  · have hbit {u : State} (hu : s.sdfBit c.toNat b = u) : Answers (.sdfBitSample c b e) s u :=
      Answers.timed (f := fun t => (if (t.sdfDriver c.toNat).isNone then t.reach e else t).sdfBit c.toNat b) rfl ht
        (by simp [hext, State.reach_past he, hu])
    have heq := State.sdfBit_external hstart hext b
    exact ⟨fun hearly => hbit (heq.trans (if_pos hearly)), fun hlate => hbit (heq.trans (if_neg (by simp [hlate])))⟩

end Sys2Proof.Machine
end

section
/-! What the commands of the timed units show once they complete (R165, R169, R171, R181, R183, R186, R188, R189, R201, R203, R217, R230). -/

namespace Sys2Proof.Machine

theorem Answers.completes {c : Instr} {s t : State} {P : State → Prop} (h : Answers c s t) (hp : P (t.withPending s.pending)) : Completes c s P :=
  ⟨_, h, hp⟩

@[simp] theorem State.time_withPending (s : State) (q : List Instr) : (s.withPending q).time = s.time := rfl

@[simp] theorem State.loop_withPending (s : State) (q : List Instr) : (s.withPending q).loop = s.loop := rfl

@[simp] theorem State.edgeUnit_withPending (s : State) (q : List Instr) (p : Nat) : (s.withPending q).edgeUnit p = s.edgeUnit p := rfl

@[simp] theorem State.sdfChan_withPending (s : State) (q : List Instr) (c : Nat) : (s.withPending q).sdfChan c = s.sdfChan c := rfl

/-! ### What moves device time leaves the edge units alone -/

/-- Neither the time base nor an edge unit changes. -/
def KeepsTimeAndEdges (s t : State) : Prop := t.time = s.time ∧ t.edge = s.edge

namespace KeepsTimeAndEdges

theorem refl (s : State) : KeepsTimeAndEdges s s := ⟨rfl, rfl⟩

theorem trans {s t u : State} (h1 : KeepsTimeAndEdges s t) (h2 : KeepsTimeAndEdges t u) : KeepsTimeAndEdges s u :=
  ⟨h2.1.trans h1.1, h2.2.trans h1.2⟩

theorem ite {s t u : State} {c : Prop} [Decidable c] (h1 : KeepsTimeAndEdges s t) (h2 : KeepsTimeAndEdges s u) :
    KeepsTimeAndEdges s (if c then t else u) := by split <;> assumption

theorem of_same {s t : State} (h : SameOutside s t) : KeepsTimeAndEdges s t := ⟨h.time, h.edge⟩

theorem foldl {α : Type} {f : State → α → State} (hf : ∀ t x, KeepsTimeAndEdges t (f t x)) (l : List α) (s : State) :
    KeepsTimeAndEdges s (l.foldl f s) :=
  List.foldlRecOn l f (refl s) fun t ht x _ => ht.trans (hf t x)

end KeepsTimeAndEdges

section
open KeepsTimeAndEdges

theorem State.ctxFlag_keepsTimeAndEdges (s : State) (n b : Nat) : KeepsTimeAndEdges s (s.ctxFlag n b) :=
  ite (of_same ((s.setB_same _ _ _).trans (State.loopEvent_same _ _))) (of_same (s.setB_same _ _ _))

/-- A context whose grid is planned anew moves within the loop engine (R219). -/
theorem State.regrid_keepsTimeAndEdges (s : State) (n : Nat) (old new : DevTime) (step : Bool) : KeepsTimeAndEdges s (s.regrid n old new step) := by
  unfold State.regrid
  refine ite (refl s) ?_
  extract_lets c p ph nb nb0 passed from_ early s1
  have hmoved : KeepsTimeAndEdges s s1 := ⟨rfl, rfl⟩
  exact ite ((hmoved.trans (of_same (s1.satAdd_same _ _ _ _))).trans ((s1.ctxMissed n).ctxFlag_keepsTimeAndEdges n 1)) hmoved

/-- The wrap of NS raises its event, marks the cadence windows, and plans the grids anew (R165). -/
theorem State.wrapEffects_keepsTimeAndEdges (s : State) (new : DevTime) : KeepsTimeAndEdges s (s.wrapEffects new) := by
  have hraise : KeepsTimeAndEdges s (s.raiseAt 82 new).markCadence := (of_same (s.raiseAt_same 82 new)).trans ⟨rfl, rfl⟩
  exact hraise.trans (foldl (fun t n => t.regrid_keepsTimeAndEdges n 0 0 false) _ _)

/-- An edge unit waits for its instants as device time moves on. -/
theorem State.edge_reach (s : State) (t : DevTime) : (s.reach t).edge = s.edge := by
  have hite {u v : State} {c : Prop} [Decidable c] (hu : u.edge = s.edge) (hv : v.edge = s.edge) : (if c then u else v).edge = s.edge := by
    split <;> assumption
  unfold State.reach
  refine hite rfl (hite ((State.wrapEffects_keepsTimeAndEdges _ _).2.trans ?_) ?_)
  · exact hite rfl rfl
  · exact hite rfl rfl

/-- A step takes device time to its new value, and no step is requested any longer (R171). -/
theorem State.time_stepTo (s : State) (new : DevTime) : (s.stepTo new).time.now = new ∧ (s.stepTo new).time.step = none := by
  let u := s.shiftInstants (new - s.time.now) new
  let s2 : State := { u with time := { u.time with now := new, step := none } }
  let s4 := (((s2.satAdd (aTIME 0x5C) 31 0 1).setB aTIME_STAT 8 true).raise 81).markCadence
  have h3 : SameOutside s2 (((s2.satAdd (aTIME 0x5C) 31 0 1).setB aTIME_STAT 8 true).raise 81) :=
    ((s2.satAdd_same _ _ _ _).trans (State.setB_same _ _ _ _)).trans (State.raise_same _ _)
  have h4 : KeepsTimeAndEdges s2 s4 := (of_same h3).trans ⟨rfl, rfl⟩
  have h5 : KeepsTimeAndEdges s2 (s4.pwmPins.foldl (fun t p => t.setErr (0x100 + p) 20) s4) :=
    h4.trans (foldl (fun t p => of_same (t.setErr_same _ _)) _ _)
  have h6 : KeepsTimeAndEdges s2 (s.stepTo new) := h5.trans (foldl (fun t n => t.regrid_keepsTimeAndEdges n s.time.now new true) _ _)
  rw [h6.1]
  exact ⟨rfl, rfl⟩

end

/-! ### The time base -/

theorem State.applyStep_shows {s : State} {v : DevTime} (h : s.time.step = some (.toValue v)) :
    s.applyStep.time.now = v + ((s.reach s.time.stepAt).time.now - s.time.stepAt) ∧ s.applyStep.time.step = none := by
  have hstep := (s.reach s.time.stepAt).time_stepTo (v + ((s.reach s.time.stepAt).time.now - s.time.stepAt))
  rw [State.applyStep_toValue h]
  split
  · rwa [State.now_setQuality, State.step_setQuality]
  · split
    · rwa [State.now_setQuality, State.step_setQuality]
    · exact hstep

/-- A measurement uses ADJ up, finds the reference, and takes no time. -/
theorem State.measure_shows {s : State} (e0 : Int) (hc : s.commitPending 0x018 = false) :
    (s.measure e0).time.adj = 0 ∧ (s.measure e0).time.refLost = false ∧ (s.measure e0).time.now = s.time.now := by
  rw [State.measure_eq hc]
  split
  · simp only [State.requestStep]
    split
    · exact ⟨rfl, rfl, rfl⟩
    · simp only [State.adj_setQuality, State.refLost_setQuality, State.now_setQuality]
      exact ⟨rfl, rfl, rfl⟩
  · split
    · exact ⟨rfl, rfl, rfl⟩
    · simp only [State.adj_setQuality, State.refLost_setQuality, State.now_setQuality]
      exact ⟨rfl, rfl, rfl⟩

theorem State.servoMeasure_shows {s : State} (hr : s.servoRuns = true) (href : s.refSrc = 1) (hc : s.commitPending 0x018 = false) :
    s.servoMeasure.time.adj = 0 ∧ s.servoMeasure.time.refLost = false ∧ s.servoMeasure.time.now = s.time.now := by
  cases hedge : s.rb (pg 0x548 0x020) 8 with
  | false => rw [State.servoMeasure_rising hr href hedge]; exact State.measure_shows _ hc
  | true => rw [State.servoMeasure_falling hr href hedge]; exact State.measure_shows (s := (s.free 72).2) _ hc

/-! ### Edge units -/

section
variable {s : State} {p : Nat}

theorem State.length_queuePush (e : QueueEntry) (h : (s.edgeUnit p).queue.length < 16) :
    ((s.queuePush p e).edgeUnit p).queue.length = (s.edgeUnit p).queue.length + 1 := by
  have hroom : ¬ 16 ≤ (s.edgeUnit p).queue.length := by omega
  simp [State.queuePush, hroom]

/-- On its way to IDLE_LVL a pad keeps its queue and its periods. -/
theorem State.edgeToIdle_keeps (s : State) (p : Nat) :
    ((s.edgeToIdle p).edgeUnit p).queue = (s.edgeUnit p).queue ∧
    ((s.edgeToIdle p).edgeUnit p).pwmStart = (s.edgeUnit p).pwmStart := by
  simp only [State.edgeToIdle, State.edgeUnit_setEdge_same, State.edgeUnit_congr (s.edge_reach _), and_self]

theorem State.edge_settlePin (s : State) (n : Nat) : (s.settlePin n).edge = s.edge := rfl

/-- A disabled unit holds no entry and runs no PWM (R180, R183). -/
theorem State.edgeStops_empties (s : State) (p : Nat) : ((s.edgeStops p).edgeUnit p).queue = [] ∧ ((s.edgeStops p).edgeUnit p).pwmStart = none := by
  unfold State.edgeStops
  extract_lets s0 _ s1
  obtain ⟨hqueue, hpwm⟩ := s1.edgeToIdle_keeps p
  rw [hqueue, hpwm]
  simp [s1]

end

/-! ### The lines -/

/-- Each pin has the line in service, and the swap, that it had. -/
def KeepsLines (s t : State) : Prop := ∀ p, (t.edgeUnit p).line = (s.edgeUnit p).line ∧ (t.edgeUnit p).armed = (s.edgeUnit p).armed

theorem KeepsLines.refl (s : State) : KeepsLines s s := fun _ => ⟨rfl, rfl⟩

theorem KeepsLines.trans {s t u : State} (h1 : KeepsLines s t) (h2 : KeepsLines t u) : KeepsLines s u :=
  fun p => ⟨(h2 p).1.trans (h1 p).1, (h2 p).2.trans (h1 p).2⟩

theorem KeepsLines.ite {s t u : State} {c : Prop} [Decidable c] (h1 : KeepsLines s t) (h2 : KeepsLines s u) :
    KeepsLines s (if c then t else u) := by split <;> assumption

theorem KeepsLines.of_edge {s t : State} (h : t.edge = s.edge) : KeepsLines s t := fun p => by rw [State.edgeUnit_congr h]; exact ⟨rfl, rfl⟩

theorem State.edge_edgeErr (s : State) (p b : Nat) : (s.edgeErr p b).edge = s.edge := s.setErr_edge (0x100 + p) b

/-- The age of a line counts cycles, and may set CAL_LATE (R189). -/
theorem State.calAgePin_keepsLines (s : State) (p : Nat) : KeepsLines s (s.calAgePin p) := by
  unfold State.calAgePin
  extract_lets u lim late s1
  have haged : KeepsLines s s1 := fun q => by
    by_cases hq : q = p
    · subst hq; simp [s1, u]
    · rw [State.edgeUnit_setEdge_ne _ _ hq]; exact ⟨rfl, rfl⟩
  exact .ite (haged.trans (.of_edge (s1.edge_edgeErr p 19))) haged

theorem State.edge_calBegin (s : State) (i : Nat) : (s.calBegin i).edge = s.edge := by
  rw [State.calBegin, State.setF_edge, State.setCal_edge]

/-- The end of a cycle ages the lines of its page and may begin the next (R188). -/
theorem State.calFinish_keepsLines (s : State) (i : Nat) : KeepsLines s (s.calFinish i) := by
  unfold State.calFinish
  extract_lets c s1 s2 s3
  have hcount : KeepsLines s s2 := by
    refine .ite (.of_edge ?_) (.of_edge rfl)
    rw [State.raise_edge]; rfl
  have haged : KeepsLines s s3 := List.foldlRecOn (motive := KeepsLines s) (calPins i) State.calAgePin hcount
    fun t ht p _ => ht.trans (t.calAgePin_keepsLines p)
  exact .ite (.ite (haged.trans (.of_edge (s3.edge_calBegin i))) haged) (.refl s)

theorem State.lineSwapped_shows (s : State) (p : Nat) : ((s.lineSwapped p).edgeUnit p).line = !(s.edgeUnit p).line ∧
    ((s.lineSwapped p).edgeUnit p).armed = none := by
  unfold State.lineSwapped
  generalize hu : (s.setEdge p _).setB _ _ _ = u
  obtain ⟨hline, harmed⟩ := u.calFinish_keepsLines (p / 64) p
  have hunit : u.edgeUnit p = { s.edgeUnit p with
      armed := none, line := !(s.edgeUnit p).line, calValid := true, calLate := false, calAt := some s.time.now, calCycles := 0 } := by
    rw [← hu, State.edgeUnit_congr (State.setB_edge _ _ _ _), State.edgeUnit_setEdge_same]
  rw [hline, harmed, hunit]
  exact ⟨rfl, rfl⟩

theorem State.swapDrop_shows (s : State) (p : Nat) : ((s.swapDrop p).edgeUnit p).line = (s.edgeUnit p).line ∧
    ((s.swapDrop p).edgeUnit p).armed = none := by
  obtain ⟨hline, harmed⟩ := (s.setEdge p { s.edgeUnit p with armed := none }).calFinish_keepsLines (p / 64) p
  rw [State.swapDrop, hline, harmed, State.edgeUnit_setEdge_same]
  exact ⟨rfl, rfl⟩

/-! ### The loop engine -/

section
variable {s : State}

/-- A word to a slot of a port that is not held, while no context runs to await it. -/
theorem State.fslotWord_stored {q : Nat} {w : BitVec 64} (hheld : s.loop.held.contains q = false) (hrun : s.runningCtxs = []) :
    SMap.get (fun _ => {}) (s.fslotWord q w).loop.slotsIn (64 * q + (w.toNat / 2 ^ 48) % 64) =
      { value := sext 48 (w.toNat % 2 ^ 48), valid := w.getLsbD 63, arrival := some s.time.now } := by
  have hnone (x : LoopEngine) : ({ s with loop := x } : State).runningCtxs = [] := hrun
  rw [State.fslotWord, if_neg (ne_true_of_eq_false hheld)]
  simp only [hnone, List.foldl_nil, SMap.get_set, if_true]

/-- A kick of heartbeat 0 that has not been missed notes its instant. -/
theorem State.lastKick_hbKick (h : s.rb (aLOOP 0x3C) 0 = false) : (s.hbKick 0).loop.hb0.lastKick = s.time.now := by
  have hstat (x : LoopEngine) : ({ s with loop := x } : State).rb (aLOOP 0x3C) 0 = false := h
  simp [State.hbKick, hstat]

theorem State.blockWritten_hbKick (s : State) (r : Nat) (old v : Word) :
    s.blockWritten (aLOOP 0x38) r old v false = if bit v 0 then s.hbKick 0 else s := rfl

theorem aCTX_page {n o : Nat} (h : o < 0x100) : aCTX n o / 0x1000 = 0x400 + n / 16 := by unfold aCTX pg; omega

theorem aCTX_offset {n o : Nat} (h : o < 0x100) : aCTX n o % 0x1000 = 0x100 * (n % 16) + o := by unfold aCTX pg; omega

/-- MISSED_CLR clears the count of missed triggers, and reads 0 itself (R209). -/
theorem State.blockWritten_missedClr (s : State) {n : Nat} (hn : n < 1024) (r : Nat) (old : Word) {v : Word} (hv : bit v 15 = true) :
    s.blockWritten (aCTX n 0xF4) r old v false = (s.setF (aCTX n 0xF4) 31 16 0).setB (aCTX n 0xF4) 15 false := by
  have hreg : (0x100 * (n % 16) + 0xF4) % 0x100 = 0xF4 := by omega
  simp only [State.blockWritten, aCTX_page (show 0xF4 < 0x100 by decide), aCTX_offset (show 0xF4 < 0x100 by decide),
    pageInfo_ctx (n / 16) (by omega), hreg, hv, and_self, if_true]

end

/-! ### Each command completes, and shows its effect -/

theorem completes_timeStepCommit (s : State) (ha : s.awake = true) (hp : s.commitPending 0x018 = true) (hw : s.timeAtOnce = true)
    (hop : fld (s.shadow (aTIME 0x40)) 1 0 = 1) :
    Completes .timeStepCommit s fun t => t.time.step.isSome = true ∧ t.rf (aTIME 0x40) 1 0 = 0 := by
  refine Answers.completes (Answers.live (f := (·.timeOp 1)) rfl ha (State.timeOp_transfers hp hw hop)) ?_
  rw [State.time_withPending, State.rf_withPending]
  refine ⟨?_, s.op_timeTransfer⟩
  rw [State.timeTransfer_step hop]
  rfl

theorem completes_timeSlewCommit (s : State) (ha : s.awake = true) (hp : s.commitPending 0x018 = true) (hw : s.timeAtOnce = true)
    (hop : fld (s.shadow (aTIME 0x40)) 1 0 = 2) (href : s.refSrc ≠ 0) :
    Completes .timeSlewCommit s fun t => t.time.adj = s.time.adj + s.adjShadow * 256 ∧ t.rf (aTIME 0x40) 1 0 = 0 := by
  refine Answers.completes (Answers.live (f := (·.timeOp 2)) rfl ha (State.timeOp_transfers hp hw hop)) ?_
  rw [State.time_withPending, State.rf_withPending]
  refine ⟨?_, s.op_timeTransfer⟩
  rw [State.timeTransfer_slew_ref hop href, s.opCleared_same.time]

theorem completes_stepApply (s : State) (v : DevTime) (ht : s.timed = true) (hstep : s.time.step = some (.toValue v)) :
    Completes .stepApply s fun t => t.time.now = v + ((s.reach s.time.stepAt).time.now - s.time.stepAt) ∧ t.time.step = none := by
  refine Answers.completes (Answers.timed (f := State.applyStep) rfl ht rfl) ?_
  rw [State.time_withPending]
  exact State.applyStep_shows hstep

theorem completes_servoMeasure (s : State) (ht : s.timed = true) (hr : s.servoRuns = true) (href : s.refSrc = 1)
    (hc : s.commitPending 0x018 = false) :
    Completes .servoMeasure s fun t => t.time.adj = 0 ∧ t.time.refLost = false ∧ t.time.now = s.time.now := by
  refine Answers.completes (Answers.timed (f := State.servoMeasure) rfl ht rfl) ?_
  rw [State.time_withPending]
  exact State.servoMeasure_shows hr href hc

theorem completes_refLost (s : State) (ht : s.timed = true) (hr : s.servoRuns = true) (hlost : s.time.refLost = false)
    (hc : s.commitPending 0x018 = false) :
    Completes .refLost s fun t => t.time.refLost = true ∧ t.time.r = s.time.f ∧ t.rb (pg 0x018 0x00C) 16 = true := by
  have hruns : (s.servoRuns && !s.time.refLost) = true := by simp [hr, hlost]
  have hanswer : Answers .refLost s s.heldOver := Answers.timed
    (f := fun t => if t.servoRuns && !t.time.refLost then t.loseReference else t) rfl ht ((if_pos hruns).trans (State.loseReference_idle hc))
  obtain ⟨hl, _, hrate, _, _, herr⟩ := s.heldOver_shows
  refine Answers.completes hanswer ?_
  rw [State.time_withPending, State.rb_withPending]
  exact ⟨hl, hrate, herr⟩

theorem completes_ppsEdge (s : State) (e : DevTime) (ht : s.timed = true) (he : laterThan e s.time.now = false) :
    Completes (.ppsEdge e) s fun t => t.reg (aTIME 0x50) = BitVec.ofNat 32 (nsOf e) ∧ t.reg (aTIME 0x58) = BitVec.ofNat 32 (fracOf e) := by
  obtain ⟨hlo, _, hfrac⟩ := s.reg_ppsEdge e
  refine Answers.completes (t := s.ppsEdge e)
    (Answers.timed (f := fun t => (t.reach e).ppsEdge e) rfl ht (congrArg (State.ppsEdge · e) (State.reach_past he))) ?_
  rw [State.reg_withPending]
  exact ⟨hlo, hfrac⟩

theorem completes_boundUpdate (s : State) (ht : s.timed = true) :
    Completes .boundUpdate s fun t => t.reg (aTIME 0x2C) = BitVec.ofNat 32 s.boundNow := by
  refine Answers.completes (Answers.timed (f := State.updateBound) rfl ht rfl) ?_
  rw [State.reg_withPending, State.updateBound]
  exact State.reg_setReg_same _ _ _

theorem completes_eqLo (s : State) (r : ReqId) (p : BitVec 8) (v : Word) (hc : Accepted s r (aEDGE p.toNat 0x28) v) :
    Completes (.eqLo r p v) s fun t => SMap.get (fun _ => 0) (t.edgeUnit p.toNat).stage r.toNat = v := by
  refine Answers.completes hc.eqLo ?_
  rw [State.edgeUnit_withPending]
  exact (State.stage_stageLow (s.storeWrite (aEDGE p.toNat 0x28) v false) p.toNat r.toNat v)

theorem completes_eqHi (s : State) (r : ReqId) (p : BitVec 8) (v : Word) (hc : Accepted s r (aEDGE p.toNat 0x2C) v)
    (hroom : (s.edgeUnit p.toNat).queue.length < 16) :
    Completes (.eqHi r p v) s fun t => (t.edgeUnit p.toNat).queue.length = (s.edgeUnit p.toNat).queue.length + 1 := by
  have hedge : (s.storeWrite (aEDGE p.toNat 0x2C) v false).edgeUnit p.toNat = s.edgeUnit p.toNat :=
    State.edgeUnit_congr (s.storeWrite_same _ _ _).edge _
  refine Answers.completes hc.eqHi ?_
  rw [State.edgeUnit_withPending]
  exact (State.length_queuePush _ (by rwa [hedge])).trans (by rw [hedge])

theorem completes_edgeDisable (s : State) (r : ReqId) (p : BitVec 8) (v : Word)
    (hc : Accepted s r (pg (0x100 + p.toNat) 0x004) (setBit v 0 false)) (hon : s.pageEnable (0x100 + p.toNat) = true)
    (hcommit : bit v 1 = false) (hlock : bit v 2 = false) :
    Completes (.edgeDisable r p v) s fun t => (t.edgeUnit p.toNat).queue = [] ∧ (t.edgeUnit p.toNat).pwmStart = none := by
  have hanswer := hc.edgeCtl_changes (i := .edgeDisable r p v) rfl hon hcommit hlock
  rw [State.enableChanged_edge _ p.isLt, if_neg Bool.false_ne_true] at hanswer
  refine Answers.completes hanswer ?_
  rw [State.edgeUnit_withPending, State.edgeUnit_congr (State.edge_settlePin _ _)]
  exact State.edgeStops_empties _ _

theorem completes_lineSwap (s : State) (p : BitVec 8) (t : DevTime) (ht : s.timed = true) (harmed : (s.edgeUnit p.toNat).armed = some t)
    (hfresh : laterThan s.time.now (t + ns 1000000) = false)
    (hclear : ((s.outEdges p.toNat).any fun e => (e - s.time.now).toNat ≤ 512 || (s.time.now - e).toNat ≤ 512) = false) :
    Completes (.lineSwap p) s fun u => (u.edgeUnit p.toNat).line = !(s.edgeUnit p.toNat).line ∧ (u.edgeUnit p.toNat).armed = none := by
  have hfar : s.edgeNear p.toNat = false := hclear
  have heq := (State.lineSwap_armed harmed).trans ((if_neg (by simp [hfresh])).trans (if_neg (by simp [hfar])))
  refine Answers.completes (Answers.timed (f := (·.lineSwap p.toNat)) rfl ht heq) ?_
  rw [State.edgeUnit_withPending]
  exact s.lineSwapped_shows p.toNat

theorem completes_swapAbandon (s : State) (p : BitVec 8) (t : DevTime) (ht : s.timed = true)
    (harmed : (s.edgeUnit p.toNat).armed = some t) :
    Completes (.swapAbandon p) s fun u => (u.edgeUnit p.toNat).line = (s.edgeUnit p.toNat).line ∧ (u.edgeUnit p.toNat).armed = none := by
  have heq := State.swapAbandon_armed harmed
  generalize t + ns 1000000 = limit at heq
  obtain ⟨hline, harm⟩ := (s.reach limit).swapDrop_shows p.toNat
  rw [State.edgeUnit_congr (s.edge_reach _)] at hline
  refine Answers.completes (Answers.timed (f := (·.swapAbandon p.toNat)) rfl ht heq) ?_
  rw [State.edgeUnit_withPending]
  exact ⟨hline, harm⟩

theorem completes_bootCalDone (s : State) (i : BitVec 2) (ht : s.timed = true) (hboot : s.rb (aCAL i.toNat 0x24) 31 = false)
    (hdue : s.power.loopGroupDue = false) :
    Completes (.bootCalDone i) s fun t => t.rb (aCAL i.toNat 0x24) 31 = true := by
  have hrun : s.time.running = true := by simp only [State.timed, Bool.and_eq_true] at ht; exact ht.2
  refine Answers.completes (Answers.timed (f := (·.bootCalPage i.toNat)) rfl ht (State.bootCalPage_notDue i.isLt hdue)) ?_
  rw [State.rb_withPending]
  exact State.bootCalDone_marks hrun hboot

theorem completes_sdfStop (s : State) (r : ReqId) (c : BitVec 6) (v : Word) (hc : Accepted s r (aSDF c.toNat 0) (setBit v 0 false)) :
    let s1 := s.storeWrite (aSDF c.toNat 0) (setBit v 0 false) false
    let s2 := if (s1.sdfChan c.toNat).started && s1.sdfReserved c.toNat then s1.markUndefined 2 (sdfPage c.toNat) (c.toNat % 8) else s1
    Answers (.sdfStop r c v) s ((s2.sdfFollow c.toNat).settlePin (s2.sdfClkPin c.toNat)) := by
  have hanswer := hc.sdfCtl (i := .sdfStop r c v) rfl
  rwa [bit_setBit_same _ _ _ (by decide)] at hanswer

theorem completes_sdfOutput (s : State) (c : BitVec 6) (o : SdfOutput) (ht : s.timed = true) (hout : (s.sdfChan c.toNat).out = some o)
    (hdue : laterThan o.due s.time.now = false) :
    Completes (.sdfOutput c) s fun t => t.reg (aSDF c.toNat 0x1C) = o.value ∧ t.rb (aSDF c.toNat 0x14) 1 = true ∧ (t.sdfChan c.toNat).out = none := by
  have hsdf : ((s.sdfArrives c.toNat).sdfShow c.toNat o).sdf = (s.sdfArrives c.toNat).sdf := rfl
  obtain ⟨hvalue, _, _, _, hvalid, _, _⟩ := (s.sdfArrives c.toNat).sdfShow_reads c.toNat o
  refine Answers.completes (Answers.timed (f := (·.sdfPublish c.toNat)) rfl ht (State.sdfPublish_due hout hdue)) ?_
  rw [State.reg_withPending, State.rb_withPending, State.sdfChan_withPending]
  refine ⟨hvalue, hvalid, ?_⟩
  rw [State.sdfChan_congr hsdf, State.sdfArrives, State.sdfChan_setSdf_same]

theorem completes_sdfRunFault (s : State) (c : BitVec 6) (ht : s.timed = true) (htrip : (s.sdfChan c.toNat).runTrip = true) :
    Completes (.sdfRunFault c) s fun t => t.rb (aSDF c.toNat 0x14) 2 = true ∧ (t.sdfChan c.toNat).runTrip = false := by
  refine Answers.completes (Answers.timed (f := (·.sdfRunFault c.toNat)) rfl ht (if_pos htrip)) ?_
  rw [State.rb_withPending, State.sdfChan_withPending]
  exact s.sdfRunNoted_shows c.toNat

theorem completes_fslotWord (s : State) (q : BitVec 2) (w : BitVec 64) (ht : s.timed = true)
    (hheld : s.loop.held.contains q.toNat = false) (hrun : s.runningCtxs = []) :
    Completes (.fslotWord q w) s fun t => SMap.get (fun _ => {}) t.loop.slotsIn (64 * q.toNat + (w.toNat / 2 ^ 48) % 64) =
      { value := sext 48 (w.toNat % 2 ^ 48), valid := w.getLsbD 63, arrival := some s.time.now } := by
  refine Answers.completes (Answers.timed (f := (·.fslotWord q.toNat w)) rfl ht rfl) ?_
  rw [State.loop_withPending]
  exact State.fslotWord_stored hheld hrun

theorem completes_hbKick (s : State) (r : ReqId) (v : Word) (hc : Accepted s r (aLOOP 0x38) (setBit v 0 true))
    (hkick : s.rb (aLOOP 0x3C) 0 = false) :
    Completes (.hbKick r v) s fun t => t.loop.hb0.lastKick = s.time.now := by
  have hanswer := hc.stored (c := .hbKick r v) rfl (by decide) (by decide)
  rw [State.blockWritten_hbKick, if_pos (bit_setBit_same _ _ _ (by decide))] at hanswer
  have hmiss : (s.storeWrite (aLOOP 0x38) (setBit v 0 true) false).rb (aLOOP 0x3C) 0 = false := by
    rw [State.rb, s.reg_storeWrite_ne _ _ (by decide)]; exact hkick
  refine Answers.completes hanswer ?_
  rw [State.loop_withPending, State.lastKick_hbKick hmiss, (s.storeWrite_same _ _ _).time]

theorem completes_missedClr (s : State) (r : ReqId) (n : BitVec 10) (v : Word) (hc : Accepted s r (aCTX n.toNat 0xF4) (setBit v 15 true)) :
    Completes (.missedClr r n v) s fun t => t.rf (aCTX n.toNat 0xF4) 31 16 = 0 := by
  have halign : aCTX n.toNat 0xF4 % 4 = 0 := by unfold aCTX pg; omega
  have hoff : aCTX n.toNat 0xF4 % 0x1000 = 0x100 * (n.toNat % 16) + 0xF4 := aCTX_offset (by decide)
  have hanswer := hc.stored (c := .missedClr r n v) rfl halign (by omega)
  rw [State.blockWritten_missedClr _ n.isLt _ _ (bit_setBit_same _ _ _ (by decide))] at hanswer
  refine Answers.completes hanswer ?_
  rw [State.rf_withPending]
  exact (State.rf_setF_disjoint _ _ 15 15 _ _ _ (by decide) (by decide) (by decide) (by decide)).trans
    (State.rf_setF_of_lt _ _ 31 16 0 (by decide) (by decide) (by decide))

/-- Settles O60: each command answers the state that its statement of effect names, and the lemmas above read the effect off it. -/
theorem timedUnitsComplete : Obligations.TimedUnitsComplete :=
  ⟨completes_timeStepCommit, completes_timeSlewCommit, completes_stepApply, completes_servoMeasure, completes_refLost,
    completes_ppsEdge, completes_boundUpdate, completes_eqLo, completes_eqHi, completes_edgeDisable, completes_lineSwap,
    completes_swapAbandon, completes_bootCalDone, completes_sdfStop, completes_sdfOutput, completes_sdfRunFault,
    completes_fslotWord, completes_hbKick, completes_missedClr⟩

end Sys2Proof.Machine
end

section
/-! Triggers of a loop context and its output (R213, R216 to R220, R231, R308, R474, R494). -/

namespace Sys2Proof.Machine

section
variable {s : State} {n : Nat}

/-! ### The record read at a trigger -/

/-- An entry to a power state has passed AP0 (R474). -/
def State.pastAp0 (s : State) : Bool := s.power.entry.any fun e => decide (1 ≤ e.passed)

theorem State.pastAp0_of_no_entry (h : s.power.entry = none) : s.pastAp0 = false := by rw [State.pastAp0, h]; rfl

theorem State.loopRead_pastAp0 (h : s.pastAp0 = true) (tr : DevTime) (own : Bool) (ecc : BitVec 2) : s.loopRead n tr own ecc = s := if_pos h

theorem State.loopRead_clean (h : s.pastAp0 = false) (tr : DevTime) (own : Bool) : s.loopRead n tr own 0 = s.loopUpdate n tr own :=
  (if_neg (ne_true_of_eq_false h)).trans (if_pos rfl)

theorem State.loopRead_corrected (h : s.pastAp0 = false) (tr : DevTime) (own : Bool) :
    s.loopRead n tr own 1 = ((s.raiseAt 249 tr).queueCheck (elemOf 2 n) 3).loopUpdate n tr own :=
  (if_neg (ne_true_of_eq_false h)).trans ((if_neg (by decide)).trans (if_pos rfl))

theorem State.loopRead_lost (h : s.pastAp0 = false) {ecc : BitVec 2} (hecc : 2 ≤ ecc.toNat) (tr : DevTime) (own : Bool) :
    s.loopRead n tr own ecc = s.recordLost n tr := by
  have hclean : ecc ≠ 0 := by rintro rfl; exact absurd hecc (by decide)
  have hcorrected : ecc ≠ 1 := by rintro rfl; exact absurd hecc (by decide)
  exact (if_neg (ne_true_of_eq_false h)).trans ((if_neg hclean).trans (if_neg hcorrected))

/-! ### Grid points of a PERIODIC context -/

/-- The next grid point of a context (R218). -/
def State.nextGridPoint (s : State) (n : Nat) : DevTime :=
  gridAt (s.cPeriod n) (s.reg (aCTX n 0x4C)).toNat (if laterThan (s.ctx n).notBefore s.time.now then (s.ctx n).notBefore else s.time.now)

/-- The grid point t has been taken: the next one comes after it. -/
def State.gridTaken (s : State) (n : Nat) (t : DevTime) : State := s.setCtx n { s.ctx n with notBefore := t + ns 1 }

theorem State.loopGridPoint_periodic (hrun : s.cRunning n = true) (hkind : s.cKind n = 0) (ecc : BitVec 2) :
    let t := s.nextGridPoint n
    s.loopGridPoint n ecc = if laterThan ((s.reach t).ctx n).notBefore t then s.reach t else ((s.reach t).gridTaken n t).loopRead n t false ecc :=
  if_pos ⟨hrun, hkind⟩

/-! ### Triggers of an EVENT or SAMPLE context -/

/-- Less than PERIOD has passed at t since the last accepted trigger (R218). -/
def State.tooSoon (s : State) (n : Nat) (t : DevTime) : Bool := (s.ctx n).lastTrigger.any fun l => laterThan (l + ns (s.cPeriod n)) t

theorem State.loopTrigger_dropped {t : DevTime} (h : s.inAbseil n = true ∨ laterThan (s.ctx n).notBefore t = true) (own : Bool) (ecc : BitVec 2) :
    s.loopTrigger n t own ecc = s := if_pos h

theorem State.loopTrigger_heard {t : DevTime} (habseil : s.inAbseil n = false) (hfrom : laterThan (s.ctx n).notBefore t = false) (own : Bool)
    (ecc : BitVec 2) :
    s.loopTrigger n t own ecc = if s.tooSoon n t then (s.ctxMissed n).ctxFlag n 2 else s.loopRead n t own ecc := by
  have hheard : ¬ (s.inAbseil n = true ∨ laterThan (s.ctx n).notBefore t = true) := by simp [habseil, hfrom]
  rw [State.loopTrigger, if_neg hheard, State.tooSoon]
  cases (s.ctx n).lastTrigger <;> rfl

theorem State.eventTrigger_occurred (hrun : s.cRunning n = true) (hkind : s.cKind n = 1) (hnew : s.trigCount n ≠ (s.ctx n).eventSeen)
    (ecc : BitVec 2) : s.eventTrigger n ecc = (s.takeEvent n).loopTrigger n s.time.now false ecc := if_pos ⟨hrun, hkind, hnew⟩

theorem State.sampleTrigger_arrived {a : DevTime} (hrun : s.cRunning n = true) (hkind : s.cKind n = 2) (harrival : s.trigArrival n = some a)
    (hnew : (s.ctx n).sampleSeen ≠ some a) (ecc : BitVec 2) : s.sampleTrigger n ecc = (s.takeTrigger n).loopTrigger n a true ecc := by
  simp only [State.sampleTrigger, harrival]
  exact if_pos ⟨hrun, hkind, hnew⟩

theorem State.abseilTrigger_engine (hrun : s.cRunning n = true) (hkind : s.cKind n = 1 ∨ s.cKind n = 2) (habseil : s.inAbseil n = true)
    (ecc : BitVec 2) : s.abseilTrigger n ecc =
      ((s.reach (s.engineTrigger n)).takeTrigger n).loopRead n (s.engineTrigger n) false ecc := if_pos ⟨hrun, hkind, habseil⟩

/-! ### The output -/

/-- The output of update u stands in OUT and in the context (R209, R216). -/
def State.outputShown (s : State) (n : Nat) (u : LoopUpdate) : State :=
  ((s.setCtx n { s.ctx n with
    update := none, oPrev := u.o, lastNs := nsOf u.applyAt % 2 ^ 32, lastApplied := u.applyAt, arrival := some u.applyAt
    before := { value := s.cq n 0xF8, valid := true, arrival := (s.ctx n).arrival } }).setReg (aCTX n 0xF8)
      (BitVec.ofNat 32 (scode 48 u.o))).setReg (aCTX n 0xFC) (BitVec.ofNat 32 (scode 48 u.o / 2 ^ 32))

/-- An output that is due, outside abseil and without a saturation, is shown, written to its target and logged. -/
theorem State.outputApply_due {u : LoopUpdate} (hupdate : (s.ctx n).update = some u) (hsat : u.sat = false) (henter : u.enter = false)
    (hleave : u.leave = false) (hdue : laterThan u.applyAt s.time.now = false) (hout : (s.outputShown n u).cAbseil n = false) :
    s.outputApply n = ((s.outputShown n u).loopTarget n u.o u.dst u.par u.applyAt).loopLog n u := by
  have hend : ¬ ((s.outputShown n u).cAbseil n = true ∧ u.o = u.safe ∧ (!(s.outputShown n u).rb (aCTX n 0xF0) 28) = true) := by simp [hout]
  simp only [State.outputApply, hupdate, State.reach_past hdue, hsat, henter, hleave, Bool.false_eq_true, if_false]
  exact congrArg (fun t => (State.loopTarget t n u.o u.dst u.par u.applyAt).loopLog n u) (if_neg hend)

end

/-! ### The commands -/

theorem loopGridPoint_answers {s : State} {n : BitVec 10} (ht : s.timed = true) (hrun : s.cRunning n.toNat = true)
    (hkind : s.cKind n.toNat = 0) :
    let g := s.nextGridPoint n.toNat
    let s1 := s.reach g
    let s2 := s1.gridTaken n.toNat g
    let skipped := laterThan (s1.ctx n.toNat).notBefore g
    (skipped = true → ∀ ecc, Answers (.loopGridPoint n ecc) s s1) ∧
    (skipped = false → s2.pastAp0 = false → Answers (.loopGridPoint n 0) s (s2.loopUpdate n.toNat g false) ∧
      Answers (.loopGridPoint n 1) s (((s2.raiseAt 249 g).queueCheck (elemOf 2 n.toNat) 3).loopUpdate n.toNat g false) ∧
      Answers (.loopGridPoint n 2) s (s2.recordLost n.toNat g) ∧ Answers (.loopGridPoint n 3) s (s2.recordLost n.toNat g)) ∧
    (skipped = false → s2.pastAp0 = true → ∀ ecc, Answers (.loopGridPoint n ecc) s s2) := by
  intro g s1 s2 skipped
  have hskipped (h : skipped = true) (ecc : BitVec 2) : s.loopGridPoint n.toNat ecc = s1 :=
    (State.loopGridPoint_periodic hrun hkind ecc).trans (if_pos h)
  have hread (h : skipped = false) (ecc : BitVec 2) : s.loopGridPoint n.toNat ecc = s2.loopRead n.toNat g false ecc :=
    (State.loopGridPoint_periodic hrun hkind ecc).trans (if_neg (ne_true_of_eq_false h))
  have hanswer (ecc : BitVec 2) {t : State} (h : s.loopGridPoint n.toNat ecc = t) : Answers (.loopGridPoint n ecc) s t :=
    Answers.timed (f := (·.loopGridPoint n.toNat ecc)) rfl ht h
  refine ⟨fun h ecc => hanswer ecc (hskipped h ecc), fun h hquiet => ⟨?_, ?_, ?_, ?_⟩, fun h hquiet ecc => ?_⟩
  · exact hanswer 0 ((hread h 0).trans (State.loopRead_clean hquiet g false))
  · exact hanswer 1 ((hread h 1).trans (State.loopRead_corrected hquiet g false))
  · exact hanswer 2 ((hread h 2).trans (State.loopRead_lost hquiet (by decide) g false))
  · exact hanswer 3 ((hread h 3).trans (State.loopRead_lost hquiet (by decide) g false))
  · exact hanswer ecc ((hread h ecc).trans (State.loopRead_pastAp0 hquiet g false ecc))

/-- A command whose effect on s is that of a trigger of state s1 at instant t: dropped, missed, or an update (R218). -/
theorem trigger_answers {c : Instr} {s s1 : State} {n : Nat} {t : DevTime} {own : Bool} {ecc : BitVec 2} {f : State → State}
    (hexec : exec c s = s.actTimed f) (ht : s.timed = true) (heffect : f s = s1.loopTrigger n t own ecc) :
    (s1.inAbseil n = true ∨ laterThan (s1.ctx n).notBefore t = true → Answers c s s1) ∧
    (s1.inAbseil n = false → laterThan (s1.ctx n).notBefore t = false →
      (s1.tooSoon n t = true → Answers c s ((s1.ctxMissed n).ctxFlag n 2)) ∧
      (s1.tooSoon n t = false → Answers c s (s1.loopRead n t own ecc))) := by
  refine ⟨fun h => ?_, fun habseil hfrom => ⟨fun h => ?_, fun h => ?_⟩⟩
  · exact Answers.timed hexec ht (heffect.trans (State.loopTrigger_dropped h own ecc))
  · exact Answers.timed hexec ht (heffect.trans ((State.loopTrigger_heard habseil hfrom own ecc).trans (if_pos h)))
  · exact Answers.timed hexec ht (heffect.trans ((State.loopTrigger_heard habseil hfrom own ecc).trans (if_neg (ne_true_of_eq_false h))))

/-- Settles O34: each command is its rule of the loop engine, and the rules above say what the trigger, and the record read at it, make of it. -/
theorem loopTriggers : Obligations.LoopTriggers := by
  refine ⟨fun s n ht hrun hkind => loopGridPoint_answers ht hrun hkind, fun s n ecc ht hrun hkind hnew => ?_,
    fun s n ecc a ht hrun hkind harrival hnew => ?_, fun s n ecc ht hrun hkind habseil => ?_,
    fun s n u ht hupdate hsat henter hleave _ hdue hout => ?_, fun s n => ?_⟩
  · exact trigger_answers (f := (·.eventTrigger n.toNat ecc)) rfl ht (State.eventTrigger_occurred hrun hkind hnew ecc)
  · exact trigger_answers (f := (·.sampleTrigger n.toNat ecc)) rfl ht (State.sampleTrigger_arrived hrun hkind harrival hnew ecc)
  · have heffect := State.abseilTrigger_engine hrun hkind habseil ecc
    have hanswer {t : State} (h : s.abseilTrigger n.toNat ecc = t) : Answers (.abseilTrigger n ecc) s t :=
      Answers.timed (f := (·.abseilTrigger n.toNat ecc)) rfl ht h
    refine ⟨hanswer heffect, fun hentry => ⟨?_, fun hecc => ?_⟩⟩
    · rintro rfl
      exact hanswer (heffect.trans (State.loopRead_clean (State.pastAp0_of_no_entry hentry) _ false))
    · exact hanswer (heffect.trans (State.loopRead_lost (State.pastAp0_of_no_entry hentry) hecc _ false))
  · exact Answers.timed (f := (·.outputApply n.toNat)) rfl ht (State.outputApply_due hupdate hsat henter hleave hdue hout)
  · exact Answers.act (f := fun t => if s.timed then t.outputApply n.toNat else t) rfl rfl

end Sys2Proof.Machine
end

section
/-! What the commands of the LOOP page and of a record do to the loop engine (R209, R215, R225, R229 to R231, R236, R237). -/

namespace Sys2Proof.Machine

/-! ### The rule that a write starts -/

theorem State.blockWritten_ctxCommit (s : State) (r : Nat) (old : Word) {v : Word} (hv : bit v 31 = true) :
    s.blockWritten (aLOOP 0x24) r old v false = s.ctxCommit (s.reg (aLOOP 0x24)) := if_pos hv

theorem State.blockWritten_abseilCmd (s : State) (r : Nat) (old v : Word) :
    s.blockWritten (aLOOP 0x2C) r old v false = s.abseilCmd v := rfl

theorem aLOOP_page {o : Nat} (h : o < 0x1000) : aLOOP o / 0x1000 = 0x300 := by unfold aLOOP pg; omega

theorem aLOOP_offset {o : Nat} (h : o < 0x1000) : aLOOP o % 0x1000 = o := by unfold aLOOP pg; omega

/-- A write of a LOOP:STATE word goes to the context selected, and the window's own register reads 0 (R237). -/
theorem State.blockWritten_stateWord (s : State) {w : Nat} (hw : w < 16) (r : Nat) (old v : Word) :
    let n := s.rf (aLOOP 0x40) 9 0
    s.blockWritten (aLOOP (0x200 + 4 * w)) r old v false =
      (s.setReg (aLOOP (0x200 + 4 * w)) 0).setCtx n ((s.ctx n).setWord w v s.time.now) := by
  have hkind : (pageInfo 0x300).kind = .loop := rfl
  have hpage : aLOOP (0x200 + 4 * w) / 0x1000 = 0x300 := aLOOP_page (by omega)
  have hoff : aLOOP (0x200 + 4 * w) % 0x1000 = 0x200 + 4 * w := aLOOP_offset (by omega)
  have hword : (0x200 + 4 * w - 0x200) / 4 = w := by omega
  have hwindow : 0x200 ≤ 0x200 + 4 * w ∧ 0x200 + 4 * w < 0x240 ∧ (!false) = true := ⟨by omega, by omega, rfl⟩
  simp only [State.blockWritten, hpage, hoff, hkind, State.loopWritten]
  repeat rw [if_neg (by omega)]
  rw [if_pos hwindow, hword]

/-! ### Commits -/

section
variable {s : State} {w : Word}

theorem State.loopCommitRequest_busy (h : s.rb (aLOOP 0x28) 31 = true) (cs : List Nat) (laneCtl restart : Bool) (pages : List Nat) :
    s.loopCommitRequest cs laneCtl restart pages = s.setErr 0x300 20 := if_pos h

theorem State.loopCommitRequest_shows (h : s.rb (aLOOP 0x28) 31 = false) (cs : List Nat) (laneCtl restart : Bool) (pages : List Nat) :
    (s.loopCommitRequest cs laneCtl restart pages).rb (aLOOP 0x28) 31 = true ∧
    (s.loopCommitRequest cs laneCtl restart pages).loop.commit =
      some { contexts := cs, pages := pages, laneCtl := laneCtl, restart := restart } := by
  rw [State.loopCommitRequest, if_neg (ne_true_of_eq_false h)]
  exact ⟨State.rb_setB_same _ _ _ _ (by decide), rfl⟩

/-- While a test runs, CTX_COMMIT is an error whatever it names (R225). -/
theorem State.ctxCommit_busy (h : s.rb (aLOOP 0x28) 31 = true) : s.ctxCommit w = s.setErr 0x300 20 := by
  by_cases hempty : (!bit w 30 && fld w 4 0 == 0) = true
  · exact (if_pos hempty).trans (if_pos h)
  · exact (if_neg hempty).trans (State.loopCommitRequest_busy h _ _ _ _)

/-- GROUP 0 names no context, and passes at once (R225). -/
theorem State.ctxCommit_none (h : s.rb (aLOOP 0x28) 31 = false) (hgroup : bit w 30 = false) (hzero : fld w 4 0 = 0) :
    s.ctxCommit w = s.setReg (aLOOP 0x28) 0x01000000 := by
  have hempty : (!bit w 30 && fld w 4 0 == 0) = true := by simp [hgroup, hzero]
  exact (if_pos hempty).trans (if_neg (ne_true_of_eq_false h))

theorem State.ctxCommit_one (hone : bit w 30 = true) :
    s.ctxCommit w = s.loopCommitRequest [fld w 25 16] false false [0x400 + fld w 25 16 / 16] := by
  have hnonempty : ¬ (!bit w 30 && fld w 4 0 == 0) = true := by simp [hone]
  rw [State.ctxCommit, if_pos hone]
  exact if_neg hnonempty

theorem ctxCommit_answers {r : ReqId} {v : Word} (hc : Accepted s r (aLOOP 0x24) (setBit v 31 true)) :
    Answers (.ctxCommit r v) s ((s.storeWrite (aLOOP 0x24) (setBit v 31 true) false).ctxCommit
      ((s.storeWrite (aLOOP 0x24) (setBit v 31 true) false).reg (aLOOP 0x24))) := by
  have hanswer := hc.stored (c := .ctxCommit r v) rfl (by decide) (by decide)
  rwa [State.blockWritten_ctxCommit _ _ _ (bit_setBit_same _ _ _ (by decide))] at hanswer

theorem State.groupAdmission_notDue (h : s.power.loopCommitDue = false) : s.groupAdmission = s.admissionDone := by
  simp [State.groupAdmission, h]

/-! ### Abseil commands and MISSED_CLR -/

theorem State.abseilCmd_enter (h : fld w 31 30 = 1) : s.abseilCmd w = (s.abseilNamed w).foldl (fun t n => t.setCause n 16) s := by
  simp only [State.abseilCmd, h]

theorem State.abseilCmd_release (h : fld w 31 30 = 2) : s.abseilCmd w =
    (s.abseilNamed w).foldl (fun t n => (t.clearCause n 16).setCtx n { (t.clearCause n 16).ctx n with released := true }) s := by
  simp only [State.abseilCmd, h]

/-- A write of ABSEIL_CMD with command k acts on the contexts it names. -/
theorem Accepted.abseilCmd {c : Instr} {r : ReqId} {v : Word} {k : Nat} (h : exec c s = s.actWrite r (aLOOP 0x2C) (setFld v 31 30 k))
    (hc : Accepted s r (aLOOP 0x2C) (setFld v 31 30 k)) :
    Answers c s ((s.storeWrite (aLOOP 0x2C) (setFld v 31 30 k) false).abseilCmd (setFld v 31 30 k)) := by
  have hanswer := hc.stored h (by decide) (by decide)
  rwa [State.blockWritten_abseilCmd] at hanswer

/-- MISSED and MISSED_CLR of context n read 0 (R209). -/
def State.missedCleared (s : State) (n : Nat) : State := (s.setF (aCTX n 0xF4) 31 16 0).setB (aCTX n 0xF4) 15 false

theorem State.missedCleared_shows (s : State) (n : Nat) :
    (s.missedCleared n).rf (aCTX n 0xF4) 31 16 = 0 ∧ (s.missedCleared n).rb (aCTX n 0xF4) 15 = false ∧ (s.missedCleared n).loop = s.loop :=
  ⟨(State.rf_setF_disjoint _ _ 15 15 _ _ _ (by decide) (by decide) (by decide) (by decide)).trans
    (State.rf_setF_of_lt _ _ 31 16 0 (by decide) (by decide) (by decide)), State.rb_setB_same _ _ _ _ (by decide), rfl⟩

theorem missedClr_answers {r : ReqId} {n : BitVec 10} {v : Word} (hc : Accepted s r (aCTX n.toNat 0xF4) (setBit v 15 true)) :
    Answers (.missedClr r n v) s ((s.storeWrite (aCTX n.toNat 0xF4) (setBit v 15 true) false).missedCleared n.toNat) := by
  have halign : aCTX n.toNat 0xF4 % 4 = 0 := by unfold aCTX pg; omega
  have hoff : aCTX n.toNat 0xF4 % 0x1000 = 0x100 * (n.toNat % 16) + 0xF4 := aCTX_offset (by decide)
  have hanswer := hc.stored (c := .missedClr r n v) rfl halign (by omega)
  rwa [State.blockWritten_missedClr _ n.isLt _ _ (bit_setBit_same _ _ _ (by decide))] at hanswer

/-! ### Words of LOOP:STATE -/

theorem stateWrite_answers {r : ReqId} {w : BitVec 4} {v : Word} (hc : Accepted s r (aLOOP (0x200 + 4 * w.toNat)) v) :
    let a := aLOOP (0x200 + 4 * w.toNat)
    let u := s.storeWrite a v false
    let n := u.rf (aLOOP 0x40) 9 0
    Answers (.stateWrite r w v) s ((u.setReg a 0).setCtx n ((u.ctx n).setWord w.toNat v u.time.now)) := by
  have halign : aLOOP (0x200 + 4 * w.toNat) % 4 = 0 := by unfold aLOOP pg; omega
  have hoff : aLOOP (0x200 + 4 * w.toNat) % 0x1000 = 0x200 + 4 * w.toNat := aLOOP_offset (by omega)
  have hanswer := hc.stored (c := .stateWrite r w v) rfl halign (by omega)
  rwa [State.blockWritten_stateWord _ w.isLt] at hanswer

/-! ### Channel words -/

/-- A word to a slot of a port that is not held, while no context runs to await it: the value before it is kept beside it (R215). -/
theorem State.fslotWord_eq {q : Nat} (x : BitVec 64) (hheld : s.loop.held.contains q = false) (hrun : s.runningCtxs = []) :
    s.fslotWord q x = { s with loop := { s.loop with
      slotsBefore := SMap.set (fun _ => {}) s.loop.slotsBefore (64 * q + (x.toNat / 2 ^ 48) % 64)
        (SMap.get (fun _ => {}) s.loop.slotsIn (64 * q + (x.toNat / 2 ^ 48) % 64))
      slotsIn := SMap.set (fun _ => {}) s.loop.slotsIn (64 * q + (x.toNat / 2 ^ 48) % 64)
        { value := sext 48 (x.toNat % 2 ^ 48), valid := x.getLsbD 63, arrival := some s.time.now } } } := by
  have hnone (y : LoopEngine) : ({ s with loop := y } : State).runningCtxs = [] := hrun
  rw [State.fslotWord, if_neg (ne_true_of_eq_false hheld)]
  simp only [hnone, List.foldl_nil]

end

/-- Settles O35: an accepted write starts the rule of its register, and the lemmas above say what that rule does. -/
theorem loopCommands : Obligations.LoopCommands := by
  refine ⟨fun s q w ht hheld hrun => ?_, fun s q w ht hheld => ?_, fun s q w ht => ?_, fun s r v hc => ?_, fun s ht hdue => ?_, fun s ht => ?_,
    fun s r v hc => ?_, fun s r v hc => ?_, fun s r w v hc => stateWrite_answers hc, fun s r n v hc => ?_⟩
  · exact Answers.timed (f := (·.fslotWord q.toNat w)) rfl ht (State.fslotWord_eq w hheld hrun)
  · exact Answers.timed (f := (·.fslotWord q.toNat w)) rfl ht (if_pos hheld)
  · exact Answers.timed (f := (·.fslotWord q.toNat w)) rfl ht rfl
  · have hanswer := ctxCommit_answers hc
    refine ⟨hanswer, fun hbusy => ?_, fun hidle hgroup hzero => ?_, fun hidle hone => ?_⟩
    · rwa [State.ctxCommit_busy hbusy] at hanswer
    · rwa [State.ctxCommit_none hidle hgroup hzero] at hanswer
    · rw [State.ctxCommit_one hone] at hanswer
      exact ⟨_, hanswer, State.loopCommitRequest_shows hidle _ _ _ _⟩
  · exact Answers.timed (f := State.groupAdmission) rfl ht (State.groupAdmission_notDue hdue)
  · exact Answers.timed (f := State.groupAdmission) rfl ht rfl
  · have hanswer := hc.abseilCmd (c := .abseilEnter r v) rfl
    rwa [State.abseilCmd_enter (fld_setFld v 31 30 1 (by decide) (by decide))] at hanswer
  · have hanswer := hc.abseilCmd (c := .abseilRelease r v) rfl
    rwa [State.abseilCmd_release (fld_setFld v 31 30 2 (by decide) (by decide))] at hanswer
  · obtain ⟨hmissed, hclr, hloop⟩ := (s.storeWrite (aCTX n.toNat 0xF4) (setBit v 15 true) false).missedCleared_shows n.toNat
    exact ⟨missedClr_answers hc, hmissed, hclr, hloop.trans (s.storeWrite_same _ _ _).loop⟩

end Sys2Proof.Machine
end

section
/-! Heartbeats of the loop engine (R230). -/

namespace Sys2Proof.Machine

section
variable {s : State}

/-! ### Kicks -/

/-- A kick of a heartbeat that has not been missed notes its instant, and changes nothing else. -/
theorem State.hbKick_zero (h : s.rb (aLOOP 0x3C) 0 = false) :
    s.hbKick 0 = { s with loop := { s.loop with hb0 := { lastKick := s.time.now } } } := if_neg (ne_true_of_eq_false h)

theorem State.hbKick_one (h : s.rb (aLOOP 0x3C) 1 = false) :
    s.hbKick 1 = { s with loop := { s.loop with hb1 := { lastKick := s.time.now } } } := if_neg (ne_true_of_eq_false h)

/-- HB_KICK stores its write, and kicks heartbeat 0. -/
theorem hbKick_answers {r : ReqId} {v : Word} (hc : Accepted s r (aLOOP 0x38) (setBit v 0 true)) :
    Answers (.hbKick r v) s ((s.storeWrite (aLOOP 0x38) (setBit v 0 true) false).hbKick 0) := by
  have hanswer := hc.stored (c := .hbKick r v) rfl (by decide) (by decide)
  rwa [State.blockWritten_hbKick, if_pos (bit_setBit_same _ _ _ (by decide))] at hanswer

theorem hbKick_completes {r : ReqId} {v : Word} (hc : Accepted s r (aLOOP 0x38) (setBit v 0 true)) (hstat : s.rb (aLOOP 0x3C) 0 = false) :
    Completes (.hbKick r v) s fun t => t.loop = { s.loop with hb0 := { lastKick := s.time.now } } ∧ t.rb (aLOOP 0x3C) 0 = false := by
  have hkept : (s.storeWrite (aLOOP 0x38) (setBit v 0 true) false).rb (aLOOP 0x3C) 0 = false := by
    rw [State.rb, s.reg_storeWrite_ne _ _ (by decide)]; exact hstat
  have hsame := s.storeWrite_same (aLOOP 0x38) (setBit v 0 true) false
  refine Answers.completes (hbKick_answers hc) ?_
  rw [State.loop_withPending, State.rb_withPending, State.hbKick_zero hkept]
  refine ⟨?_, hkept⟩
  rw [hsame.loop, hsame.time]

/-! ### Misses -/

/-- The instant at which a heartbeat last kicked at k counts as missed: the first whole µs beyond TMO (R230). -/
def State.missAt (s : State) (h : Nat) (k : DevTime) : DevTime := nextMicro (k + ns (1000 * max 1 (fld (s.reg (aLOOP (0x30 + 4 * h))) 19 0)))

/-- Every running context that names heartbeat h receives its cause (R229, R230). -/
def State.hbCauses (s : State) (h : Nat) : State :=
  s.runningCtxs.foldl (fun t n => if t.rb (aCTX n 0x40) (24 + h) then t.setCause n (20 + h) else t) s

theorem State.hbMiss_zero (hen : s.rb (aLOOP 0x30) 31 = true) (hstat : s.rb (aLOOP 0x3C) 0 = false) :
    s.hbMiss 0 = ((((s.reach (s.missAt 0 s.loop.hb0.lastKick)).setB (aLOOP 0x3C) 0 true).satAdd (aLOOP 0x3C) 15 2 1).setErr 0x300 17).hbCauses 0 := by
  have hdue : ¬ ((!bit (s.reg (aLOOP (0x30 + 4 * 0))) 31) = true ∨ s.rb (aLOOP 0x3C) 0 = true ∨ (0 = 1 ∧ s.hb1Suspended = true)) := by
    simp [show bit (s.reg (aLOOP 0x30)) 31 = true from hen, hstat]
  exact if_neg hdue

theorem State.hbMiss_one (hen : s.rb (aLOOP 0x34) 31 = true) (hstat : s.rb (aLOOP 0x3C) 1 = false) (hchecked : s.hb1Suspended = false) :
    s.hbMiss 1 = ((((s.reach (s.missAt 1 s.loop.hb1.lastKick)).setB (aLOOP 0x3C) 1 true).satAdd (aLOOP 0x3C) 31 16 1).setErr 0x300 18).hbCauses 1 := by
  have hdue : ¬ ((!bit (s.reg (aLOOP (0x30 + 4 * 1))) 31) = true ∨ s.rb (aLOOP 0x3C) 1 = true ∨ (1 = 1 ∧ s.hb1Suspended = true)) := by
    simp [show bit (s.reg (aLOOP 0x34)) 31 = true from hen, hstat, hchecked]
  exact if_neg hdue

end

/-- Settles O36: a kick and a miss are each the rule of their heartbeat, with the conditions of R230 met. -/
theorem heartbeats : Obligations.Heartbeats := by
  refine ⟨fun s r v hc hstat => hbKick_completes hc hstat, fun s r v hc => hbKick_answers hc, fun s ht hstat => ?_, fun s ht => ?_,
    fun s ht hen hstat => ?_, fun s ht hen hstat hchecked => ?_⟩
  · exact Answers.timed (f := (·.hbKick 1)) rfl ht (State.hbKick_one hstat)
  · exact Answers.timed (f := (·.hbKick 1)) rfl ht rfl
  · exact Answers.timed (f := (·.hbMiss 0)) rfl ht (State.hbMiss_zero hen hstat)
  · exact Answers.timed (f := (·.hbMiss 1)) rfl ht (State.hbMiss_one hen hstat hchecked)

end Sys2Proof.Machine
end

section
/-! Rules that the statements of the rope share: reads of a field after a write of another one, and what a frame does as it arrives (R40, R256,
R274). -/

namespace Sys2Proof.Machine

/-! ### Reads after a write of another field -/

theorem State.rb_setF_ne (s : State) (a hi lo v c j : Nat) (hj : j < 32) (hl : lo ≤ hi) (h : c ≠ a ∨ j < lo ∨ hi < j) :
    (s.setF a hi lo v).rb c j = s.rb c j := by
  by_cases hc : c = a
  · subst hc
    simp only [State.rb, State.reg_setF, if_true]
    rw [bit_setFld _ _ _ _ _ hj, if_neg (by omega)]
  · rw [State.rb, State.reg_setF_ne _ _ _ _ _ _ hc, State.rb]

theorem State.rf_setB_ne (s : State) (a i : Nat) (b : Bool) (c hi lo : Nat) (hh : hi < 32) (hl : lo ≤ hi) (h : c ≠ a ∨ i < lo ∨ hi < i) :
    (s.setB a i b).rf c hi lo = s.rf c hi lo := by
  by_cases hc : c = a
  · subst hc
    exact State.rf_setF_disjoint s c i i _ hi lo hh le_rfl hl (by omega)
  · exact State.rf_setF_ne s a i i _ c hi lo hc

@[simp] theorem State.reg_updRope (s : State) (f : Rope → Rope) (a : Nat) : (s.updRope f).reg a = s.reg a := rfl
@[simp] theorem State.rb_updRope (s : State) (f : Rope → Rope) (a i : Nat) : (s.updRope f).rb a i = s.rb a i := rfl
@[simp] theorem State.rf_updRope (s : State) (f : Rope → Rope) (a hi lo : Nat) : (s.updRope f).rf a hi lo = s.rf a hi lo := rfl

theorem State.rb_congr {s t : State} {a : Nat} (h : t.reg a = s.reg a) (i : Nat) : t.rb a i = s.rb a i := by rw [State.rb, h, State.rb]

theorem State.rf_congr {s t : State} {a : Nat} (h : t.reg a = s.reg a) (hi lo : Nat) : t.rf a hi lo = s.rf a hi lo := by
  rw [State.rf, h, State.rf]

theorem State.rb_ite {c : Prop} [Decidable c] (s t : State) (a i : Nat) (b : Bool) (h1 : s.rb a i = b) (h2 : t.rb a i = b) :
    (if c then s else t).rb a i = b := by split <;> assumption

theorem State.rf_ite {c : Prop} [Decidable c] (s t : State) (a hi lo n : Nat) (h1 : s.rf a hi lo = n) (h2 : t.rf a hi lo = n) :
    (if c then s else t).rf a hi lo = n := by split <;> assumption

/-! ### Frames that arrive -/

theorem State.pageEnable_heard (s : State) (p : RopePort) (q : Nat) : (s.heard p).pageEnable q = s.pageEnable q := by
  have hne : pg q 0x004 ≠ pg (portPage p) 0x24 := by unfold pg; omega
  rw [State.pageEnable, State.rb_congr (s.reg_heard_ne p _ hne), State.pageEnable]

@[simp] theorem State.rope_heard (s : State) (p : RopePort) : (s.heard p).rope = s.rope := by
  unfold State.heard
  dsimp only
  split <;> rfl

@[simp] theorem State.time_heard (s : State) (p : RopePort) : (s.heard p).time = s.time := by
  unfold State.heard
  dsimp only
  split <;> rfl

section
variable {s : State} {p : RopePort}

theorem State.frameIn_whole (hon : s.ropeOff = false) (hen : s.pageEnable (portPage p) = true) (mine : Bool) (act : State → State) :
    s.frameIn p .whole mine act = (act (s.heard p)).linkChecks s := by
  simp [State.frameIn, State.frameArrives, hon, hen]

/-- A bad header counts wherever the frame is seen, a bad CRC-32 at the destination (R256). -/
theorem State.frameIn_counts (hon : s.ropeOff = false) (hen : s.pageEnable (portPage p) = true) {c : FrameCheck} {mine : Bool}
    (hc : c = .head ∨ (c = .body ∧ mine = true)) (act : State → State) :
    s.frameIn p c mine act = ((s.heard p).satAdd (pg (portPage p) 0x02C) 31 0 1).linkChecks s := by
  rcases hc with rfl | ⟨rfl, rfl⟩
  · simp [State.frameIn, State.frameArrives, hon, hen]
  · simp [State.frameIn, State.frameArrives, hon, hen]

/-- A node that only passes a frame leaves one with a bad CRC-32 alone. -/
theorem State.frameIn_passes (hon : s.ropeOff = false) (hen : s.pageEnable (portPage p) = true) (act : State → State) :
    s.frameIn p .body false act = s.heard p := by
  simp [State.frameIn, State.frameArrives, hon, hen, State.linkChecks_heard]

theorem State.frameIn_other (mine : Bool) (act : State → State) : s.frameIn p .other mine act = s := by
  simp [State.frameIn, State.frameArrives, State.linkChecks_self]

theorem State.heard_disabled (hen : s.pageEnable (portPage p) = false) : s.heard p = s := by
  rw [State.heard, if_neg (ne_true_of_eq_false hen)]

end

end Sys2Proof.Machine
end

section
/-! Joining a rope, and leading one (R252, R253, R263, R268 to R270). -/

namespace Sys2Proof.Machine

/-! ### The bypass -/

section
variable (s : State) {a : Nat}

theorem State.reg_closeBypass_ne (hstat : a ≠ aROPE 0x2C) (hwest : a ≠ pg 0x541 0x24) (heast : a ≠ pg 0x542 0x24) :
    s.closeBypass.reg a = s.reg a := by
  simp only [State.closeBypass, State.setBypass, State.reg_updRope, State.reg_setB_ne _ _ _ _ _ hwest, State.reg_setB_ne _ _ _ _ _ heast,
    State.reg_setF_ne _ _ _ _ _ _ hstat, State.reg_setB_ne _ _ _ _ _ hstat]

/-- Closing the bypass changes BYPASS and the WRAP bits of STAT, and no other field of it. -/
theorem State.rf_closeBypass {hi lo : Nat} (hh : hi < 32) (hl : lo ≤ hi) (h : hi < 9 ∨ 11 < lo) :
    s.closeBypass.rf (aROPE 0x2C) hi lo = s.rf (aROPE 0x2C) hi lo := by
  simp only [State.closeBypass, State.setBypass, State.rf_updRope]
  rw [State.rf_setB_ne _ _ _ _ _ _ _ hh hl (.inl (by decide)), State.rf_setB_ne _ _ _ _ _ _ _ hh hl (.inl (by decide)),
    State.rf_setF_disjoint _ _ _ _ _ _ _ hh (by decide) hl (by omega), State.rf_setB_ne _ _ _ _ _ _ _ hh hl (by omega)]

theorem State.rb_closeBypass : s.closeBypass.rb (aROPE 0x2C) 9 = true := by
  have hset : (s.setBypass true).rb (aROPE 0x2C) 9 = true := State.rb_setB_same _ _ _ _ (by decide)
  simp (disch := decide) only [State.closeBypass, State.rb_updRope, State.rb_setB_ne, State.rb_setF_ne, hset]

/-- A wrap shows in the status of its port and in STAT, and counts in LOSSES of the port (R263). -/
theorem State.reg_wrapAt_ne (p : RopePort) (hstat : a ≠ aROPE 0x2C) (hport : a ≠ pg (portPage p) 0x24) (hcount : a ≠ pg (portPage p) 0x30) :
    (s.wrapAt p).reg a = s.reg a := by
  unfold State.wrapAt
  refine State.reg_ite _ _ _ _ rfl ?_
  rw [State.reg_updRope]
  refine State.reg_ite _ _ _ _ rfl ?_
  rw [State.reg_setB_ne _ _ _ _ _ hstat, State.reg_satAdd_ne _ _ _ _ _ _ hcount, State.reg_setB_ne _ _ _ _ _ hport]

end

/-- The registers of the ROPE page are not those of a port. -/
theorem aROPE_ne_port (p : RopePort) {o o' : Nat} (h : o < 0x1000 := by decide) (h' : o' < 0x1000 := by decide) : aROPE o ≠ pg (portPage p) o' := by
  cases p <;> simp only [aROPE, pg, portPage] <;> omega

section
variable (s : State) (p : RopePort)

/-- Of STAT a wrap changes the WRAP bits alone. -/
theorem State.rf_wrapAt {hi lo : Nat} (hh : hi < 32) (hl : lo ≤ hi) (h : hi < 10 ∨ 11 < lo) :
    (s.wrapAt p).rf (aROPE 0x2C) hi lo = s.rf (aROPE 0x2C) hi lo := by
  unfold State.wrapAt
  refine State.rf_ite _ _ _ _ _ _ rfl ?_
  rw [State.rf_updRope]
  refine State.rf_ite _ _ _ _ _ _ rfl ?_
  rw [State.rf_setB_ne _ _ _ _ _ _ _ hh hl (.inr (by split <;> omega)), State.satAdd, State.rf_setF_ne _ _ _ _ _ _ _ _ (aROPE_ne_port p),
    State.rf_setB_ne _ _ _ _ _ _ _ hh hl (.inl (aROPE_ne_port p))]

theorem State.rb_wrapAt {j : Nat} (hj : j < 32) (hwest : j ≠ 10) (heast : j ≠ 11) : (s.wrapAt p).rb (aROPE 0x2C) j = s.rb (aROPE 0x2C) j := by
  unfold State.wrapAt
  refine State.rb_ite _ _ _ _ _ rfl ?_
  rw [State.rb_updRope]
  refine State.rb_ite _ _ _ _ _ rfl ?_
  rw [State.rb_setB_ne _ _ _ _ _ _ hj (.inr (by split <;> assumption)), State.satAdd,
    State.rb_setF_ne _ _ _ _ _ _ _ hj (by decide) (.inl (aROPE_ne_port p)), State.rb_setB_ne _ _ _ _ _ _ hj (.inl (aROPE_ne_port p))]

/-- An active node wraps at WEST or EAST, wherever it was wrapped before (R263). -/
theorem State.wrapAt_wraps (hopen : s.bypassClosed = false) (hp : p ≠ .branch) : (s.wrapAt p).rb (pg (portPage p) 0x24) 3 = true := by
  have hside : ¬ (p = .branch ∨ s.bypassClosed = true) := by simp [hp, hopen]
  have hport : pg (portPage p) 0x24 ≠ aROPE 0x2C := (aROPE_ne_port p).symm
  have hcount : pg (portPage p) 0x24 ≠ pg (portPage p) 0x30 := by unfold pg; omega
  rw [State.wrapAt, if_neg hside, State.rb_updRope]
  split
  · assumption
  · rw [State.rb_setB_ne _ _ _ _ _ _ (by decide) (.inl hport), State.satAdd, State.rb_setF_ne _ _ _ _ _ _ _ (by decide) (by decide) (.inl hcount),
      State.rb_setB_same _ _ _ _ (by decide)]

/-- The node wraps at a port that is disabled or faulty. -/
def State.wrapFaulty : State := if !s.pageEnable (portPage p) || s.rb (pg (portPage p) 0x24) 4 then s.wrapAt p else s

theorem State.openBypass_eq : s.openBypass = ((s.setBypass false).wrapFaulty .west).wrapFaulty .east := rfl

theorem State.wrapFaulty_wraps (hopen : s.bypassClosed = false) (hp : p ≠ .branch)
    (h : s.pageEnable (portPage p) = false ∨ s.rb (pg (portPage p) 0x24) 4 = true) : (s.wrapFaulty p).rb (pg (portPage p) 0x24) 3 = true := by
  have hfaulty : (!s.pageEnable (portPage p) || s.rb (pg (portPage p) 0x24) 4) = true := by
    rcases h with h | h <;> simp [h]
  rw [State.wrapFaulty, if_pos hfaulty, State.wrapAt_wraps s p hopen hp]

theorem State.reg_wrapFaulty_ne {a : Nat} (hstat : a ≠ aROPE 0x2C) (hport : a ≠ pg (portPage p) 0x24) (hcount : a ≠ pg (portPage p) 0x30) :
    (s.wrapFaulty p).reg a = s.reg a := State.reg_ite _ _ _ _ (s.reg_wrapAt_ne p hstat hport hcount) rfl

theorem State.rb_wrapFaulty {j : Nat} (hj : j < 32) (hwest : j ≠ 10) (heast : j ≠ 11) :
    (s.wrapFaulty p).rb (aROPE 0x2C) j = s.rb (aROPE 0x2C) j := State.rb_ite _ _ _ _ _ (s.rb_wrapAt p hj hwest heast) rfl

theorem State.rf_wrapFaulty {hi lo : Nat} (hh : hi < 32) (hl : lo ≤ hi) (h : hi < 10 ∨ 11 < lo) :
    (s.wrapFaulty p).rf (aROPE 0x2C) hi lo = s.rf (aROPE 0x2C) hi lo := State.rf_ite _ _ _ _ _ _ (s.rf_wrapAt p hh hl h) rfl

end

section
variable (s : State)

/-- Opening the bypass changes BYPASS and the WRAP bits of STAT, and no other field of it. -/
theorem State.rf_openBypass {hi lo : Nat} (hh : hi < 32) (hl : lo ≤ hi) (h : hi < 9 ∨ 11 < lo) :
    s.openBypass.rf (aROPE 0x2C) hi lo = s.rf (aROPE 0x2C) hi lo := by
  rw [State.openBypass_eq, State.rf_wrapFaulty _ _ hh hl (by omega), State.rf_wrapFaulty _ _ hh hl (by omega), State.setBypass,
    State.rf_setB_ne _ _ _ _ _ _ _ hh hl (by omega)]

theorem State.rb_openBypass_ne {j : Nat} (hj : j < 32) (h : j < 9 ∨ 11 < j) : s.openBypass.rb (aROPE 0x2C) j = s.rb (aROPE 0x2C) j := by
  rw [State.openBypass_eq, State.rb_wrapFaulty _ _ hj (by omega) (by omega), State.rb_wrapFaulty _ _ hj (by omega) (by omega), State.setBypass,
    State.rb_setB_ne _ _ _ _ _ _ hj (by omega)]

theorem State.rb_openBypass : s.openBypass.rb (aROPE 0x2C) 9 = false := by
  rw [State.openBypass_eq, State.rb_wrapFaulty _ _ (by decide) (by decide) (by decide),
    State.rb_wrapFaulty _ _ (by decide) (by decide) (by decide), State.setBypass, State.rb_setB_same _ _ _ _ (by decide)]

theorem State.openBypass_wraps_west (h : s.pageEnable 0x541 = false ∨ s.rb (pg 0x541 0x24) 4 = true) :
    s.openBypass.rb (pg 0x541 0x24) 3 = true := by
  have hopen : (s.setBypass false).bypassClosed = false := State.rb_setB_same s _ _ _ (by decide)
  have hreg (o : Nat) (ho : o < 0x1000) : (s.setBypass false).reg (pg 0x541 o) = s.reg (pg 0x541 o) :=
    State.reg_setB_ne s _ _ _ _ (aROPE_ne_port .west (by decide) ho).symm
  have hwrapped := (s.setBypass false).wrapFaulty_wraps .west hopen (by decide) (by
    rwa [State.pageEnable, portPage, State.rb_congr (hreg 0x004 (by decide)), State.rb_congr (hreg 0x24 (by decide))])
  rw [State.openBypass_eq, State.rb_congr (State.reg_wrapFaulty_ne _ _ (by decide) (by decide) (by decide))]
  exact hwrapped

theorem State.openBypass_wraps_east (h : s.pageEnable 0x542 = false ∨ s.rb (pg 0x542 0x24) 4 = true) :
    s.openBypass.rb (pg 0x542 0x24) 3 = true := by
  have hopen : ((s.setBypass false).wrapFaulty .west).bypassClosed = false := by
    rw [State.bypassClosed, State.rb_wrapFaulty _ _ (by decide) (by decide) (by decide), State.setBypass, State.rb_setB_same _ _ _ _ (by decide)]
  have hreg (o : Nat) (ho : o < 0x1000) : ((s.setBypass false).wrapFaulty .west).reg (pg 0x542 o) = s.reg (pg 0x542 o) := by
    have hstat : pg 0x542 o ≠ aROPE 0x2C := (aROPE_ne_port .east (by decide) ho).symm
    have hother (o' : Nat) (ho' : o' < 0x1000) : pg 0x542 o ≠ pg (portPage .west) o' := by simp only [pg, portPage]; omega
    rw [State.reg_wrapFaulty_ne _ _ hstat (hother _ (by decide)) (hother _ (by decide)), State.setBypass, State.reg_setB_ne _ _ _ _ _ hstat]
  exact ((s.setBypass false).wrapFaulty .west).wrapFaulty_wraps .east hopen (by decide) (by
    rwa [State.pageEnable, portPage, State.rb_congr (hreg 0x004 (by decide)), State.rb_congr (hreg 0x24 (by decide))])

end

/-! ### Rates -/

section
variable (s : State)

theorem State.noteHop_own (v : Bool) : s.noteHop false v = s.updRope fun r => { r with oldHop := (s.noteHop false v).rope.oldHop } := by
  unfold State.noteHop
  split <;> rfl

theorem State.noteHop_branch (v : Bool) : s.noteHop true v = s.updRope fun r => { r with oldHopBr := (s.noteHop true v).rope.oldHopBr } := by
  unfold State.noteHop
  split <;> rfl

@[simp] theorem State.reg_noteHop (br v : Bool) (a : Nat) : (s.noteHop br v).reg a = s.reg a := by
  unfold State.noteHop
  split <;> rfl

/-- A rate that begins shows in STAT or BSTAT and at the ports, and settles which hop measurements stand (R243, R276). -/
theorem State.setRate_own_same (v : Bool) : SameOutside (s.noteHop false v) (s.setRate false v) := rfl

theorem State.setRate_branch_same (v : Bool) : SameOutside (s.noteHop true v) (s.setRate true v) := rfl

theorem State.setRate_own_shows (v : Bool) : (s.setRate false v).rb (aROPE 0x2C) 13 = v ∧ (s.setRate false v).rb (pg 0x541 0x24) 2 = v ∧
    (s.setRate false v).rb (pg 0x542 0x24) 2 = v := by
  simp (disch := decide) [State.setRate, State.rb_setB_ne, State.rb_setB_same]

theorem State.setRate_branch_shows (v : Bool) : (s.setRate true v).rb (aROPE 0x44) 13 = v ∧ (s.setRate true v).rb (pg 0x543 0x24) 2 = v := by
  simp (disch := decide) [State.setRate, State.rb_setB_ne, State.rb_setB_same]

theorem State.reg_setRate_own_ne (v : Bool) {a : Nat} (hstat : a ≠ aROPE 0x2C) (hwest : a ≠ pg 0x541 0x24) (heast : a ≠ pg 0x542 0x24) :
    (s.setRate false v).reg a = s.reg a := by
  simp [State.setRate, State.reg_setB_ne _ _ _ _ _ hstat, State.reg_setB_ne _ _ _ _ _ hwest, State.reg_setB_ne _ _ _ _ _ heast]

theorem State.rf_setRate_own (v : Bool) {hi lo : Nat} (hh : hi < 32) (hl : lo ≤ hi) (h : hi < 13 ∨ 13 < lo) :
    (s.setRate false v).rf (aROPE 0x2C) hi lo = s.rf (aROPE 0x2C) hi lo := by
  have hnote : (s.noteHop false v).rf (aROPE 0x2C) hi lo = s.rf (aROPE 0x2C) hi lo := State.rf_congr (s.reg_noteHop _ _ _) _ _
  simp only [State.setRate, Bool.false_eq_true, if_false]
  rw [State.rf_setB_ne _ _ _ _ _ _ _ hh hl (.inl (by decide)), State.rf_setB_ne _ _ _ _ _ _ _ hh hl (.inl (by decide)),
    State.rf_setB_ne _ _ _ _ _ _ _ hh hl (by omega), hnote]

theorem State.rb_setRate_branch {j : Nat} (v : Bool) (hj : j < 32) (h : j ≠ 13) : (s.setRate true v).rb (aROPE 0x44) j = s.rb (aROPE 0x44) j := by
  have hnote : (s.noteHop true v).rb (aROPE 0x44) j = s.rb (aROPE 0x44) j := State.rb_congr (s.reg_noteHop _ _ _) _
  simp only [State.setRate, if_true]
  rw [State.rb_setB_ne _ _ _ _ _ _ hj (.inl (by decide)), State.rb_setB_ne _ _ _ _ _ _ hj (.inr h), hnote]

theorem State.showLimits_same : SameOutside s s.showLimits := rfl

theorem State.reg_showLimits_ne {a : Nat} (h : a ≠ aROPE 0x48) : s.showLimits.reg a = s.reg a :=
  (State.reg_setF_ne _ _ _ _ _ _ h).trans (State.reg_setF_ne s _ _ _ _ _ h)

end

/-! ### The receivers lock (R268) -/

section
variable (s : State) (p : RopePort)

/-- The receiver of a port that is enabled has a signal, is locked, and is faulty no more (log 105). -/
def State.lockPort : State :=
  let a := pg (portPage p) 0x24
  if s.pageEnable (portPage p) then ((s.setB a 0 true).setB a 1 true).setB a 4 false else s

theorem State.ropeLock_listening {rate : Bool} (h : s.ropeState = rsLISTEN) :
    s.ropeLock rate = (((s.setRate false rate).lockPort .west).lockPort .east).showLimits := if_neg (not_not_intro h)

theorem State.lockPort_same : SameOutside s (s.lockPort p) := by
  unfold State.lockPort
  split <;> rfl

theorem State.reg_lockPort_ne {a : Nat} (h : a ≠ pg (portPage p) 0x24) : (s.lockPort p).reg a = s.reg a := by
  unfold State.lockPort
  refine State.reg_ite _ _ _ _ ?_ rfl
  rw [State.reg_setB_ne _ _ _ _ _ h, State.reg_setB_ne _ _ _ _ _ h, State.reg_setB_ne _ _ _ _ _ h]

theorem State.lockPort_shows (h : s.pageEnable (portPage p) = true) :
    (s.lockPort p).rb (pg (portPage p) 0x24) 0 = true ∧ (s.lockPort p).rb (pg (portPage p) 0x24) 1 = true ∧
      (s.lockPort p).rb (pg (portPage p) 0x24) 2 = s.rb (pg (portPage p) 0x24) 2 := by
  rw [State.lockPort, if_pos h]
  simp (disch := simp) [State.rb_setB_ne, State.rb_setB_same]

end

/-- At the lock the rate shows in STAT and at both ports (R268). -/
theorem State.ropeLock_shows {s : State} {rate : Bool} (h : s.ropeState = rsLISTEN) : let t := s.ropeLock rate
    t.rb (aROPE 0x2C) 13 = rate ∧
      (s.pageEnable 0x541 = true → t.rb (pg 0x541 0x24) 0 = true ∧ t.rb (pg 0x541 0x24) 1 = true ∧ t.rb (pg 0x541 0x24) 2 = rate) ∧
      (s.pageEnable 0x542 = true → t.rb (pg 0x542 0x24) 0 = true ∧ t.rb (pg 0x542 0x24) 1 = true ∧ t.rb (pg 0x542 0x24) 2 = rate) := by
  intro t
  obtain ⟨hstat, hwest, heast⟩ := s.setRate_own_shows rate
  have ht : t = (((s.setRate false rate).lockPort .west).lockPort .east).showLimits := s.ropeLock_listening h
  rw [ht]
  refine ⟨?_, fun hen => ?_, fun hen => ?_⟩
  · rw [State.rb_congr (State.reg_showLimits_ne _ (by decide)), State.rb_congr (State.reg_lockPort_ne _ _ (by decide)),
      State.rb_congr (State.reg_lockPort_ne _ _ (by decide)), hstat]
  · have hport (i : Nat) : ((((s.setRate false rate).lockPort .west).lockPort .east).showLimits).rb (pg 0x541 0x24) i =
        ((s.setRate false rate).lockPort .west).rb (pg 0x541 0x24) i := by
      rw [State.rb_congr (State.reg_showLimits_ne _ (by decide)), State.rb_congr (State.reg_lockPort_ne _ _ (by decide))]
    have hon : (s.setRate false rate).pageEnable (portPage .west) = true := by
      rw [State.pageEnable, portPage, State.rb_congr (s.reg_setRate_own_ne rate (by decide) (by decide) (by decide))]; exact hen
    obtain ⟨hsig, hlock, hrate⟩ := (s.setRate false rate).lockPort_shows .west hon
    rw [hport, hport, hport]
    exact ⟨hsig, hlock, hrate.trans hwest⟩
  · have hport (i : Nat) : ((((s.setRate false rate).lockPort .west).lockPort .east).showLimits).rb (pg 0x542 0x24) i =
        (((s.setRate false rate).lockPort .west).lockPort .east).rb (pg 0x542 0x24) i := by
      rw [State.rb_congr (State.reg_showLimits_ne _ (by decide))]
    have hon : ((s.setRate false rate).lockPort .west).pageEnable (portPage .east) = true := by
      rw [State.pageEnable, portPage, State.rb_congr (State.reg_lockPort_ne _ _ (by decide)),
        State.rb_congr (s.reg_setRate_own_ne rate (by decide) (by decide) (by decide))]; exact hen
    obtain ⟨hsig, hlock, hrate⟩ := ((s.setRate false rate).lockPort .west).lockPort_shows .east hon
    rw [hport, hport, hport]
    refine ⟨hsig, hlock, hrate.trans ?_⟩
    rw [portPage, State.rb_congr (State.reg_lockPort_ne _ _ (by decide)), heast]

/-- Besides registers the lock changes only which hop measurements stand. -/
theorem State.ropeLock_same {s : State} {rate : Bool} (h : s.ropeState = rsLISTEN) :
    SameOutside { s with rope := { s.rope with oldHop := (s.ropeLock rate).rope.oldHop } } (s.ropeLock rate) := by
  have hsame : SameOutside (s.noteHop false rate) (s.ropeLock rate) := by
    rw [s.ropeLock_listening h]
    exact (((s.setRate_own_same rate).trans (State.lockPort_same _ _)).trans (State.lockPort_same _ _)).trans (State.showLimits_same _)
  have hnote := s.noteHop_own rate
  rw [← hsame.rope_oldHop] at hnote
  rw [hnote] at hsame
  exact hsame

/-! ### ENABLE (R268) -/

@[simp] theorem State.reg_unitEnabled (s : State) (p ch a : Nat) : (s.unitEnabled p ch).reg a = s.reg a := by
  unfold State.unitEnabled
  dsimp only
  split <;> rfl

/-- ENABLE of the ROPE page reads 1. -/
def State.ropeCtlSet (s : State) : State := (s.setB (pg 0x540 0x004) 0 true).unitEnabled 0x540 0xFFFF

theorem State.reg_ropeCtlSet_ne (s : State) {a : Nat} (h : a ≠ pg 0x540 0x004) : s.ropeCtlSet.reg a = s.reg a := by
  rw [State.ropeCtlSet, State.reg_unitEnabled, State.reg_setB_ne _ _ _ _ _ h]

/-- What R253 has stopped may lead again. -/
def Rope.restarted (r : Rope) : Rope := { r with own := { r.own with stopped := false }, br := { r.br with stopped := false } }

theorem State.writeCtl_ropeEnable {s : State} {v : Word} (hoff : s.pageEnable 0x540 = false) (hcommit : bit v 1 = false) (hlock : bit v 2 = false) :
    s.writeCtl 0x540 (setBit v 0 true) false = (s.ropeCtlSet.updRope Rope.restarted).ropeListen := by
  have hheld : (s.heldMask (pg 0x540 0x004) != 0) = true := rfl
  have hbits : bit (setBit v 0 true) 0 = true ∧ bit (setBit v 0 true) 1 = false ∧ bit (setBit v 0 true) 2 = false := by
    simp [bit_setBit, hcommit, hlock]
  obtain ⟨henable, hcommit, hlock⟩ := hbits
  simp only [State.writeCtl, hheld, hoff, henable, hcommit, hlock]
  rfl

section
variable {s : State}

theorem State.ropeListen_leaving (hrole : s.ropeRole ≠ 0) (hst : s.ropeState = rsLEAVING) :
    s.ropeListen = s.updRope fun r => { r with again := true } := by
  rw [State.ropeListen, if_neg hrole, if_pos hst]

theorem State.ropeListen_belayed (hrole : s.ropeRole ≠ 0) (hst : s.ropeState ≠ rsLEAVING) (hstop : s.rope.own.stopped = false)
    (hbelay : s.rb (aROPE 0x28) 0 = true) :
    s.ropeListen = (s.updRope fun r => { r with checked := false, again := false }).setF (aROPE 0x2C) 3 0 rsBELAYED := by
  rw [State.ropeListen, if_neg hrole, if_neg hst]
  simp only [hstop, hbelay]
  rfl

theorem State.ropeListen_listens (hrole : s.ropeRole ≠ 0) (hst : s.ropeState ≠ rsLEAVING) (hstop : s.rope.own.stopped = false)
    (hbelay : s.rb (aROPE 0x28) 0 = false) :
    s.ropeListen = (((s.updRope fun r => { r with checked := false, again := false }).setF (aROPE 0x2C) 3 0 rsLISTEN).setF
      (aROPE 0x2C) 31 28 0).closeBypass := by
  rw [State.ropeListen, if_neg hrole, if_neg hst]
  simp only [hstop, hbelay]
  rfl

/-- A node that listens shows it in STAT, with no cause of refusal and its bypass closed. -/
theorem State.ropeListen_shows (hrole : s.ropeRole ≠ 0) (hst : s.ropeState ≠ rsLEAVING) (hstop : s.rope.own.stopped = false)
    (hbelay : s.rb (aROPE 0x28) 0 = false) :
    s.ropeListen.rf (aROPE 0x2C) 3 0 = rsLISTEN ∧ s.ropeListen.rb (aROPE 0x2C) 9 = true ∧ s.ropeListen.rf (aROPE 0x2C) 31 28 = 0 ∧
      s.ropeListen.reg (pg 0x540 0x004) = s.reg (pg 0x540 0x004) ∧ s.ropeListen.rope.checked = false ∧
      s.ropeListen.rope.own = s.rope.own ∧ s.ropeListen.rope.br = s.rope.br := by
  rw [State.ropeListen_listens hrole hst hstop hbelay]
  refine ⟨?_, State.rb_closeBypass _, ?_, ?_, rfl, rfl, rfl⟩
  · simp (disch := decide) only [State.rf_closeBypass, State.rf_setF_disjoint, State.rf_setF_of_lt]
  · simp (disch := decide) only [State.rf_closeBypass, State.rf_setF_of_lt]
  · simp (disch := decide) only [State.reg_closeBypass_ne, State.reg_setF_ne, State.reg_updRope]

end

theorem ropeEnable_answers {s : State} {r : ReqId} {v : Word} (hc : Accepted s r (pg 0x540 0x004) (setBit v 0 true))
    (hoff : s.pageEnable 0x540 = false) (hcommit : bit v 1 = false) (hlock : bit v 2 = false) (hrole : s.ropeRole ≠ 0) :
    let t := s.writeCtl 0x540 (setBit v 0 true) false
    (s.ropeState = rsLEAVING → Answers (.ropeEnable r v) s t ∧ t.rope.again = true ∧ t.rf (aROPE 0x2C) 3 0 = rsLEAVING) ∧
    (s.ropeState ≠ rsLEAVING → s.rb (aROPE 0x28) 0 = true → Answers (.ropeEnable r v) s t ∧ t.rf (aROPE 0x2C) 3 0 = rsBELAYED) ∧
    (s.ropeState ≠ rsLEAVING → s.rb (aROPE 0x28) 0 = false → Answers (.ropeEnable r v) s t ∧ t.rf (aROPE 0x2C) 3 0 = rsLISTEN ∧
      t.rb (aROPE 0x2C) 9 = true ∧ t.rf (aROPE 0x2C) 31 28 = 0 ∧ t.rb (pg 0x540 0x004) 0 = true ∧ t.rope.checked = false ∧
      t.rope.own.stopped = false ∧ t.rope.br.stopped = false) := by
  intro t
  have hanswer : Answers (.ropeEnable r v) s t := hc.ctl rfl
  have ht : t = (s.ropeCtlSet.updRope Rope.restarted).ropeListen := State.writeCtl_ropeEnable hoff hcommit hlock
  have hkept {a : Nat} (h : a ≠ pg 0x540 0x004) : (s.ropeCtlSet.updRope Rope.restarted).reg a = s.reg a := s.reg_ropeCtlSet_ne h
  have hrole' : (s.ropeCtlSet.updRope Rope.restarted).ropeRole ≠ 0 := by
    rwa [State.ropeRole, State.rf_congr (hkept (by decide))]
  have hst' : (s.ropeCtlSet.updRope Rope.restarted).ropeState = s.ropeState := State.rf_congr (hkept (by decide)) _ _
  have hbelay' : (s.ropeCtlSet.updRope Rope.restarted).rb (aROPE 0x28) 0 = s.rb (aROPE 0x28) 0 := State.rb_congr (hkept (by decide)) _
  refine ⟨fun hst => ⟨hanswer, ?_⟩, fun hst hbelay => ⟨hanswer, ?_⟩, fun hst hbelay => ⟨hanswer, ?_⟩⟩
  · rw [ht, State.ropeListen_leaving hrole' (hst'.trans hst)]
    exact ⟨rfl, hst'.trans hst⟩
  · rw [ht, State.ropeListen_belayed hrole' (by rwa [hst']) rfl (hbelay'.trans hbelay)]
    exact State.rf_setF_of_lt _ _ _ _ _ (by decide) (by decide) (by decide)
  · obtain ⟨hlisten, hbypass, hcause, hctl, hchecked, hown, hbr⟩ := State.ropeListen_shows hrole' (by rwa [hst']) rfl (hbelay'.trans hbelay)
    rw [ht]
    have hset : s.ropeCtlSet.rb (pg 0x540 0x004) 0 = true := by
      rw [State.ropeCtlSet, State.rb_congr (State.reg_unitEnabled _ _ _ _), State.rb_setB_same _ _ _ _ (by decide)]
    exact ⟨hlisten, hbypass, hcause, (State.rb_congr hctl 0).trans hset, hchecked, by rw [hown]; rfl, by rw [hbr]; rfl⟩

/-! ### The join check and the opening of the bypass (R263, R268, R269) -/

section
variable {s : State} {f : CycleFrame} {west : Bool}

theorem State.joinCheck_passes (hst : s.ropeState = rsLISTEN) (hrole : s.ropeRole = 1) (hon : s.pageEnable 0x540 = true)
    (hcause : s.joinRefusal f west = 0) : s.joinCheck f west = (s.takeSync f).updRope fun r => { r with checked := true } := by
  simp [State.joinCheck, hst, hrole, hon, hcause]

theorem State.joinCheck_refuses (hst : s.ropeState = rsLISTEN) (hrole : s.ropeRole = 1) (hon : s.pageEnable 0x540 = true)
    (hcause : s.joinRefusal f west ≠ 0) : s.joinCheck f west =
      ((((s.takeSync f).setF (aROPE 0x2C) 31 28 (s.joinRefusal f west)).setF (aROPE 0x2C) 3 0 rsREFUSED).closeBypass).setErr 0x540 16 := by
  simp [State.joinCheck, hst, hrole, hon, hcause, State.setRopeState]

theorem State.joinOpen_checked (hchecked : s.rope.checked = true) (hst : s.ropeState = rsLISTEN) :
    s.joinOpen = ((s.setF (aROPE 0x2C) 3 0 rsJOINING).openBypass).updRope fun r => { r with checked := false } := by
  simp [State.joinOpen, hchecked, hst, State.setRopeState]

end

/-- A node that joins shows it in STAT, with its bypass open, wrapped at a port that is disabled or faulty. -/
theorem State.joinOpen_shows (s : State) : let t := ((s.setF (aROPE 0x2C) 3 0 rsJOINING).openBypass).updRope fun r => { r with checked := false }
    t.rf (aROPE 0x2C) 3 0 = rsJOINING ∧ t.rb (aROPE 0x2C) 9 = false ∧ t.rope.checked = false ∧
      (s.pageEnable 0x541 = false ∨ s.rb (pg 0x541 0x24) 4 = true → t.rb (pg 0x541 0x24) 3 = true) ∧
      (s.pageEnable 0x542 = false ∨ s.rb (pg 0x542 0x24) 4 = true → t.rb (pg 0x542 0x24) 3 = true) := by
  intro t
  have hkept {a : Nat} (h : a ≠ aROPE 0x2C) (i : Nat) : (s.setF (aROPE 0x2C) 3 0 rsJOINING).rb a i = s.rb a i :=
    State.rb_congr (State.reg_setF_ne _ _ _ _ _ _ h) i
  refine ⟨?_, State.rb_openBypass _, rfl, fun h => ?_, fun h => ?_⟩
  · exact (State.rf_openBypass _ (by decide) (by decide) (by decide)).trans (State.rf_setF_of_lt _ _ _ _ _ (by decide) (by decide) (by decide))
  · exact State.openBypass_wraps_west _ (by rwa [State.pageEnable, hkept (by decide), hkept (by decide)])
  · exact State.openBypass_wraps_east _ (by rwa [State.pageEnable, hkept (by decide), hkept (by decide)])

theorem State.joined_present {s : State} (hst : s.ropeState = rsJOINING) (hpos : (s.present false).getLsbD s.ropePos = true) :
    s.joined = s.setF (aROPE 0x2C) 3 0 rsJOINED := by
  simp [State.joined, hst, hpos, State.setRopeState]

theorem State.joinTimeout_joining {s : State} (hst : s.ropeState = rsJOINING) :
    s.joinTimeout = (s.setF (aROPE 0x2C) 3 0 rsLISTEN).closeBypass := if_pos hst

/-! ### Leading (R253, R268) -/

/-- The leader sends: its rate, cycle and size show, and its bypass is open. -/
def State.leads (s : State) : State :=
  let s1 := ((s.setF (aROPE 0x2C) 3 0 rsLEADING).setRate false s.startRate).openBypass
  ((s1.setF (aROPE 0x2C) 15 14 (activeCyc s.startRate (s.rf (aROPE 0x20) 11 10))).setF (aROPE 0x2C) 21 16 (s.rf (aROPE 0x20) 17 12)).showLimits

theorem State.leadingStart_own {s : State} (hon : s.pageEnable 0x540 = true) (hrole : s.ropeRole = 2) (hst : s.ropeState = rsLISTEN)
    (hstop : s.rope.own.stopped = false) : s.leadingStart false = s.leads := by
  simp [State.leadingStart, hon, hrole, hst, hstop, State.leads, State.setRopeState]

theorem State.leads_shows (s : State) : s.leads.rf (aROPE 0x2C) 3 0 = rsLEADING ∧ s.leads.rb (aROPE 0x2C) 9 = false ∧
    s.leads.rb (aROPE 0x2C) 13 = decide (s.rf (aROPE 0x20) 9 8 = 2) ∧ s.leads.rf (aROPE 0x2C) 21 16 = s.rf (aROPE 0x20) 17 12 := by
  have hlimits {a : Nat} (h : a ≠ aROPE 0x48) (t : State) : t.showLimits.reg a = t.reg a := t.reg_showLimits_ne h
  refine ⟨?_, ?_, ?_, ?_⟩
  · rw [State.leads, State.rf_congr (hlimits (by decide) _)]
    simp (disch := decide) only [State.rf_setF_disjoint, State.rf_openBypass, State.rf_setRate_own, State.rf_setF_of_lt]
  · rw [State.leads, State.rb_congr (hlimits (by decide) _)]
    simp (disch := decide) only [State.rb_setF_ne, State.rb_openBypass]
  · rw [State.leads, State.rb_congr (hlimits (by decide) _)]
    simp (disch := decide) only [State.rb_setF_ne, State.rb_openBypass_ne]
    exact (State.setRate_own_shows _ _).1
  · rw [State.leads, State.rf_congr (hlimits (by decide) _)]
    exact State.rf_setF_of_lt _ _ _ _ _ (by decide) (by decide) (s.rf_lt _ 17 12)

/-- The anchor sends on its branch. -/
def State.leadsBranch (s : State) : State := ((s.setB (aROPE 0x44) 0 true).setRate true s.startRate).showLimits

theorem State.leadingStart_branch {s : State} (hon : s.pageEnable 0x540 = true) (hanchor : s.isAnchor = true) (hport : s.pageEnable 0x543 = true)
    (hstop : s.rope.br.stopped = false) (hidle : s.rb (aROPE 0x44) 0 = false) (hoff : s.ropeState ≠ rsOFF) (hleaving : s.ropeState ≠ rsLEAVING)
    (hbelayed : s.ropeState ≠ rsBELAYED) : s.leadingStart true = s.leadsBranch := by
  simp [State.leadingStart, hon, hanchor, hport, hstop, State.branchActive, hidle, hoff, hleaving, hbelayed, State.leadsBranch]

theorem State.leadsBranch_shows (s : State) : s.leadsBranch.rb (aROPE 0x44) 0 = true ∧
    s.leadsBranch.rb (aROPE 0x44) 13 = decide (s.rf (aROPE 0x20) 9 8 = 2) ∧
    SameOutside { s with rope := { s.rope with oldHopBr := s.leadsBranch.rope.oldHopBr } } s.leadsBranch := by
  refine ⟨?_, ?_, ?_⟩
  · rw [State.leadsBranch, State.rb_congr (State.reg_showLimits_ne _ (by decide)), State.rb_setRate_branch _ _ (by decide) (by decide),
      State.rb_setB_same _ _ _ _ (by decide)]
  · rw [State.leadsBranch, State.rb_congr (State.reg_showLimits_ne _ (by decide))]
    exact (State.setRate_branch_shows _ _).1
  · have hsame : SameOutside ((s.setB (aROPE 0x44) 0 true).noteHop true s.startRate) s.leadsBranch :=
      (State.setRate_branch_same _ _).trans (State.showLimits_same _)
    have hnote := (s.setB (aROPE 0x44) 0 true).noteHop_branch s.startRate
    rw [← hsame.rope_oldHopBr] at hnote
    rw [hnote] at hsame
    exact (State.setB_same { s with rope := { s.rope with oldHopBr := s.leadsBranch.rope.oldHopBr } } (aROPE 0x44) 0 true).trans hsame

/-- Settles O37: a write of ENABLE by the state of the node, and each other command in the case that its hypotheses name. -/
theorem ropeJoining : Obligations.RopeJoining := by
  refine ⟨fun s r v hc hoff hcommit hlock hrole => ropeEnable_answers hc hoff hcommit hlock hrole, fun s rate ha hst => ?_,
    fun s f west ha hst hrole hon => ⟨fun hcause => ?_, fun hcause => ?_⟩, fun s ha hchecked hst => ?_, fun s ha hst hpos => ?_, fun s ha hst => ?_,
    fun s ha hon hrole hst hstop => ?_, fun s ha hon hanchor hport hstop hidle hoff hleaving hbelayed => ?_⟩
  · obtain ⟨hstat, hwest, heast⟩ := State.ropeLock_shows hst (rate := rate)
    exact ⟨Answers.live (f := (·.ropeLock rate)) rfl ha rfl, hstat, hwest, heast, State.ropeLock_same hst⟩
  · exact Answers.live (f := (·.joinCheck f west)) rfl ha (State.joinCheck_passes hst hrole hon hcause)
  · exact Answers.live (f := (·.joinCheck f west)) rfl ha (State.joinCheck_refuses hst hrole hon hcause)
  · exact ⟨Answers.live (f := State.joinOpen) rfl ha (State.joinOpen_checked hchecked hst), s.joinOpen_shows⟩
  · exact Answers.live (f := State.joined) rfl ha (State.joined_present hst hpos)
  · exact Answers.live (f := State.joinTimeout) rfl ha (State.joinTimeout_joining hst)
  · exact ⟨Answers.live (f := (·.leadingStart false)) rfl ha (State.leadingStart_own hon hrole hst hstop), s.leads_shows⟩
  · exact ⟨Answers.live (f := (·.leadingStart true)) rfl ha
      (State.leadingStart_branch hon hanchor hport hstop hidle hoff hleaving hbelayed), s.leadsBranch_shows⟩

end Sys2Proof.Machine
end

section
/-! A fault of a rope port that its own event reports over the rope (R274, R311). The statement of what the fault leaves of the rope keeps every
frame that waits as it was; but the event of the fault, routed to a rope target, renews the message of an earlier occurrence that still waits for a
slot. -/

namespace Sys2Proof.Machine

/-- A joined node whose WEST port reports its faults to mailbox 16 of node 5, the message of an earlier fault still waiting for its slot. -/
def faultReported : State :=
  { State.reset with
    power := { State.reset.power with inReset := false }
    regs := { State.reset.regs with act := [(aMODE, 0x4004), (aRTGT 0, 0x2005), (aROUTE 65, 0x800), (pg 0x540 0x004, 1), (aROPE 0x2C, 3),
      (pg 0x541 0x004, 1), (pg 0x541 0x010, 0x10000)] }
    evt := { State.reset.evt with counts := [(65, 1)] }
    rope := { State.reset.rope with pairs :=
      [(5, { out := [{ seq := 0, requester := 0, addr := 0, body := .mbx 16 false 0 (eventRecord 65 0 0 1 0), sends := 0 }] })] } }

/-- Refutes O38: a fault at WEST raises event 65, whose new record takes the place of the one that waits in the rope's requests, so more of the rope
changes than that the port is not clean. -/
theorem not_ropeLeaving : ¬ Obligations.RopeLeaving := by
  intro h
  obtain ⟨_, _, _, _, hfault, _⟩ := h
  have hawake : faultReported.awake = true := by decide +kernel
  have hopen : faultReported.rb (aROPE 0x2C) 9 = false := by decide +kernel
  have hunwrapped : faultReported.rb (pg 0x541 0x24) 3 = false := by decide +kernel
  have hrenewed : ((faultReported.portFault .west .noCstart).linkChecks faultReported).rope.pairs ≠ faultReported.rope.pairs := by decide +kernel
  obtain ⟨t, ht, _, _, _, _, hrope, _⟩ := hfault faultReported hawake hopen hunwrapped
  have hanswer : Answers (.portFault .west .noCstart) faultReported ((faultReported.portFault .west .noCstart).linkChecks faultReported) :=
    Answers.live (f := fun u => (u.portFault .west .noCstart).linkChecks u) rfl hawake rfl
  rw [hanswer] at ht
  rw [← Host.Outcome.next.inj ht] at hrope
  have hkept := congrArg Rope.pairs hrope
  exact hrenewed hkept

end Sys2Proof.Machine
end

section
/-! Rope cycles, the rates of a rope, and the measurement of a hop (R253, R256 to R260, R265, R275, R276). -/

namespace Sys2Proof.Machine

/-! ### What a value shown draws and writes -/

section
variable (s : State)

theorem State.roundFree_same (x : Rat) : SameOutside s (s.roundFree x).2 := by
  unfold State.roundFree
  split <;> rfl

theorem State.reg_roundFree (x : Rat) (a : Nat) : (s.roundFree x).2.reg a = s.reg a := by
  unfold State.roundFree
  split <;> rfl

theorem State.showHop_same (br : Bool) : SameOutside s (s.showHop br) := by
  unfold State.showHop
  split
  · rfl
  · next x _ => exact (s.roundFree_same x).trans (State.setReg_same _ _ _)

theorem State.reg_showHop_ne (br : Bool) {a : Nat} (hbranch : a ≠ aRT 0x34) (heast : a ≠ aRT 0x30) : (s.showHop br).reg a = s.reg a := by
  unfold State.showHop
  split
  · rfl
  · next x _ =>
    have hne : a ≠ aRT (if br = true then 0x34 else 0x30) := by cases br <;> assumption
    exact (State.reg_setReg_ne _ _ _ _ hne).trans (s.reg_roundFree x a)

theorem State.tword_same (x : Option Rat) : SameOutside s (s.tword x).2 := by
  cases x with
  | none => rfl
  | some v => exact s.roundFree_same v

end

/-! ### PRESENT (R267, R281) -/

/-- Besides registers and what an event changes, a state differs in its time base alone. -/
def SameButTime (s t : State) : Prop := SameOutside { s with time := t.time } t

namespace SameButTime

theorem of_same {s t : State} (h : SameOutside s t) : SameButTime s t := by
  have htime := h.time
  unfold SameButTime
  rw [htime]
  exact h

theorem refl (s : State) : SameButTime s s := of_same rfl

theorem trans {s t u : State} (h1 : SameButTime s t) (h2 : SameButTime t u) : SameButTime s u :=
  SameOutside.trans (h1.with_time u.time) h2

theorem ite {s t u : State} {c : Prop} [Decidable c] (h1 : SameButTime s t) (h2 : SameButTime s u) : SameButTime s (if c then t else u) := by
  split <;> assumption

end SameButTime

section
variable (s : State)

theorem State.setQuality_sameButTime (q : Nat) : SameButTime s (s.setQuality q) := by
  unfold State.setQuality
  refine SameButTime.ite (SameButTime.refl s) ?_
  have hset : SameButTime s { s.setF aTIME_STAT 3 0 q with
      time := { s.time with boundAtEntry := s.boundNow, entryTime := s.time.now, fromWake := false } } := rfl
  exact hset.trans (SameButTime.of_same (State.raise_same _ 80))

theorem State.showBudget_sameButTime : SameButTime s s.showBudget := by
  unfold State.showBudget
  dsimp only
  have hcounts (h y : Nat) : SameOutside s ((s.setF (aRT 0x24) 27 22 h).setF (aRT 0x24) 21 16 y) :=
    (State.setF_same s _ _ _ _).trans (State.setF_same _ _ _ _ _)
  refine SameButTime.ite (SameButTime.of_same (hcounts _ _)) (SameButTime.ite ?_ (SameButTime.of_same ?_))
  · exact ((SameButTime.of_same (((hcounts _ _).trans (State.setF_same _ _ _ _ _)).trans (State.setErr_same _ _ _))).trans
      (State.setQuality_sameButTime _ _)).trans (SameButTime.of_same (State.setReg_same _ _ _))
  · exact (hcounts _ _).trans (State.setF_same _ _ _ _ _)

/-- A new PRESENT changes registers, raises what it raises, and may end LOCKED in the time base. -/
theorem State.setPresent_sameButTime (br : Bool) (p : BitVec 64) : SameButTime s (s.setPresent br p) := by
  unfold State.setPresent
  refine SameButTime.ite (SameButTime.refl s) (SameButTime.trans (SameButTime.of_same ?_) (State.showBudget_sameButTime _))
  have hset (lo hi : Nat) (v w : Word) : SameOutside s ((s.setReg lo v).setReg hi w) := (State.setReg_same s _ _).trans (State.setReg_same _ _ _)
  exact SameOutside.ite ((hset _ _ _ _).trans (State.setErr_same _ _ _)) (hset _ _ _ _)

end

/-! ### A cycle begins (R257, R260) -/

section
variable {s : State} {tc : DevTime}

theorem State.cycleStart_between {br : Bool} (h : s.cycleInstant br tc = false) : s.cycleStart br tc = s := by
  simp [State.cycleStart, h]

/-- The leader sends its frame: what the new PRESENT then changes is not of the cycle. -/
theorem State.cycleStart_leads (hpast : laterThan tc s.time.now = false) (hst : s.ropeState = rsLEADING) (hstop : s.rope.own.stopped = false)
    (hsends : s.transmits false = true) (hdue : s.cycleInstant false tc = true) :
    ∃ (u : State) (present : BitVec 64), s.cycleStart false tc = u.setPresent false present ∧ u.rope.own.cycleNo = s.rope.own.cycleNo + 1 ∧
      u.rope.own.returned = none ∧ u.rope.eastOut = some (s.rope.own.cycleNo.truncate 12, tc) ∧ u.dramMem = s.dramMem ∧ u.otp = s.otp := by
  have hon : ¬ ((!(s.ropeState == rsLEADING && !s.rope.own.stopped) || !s.transmits false || !s.cycleInstant false tc) = true) := by
    simp [hst, hstop, hsends, hdue]
  have hdraws := s.tword_same ((s.hopMean false).map (· + (s.hopAdj false : Rat)))
  unfold State.cycleStart
  rw [State.reach_past hpast]
  refine (if_neg hon).symm ▸ ?_
  extract_lets
  split
  next v d stat _ =>
  split
  next tw s1 hdrawn =>
  have hs1 : SameOutside s s1 := by rw [hdrawn] at hdraws; exact hdraws
  exact ⟨_, _, rfl, rfl, rfl, rfl, hs1.dramMem, hs1.otp⟩

end

/-! ### Frames that a node receives (R256, R260) -/

section
variable {s : State} {f : CycleFrame} {west : Bool} {ta : DevTime} {w : Wire}

theorem State.cycleFrameRx_bad (hpast : laterThan ta s.time.now = false) (hon : s.pageEnable 0x540 = true)
    (hport : s.pageEnable (portPage (if west then .west else .east)) = true) (hc : cycleCheck f w = .head ∨ cycleCheck f w = .body) (fwd : Nat) :
    s.cycleFrameRx f west ta fwd w =
      (s.heard (if west then .west else .east)).satAdd (pg (portPage (if west then .west else .east)) 0x2C) 31 0 1 := by
  unfold State.cycleFrameRx
  rw [State.reach_past hpast]
  rcases hc with hc | hc
  · simp [State.pageEnable_heard, hon, hport, hc]
  · simp [State.pageEnable_heard, hon, hport, hc]

theorem State.cycleFrameRx_other (hpast : laterThan ta s.time.now = false) (hc : cycleCheck f w = .other) (fwd : Nat) :
    s.cycleFrameRx f west ta fwd w = s.heard (if west then .west else .east) := by
  simp [State.cycleFrameRx, State.reach_past hpast, hc]

theorem State.cycleFrameRx_disabled (hpast : laterThan ta s.time.now = false)
    (hport : s.pageEnable (portPage (if west then .west else .east)) = false) (fwd : Nat) : s.cycleFrameRx f west ta fwd w = s := by
  simp [State.cycleFrameRx, State.reach_past hpast, hport, State.heard_disabled hport]

end

theorem cycleFrameRx_answers {s : State} {f : CycleFrame} {west : Bool} {ta : DevTime} {fwd : Word} {w : Wire} {t : State} (ht : s.timed = true)
    (h : s.cycleFrameRx f west ta fwd.toNat w = t) : Answers (.cycleFrameRx f west ta fwd w) s (t.linkChecks s) :=
  Answers.timed (f := fun u => (u.cycleFrameRx f west ta fwd.toNat w).linkChecks u) rfl ht (by rw [h])

/-! ### Rates (R265) -/

section
variable {s : State}

theorem State.rateReturn_own (hauto : s.rf (aROPE 0x20) 9 8 = 0) (hidle : s.changing false = false) (hst : s.ropeState = rsLEADING)
    (hrate : s.ropeRate = true) (hgap : s.rf (aROPE 0x2C) 27 22 ≤ 3) :
    s.rateReturn false = s.updRope fun r => { r with own := r.own.startChange false } := by
  simp [State.rateReturn, hauto, hidle, hst, hrate, hgap]

theorem State.rateReturn_branch (hauto : s.rf (aROPE 0x20) 9 8 = 0) (hidle : s.changing true = false) (hruns : s.rb (aROPE 0x44) 0 = true)
    (hrate : s.rb (aROPE 0x44) 13 = true) (hgap : s.rf (aROPE 0x44) 11 6 ≤ 3) :
    s.rateReturn true = s.updRope fun r => { r with br := r.br.startChange false } := by
  simp [State.rateReturn, hauto, hidle, hruns, hrate, hgap]

/-- A switch to the rate that s1 runs at is noted: PAGE_ERR, LIMITS and the hop delay shown follow it, and f ends the change. -/
def State.switchNoted (s1 : State) (br : Bool) (f : Rope → Rope) : State := (((s1.setErr 0x540 18).updRope f).showLimits).showHop br

theorem State.reg_switchNoted_ne (s1 : State) (br : Bool) (f : Rope → Rope) {a : Nat} (hbranch : a ≠ aRT 0x34 := by decide)
    (heast : a ≠ aRT 0x30 := by decide) (hlimits : a ≠ aROPE 0x48 := by decide) (hevt : evtPage a = false := by decide)
    (herr : a ≠ pg 0x540 0x00C := by decide) : (s1.switchNoted br f).reg a = s1.reg a := by
  rw [State.switchNoted, State.reg_showHop_ne _ _ hbranch heast, State.reg_showLimits_ne _ hlimits, State.reg_updRope,
    State.reg_setErr _ _ _ hevt herr]

theorem State.rb_switchNoted_err (s1 : State) (br : Bool) (f : Rope → Rope) : (s1.switchNoted br f).rb (pg 0x540 0x00C) 18 = true := by
  rw [State.switchNoted, State.rb_congr (State.reg_showHop_ne _ _ (by decide) (by decide)), State.rb_congr (State.reg_showLimits_ne _ (by decide)),
    State.rb_updRope, State.setErr_reads _ _ (by decide)]

theorem State.switchNoted_same (s1 : State) (br : Bool) (f : Rope → Rope) : SameOutside ((s1.setErr 0x540 18).updRope f) (s1.switchNoted br f) :=
  (State.showLimits_same _).trans (State.showHop_same _ br)

theorem State.rateSwitch_branch {v : Bool} (h : s.rope.brRateTo = some v) :
    s.rateSwitch true = (s.setRate true v).switchNoted true fun r => { r with brRateTo := none } := by
  simp only [State.rateSwitch, h]
  rfl

/-- The active cycle code at rate v: a leader has its CYC, a node the code it last saw at 5 Gbaud (log 106). -/
def State.switchCyc (s : State) (v : Bool) : Nat :=
  let now := s.rf (aROPE 0x2C) 15 14
  activeCyc v (if s.ropeRole = 2 then s.rf (aROPE 0x20) 11 10 else if v then now else s.rope.code5.getD now)

theorem State.rateSwitch_own {v : Bool} (h : s.rope.rateTo = some v) :
    s.rateSwitch false = ((s.setRate false v).setF (aROPE 0x2C) 15 14 (s.switchCyc v)).switchNoted false fun r => { r with rateTo := none } := by
  simp only [State.rateSwitch, h]
  rfl

/-- A branch that switches its rate shows it in BSTAT and at its port, and leaves the own rope alone. -/
theorem State.rateSwitch_branch_shows {v : Bool} (h : s.rope.brRateTo = some v) : let t := s.rateSwitch true
    t.rb (aROPE 0x44) 13 = v ∧ t.rb (pg 0x543 0x24) 2 = v ∧ t.rb (pg 0x540 0x00C) 18 = true ∧
      t.rope.brRateTo = none ∧ t.rope.rateTo = s.rope.rateTo ∧ t.rope.hop = s.rope.hop := by
  intro t
  obtain ⟨hstat, hport⟩ := s.setRate_branch_shows v
  have hnoted := (s.setRate true v).switchNoted_same true fun r => { r with brRateTo := none }
  have hset : SameOutside (s.noteHop true v) ((s.setRate true v).setErr 0x540 18) := (s.setRate_branch_same v).trans (State.setErr_same _ _ _)
  have hnote := s.noteHop_branch v
  have ht : t = _ := State.rateSwitch_branch h
  rw [ht]
  refine ⟨?_, ?_, State.rb_switchNoted_err _ _ _, hnoted.rope_brRateTo, ?_, ?_⟩
  · rw [State.rb_congr (State.reg_switchNoted_ne _ _ _), hstat]
  · rw [State.rb_congr (State.reg_switchNoted_ne _ _ _), hport]
  · rw [hnoted.rope_rateTo, State.updRope_rope, hset.rope_rateTo, hnote, State.updRope_rope]
  · rw [hnoted.rope_hop, State.updRope_rope, hset.rope_hop, hnote, State.updRope_rope]

/-- A node that switches its rate shows it in STAT and at both ports, and leaves the branch alone. -/
theorem State.rateSwitch_own_shows {v : Bool} (h : s.rope.rateTo = some v) : let t := s.rateSwitch false
    t.rb (aROPE 0x2C) 13 = v ∧ t.rb (pg 0x541 0x24) 2 = v ∧ t.rb (pg 0x542 0x24) 2 = v ∧ t.rb (pg 0x540 0x00C) 18 = true ∧
      t.rope.rateTo = none ∧ t.rope.brRateTo = s.rope.brRateTo ∧ t.rope.hop = s.rope.hop := by
  intro t
  obtain ⟨hstat, hwest, heast⟩ := s.setRate_own_shows v
  have hnoted := ((s.setRate false v).setF (aROPE 0x2C) 15 14 (s.switchCyc v)).switchNoted_same false fun r => { r with rateTo := none }
  have hset : SameOutside (s.noteHop false v) (((s.setRate false v).setF (aROPE 0x2C) 15 14 (s.switchCyc v)).setErr 0x540 18) :=
    ((s.setRate_own_same v).trans (State.setF_same _ _ _ _ _)).trans (State.setErr_same _ _ _)
  have hnote := s.noteHop_own v
  have ht : t = _ := State.rateSwitch_own h
  rw [ht]
  have hport {a : Nat} (hpage : a = pg 0x541 0x24 ∨ a = pg 0x542 0x24) : (((s.setRate false v).setF (aROPE 0x2C) 15 14 (s.switchCyc v)).switchNoted
      false fun r => { r with rateTo := none }).rb a 2 = (s.setRate false v).rb a 2 := by
    rcases hpage with rfl | rfl <;>
      rw [State.rb_congr (State.reg_switchNoted_ne _ _ _), State.rb_setF_ne _ _ _ _ _ _ _ (by decide) (by decide) (by decide)]
  refine ⟨?_, (hport (.inl rfl)).trans hwest, (hport (.inr rfl)).trans heast, State.rb_switchNoted_err _ _ _, hnoted.rope_rateTo, ?_, ?_⟩
  · rw [State.rb_congr (State.reg_switchNoted_ne _ _ _),
      State.rb_setF_ne _ _ _ _ _ _ _ (by decide) (by decide) (by decide), hstat]
  · rw [hnoted.rope_brRateTo, State.updRope_rope, hset.rope_brRateTo, hnote, State.updRope_rope]
  · rw [hnoted.rope_hop, State.updRope_rope, hset.rope_hop, hnote, State.updRope_rope]

end

/-! ### Hops (R276) -/

section
variable {s : State}

/-- The HOP frame of a cycle takes an access slot where WEST_TX carries cycle frames. -/
theorem State.hopSend_due {t3 t2 : DevTime} {n : BitVec 12} (hin : s.rope.westIn = some (n, t2)) (hopen : s.rb (aROPE 0x2C) 9 = false)
    (hport : s.pageEnable 0x541 = true) (hnew : (s.rope.hopSent.any fun h => h.1 == n) = false)
    (hslot : (s.rope.own.sent.map (·.wrapAny)).getD false = false ∨ s.rope.filled < s.slotShare false) :
    s.hopSend t3 = s.updRope fun r => { r with
      hopSent := some (n, BitVec.ofNat 32 (t3 - t2).toNat), filled := r.filled + ((s.rope.own.sent.map (·.wrapAny)).getD false).toNat } := by
  have hfree : ((s.rope.own.sent.map (·.wrapAny)).getD false && decide (s.slotShare false ≤ s.rope.filled)) = false := by
    rcases hslot with h | h
    · rw [h, Bool.false_and]
    · rw [decide_eq_false (Nat.not_le.mpr h), Bool.and_false]
  simp only [State.hopSend, hin, State.bypassClosed, hopen, hport, hnew, hfree]
  rfl

/-- A measurement of the hop to the EAST is listed, counts, and shows; HOP_HOLD of the port clears. -/
def State.hopMeasured (s : State) (l : List Int) : State :=
  let s1 := s.updRope fun r => { r with
    hop := SMap.set (fun _ => []) r.hop (hopKey false s.ropeRate) l
    oldHop := r.oldHop && decide (l.length < 2 ^ min 4 (s.rf (aRT 0x20) 2 0)) }
  ((s1.wrapAdd (aRT 0x48) 31 16 1).setB (aRT 0x24) 13 false).showHop false

theorem State.hopRx_east {seq : BitVec 12} {t1 : DevTime} (hopen : s.rb (aROPE 0x2C) 9 = false) (hport : s.pageEnable 0x542 = true)
    (hout : s.rope.eastOut = some (seq, t1)) (turn : Word) (t4 : DevTime) : s.hopRx false seq turn t4 =
      s.hopMeasured (((((t4 - t1).toNat : Int) - turn.toNat) :: SMap.get (fun _ => []) s.rope.hop (hopKey false s.ropeRate)).take 16) := by
  simp [State.hopRx, State.bypassClosed, hopen, hport, hout, State.hopMeasured]

end

/-- A HOP frame that names the CSTART last sent to the EAST is measured. -/
theorem State.hopRx_heard {s : State} {seq : BitVec 12} {t4 t1 : DevTime} (hpast : laterThan t4 s.time.now = false)
    (hopen : s.rb (aROPE 0x2C) 9 = false) (hport : s.pageEnable 0x542 = true) (hout : s.rope.eastOut = some (seq, t1)) (turn : Word) :
    let k := hopKey false s.ropeRate
    let l := ((((t4 - t1).toNat : Int) - turn.toNat) :: SMap.get (fun _ => []) s.rope.hop k).take 16
    let s1 := (s.heard .east).updRope fun r => { r with
      hop := SMap.set (fun _ => []) r.hop k l
      oldHop := r.oldHop && decide (l.length < 2 ^ min 4 (s.rf (aRT 0x20) 2 0)) }
    ((s.heard .east).reach t4).hopRx false seq turn t4 = ((s1.wrapAdd (aRT 0x48) 31 16 1).setB (aRT 0x24) 13 false).showHop false := by
  intro k l s1
  have hstat : (s.heard .east).reg (aROPE 0x2C) = s.reg (aROPE 0x2C) := s.reg_heard_ne _ _ (by decide)
  have hset : (s.heard .east).rf (aRT 0x20) 2 0 = s.rf (aRT 0x20) 2 0 := State.rf_congr (s.reg_heard_ne _ _ (by decide)) _ _
  have hrate : (s.heard .east).ropeRate = s.ropeRate := State.rb_congr hstat 13
  rw [State.reach_past (by rwa [State.time_heard]), State.hopRx_east (by rwa [State.rb_congr hstat]) (by rwa [State.pageEnable_heard])
    (by rwa [State.rope_heard]), State.hopMeasured, State.rope_heard, hrate, hset]

theorem cycleFrameReturn_answers {s t : State} {f : CycleFrame} {port : RopePort} {ta : DevTime} {w : Wire} (ht : s.timed = true)
    (h : s.frameIn port (cycleCheck f w) true (fun u => u.cycleReturn (port == .branch) (port == .west) f ta) = t) :
    Answers (.cycleFrameReturn port f ⟨w, ta⟩) s t :=
  Answers.timed (f := fun u => u.frameIn port (cycleCheck f w) true fun x => x.cycleReturn (port == .branch) (port == .west) f ta) rfl ht h

theorem hopRx_answers {s t : State} {br : Bool} {seq : BitVec 12} {turn : Word} {t4 : DevTime} {w : Wire} (ht : s.timed = true)
    (h : s.frameIn (if br then .branch else .east) (checkFrame w (hopHead (headSrc w) seq) (bytesOf 4 turn.toNat)) true
      (fun u => (u.reach t4).hopRx br seq turn t4) = t) : Answers (.hopRx br seq turn t4 w) s t :=
  Answers.timed (f := fun u => u.frameIn (if br then .branch else .east) (checkFrame w (hopHead (headSrc w) seq) (bytesOf 4 turn.toNat)) true
    fun x => (x.reach t4).hopRx br seq turn t4) rfl ht h

/-- Settles O39: a cycle by whether the node leads, a frame by its check, and each other command in the case that its hypotheses name. -/
theorem ropeCycles : Obligations.RopeCycles := by
  refine ⟨fun s br tc ht => ?_, fun s br tc ht hbetween => ?_, fun s tc ht hpast hst hstop hsends hdue => ?_,
    fun s f west ta fwd w ht hpast hon => ⟨fun hport hc => ?_, fun hc => ?_, fun hport => ?_⟩, fun s f west ta fwd w ht => ?_,
    fun s f port ta w ht hoff hport => ⟨fun hc => ?_, fun hc => ?_, fun hc => ?_⟩, fun s ha hauto hst hrate hgap hidle => ?_,
    fun s ha hauto hruns hrate hgap hidle => ?_, fun s v ha hto => ?_, fun s v ha hto => ?_,
    fun s t3 t2 n ht hpast hin hopen hport hnew hslot => ?_, fun s seq turn t4 t1 w ht hpast hoff hport hopen hout hc => ?_,
    fun s br seq turn t4 w ht hoff hport => ⟨fun hc => ?_, fun hc => ?_⟩, fun s br ht hoff => ?_⟩
  · exact Answers.timed (f := (·.cycleStart br tc)) rfl ht rfl
  · exact Answers.timed (f := (·.cycleStart br tc)) rfl ht (State.cycleStart_between hbetween)
  · obtain ⟨u, present, hstart, hcycle, hreturned, hout, hdram, hotp⟩ := State.cycleStart_leads hpast hst hstop hsends hdue
    have hpresent := u.setPresent_sameButTime false present
    refine Completes.timed (f := (·.cycleStart false tc)) rfl ht ?_
    rw [hstart]
    exact ⟨(congrArg Lead.cycleNo hpresent.rope_own).trans hcycle, (congrArg Lead.returned hpresent.rope_own).trans hreturned,
      hpresent.rope_eastOut.trans hout, hpresent.dramMem.trans hdram, hpresent.otp.trans hotp⟩
  · exact cycleFrameRx_answers ht (State.cycleFrameRx_bad hpast hon hport hc _)
  · have hanswer := cycleFrameRx_answers (fwd := fwd) ht (State.cycleFrameRx_other (f := f) (west := west) hpast hc fwd.toNat)
    rwa [State.linkChecks_heard] at hanswer
  · have hanswer := cycleFrameRx_answers (fwd := fwd) ht (State.cycleFrameRx_disabled (f := f) (w := w) hpast hport fwd.toNat)
    rwa [State.linkChecks_self] at hanswer
  · exact cycleFrameRx_answers ht rfl
  · exact cycleFrameReturn_answers ht (by rw [hc, State.frameIn_whole hoff hport])
  · exact cycleFrameReturn_answers ht (State.frameIn_counts hoff hport (hc.imp_right (⟨·, rfl⟩)) _)
  · exact cycleFrameReturn_answers ht (by rw [hc, State.frameIn_other])
  · exact Answers.live (f := (·.rateReturn false)) rfl ha (State.rateReturn_own hauto hidle hst hrate hgap)
  · exact Answers.live (f := (·.rateReturn true)) rfl ha (State.rateReturn_branch hauto hidle hruns hrate hgap)
  · intro t
    have ht : s.rateSwitch true = t := State.rateSwitch_branch hto
    exact ⟨Answers.live (f := (·.rateSwitch true)) rfl ha ht, ht ▸ State.rateSwitch_branch_shows hto⟩
  · exact ⟨Answers.live (f := (·.rateSwitch false)) rfl ha rfl, State.rateSwitch_own_shows hto⟩
  · exact Answers.timed (f := fun u => (u.reach t3).hopSend t3) rfl ht
      (by rw [State.reach_past hpast, State.hopSend_due hin hopen hport hnew hslot])
  · have hwhole := State.frameIn_whole (p := .east) hoff hport true fun u => (u.reach t4).hopRx false seq turn t4
    exact hopRx_answers ht (by rw [hc]; exact hwhole.trans (congrArg (·.linkChecks s) (State.hopRx_heard hpast hopen hport hout turn)))
  · exact hopRx_answers ht (by rw [hc, State.frameIn_whole hoff hport])
  · exact hopRx_answers ht (State.frameIn_counts hoff hport (hc.imp_right (⟨·, rfl⟩)) _)
  · exact Answers.timed (f := fun u => u.onRope (·.hopHold br)) rfl ht (if_neg (ne_true_of_eq_false hoff))

end Sys2Proof.Machine
end

section
/-! Remote access as its origin makes it (R261, R293, R297 to R299, R302). -/

namespace Sys2Proof.Machine

/-! ### Accesses (R293) -/

section
variable {s : State} {r n a : Nat}

/-- A requester that may name a node: the host, or a fabric bus port. -/
def namesNodes (r : Nat) : Bool := r == rHost || (0x008 ≤ r && r ≤ 0x00F)

theorem State.remoteAccess_own (hr : s.reaches r = true) (hname : namesNodes r = true) (hown : s.isOwnId n = true) (full : Bool) (v : Word) :
    s.remoteAccess r n a full .read = s.localRead r a ∧ s.remoteAccess r n a full (.write v) = (s.writeReg r a full v).2 := by
  have hmay : (r == rHost || (0x008 ≤ r && r ≤ 0x00F)) = true := hname
  simp [State.remoteAccess, hr, hmay, hown]

theorem State.remoteAccess_noRope (hr : s.reaches r = true) (hname : namesNodes r = true) (hown : s.isOwnId n = false) (hoff : s.ropeOff = true)
    (full : Bool) (v : Word) : s.remoteAccess r n a full .read = s.accFail acNO_ROUTE r n a true ∧
      s.remoteAccess r n a full (.write v) = s.accFail acNO_ROUTE r n a false := by
  have hmay : (r == rHost || (0x008 ≤ r && r ≤ 0x00F)) = true := hname
  simp [State.remoteAccess, hr, hmay, hown, hoff]

theorem State.remoteAccess_rope (hr : s.reaches r = true) (hname : namesNodes r = true) (hown : s.isOwnId n = false) (hoff : s.ropeOff = false)
    (full : Bool) (v : Word) : s.remoteAccess r n a full .read = s.remoteRead r n a ∧
      s.remoteAccess r n a full (.write v) = if full then s.remoteWrite r n a v else s := by
  have hmay : (r == rHost || (0x008 ≤ r && r ≤ 0x00F)) = true := hname
  simp [State.remoteAccess, hr, hmay, hown, hoff]

end

theorem remoteAccess_answers {s t : State} {r : ReqId} {n : BitVec 9} {a : BitVec 24} {full : Bool} {dw : BitVec 8} (hr : s.reaches r.toNat = true)
    (hname : (0x008 ≤ r.toNat ∧ r.toNat ≤ 0x00F) ∨ (r.toNat = rHost ∧ dw.toNat ≤ 16)) (k : AccessKind)
    (h : s.remoteAccess r.toNat n.toNat a.toNat full k = t) : Answers (.remoteAccess r n a full k dw false) s t := by
  have hsize : r.toNat ≠ rHost ∨ dw.toNat ≤ 16 := by
    rcases hname with hport | ⟨_, hle⟩
    · left; simp only [rHost]; omega
    · exact .inr hle
  exact Answers.act (f := fun u => u.tlp r.toNat dw.toNat (false && k != .read) (k == .read)
    fun x => x.remoteAccess r.toNat n.toNat a.toNat full k) rfl (by rw [Bool.false_and, State.tlp_carriedOut _ _ hr hsize, h])

/-! ### Frames that go out (R261) -/

section
variable {s : State} {br : Bool} {f : AccFrame} {rest : List (Bool × AccFrame)}

/-- The first waiting frame has gone out, in a slot of its rope. -/
def State.slotTaken (s : State) (br : Bool) (f : AccFrame) (rest : List (Bool × AccFrame)) : State :=
  s.updRope fun r => { r with
    waiting := rest, sent := r.sent ++ [(br, f)], filled := r.filled + (!br).toNat, brFilled := r.brFilled + br.toNat }

theorem State.frameSend_first (hwait : s.rope.waiting = (br, f) :: rest) (hopen : s.slotOpen br = true) :
    s.frameSend = if f.src.toNat = s.ownId then
        (s.slotTaken br f rest).setPair f.dst.toNat { (s.slotTaken br f rest).pair f.dst.toNat with
          out := ((s.slotTaken br f rest).pair f.dst.toNat).out.map fun q =>
            if q.seq = f.seq && f.ack = 0 then { q with sends := q.sends + 1 } else q }
      else s.slotTaken br f rest := by
  have hheld : ((br, f) :: rest).takeWhile (fun w => !s.slotOpen w.1) = [] := by simp [hopen]
  simp only [State.frameSend, hheld, hwait, List.length_nil, List.drop_zero, List.nil_append]
  rfl

theorem State.frameSend_none (hclosed : ∀ x ∈ s.rope.waiting, s.slotOpen x.1 = false) : s.frameSend = s := by
  have hheld : s.rope.waiting.takeWhile (fun w => !s.slotOpen w.1) = s.rope.waiting :=
    List.takeWhile_eq_self_iff.mpr fun x hx => by simp [hclosed x hx]
  simp only [State.frameSend, hheld, List.drop_length]

end

/-! ### Responses and retries (R297, R298) -/

section
variable {s : State} {p : RopePort} {f : AccFrame} {w : Wire}

/-- A whole access frame acts on the node whose port has received it. -/
theorem State.accessIn_whole (hoff : s.ropeOff = false) (hport : s.pageEnable (portPage p) = true) (hc : accCheck f w = .whole)
    {act : State → State} {t : State} (h : act (s.heard p) = t) : s.accessIn p f w act = t.linkChecks s := by
  rw [State.accessIn, hc, State.frameIn_whole hoff hport, h]

theorem State.rdRspIn_taken {d : Word} {x : BitVec 8} {l : List Word} {e : BitVec 16} (hme : s.forMe f = true) (hbody : f.body = .rdRsp d x l e) :
    (s.heard p).rdRspIn f = (s.heard p).rdRspRx f.src.toNat f.ack d l e := by
  simp [State.rdRspIn, hbody, State.forMe_heard, hme]

theorem State.wrAckIn_taken {x : BitVec 8} {e : BitVec 16} (hme : s.forMe f = true) (hbody : f.body = .wrAck x e) :
    (s.heard p).wrAckIn f = (s.heard p).wrAckRx f.src.toNat f.ack x.toNat e := by
  simp [State.wrAckIn, hbody, State.forMe_heard, hme]

theorem State.nakIn_taken {k : BitVec 8} {e : BitVec 16} (hme : s.forMe f = true) (hbody : f.body = .nak k e) :
    (s.heard p).nakIn f = (s.heard p).nakRx f.src.toNat f.ack k.toNat e := by
  simp [State.nakIn, hbody, State.forMe_heard, hme]

/-- A request that has been sent RETX_LIM times more than once fails, and takes the later ones of its pair with it (R298). -/
theorem State.retxTimeout_fails {n : Nat} {q : RopeReq} {l : List RopeReq} (hout : (s.pair n).out = q :: l) (hsent : q.sends ≠ 0)
    (hlimit : s.rf (aACC 0x20) 7 4 < q.sends) : s.retxTimeout n = s.poison n acTIMEOUT [] (q :: l) := by
  simp [State.retxTimeout, hout, hsent, hlimit]

theorem State.retxTimeout_resends {n : Nat} {q : RopeReq} {l : List RopeReq} (hout : (s.pair n).out = q :: l) (hsent : q.sends ≠ 0)
    (hlimit : q.sends ≤ s.rf (aACC 0x20) 7 4) : s.retxTimeout n = s.resend n (q :: l) := by
  simp [State.retxTimeout, hout, hsent, Nat.not_lt.mpr hlimit]

end

theorem Answers.onRope {c : Instr} {s t : State} {f : State → State} (h : exec c s = s.actLive (·.onRope f)) (ha : s.awake = true)
    (hoff : s.ropeOff = false) (hp : f s = t) : Answers c s t :=
  Answers.live h ha ((if_neg (ne_true_of_eq_false hoff)).trans hp)

/-- Settles O40: an access by its node and the rope, a frame by the slot that it waits for, a response by its frame, and a retry by RETX_LIM. -/
theorem remoteOrigin : Obligations.RemoteOrigin := by
  refine ⟨fun s r n a full v dw hr hname => ?_, fun s br f rest ha hoff hwait hopen => ⟨fun hsrc => ?_, fun hsrc => ?_⟩,
    fun s ha hoff hclosed => ?_, fun s p f w d x l e ha hoff hport hc hme hbody => ?_, fun s p f w x e ha hoff hport hc hme hbody => ?_,
    fun s p f w k e ha hoff hport hc hme hbody => ?_, fun s p f w ha hoff hport hc => ?_,
    fun s n q l ha hoff hout hsent => ⟨fun hlimit => ?_, fun hlimit => ?_⟩⟩
  · have hmay : namesNodes r.toNat = true := by
      rcases hname with ⟨hlo, hhi⟩ | ⟨hhost, _⟩
      · simp [namesNodes, hlo, hhi]
      · simp [namesNodes, hhost]
    have hanswer {t : State} (k : AccessKind) (h : s.remoteAccess r.toNat n.toNat a.toNat full k = t) :
        Answers (.remoteAccess r n a full k dw false) s t := remoteAccess_answers hr hname k h
    refine ⟨fun hown => ?_, fun hown hoff => ?_, fun hown hoff => ?_, fun hown hoff hfull => ?_, fun hown hoff hfull => ?_⟩
    · obtain ⟨hread, hwrite⟩ := State.remoteAccess_own (a := a.toNat) hr hmay hown full v
      exact ⟨hanswer _ hread, hanswer _ hwrite⟩
    · obtain ⟨hread, hwrite⟩ := State.remoteAccess_noRope (a := a.toNat) hr hmay hown hoff full v
      exact ⟨hanswer _ hread, hanswer _ hwrite⟩
    · exact hanswer _ (State.remoteAccess_rope hr hmay hown hoff full v).1
    · exact hanswer _ ((State.remoteAccess_rope hr hmay hown hoff full v).2.trans (if_pos hfull))
    · exact hanswer _ ((State.remoteAccess_rope hr hmay hown hoff full v).2.trans (if_neg (ne_true_of_eq_false hfull)))
  · exact Answers.onRope rfl ha hoff ((State.frameSend_first hwait hopen).trans (if_neg hsrc))
  · exact Answers.onRope rfl ha hoff ((State.frameSend_first hwait hopen).trans (if_pos hsrc))
  · exact Answers.onRope rfl ha hoff (State.frameSend_none hclosed)
  · exact Answers.live (f := (·.accessIn p f w (·.rdRspIn f))) rfl ha (State.accessIn_whole hoff hport hc (State.rdRspIn_taken hme hbody))
  · exact Answers.live (f := (·.accessIn p f w (·.wrAckIn f))) rfl ha (State.accessIn_whole hoff hport hc (State.wrAckIn_taken hme hbody))
  · exact Answers.live (f := (·.accessIn p f w (·.nakIn f))) rfl ha (State.accessIn_whole hoff hport hc (State.nakIn_taken hme hbody))
  · exact Answers.live (f := (·.accessIn p f w (·.mbxAckIn f))) rfl ha (State.accessIn_whole hoff hport hc rfl)
  · exact Answers.onRope (f := (·.retxTimeout n.toNat)) rfl ha hoff (State.retxTimeout_fails hout hsent hlimit)
  · exact Answers.onRope (f := (·.retxTimeout n.toNat)) rfl ha hoff (State.retxTimeout_resends hout hsent hlimit)

end Sys2Proof.Machine
end

section
/-! Remote access as its destination takes it, and as position 0 and an anchor pass it on (R256, R262, R297, R301). -/

namespace Sys2Proof.Machine

/-! ### Frames that do not act (R256) -/

/-- The seven commands by which an access frame arrives. -/
theorem accessRx_answers {s t : State} {p : RopePort} {f : AccFrame} {w : Wire} (ha : s.awake = true)
    (h : ∀ act : State → State, s.accessIn p f w act = t) :
    Answers (.rdReqRx p f w) s t ∧ Answers (.wrReqRx p f w) s t ∧ Answers (.mbxRx p f w) s t ∧ Answers (.rdRspRx p f w) s t ∧
      Answers (.wrAckRx p f w) s t ∧ Answers (.mbxAckRx p f w) s t ∧ Answers (.nakRx p f w) s t :=
  ⟨Answers.live (f := (·.accessIn p f w (·.rdReqRx f))) rfl ha (h _), Answers.live (f := (·.accessIn p f w (·.wrReqRx f))) rfl ha (h _),
    Answers.live (f := (·.accessIn p f w (·.mbxRx f))) rfl ha (h _), Answers.live (f := (·.accessIn p f w (·.rdRspIn f))) rfl ha (h _),
    Answers.live (f := (·.accessIn p f w (·.wrAckIn f))) rfl ha (h _), Answers.live (f := (·.accessIn p f w (·.mbxAckIn f))) rfl ha (h _),
    Answers.live (f := (·.accessIn p f w (·.nakIn f))) rfl ha (h _)⟩

/-! ### Requests taken (R297) -/

section
variable {s : State} {p : RopePort} {f : AccFrame} {sync : Bool} {e : BitVec 16}

theorem State.rdReqRx_taken {a : BitVec 24} (hme : s.forMe f = true) (hbody : f.body = .rdReq a sync e) :
    (s.heard p).rdReqRx f = (s.heard p).takeRequestFrame f sync e (·.readRemote f.src.toNat a.toNat) := by
  simp [State.rdReqRx, hbody, State.forMe_heard, hme]

theorem State.wrReqRx_taken {a : BitVec 24} {v : Word} {pair : Option Word} (hme : s.forMe f = true) (hbody : f.body = .wrReq a v sync pair e) :
    (s.heard p).wrReqRx f = (s.heard p).takeRequestFrame f sync e (·.writeRemote f.src.toNat a.toNat v pair) := by
  simp [State.wrReqRx, hbody, State.forMe_heard, hme]

theorem State.mbxRx_taken {m : BitVec 5} {l : List Word} (hme : s.forMe f = true) (hbody : f.body = .mbx m sync e l) :
    (s.heard p).mbxRx f = (s.heard p).takeRequestFrame f sync e (·.postRemote f.src.toNat m.toNat e l) := by
  simp [State.mbxRx, hbody, State.forMe_heard, hme]

end

/-! ### Position 0 (R301) -/

section
variable {s : State} {br : Bool} {f : AccFrame}

/-- The node is position 0 of its own or its branch rope, and sends there. -/
def State.leadsAt (s : State) (br : Bool) : Bool :=
  s.transmits br && (if br then s.isAnchor && !s.rope.br.stopped else s.ropeRole == 2 && !s.rope.own.stopped)

/-- The number of the own or the branch rope. -/
def State.ropeAt (s : State) (br : Bool) : Nat := if br then s.brRope else s.ropeNo

/-- A frame leaves the own or the branch rope at this node. -/
def State.leavesHere (s : State) (br : Bool) (f : AccFrame) : Bool :=
  if br then f.dst.toNat / 64 != s.brRope
  else s.isAnchor && f.dst.toNat / 64 != s.ropeNo && (s.rb (aROPE 0x24) (f.dst.toNat / 64) || f.dst.toNat / 64 == s.brRope)

/-- The node that the frame names is in PRESENT, or is position 0 itself. -/
def State.nodeThere (s : State) (br : Bool) (f : AccFrame) : Bool := (s.present br ||| 1).getLsbD (f.dst.toNat % 64)

theorem State.pos0Pass_follower (h : s.transmits br = false) : s.pos0Pass br f = s := by
  simp [State.pos0Pass, h]

/-- What position 0 makes of a frame that stays on its rope. -/
theorem State.pos0Pass_stays (hlead : s.leadsAt br = true) (hstays : s.leavesHere br f = false) : s.pos0Pass br f =
    if f.dst.toNat / 64 = s.ropeAt br && bodyIsRequest f.body && !s.nodeThere br f then
      s.answer f (.nak 3 s.ownEpoch)
    else if f.passed then
      if f.dst.toNat / 64 ≠ s.ropeAt br && bodyIsRequest f.body then s.answer f (.nak 4 s.ownEpoch) else s
    else s.updRope fun x => { x with sent := x.sent ++ [(br, { f with passed := true })] } := by
  have hpass : s.pos0Pass br f = if !s.leadsAt br then s else if s.leavesHere br f then s.frameForward br f else
      if f.dst.toNat / 64 = s.ropeAt br && bodyIsRequest f.body && !s.nodeThere br f then
        s.answer f (.nak 3 s.ownEpoch)
      else if f.passed then
        if f.dst.toNat / 64 ≠ s.ropeAt br && bodyIsRequest f.body then s.answer f (.nak 4 s.ownEpoch) else s
      else s.updRope fun x => { x with sent := x.sent ++ [(br, { f with passed := true })] } := by
    cases br <;> rfl
  rw [hpass, hlead, hstays]
  rfl

/-- A frame for the rope that the node leads stays on it. -/
theorem State.stays_of_ropeAt (h : f.dst.toNat / 64 = s.ropeAt br) : s.leavesHere br f = false := by
  cases br
  · have hown : f.dst.toNat / 64 = s.ropeNo := h
    simp [State.leavesHere, hown]
  · have hbranch : f.dst.toNat / 64 = s.brRope := h
    simp [State.leavesHere, hbranch]

/-- A request for an absent node of the rope is answered there and then. -/
theorem State.pos0Pass_absent (hlead : s.leadsAt br = true) (hrope : f.dst.toNat / 64 = s.ropeAt br) (hreq : bodyIsRequest f.body = true)
    (habsent : s.nodeThere br f = false) : s.pos0Pass br f = s.answer f (.nak 3 s.ownEpoch) := by
  rw [State.pos0Pass_stays hlead (State.stays_of_ropeAt hrope), if_pos (by simp [hrope, hreq, habsent])]

/-- Every other frame of the rope passes position 0 once. -/
theorem State.pos0Pass_there (hlead : s.leadsAt br = true) (hrope : f.dst.toNat / 64 = s.ropeAt br)
    (hthere : bodyIsRequest f.body = false ∨ s.nodeThere br f = true) : s.pos0Pass br f =
    if f.passed then s else s.updRope fun x => { x with sent := x.sent ++ [(br, { f with passed := true })] } := by
  have hanswered : ¬ (f.dst.toNat / 64 = s.ropeAt br && bodyIsRequest f.body && !s.nodeThere br f) = true := by
    rcases hthere with h | h <;> simp [h]
  rw [State.pos0Pass_stays hlead (State.stays_of_ropeAt hrope), if_neg hanswered]
  simp [hrope]

/-- A request for another rope that no route has taken gets no further than the head (R301). -/
theorem State.pos0Pass_unrouted (hlead : s.leadsAt br = true) (hstays : s.leavesHere br f = false) (hrope : f.dst.toNat / 64 ≠ s.ropeAt br)
    (hpassed : f.passed = true) : s.pos0Pass br f = if bodyIsRequest f.body then s.answer f (.nak 4 s.ownEpoch) else s := by
  rw [State.pos0Pass_stays hlead hstays, if_neg (by simp [hrope]), if_pos hpassed]
  simp [hrope]

end

theorem pos0Pass_answers {s t : State} {br : Bool} {f : AccFrame} (ha : s.awake = true) (hoff : s.ropeOff = false) (h : s.pos0Pass br f = t) :
    Answers (.pos0Pass br f) s t := Answers.onRope (f := (·.pos0Pass br f)) rfl ha hoff h

/-! ### An anchor (R262) -/

section
variable {s : State} {f : AccFrame}

/-- The frame waits for a slot of the branch or the own rope, where no position 0 has passed it yet. -/
def State.forwarded (s : State) (f : AccFrame) (br : Bool) : State :=
  s.updRope fun x => { x with waiting := x.waiting ++ [(br, { f with passed := false })] }

theorem State.frameForward_fromBranch (hanchor : s.isAnchor = true) : s.frameForward true f =
    if f.dst.toNat / 64 = s.brRope then s else s.forwarded f (s.rb (aROPE 0x24) (f.dst.toNat / 64)) := by
  simp only [State.frameForward, hanchor]
  rfl

theorem State.frameForward_fromOwn (hanchor : s.isAnchor = true) : s.frameForward false f =
    if s.rb (aROPE 0x24) (f.dst.toNat / 64) || f.dst.toNat / 64 == s.brRope then s.forwarded f true else s := by
  simp only [State.frameForward, hanchor]
  rfl

theorem State.frameForward_notAnchor (hanchor : s.isAnchor = false) (br : Bool) : s.frameForward br f = s := by
  simp [State.frameForward, hanchor]

end

theorem frameForward_answers {s t : State} {br : Bool} {f : AccFrame} (ha : s.awake = true) (hoff : s.ropeOff = false)
    (h : s.frameForward br f = t) : Answers (.frameForward br f) s t := Answers.onRope (f := (·.frameForward br f)) rfl ha hoff h

/-- Settles O41: a frame by its check, a request by its body, position 0 by whether the frame's rope and node are its own, and an anchor by its
routes. -/
theorem remoteDestination : Obligations.RemoteDestination := by
  refine ⟨fun s p f w ha hoff hport => ⟨fun hc => ?_, fun hc hme => ?_, fun hc hme => ?_, fun hc => ?_⟩,
    fun s p f w a sync e ha hoff hport hc hme hbody => ?_, fun s p f w a v sync pair e ha hoff hport hc hme hbody => ?_,
    fun s p f x m sync e w ha hoff hport hc hme hbody => ?_, fun s br f ha hoff hplace hsends => ?_, fun s br f ha hoff hsilent => ?_,
    fun s f ha hoff hrole hanchor hrope hsends hstop hpassed => ?_,
    fun s f ha hoff hanchor => ⟨fun hbranch => ⟨?_, ?_⟩, fun hother => ?_, fun hroute => ?_, fun hother hroute => ?_⟩,
    fun s br f ha hoff hanchor => ?_⟩
  · exact accessRx_answers ha fun act => State.frameIn_counts hoff hport (.inl hc) act
  · exact accessRx_answers ha fun act => State.frameIn_counts hoff hport (.inr ⟨hc, hme⟩) act
  · exact accessRx_answers ha fun act => by rw [State.accessIn, hc, hme, State.frameIn_passes hoff hport]
  · exact accessRx_answers ha fun act => by rw [State.accessIn, hc, State.frameIn_other]
  · exact Answers.live (f := (·.accessIn p f w (·.rdReqRx f))) rfl ha (State.accessIn_whole hoff hport hc (State.rdReqRx_taken hme hbody))
  · exact Answers.live (f := (·.accessIn p f w (·.wrReqRx f))) rfl ha (State.accessIn_whole hoff hport hc (State.wrReqRx_taken hme hbody))
  · exact Answers.live (f := (·.accessIn p f x (·.mbxRx f))) rfl ha (State.accessIn_whole hoff hport hc (State.mbxRx_taken hme hbody))
  · have hlead : s.leadsAt br = true ∧ f.dst.toNat / 64 = s.ropeAt br := by
      rcases hplace with ⟨rfl, hrole, hstop, hrope⟩ | ⟨rfl, hanchor, hstop, hrope⟩
      · exact ⟨by simp [State.leadsAt, hsends, hrole, hstop], hrope⟩
      · exact ⟨by simp [State.leadsAt, hsends, hanchor, hstop], hrope⟩
    obtain ⟨hlead, hrope⟩ := hlead
    refine ⟨fun hreq habsent => ?_, fun hthere hpassed => ?_, fun hthere hpassed => ?_⟩
    · exact pos0Pass_answers ha hoff (State.pos0Pass_absent hlead hrope hreq habsent)
    · exact pos0Pass_answers ha hoff ((State.pos0Pass_there hlead hrope hthere).trans (if_pos hpassed))
    · exact pos0Pass_answers ha hoff ((State.pos0Pass_there hlead hrope hthere).trans (if_neg (ne_true_of_eq_false hpassed)))
  · exact pos0Pass_answers ha hoff (State.pos0Pass_follower hsilent)
  · have hlead : s.leadsAt false = true := by simp [State.leadsAt, hsends, hrole, hstop]
    have hstays : s.leavesHere false f = false := by simp [State.leavesHere, hanchor]
    have hpass := State.pos0Pass_unrouted hlead hstays hrope hpassed
    exact ⟨fun hreq => pos0Pass_answers ha hoff (hpass.trans (if_pos hreq)),
      fun hreq => pos0Pass_answers ha hoff (hpass.trans (if_neg (ne_true_of_eq_false hreq)))⟩
  · exact frameForward_answers ha hoff ((State.frameForward_fromBranch hanchor).trans (if_pos hbranch))
  · exact frameForward_answers ha hoff ((State.frameForward_fromOwn hanchor).trans (if_pos (by simp [hbranch])))
  · exact frameForward_answers ha hoff ((State.frameForward_fromBranch hanchor).trans (if_neg hother))
  · exact frameForward_answers ha hoff ((State.frameForward_fromOwn hanchor).trans (if_pos (by simp [hroute])))
  · exact frameForward_answers ha hoff ((State.frameForward_fromOwn hanchor).trans (if_neg (by simp [hroute, hother])))
  · exact frameForward_answers ha hoff (State.frameForward_notAnchor hanchor br)

end Sys2Proof.Machine
end

section
/-! What raising an event and setting a PAGE_ERR bit leave alone: the shadows, the fabric events in flight, and the registers of other pages (R39, R53,
R307, R308, R314). -/

namespace Sys2Proof.Machine

/-- The shadow copies are as they were, and so are the fabric events that have been launched. -/
def KeepsLaunched (s t : State) : Prop := t.regs.shd = s.regs.shd ∧ t.evt.launched = s.evt.launched

namespace KeepsLaunched

theorem refl (s : State) : KeepsLaunched s s := ⟨rfl, rfl⟩

theorem trans {s t u : State} (h1 : KeepsLaunched s t) (h2 : KeepsLaunched t u) : KeepsLaunched s u :=
  ⟨h2.1.trans h1.1, h2.2.trans h1.2⟩

theorem ite {s t u : State} {c : Prop} [Decidable c] (h1 : KeepsLaunched s t) (h2 : KeepsLaunched s u) :
    KeepsLaunched s (if c then t else u) := by split <;> assumption

theorem setReg (s : State) (a : Nat) (v : Word) : KeepsLaunched s (s.setReg a v) := ⟨rfl, rfl⟩

theorem setB (s : State) (a i : Nat) (b : Bool) : KeepsLaunched s (s.setB a i b) := ⟨rfl, rfl⟩

theorem satAdd (s : State) (a hi lo n : Nat) : KeepsLaunched s (s.satAdd a hi lo n) := ⟨rfl, rfl⟩

theorem shadow {s t : State} (h : KeepsLaunched s t) (a : Nat) : t.shadow a = s.shadow a := by rw [State.shadow, h.1, State.shadow]

end KeepsLaunched

section
open KeepsLaunched

/-! ### Events -/

theorem State.dmaWrite_keepsLaunched (s : State) (d : Nat) (r : List Word) : KeepsLaunched s (s.dmaWrite d r) := ite (refl s) (refl s)

theorem State.msixRoute_keepsLaunched (s : State) (v : Nat) : KeepsLaunched s (s.msixRoute v) :=
  ite (refl s) (ite (refl s) (refl s))

theorem State.lineRoute_keepsLaunched (s : State) (j : Nat) : KeepsLaunched s (s.lineRoute j) := ite (refl s) (refl s)

theorem State.ropeRoute_keepsLaunched (s : State) (e k : Nat) (r : List Word) : KeepsLaunched s (s.ropeRoute e k r) := by
  unfold State.ropeRoute
  generalize s.rope.renew (s.rf (aRTGT k) 8 0) (s.rf (aRTGT k) 13 9) e r = y
  obtain ⟨found, x⟩ := y
  exact ite (refl s) (ite (refl s) (ite (refl s) (refl s)))

theorem State.occur_keepsLaunched (s : State) (e : Nat) (t : DevTime) (q : Nat) : KeepsLaunched s (s.occur e t q).2 := by
  unfold State.occur
  refine trans ?_ (ite (State.ropeRoute_keepsLaunched _ _ _ _) (refl _))
  refine trans ?_ (ite (State.lineRoute_keepsLaunched _ _) (refl _))
  refine trans ?_ (ite (State.msixRoute_keepsLaunched _ _) (refl _))
  refine trans ?_ (ite ((KeepsLaunched.satAdd _ _ _ _ _).trans (KeepsLaunched.satAdd _ _ _ _ _)) (ite (State.dmaWrite_keepsLaunched _ _ _) (refl _)))
  refine trans ?_ (KeepsLaunched.setB _ _ _ _)
  exact ((trans (t := { s with evt := _ }) ⟨rfl, rfl⟩ (KeepsLaunched.setReg _ _ _)).trans (KeepsLaunched.setReg _ _ _)).trans (KeepsLaunched.setReg _ _ _)

/-- Raising an event launches no fabric event, ends none in flight, and changes no shadow. -/
theorem State.raiseAt_keepsLaunched (s : State) (e : Nat) (t : DevTime) : KeepsLaunched s (s.raiseAt e t) := by
  unfold State.raiseAt State.raiseWith
  refine trans (s.occur_keepsLaunched e t _) (ite ?_ (refl _))
  exact (KeepsLaunched.setB _ _ _ _).trans (ite (State.occur_keepsLaunched _ _ _ _) (refl _))

end

/-! ### PAGE_ERR -/

theorem setBit_of_bit {w : Word} {i : Nat} (h : bit w i = true) : setBit w i true = w := by
  refine BitVec.eq_of_getLsbD_eq fun j hj => ?_
  have hbit : bit (setBit w i true) j = bit w j := by
    rw [bit_setBit _ _ _ _ hj]
    split
    · next hji => rw [hji, h]
    · rfl
  exact hbit

/-- On a page that raising an event does not touch, PAGE_ERR takes the bit and nothing else (R39). -/
theorem State.setErr_pageErr (s : State) {p b : Nat} (hevt : evtPage (pg p 0x00C) = false) :
    (s.setErr p b).reg (pg p 0x00C) = setBit (s.reg (pg p 0x00C)) b true := by
  unfold State.setErr
  split
  · next hset => exact (setBit_of_bit hset).symm
  · have hreg : (s.setB (pg p 0x00C) b true).reg (pg p 0x00C) = setBit (s.reg (pg p 0x00C)) b true := State.reg_setReg_same _ _ _
    refine State.reg_ite _ _ _ _ ?_ hreg
    split
    · next e he => exact (State.raise_reg _ _ _ (pageEvent_lt he) hevt).trans hreg
    · exact hreg

/-- Settles O15: each clause is what an occurrence, or the PAGE_ERR bit with its page event, leaves of one part of the state. -/
theorem eventsTouchOnlyTheirPages : Obligations.EventsTouchOnlyTheirPages :=
  ⟨fun s e a he hevt => s.raise_reg e a he hevt, fun s e a => (s.raiseAt_keepsLaunched e _).shadow a, fun s e he => s.count_raise e he,
    fun s e => s.raise_same e,
    fun s p b _ _ _ hevt ha => s.reg_setErr p b hevt ha, fun s _ _ _ _ hevt => s.setErr_pageErr hevt,
    fun s p b => s.setErr_same p b⟩

end Sys2Proof.Machine
end

section
/-! Messages and fabric events as commands (R307, R308, R309, R311, R313, R351). -/

namespace Sys2Proof.Machine

/-! ### A write leaves the event controller alone -/

@[simp] theorem State.evt_markUndefined (s : State) (c p ch : Nat) : (s.markUndefined c p ch).evt = s.evt := by
  unfold State.markUndefined; split <;> rfl

@[simp] theorem State.evt_noteQuiet (s : State) (a : Nat) (old : Word) (quiet : Bool) : (s.noteQuiet a old quiet).evt = s.evt := by
  unfold State.noteQuiet
  dsimp only
  split
  · rfl
  · split_ifs <;> simp

@[simp] theorem State.evt_storeWrite (s : State) (a : Nat) (v : Word) (keep : Bool) : (s.storeWrite a v keep).evt = s.evt := by
  unfold State.storeWrite
  split
  · rfl
  · rw [State.evt_noteQuiet]; split <;> rfl

@[simp] theorem State.count_storeWrite (s : State) (a : Nat) (v : Word) (keep : Bool) (e : Nat) : (s.storeWrite a v keep).count e = s.count e := by
  rw [State.count, State.evt_storeWrite, State.count]

/-! ### MSI-X (R309, R351) -/

section
variable {s : State}

theorem State.rb_sendHost (s : State) (m : HostTlp) (a i : Nat) : (s.sendHost m).rb a i = s.rb a i := rfl

theorem State.msixSend_free {v : Nat} (hv : v < 64) (hpba : s.rb (aPBA (v / 32)) (v % 32) = true) (hfree : s.msixHeld v = false) : s.msixSend v =
    (s.setB (aPBA (v / 32)) (v % 32) false).sendHost (.msix v (s.reg64 (aMSIX v 0) (aMSIX v 4)) (s.reg (aMSIX v 8))) :=
  if_pos ⟨hv, hpba, by rw [hfree]; rfl⟩

theorem State.blockWritten_msixPend (s : State) {k : Nat} (hk : k < 2) (r : Nat) (old v : Word) (keep : Bool) :
    s.blockWritten (aMSIX_PEND k) r old v keep = s.msixPendClear k v := by
  interval_cases k <;> rfl

theorem aMSIX_PEND_ne_aPBA (j k : Nat) (hj : j < 2) : aMSIX_PEND j ≠ aPBA k := by unfold aMSIX_PEND aPBA pg; omega

/-- The bits written 1 read 0 in MSIX_PEND, and the PBA bits clear with them. -/
theorem State.msixPendClear_shows (s : State) {k : Nat} (hk : k < 2) (v : Word) :
    (s.msixPendClear k v).reg (aPBA k) = s.reg (aPBA k) &&& ~~~v ∧ (s.msixPendClear k v).reg (aMSIX_PEND k) &&& v = 0 := by
  have hne := aMSIX_PEND_ne_aPBA k k hk
  refine ⟨State.reg_setReg_same _ _ _, ?_⟩
  · rw [State.msixPendClear, State.reg_setReg_ne _ _ _ _ hne, State.reg_setReg_same, BitVec.and_assoc, BitVec.and_comm (~~~v), BitVec.and_not_self]
    exact BitVec.and_zero

theorem msixPendClear_answers {r : ReqId} {k : BitVec 1} {v : Word} (hc : Accepted s r (aMSIX_PEND k.toNat) v) :
    Answers (.msixPendClear r k v) s ((s.storeWrite (aMSIX_PEND k.toNat) v false).msixPendClear k.toNat v) := by
  have halign : aMSIX_PEND k.toNat % 4 = 0 := by unfold aMSIX_PEND pg; omega
  have hanswer := hc.stored (c := .msixPendClear r k v) rfl halign (by unfold aMSIX_PEND pg; omega)
  rwa [State.blockWritten_msixPend _ k.isLt] at hanswer

/-! ### Rope-routed records (R311) -/

/-- The oldest record leaves as a message to the mailbox that its target names. -/
theorem State.ropeEventSend_oldest {e : RopeEvent} {rest : List RopeEvent} (h : s.evt.ropeWait = e :: rest) : s.ropeEventSend =
    ({ s with evt := { s.evt with ropeWait := rest } }).ropeMessage (fld (s.reg (aRTGT e.target)) 8 0) (fld (s.reg (aRTGT e.target)) 13 9) 0
      e.words := by
  rw [State.ropeEventSend, h]

theorem State.ropeMessage_noRope (h : s.ropeOff = true) (n m r : Nat) (words : List Word) :
    s.ropeMessage n m r words = s.accFail acNO_ROUTE r n (aMB m 0x40) false := if_pos h

/-- A record that leaves does not connect the rope. -/
theorem State.ropeOff_ropeWait (l : List RopeEvent) : State.ropeOff { s with evt := { s.evt with ropeWait := l } } = s.ropeOff := rfl

/-! ### Fabric events (R307, R308) -/

/-- The fabric events in flight are those that l names. -/
def State.withLaunched (s : State) (l : SMap Bool) : State := { s with evt := { s.evt with launched := l } }

theorem State.count_withLaunched (s : State) (l : SMap Bool) (e : Nat) : (s.withLaunched l).count e = s.count e := rfl

theorem State.withLaunched_same (s : State) (l : SMap Bool) : SameOutside s (s.withLaunched l) := rfl

/-- A fabric event that is delivered counts once and is no longer in flight. -/
theorem State.fabricEvent_shows (s : State) {e : Nat} (he : e ≠ 104) (d : DevTime) :
    let t := (s.withLaunched (SMap.set (fun _ => false) s.evt.launched e false)).raiseAt e d
    t.count e = s.count e + 1 ∧ SMap.get (fun _ => false) t.evt.launched e = false ∧ SameOutside s t := by
  refine ⟨by rw [State.count_raiseAt _ _ _ he, State.count_withLaunched], ?_, (s.withLaunched_same _).trans (State.raiseAt_same _ _ _)⟩
  rw [(State.raiseAt_keepsLaunched _ _ _).2, State.withLaunched, SMap.get_set, if_pos rfl]

theorem State.fabricEvent_launched {e : Nat} (h : SMap.get (fun _ => false) s.evt.launched e = true) : s.fabricEvent e =
    (s.withLaunched (SMap.set (fun _ => false) s.evt.launched e false)).raiseAt e s.time.now :=
  if_neg (by simp [h])

theorem State.fabricEvent_idle {e : Nat} (h : SMap.get (fun _ => false) s.evt.launched e = false) : s.fabricEvent e = s := if_pos (by simp [h])

theorem State.fabricEventLaunch_masked {e : Nat} (h : s.fabricMasked e = true) : s.fabricEventLaunch e = s := if_pos (by simp [h])

theorem State.fabricEventLaunch_open {e : Nat} (hlo : 256 ≤ e) (hhi : e < 320) (h : s.fabricMasked e = false) : s.fabricEventLaunch e =
    if SMap.get (fun _ => false) s.evt.launched e then
      (s.setB (aFEV_MERGE ((e - 256) / 32)) ((e - 256) % 32) true).satAdd aXH_COUNT 31 16 1
    else s.withLaunched (SMap.set (fun _ => false) s.evt.launched e true) :=
  if_neg (by simp [h, hlo, hhi])

/-! ### SW_RAISE (R313) -/

theorem State.blockWritten_swRaise (s : State) (r : Nat) (old w : Word) (keep : Bool) : s.blockWritten aSW_RAISE r old w keep =
    if bit w 1 then (if bit w 0 then s.raise 246 else s).raise 247 else if bit w 0 then s.raise 246 else s := rfl

theorem sw0Raise_answers {r : ReqId} {v : Word} (hc : Accepted s r aSW_RAISE (setBit v 0 true)) (hv : bit v 1 = false) :
    Answers (.sw0Raise r v) s ((s.storeWrite aSW_RAISE (setBit v 0 true) false).raise 246) := by
  have hone : ¬ bit (setBit v 0 true) 1 = true := by simp [bit_setBit, hv]
  have hanswer := hc.stored (c := .sw0Raise r v) rfl (by decide) (by decide)
  rwa [State.blockWritten_swRaise, if_neg hone, if_pos (bit_setBit_same _ _ _ (by decide))] at hanswer

theorem sw1Raise_answers {r : ReqId} {v : Word} (hc : Accepted s r aSW_RAISE (setBit v 1 true)) (hv : bit v 0 = false) :
    Answers (.sw1Raise r v) s ((s.storeWrite aSW_RAISE (setBit v 1 true) false).raise 247) := by
  have hzero : ¬ bit (setBit v 1 true) 0 = true := by simp [bit_setBit, hv]
  have hanswer := hc.stored (c := .sw1Raise r v) rfl (by decide) (by decide)
  rwa [State.blockWritten_swRaise, if_pos (bit_setBit_same _ _ _ (by decide)), if_neg hzero] at hanswer

/-- An event raised by a write counts once more, and no event but 104 counts besides. -/
theorem State.raise_storeWrite_shows (s : State) (a : Nat) (v : Word) {e k : Nat} (he : e ≠ 104) (hk : k ≠ e) (hk4 : k ≠ 104) :
    ((s.storeWrite a v false).raise e).count e = s.count e + 1 ∧ ((s.storeWrite a v false).raise e).count k = s.count k ∧
      SameOutside s ((s.storeWrite a v false).raise e) :=
  ⟨by rw [State.count_raise _ _ he, State.count_storeWrite], by rw [State.count_raise_ne _ _ _ hk hk4, State.count_storeWrite],
    (s.storeWrite_same a v false).trans (State.raise_same _ e)⟩

end

/-- Settles O42: a message by what holds its vector back, a record by the rope, and a fabric event by its launch and its mask. -/
theorem eventCommands : Obligations.EventCommands := by
  refine ⟨fun s n ha hpba hfree => ?_, fun s r k v hc => ?_, fun s e rest ha hwait => ?_, fun s j ha hlaunched => ?_, fun s j ha hidle => ?_,
    fun s e hlo hhi => ⟨fun h => ?_, fun h hidle => ?_, fun h hlaunched => ?_⟩, fun s r v hc hv => ?_, fun s r v hc hv => ?_⟩
  · exact ⟨Answers.live (f := (·.msixSend n.toNat)) rfl ha (State.msixSend_free n.isLt hpba hfree),
      (State.rb_sendHost _ _ _ _).trans (State.rb_setB_same _ _ _ _ (Nat.mod_lt _ (by decide))), rfl,
      (State.setB_same _ _ _ _).trans (State.sendHost_same _ _)⟩
  · obtain ⟨hpba, hpend⟩ := (s.storeWrite (aMSIX_PEND k.toNat) v false).msixPendClear_shows k.isLt v
    rw [s.reg_storeWrite_ne v false (aMSIX_PEND_ne_aPBA _ _ k.isLt).symm] at hpba
    exact ⟨msixPendClear_answers hc, hpba, hpend, (s.storeWrite_same _ v false).trans rfl⟩
  · have hsend := State.ropeEventSend_oldest hwait
    refine ⟨Answers.live (f := State.ropeEventSend) rfl ha hsend, fun hoff => Answers.live (f := State.ropeEventSend) rfl ha ?_⟩
    rw [hsend, State.ropeMessage_noRope (by rw [State.ropeOff_ropeWait, hoff])]
  · exact ⟨Answers.live (f := (·.fabricEvent (256 + j.toNat))) rfl ha (State.fabricEvent_launched hlaunched),
      s.fabricEvent_shows (by omega) _⟩
  · exact Answers.live (f := (·.fabricEvent (256 + j.toNat))) rfl ha (State.fabricEvent_idle hidle)
  · exact State.fabricEventLaunch_masked h
  · exact (State.fabricEventLaunch_open hlo hhi h).trans (if_neg (by simp [hidle]))
  · exact (State.fabricEventLaunch_open hlo hhi h).trans (if_pos hlaunched)
  · exact ⟨sw0Raise_answers hc hv, s.raise_storeWrite_shows _ _ (by decide) (by decide) (by decide)⟩
  · exact ⟨sw1Raise_answers hc hv, s.raise_storeWrite_shows _ _ (by decide) (by decide) (by decide)⟩

end Sys2Proof.Machine
end

section
/-! Mailboxes as commands: staged words, posts, takes, the lock and the timeout (R316 to R319, R323). -/

namespace Sys2Proof.Machine

/-! ### Mailboxes -/

@[simp] theorem State.mb_setMb_same (s : State) (m : Nat) (x : Mailbox) : (s.setMb m x).mb m = x := by
  simp [State.mb, State.setMb, SMap.get_set]

theorem State.mb_setMb_ne (s : State) {m k : Nat} (x : Mailbox) (h : k ≠ m) : (s.setMb m x).mb k = s.mb k := by
  simp [State.mb, State.setMb, SMap.get_set, h]

theorem State.mb_congr {s t : State} (h : t.mbx = s.mbx) (m : Nat) : t.mb m = s.mb m := by
  rw [State.mb, h, State.mb]

@[simp] theorem State.mb_withPending (s : State) (q : List Instr) (m : Nat) : (s.withPending q).mb m = s.mb m := rfl

@[simp] theorem State.mb_storeWrite (s : State) (a : Nat) (v : Word) (keep : Bool) (m : Nat) : (s.storeWrite a v keep).mb m = s.mb m :=
  State.mb_congr (s.storeWrite_same a v keep).mbx m

/-! ### The pages -/

section
variable {m o : Nat}

theorem aMB_page (h : o < 0x100) : aMB m o / 0x1000 = 0x008 + m / 4 := by unfold aMB pg; omega

theorem aMB_offset (h : o < 0x100) : aMB m o % 0x1000 = 0x100 + 0x100 * (m % 4) + o := by unfold aMB pg; omega

theorem evtPage_mb (hm : m < 32) (h : o < 0x100) : evtPage (aMB m o) = false := by
  simp only [evtPage, aMB_page h, Bool.or_eq_false_iff, beq_eq_false_iff_ne]
  omega

theorem pageInfo_mbx {q : Nat} (h : q < 8) : (pageInfo (0x008 + q)).kind = .mbx ∧ (pageInfo (0x008 + q)).inst = q := by
  revert q; decide

/-- The mailbox that the offset in its page names. -/
theorem mailbox_of_offset (h : o < 0x100) : 4 * (m / 4) + (0x100 + 0x100 * (m % 4) + o - 0x100) / 0x100 = m ∧
    (0x100 + 0x100 * (m % 4) + o) % 0x100 = o := by omega

end

/-! ### MB_FLAG (R316, R325) -/

section
variable (s : State) (m b : Nat)

theorem State.mbLevel_same : SameOutside s (s.mbLevel m) := State.setErrLevel_same _ _ _ _

theorem State.mbFlag_same : SameOutside s (s.mbFlag m b) :=
  have hset : SameOutside s ((s.setB (aMB m 8) b true).mbLevel m) := (State.setB_same _ _ _ _).trans (State.mbLevel_same _ m)
  SameOutside.ite (hset.trans (State.raise_same _ _)) hset

@[simp] theorem State.mb_mbFlag (k : Nat) : (s.mbFlag m b).mb k = s.mb k := State.mb_congr (s.mbFlag_same m b).mbx k

theorem State.reg_mbLevel {a : Nat} (hevt : evtPage a = false) (ha : a ≠ pg (0x008 + m / 4) 0x00C) : (s.mbLevel m).reg a = s.reg a :=
  State.reg_ite _ _ _ _ (State.reg_setErr _ _ _ hevt ha) (State.reg_setB_ne _ _ _ _ _ ha)

/-- The bit reads 1: neither the level of the page nor the event of the mailbox changes MB_FLAG. -/
theorem State.rb_mbFlag (hm : m < 32) (hb : b < 32) : (s.mbFlag m b).rb (aMB m 8) b = true := by
  have hevt := evtPage_mb (o := 8) hm (by decide)
  have herr : aMB m 8 ≠ pg (0x008 + m / 4) 0x00C := by unfold aMB pg; omega
  have hlevel : ((s.setB (aMB m 8) b true).mbLevel m).reg (aMB m 8) = (s.setB (aMB m 8) b true).reg (aMB m 8) := State.reg_mbLevel _ m hevt herr
  have hflag : (s.mbFlag m b).reg (aMB m 8) = (s.setB (aMB m 8) b true).reg (aMB m 8) :=
    State.reg_ite _ _ _ _ ((State.raise_reg _ _ _ (by omega) hevt).trans hlevel) hlevel
  rw [State.rb, hflag]
  exact State.rb_setB_same _ _ _ _ hb

end

/-! ### Writes and reads of a mailbox register -/

section
variable {s : State} {m : BitVec 5}

theorem State.blockWritten_mbx (s : State) {m o : Nat} (hm : m < 32) (ho : o < 0x100) (r : Nat) (old v : Word) (keep : Bool) :
    s.blockWritten (aMB m o) r old v keep = s.mbxWritten (m / 4) r (0x100 + 0x100 * (m % 4) + o) old v := by
  obtain ⟨hkind, hinst⟩ := pageInfo_mbx (q := m / 4) (by omega)
  simp only [State.blockWritten, aMB_page ho, aMB_offset ho, hkind, hinst]

/-- An accepted write of the register at offset o of mailbox m. -/
theorem Accepted.mailbox {i : Instr} {r : ReqId} {o : Nat} {v : Word} (h : exec i s = s.actWrite r (aMB m.toNat o) v)
    (hc : Accepted s r (aMB m.toNat o) v) (halign : o % 4 = 0) (ho : o < 0x100) : Answers i s
      ((s.storeWrite (aMB m.toNat o) v false).mbxWritten (m.toNat / 4) r.toNat (0x100 + 0x100 * (m.toNat % 4) + o) (s.stored (aMB m.toNat o)) v) := by
  have hword : aMB m.toNat o % 4 = 0 := by unfold aMB pg; omega
  have hanswer := hc.stored h hword (by rw [aMB_offset ho]; omega)
  rwa [State.blockWritten_mbx _ m.isLt ho] at hanswer

theorem txWord_answers {r : ReqId} {w : BitVec 3} {v : Word} (hc : Accepted s r (aMB m.toNat (0x20 + 4 * w.toNat)) v) :
    Answers (.txWord r m w v) s ((s.storeWrite (aMB m.toNat (0x20 + 4 * w.toNat)) v false).txWord m.toNat r.toNat w.toNat v) := by
  have hanswer := hc.mailbox (i := .txWord r m w v) rfl (by omega) (by omega)
  obtain ⟨hname, hoff⟩ := mailbox_of_offset (m := m.toNat) (o := 0x20 + 4 * w.toNat) (by omega)
  have hrange : 0x20 ≤ 0x20 + 4 * w.toNat ∧ 0x20 + 4 * w.toNat < 0x40 := by omega
  have hindex : (0x20 + 4 * w.toNat - 0x20) / 4 = w.toNat := by omega
  rw [State.mbxWritten, if_neg (by omega), hname, hoff] at hanswer
  -- The four offsets with a rule of their own are none of TX_W.
  split at hanswer
  · omega
  · omega
  · omega
  · omega
  · rwa [if_pos hrange, hindex] at hanswer

theorem txPost_answers {r : ReqId} {v : Word} (hc : Accepted s r (aMB m.toNat 0x40) v) :
    Answers (.txPost r m v) s ((s.storeWrite (aMB m.toNat 0x40) v false).txPost m.toNat r.toNat (bit v 0)) := by
  have hanswer := hc.mailbox (i := .txPost r m v) rfl (by decide) (by decide)
  obtain ⟨hname, hoff⟩ := mailbox_of_offset (m := m.toNat) (o := 0x40) (by decide)
  rwa [State.mbxWritten, if_neg (by omega), hname, hoff] at hanswer

theorem mbLockWrite_answers {r : ReqId} {v : Word} (hc : Accepted s r (aMB m.toNat 0x0C) v) :
    Answers (.mbLockWrite r m v) s ((s.storeWrite (aMB m.toNat 0x0C) v false).mbLockWrite m.toNat r.toNat) := by
  have hanswer := hc.mailbox (i := .mbLockWrite r m v) rfl (by decide) (by decide)
  obtain ⟨hname, hoff⟩ := mailbox_of_offset (m := m.toNat) (o := 0x0C) (by decide)
  rwa [State.mbxWritten, if_neg (by omega), hname, hoff] at hanswer

/-- A read of the register at offset o of mailbox m, which no snapshot serves. -/
theorem State.readReg_mbx (s : State) {m o : Nat} (hm : m < 32) (ho : o < 0x100) (halign : o % 4 = 0) (r : Nat) : s.readReg r (aMB m o) =
    if o = 0x60 then s.rxTake m r else if o = 0x0C then s.mbLockRead m r else (s.showReg r (aMB m o), s) := by
  obtain ⟨hkind, hinst⟩ := pageInfo_mbx (q := m / 4) (by omega)
  have hword : aMB m o % 4 = 0 ∧ aMB m o / 4 * 4 = aMB m o := by unfold aMB pg; omega
  obtain ⟨hname, hoff⟩ := mailbox_of_offset (m := m) ho
  have hin : 0x100 ≤ 0x100 + 0x100 * (m % 4) + o ∧ 0x100 + 0x100 * (m % 4) + o < 0x500 := by omega
  simp [State.readReg, aMB_page ho, aMB_offset ho, hkind, hinst, hword, hname, hoff, hin]

end

/-! ### Posts (R317) -/

section
variable {s : State} {m r : Nat} {e : BitVec 16} {l : List Word}

/-- A post of the sender that the lock does not hold back is accepted while there is room. -/
theorem State.mbTryPost_room (htx : s.mbTx m = r) (hlock : s.mbLockReq m = false) (hroom : (s.mb m).msgs.length < 8) :
    s.mbTryPost m r e l = (resOk, (s.mbAppend m r e l).postResult m r resOk (s.mb m).tag) := by
  simp [State.mbTryPost, htx, hlock, hroom]

theorem State.mbTryPost_full (htx : s.mbTx m = r) (hlock : s.mbLockReq m = false) (hfull : 8 ≤ (s.mb m).msgs.length) :
    s.mbTryPost m r e l = (resFull, (s.mbFlag m 3).postResult m r resFull (s.mb m).tag) := by
  simp [State.mbTryPost, htx, hlock, hfull]

/-- A message accepted is the last of its mailbox. -/
theorem State.msgs_mbAppend (s : State) (m r : Nat) (e : BitVec 16) (l : List Word) :
    ∃ x, ((s.mbAppend m r e l).mb m).msgs = (s.mb m).msgs ++ [x] := by
  refine ⟨{ src := BitVec.ofNat 10 r, tag := (s.mb m).tag, epoch := e, words := l, seq := s.mbSeq }, ?_⟩
  rw [State.mbAppend, State.mb_mbFlag, State.mb_setMb_same]

theorem fld_lowByte {n : Nat} (h : n < 256) (k : Nat) : fld (BitVec.ofNat 32 (n + k * 2 ^ 16)) 7 0 = n := by
  simp [fld]; omega

theorem State.postResult_shows (s : State) (m r : Nat) {res : Nat} (hres : res < 256) (tag : BitVec 16) :
    ((s.postResult m r res tag).mb m).msgs = (s.mb m).msgs ∧ fld (SMap.get (fun _ => 0) ((s.postResult m r res tag).mb m).result r) 7 0 = res := by
  rw [State.postResult, State.mb_setMb_same]
  refine ⟨rfl, ?_⟩
  rw [SMap.get_set, if_pos rfl]
  split
  · exact fld_lowByte hres _
  · simpa using fld_lowByte hres 0

/-- A post to a mailbox of the node leaves its outcome, and of the mailbox changes at most the lock besides. -/
theorem State.txPost_mb (hm : m < 16) (release : Bool) : let t := (s.mbTryPost m r (s.mb m).txEpoch ((s.mb m).stagedWords r)).2
    ((s.txPost m r release).mb m).msgs = (t.mb m).msgs ∧ ((s.txPost m r release).mb m).result = (t.mb m).result := by
  rw [State.txPost, if_neg (by omega)]
  exact ⟨by rw [State.mb_setMb_same], by rw [State.mb_setMb_same]⟩

theorem State.txPost_room (hm : m < 16) (htx : s.mbTx m = r) (hlock : s.mbLockReq m = false) (hroom : (s.mb m).msgs.length < 8)
    (release : Bool) : let t := s.txPost m r release
    (t.mb m).msgs.length = (s.mb m).msgs.length + 1 ∧ (t.mb m).msgs.take (s.mb m).msgs.length = (s.mb m).msgs ∧
      fld (SMap.get (fun _ => 0) (t.mb m).result r) 7 0 = resOk := by
  obtain ⟨hmsgs, hresult⟩ := State.txPost_mb (s := s) (r := r) hm release
  rw [State.mbTryPost_room htx hlock hroom] at hmsgs hresult
  obtain ⟨hkept, hres⟩ := State.postResult_shows (s.mbAppend m r (s.mb m).txEpoch ((s.mb m).stagedWords r)) m r (res := resOk) (by decide) (s.mb m).tag
  obtain ⟨x, happend⟩ := s.msgs_mbAppend m r (s.mb m).txEpoch ((s.mb m).stagedWords r)
  dsimp only
  rw [hmsgs, hresult, hkept, happend]
  exact ⟨List.length_append, List.take_left, hres⟩

theorem State.txPost_full (hm : m < 16) (htx : s.mbTx m = r) (hlock : s.mbLockReq m = false) (hfull : 8 ≤ (s.mb m).msgs.length)
    (release : Bool) : let t := s.txPost m r release
    (t.mb m).msgs = (s.mb m).msgs ∧ fld (SMap.get (fun _ => 0) (t.mb m).result r) 7 0 = resFull := by
  obtain ⟨hmsgs, hresult⟩ := State.txPost_mb (s := s) (r := r) hm release
  rw [State.mbTryPost_full htx hlock hfull] at hmsgs hresult
  obtain ⟨hkept, hres⟩ := (s.mbFlag m 3).postResult_shows m r (res := resFull) (by decide) (s.mb m).tag
  dsimp only
  rw [hmsgs, hresult, hkept, State.mb_mbFlag]
  exact ⟨rfl, hres⟩

/-- What the end of a mailbox and its lock setting are does not depend on a write of another of its registers. -/
theorem State.mbCfg_storeWrite (s : State) {o : Nat} (ho : o ≠ 0) (v : Word) : (s.storeWrite (aMB m o) v false).mbTx m = s.mbTx m ∧
    (s.storeWrite (aMB m o) v false).mbLockReq m = s.mbLockReq m := by
  have hne : aMB m 0 ≠ aMB m o := by unfold aMB pg; omega
  simp only [State.mbTx, State.mbLockReq, State.rf, State.rb, s.reg_storeWrite_ne v false hne, and_self]

/-! ### Takes (R318) -/

/-- The receiver takes the head of its mailbox. -/
theorem State.rxTake_head {h : Msg} {rest : List Msg} (hmsgs : (s.mb m).msgs = h :: rest) (hrx : s.mbRx m = r) :
    (s.rxTake m r).1 = BitVec.ofNat 32 (2 ^ 31 + h.src.toNat * 2 ^ 16 + h.tag.toNat) ∧ ((s.rxTake m r).2.mb m).msgs = rest ∧
      ((s.rxTake m r).2.mb m).timedOut = false ∧ ∀ k, k ≠ m → (s.rxTake m r).2.mb k = s.mb k := by
  simp only [State.rxTake, hmsgs, hrx, if_true, true_and]
  split
  · exact ⟨by simp, by simp, fun k hk => by rw [State.mb_mbFlag, State.mb_setMb_ne _ _ hk]⟩
  · exact ⟨by simp, by simp, fun k hk => State.mb_setMb_ne _ _ hk⟩

/-! ### The lock (R319) -/

theorem State.mbLockRead_free {r : ReqId} (h : (s.mb m).lock = 0) :
    s.mbLockRead m r.toNat = (0, s.setMb m { s.mb m with lock := r }) := by
  simp [State.mbLockRead, h]

theorem State.mbLockRead_taken {r : ReqId} (h0 : (s.mb m).lock ≠ 0) (hr : (s.mb m).lock ≠ r) :
    s.mbLockRead m r.toNat = (BitVec.ofNat 32 (s.mb m).lock.toNat, s) := by
  rw [State.mbLockRead, if_neg h0, if_neg fun h => hr (BitVec.eq_of_toNat_eq h)]

theorem State.mbLockWrite_holder {r : ReqId} (h : (s.mb m).lock = r) : s.mbLockWrite m r.toNat = s.setMb m { s.mb m with lock := 0 } :=
  if_pos (congrArg BitVec.toNat h)

theorem State.mbLockWrite_other {r : ReqId} (h : (s.mb m).lock ≠ r) : s.mbLockWrite m r.toNat = s := if_neg fun e => h (BitVec.eq_of_toNat_eq e)

/-! ### The timeout (R323) -/

theorem State.mbTimeout_due (htmo : s.rf (aMB m 0x10) 19 0 ≠ 0) (hmsgs : (s.mb m).msgs ≠ []) (hflag : (s.mb m).timedOut = false) :
    s.mbTimeout m = (s.setMb m { s.mb m with timedOut := true }).mbFlag m 2 := if_pos (by simp [htmo, hmsgs, hflag])

end

/-! ### Reads as commands -/

theorem rxInfo0Read_answers {s : State} {r : ReqId} (hr : Readable s r) (m : BitVec 5) : Answers (.rxInfo0Read r m) s
    { (s.rxTake m.toNat r.toNat).2 with lastRead := (s.rxTake m.toNat r.toNat).1, lastUr := false } :=
  Answers.act (f := (·.localRead r.toNat (aMB m.toNat 0x60))) rfl (by
    rw [State.localRead_readable hr, s.readReg_mbx m.isLt (by decide) (by decide), if_pos rfl])

theorem mbLockRead_answers {s : State} {r : ReqId} (hr : Readable s r) (m : BitVec 5) : Answers (.mbLockRead r m) s
    { (s.mbLockRead m.toNat r.toNat).2 with lastRead := (s.mbLockRead m.toNat r.toNat).1, lastUr := false } :=
  Answers.act (f := (·.localRead r.toNat (aMB m.toNat 0x0C))) rfl (by
    rw [State.localRead_readable hr, s.readReg_mbx m.isLt (by decide) (by decide), if_neg (by decide), if_pos rfl])

/-- Settles O43: a write and a read by the register they name, a post by the room for it, and the lock by its holder. -/
theorem mailboxCommands : Obligations.MailboxCommands := by
  refine ⟨fun s r m w v hc => ?_, fun s r m v hc => txPost_answers hc, fun s r m v hc hm htx hlock hroom => ?_,
    fun s r m v hc hm htx hlock hfull => ?_, fun s r m h rest hr hmsgs hrx => ?_, fun s r m hr => ⟨fun h0 => ?_, fun h0 hother => ?_⟩,
    fun s r m v hc => ⟨fun h => ?_, fun h => ?_⟩, fun s m ht htmo hmsgs hflag => ?_⟩
  · refine ⟨txWord_answers hc, ?_, ?_, ?_, fun k hk => ?_⟩
    · rw [State.txWord, State.mb_setMb_same, SMap.get_set, if_pos rfl]
    · rw [State.txWord, State.mb_setMb_same, State.mb_storeWrite]
    · rw [State.txWord, State.mb_setMb_same, State.mb_storeWrite]
    · rw [State.txWord, State.mb_setMb_ne _ _ hk, State.mb_storeWrite]
  · obtain ⟨htx', hlock'⟩ := s.mbCfg_storeWrite (m := m.toNat) (o := 0x40) (by decide) v
    have hshows := State.txPost_room hm (htx'.trans htx) (hlock'.trans hlock) (by rwa [State.mb_storeWrite]) (bit v 0)
    rw [State.mb_storeWrite] at hshows
    exact Answers.completes (txPost_answers hc) hshows
  · obtain ⟨htx', hlock'⟩ := s.mbCfg_storeWrite (m := m.toNat) (o := 0x40) (by decide) v
    have hshows := State.txPost_full hm (htx'.trans htx) (hlock'.trans hlock) (by rwa [State.mb_storeWrite]) (bit v 0)
    rw [State.mb_storeWrite] at hshows
    exact Answers.completes (txPost_answers hc) hshows
  · obtain ⟨hword, hrest, htimer, hothers⟩ := State.rxTake_head hmsgs hrx
    exact ⟨rxInfo0Read_answers hr m, hword, hrest, htimer, rfl, hothers⟩
  · have hanswer := mbLockRead_answers hr m
    rwa [State.mbLockRead_free h0] at hanswer
  · have hanswer := mbLockRead_answers hr m
    rwa [State.mbLockRead_taken h0 hother] at hanswer
  · have hanswer := mbLockWrite_answers hc
    rwa [State.mbLockWrite_holder (by rwa [State.mb_storeWrite])] at hanswer
  · have hanswer := mbLockWrite_answers hc
    rwa [State.mbLockWrite_other (by rwa [State.mb_storeWrite])] at hanswer
  · refine ⟨Answers.timed (f := (·.mbTimeout m.toNat)) rfl ht (State.mbTimeout_due htmo hmsgs hflag),
      State.rb_mbFlag _ _ _ m.isLt (by decide), ?_, ?_⟩
    · rw [State.mb_mbFlag, State.mb_setMb_same]
    · rw [State.mb_mbFlag, State.mb_setMb_same]

end Sys2Proof.Machine
end

section
/-! The calls of configuration images (R402, R405 to R411, R415 to R418). -/

namespace Sys2Proof.Machine

section
variable {s : State} {c : Call}

/-! ### SVC_IMAGE_LOAD and SVC_IMAGE_SWITCH (R409) -/

section
variable {svc : Nat}

theorem bank_wordsAllowed (hw : c.w2 &&& 0xFFFFFEFE = 0) (hz : zeroFrom c 3 = true) : ¬ (c.w2 &&& 0xFFFFFEFE ≠ 0 ∨ !zeroFrom c 3) := by
  rw [hw]; simp [hz]

theorem State.imageLoad_badArg (h : c.w2 &&& 0xFFFFFEFE ≠ 0) : s.imageLoad svc c = s.longOnce svc c rcBAD_ARG 0 [] := if_pos (.inl h)

theorem State.imageLoad_mode (hw : c.w2 &&& 0xFFFFFEFE = 0) (hz : zeroFrom c 3 = true) {r : Nat}
    (hr : s.modeRefusal [mRUN, mHOLD] = some r) : s.imageLoad svc c = s.longOnce svc c r 0 [] := by
  rw [State.imageLoad, if_neg (bank_wordsAllowed hw hz), hr]

theorem State.imageLoad_busy (hw : c.w2 &&& 0xFFFFFEFE = 0) (hz : zeroFrom c 3 = true) (hm : s.modeRefusal [mRUN, mHOLD] = none)
    (hl : s.cfg.load.isSome = true) : s.imageLoad svc c = s.longOnce svc c rcBUSY 0 [] := by
  rw [State.imageLoad, if_neg (bank_wordsAllowed hw hz), hm]
  exact if_pos hl

/-- Where nothing refuses the call, the header of the bank decides. -/
theorem State.imageLoad_header (hw : c.w2 &&& 0xFFFFFEFE = 0) (hz : zeroFrom c 3 = true) (hm : s.modeRefusal [mRUN, mHOLD] = none)
    (hl : s.cfg.load = none) : let x := s.checkBank (fld c.w2 0 0)
    s.imageLoad svc c = if x.1 ≠ 0 then x.2.2.longOnce svc c (headerResult x.1) x.1 x.2.2.imageWords
      else ((x.2.2.startLong svc c).updCfg fun t => { t with fallbackFrom := none }).loadBegin
        { image := x.2.1, grove := none, svnCommit := bit c.w2 8, setBoot := svc == 0x0302 } := by
  rw [State.imageLoad, if_neg (bank_wordsAllowed hw hz), hm]
  exact if_neg (by simp [hl])

end

theorem svcImageLoad_answers (s : State) (c : Call) (hc : Called s 0x0301 c) : let u := s.begun 0x0301 c
    (c.w2 &&& 0xFFFFFEFE ≠ 0 → Answers (.svcImageLoad c) s (u.longOnce 0x0301 c rcBAD_ARG 0 [])) ∧
    (c.w2 &&& 0xFFFFFEFE = 0 → zeroFrom c 3 = true → u.inTransition = false → u.mode = mRUN ∨ u.mode = mHOLD → u.cfg.load = none →
      let x := u.checkBank (fld c.w2 0 0)
      (x.1 ≠ 0 → Answers (.svcImageLoad c) s (x.2.2.longOnce 0x0301 c (headerResult x.1) x.1 x.2.2.imageWords)) ∧
      (x.1 = 0 → Answers (.svcImageLoad c) s (((x.2.2.startLong 0x0301 c).updCfg fun t => { t with fallbackFrom := none }).loadBegin
        { image := x.2.1, grove := none, svnCommit := bit c.w2 8, setBoot := false }))) := by
  refine ⟨fun h => ?_, fun hw hz ht hm hl => ⟨fun hx => ?_, fun hx => ?_⟩⟩ <;> refine begun_call (f := (·.imageLoad 0x0301 c)) rfl hc ?_
  · exact State.imageLoad_badArg h
  · exact (State.imageLoad_header hw hz (State.modeRefusal_none ht (by simpa using hm)) hl).trans (if_pos hx)
  · exact (State.imageLoad_header hw hz (State.modeRefusal_none ht (by simpa using hm)) hl).trans (if_neg (not_not.mpr hx))

theorem svcImageSwitch_answers (s : State) (c : Call) (hc : Called s 0x0302 c) : let u := s.begun 0x0302 c
    c.w2 &&& 0xFFFFFEFE = 0 → zeroFrom c 3 = true →
      (∀ r, u.modeRefusal [mRUN, mHOLD] = some r → Answers (.svcImageSwitch c) s (u.longOnce 0x0302 c r 0 [])) ∧
      (u.modeRefusal [mRUN, mHOLD] = none → u.cfg.load.isSome = true → Answers (.svcImageSwitch c) s (u.longOnce 0x0302 c rcBUSY 0 [])) ∧
      (u.modeRefusal [mRUN, mHOLD] = none → u.cfg.load = none →
        let x := u.checkBank (fld c.w2 0 0)
        x.1 = 0 → Answers (.svcImageSwitch c) s (((x.2.2.startLong 0x0302 c).updCfg fun t => { t with fallbackFrom := none }).loadBegin
          { image := x.2.1, grove := none, svnCommit := bit c.w2 8, setBoot := true })) := by
  refine fun hw hz => ⟨fun r hr => ?_, fun hm hl => ?_, fun hm hl hx => ?_⟩ <;> refine begun_call (f := (·.imageLoad 0x0302 c)) rfl hc ?_
  · exact State.imageLoad_mode hw hz hr
  · exact State.imageLoad_busy hw hz hm hl
  · exact (State.imageLoad_header hw hz hm hl).trans (if_neg (not_not.mpr hx))

/-! ### SVC_IMAGE_VERIFY (R409) -/

/-- Where nothing refuses the call, the header decides, and then what the check of the stored stream finds. -/
theorem State.imageVerify_header (hw : c.w2 &&& 0xFFFFFFFC = 0) (hsrc : badSource (fld c.w2 1 0) c = false) (hz : zeroFrom c 5 = true)
    (hm : s.modeRefusal [mRUN, mHOLD, mSERVICE] = none) (hl : s.cfg.load = none) :
    let x := s.checkHeader (fld c.w2 1 0) (bufferOf c.w3 c.w4) none false
    let kind := hdrField x.2.2.1 0x0C 4
    let y := x.2.2.2.verifyStream x.2.1 x.2.2.1
    s.imageVerify c = if x.1 ≠ 0 then x.2.2.2.longOnce 0x0303 c (headerResult x.1) x.1 []
      else if y.1 ≠ 0 then y.2.2.longOnce 0x0303 c rcLOAD_FAIL y.1 []
      else y.2.2.longOnce 0x0303 c rcOK 0 [BitVec.ofNat 32 (kind % 2 + kind / 256 % 16 * 256 + x.2.1.svn * 2 ^ 16), x.2.1.iface, y.2.1] := by
  rw [State.imageVerify, if_neg (by rw [hw]; simp [hsrc, hz]), hm]
  exact if_neg (by simp [hl])

theorem svcImageVerify_answers {t : State} {cause : BitVec 4} {uc : Word} (hc : Called s 0x0303 c) (ht : (s.begun 0x0303 c).imageVerify c = t) :
    Answers (.svcImageVerify c cause uc) s t := begun_call (f := (·.imageVerify c)) rfl hc ht

/-! ### SVC_GROVE_LOAD (R407) -/

/-- Where nothing refuses the call, the header of the grove's image decides. -/
theorem State.groveLoad_header (hw : c.w2 &&& 0xFFFFF0FC = 0) (h2 : 2 ≤ fld c.w2 1 0) (hsrc : badSource (fld c.w2 1 0) c = false)
    (hz : zeroFrom c 5 = true) (hg : s.groveDefined (fld c.w2 11 8) = true) (hm : s.modeRefusal [mRUN] = none) (hl : s.cfg.load = none) :
    let x := s.checkHeader (fld c.w2 1 0) (bufferOf c.w3 c.w4) (some (fld c.w2 11 8)) true
    s.groveLoad c = if x.1 ≠ 0 then x.2.2.2.longOnce 0x0304 c (headerResult x.1) x.1 []
      else (x.2.2.2.startLong 0x0304 c).loadBegin { image := x.2.1, grove := some (fld c.w2 11 8) } := by
  rw [State.groveLoad, if_neg (by rw [hw]; simp [show ¬ fld c.w2 1 0 < 2 by omega, hsrc, hz, hg]), hm]
  exact if_neg (by simp [hl])

theorem svcGroveLoad_answers {t : State} (hc : Called s 0x0304 c) (ht : (s.begun 0x0304 c).groveLoad c = t) : Answers (.svcGroveLoad c) s t :=
  begun_call (f := (·.groveLoad c)) rfl hc ht

/-! ### SVC_READBACK (R410) -/

section
variable (hw : c.w2 &&& 0xFFFFFEF0 = 0) (ha : bufferOf c.w3 c.w4 % 8 = 0) (hz : zeroFrom c 5 = true)
  (hg : bit c.w2 8 = true ∨ s.groveDefined (fld c.w2 3 0) = true)
include hw ha hz hg

theorem readback_wordsAllowed : ¬ (c.w2 &&& 0xFFFFFEF0 ≠ 0 ∨ bufferOf c.w3 c.w4 % 8 ≠ 0 ∨ !zeroFrom c 5 ∨
    (!bit c.w2 8 ∧ !s.groveDefined (fld c.w2 3 0))) := by
  rw [hw]
  rcases hg with hg | hg <;> simp [ha, hz, hg]

theorem State.readbackCall_refused (hr : s.readbackRefused = true) : s.readbackCall c = s.longOnce 0x0305 c rcNOT_PERMITTED 0 [] :=
  (if_neg (readback_wordsAllowed hw ha hz hg)).trans (if_pos hr)

/-- The read-back waits for its instant, 1 µs ahead. -/
theorem State.readbackCall_waits (hr : s.readbackRefused = false) (hm : s.modeRefusal [mRUN, mHOLD] = none) (hl : s.cfg.load = none) :
    s.readbackCall c = ((s.startLong 0x0305 c).updCfg fun t => { t with
      readback := some { grove := if bit c.w2 8 then none else some (fld c.w2 3 0), buffer := bufferOf c.w3 c.w4,
                         tcap := s.time.now + ns 1000 } }).setCfgState 6 := by
  refine (if_neg (readback_wordsAllowed hw ha hz hg)).trans ((if_neg (by simp [hr])).trans ?_)
  rw [hm]
  exact if_neg (by simp [hl])

end

theorem svcReadback_answers {t : State} (hc : Called s 0x0305 c) (ht : (s.begun 0x0305 c).readbackCall c = t) : Answers (.svcReadback c) s t :=
  begun_call (f := (·.readbackCall c)) rfl hc ht

/-! ### SVC_BOOT_BANK (R409) -/

theorem State.bootBankCall_badArg (h : c.w2 &&& 0xFFFFFEFE ≠ 0) : s.bootBankCall c = s.answerCall 0x0306 c rcBAD_ARG 0 [] := if_pos (.inl h)

/-- The call shows the boot bank, after it has set it where its words ask for that. -/
theorem State.bootBankCall_shows (hw : c.w2 &&& 0xFFFFFEFE = 0) (hz : zeroFrom c 3 = true) :
    let u := if bit c.w2 8 then (s.setBootBank (fld c.w2 0 0)).2 else s
    s.bootBankCall c = u.answerCall 0x0306 c rcOK 0 [u.reg (aCFG 0x24)] := if_neg (bank_wordsAllowed hw hz)

theorem svcBootBank_answers {t : State} {tj : BitVec 16} (hc : Called s 0x0306 c)
    (ht : ((s.begun 0x0306 c).sampleTj tj.toInt).bootBankCall c = t) : Answers (.svcBootBank c tj) s t :=
  begun_call (f := fun u => (u.sampleTj tj.toInt).bootBankCall c) rfl hc ht

end

/-- Settles O48: each call by the case of its body that the hypotheses name. -/
theorem imageCalls : Obligations.ImageCalls := by
  refine ⟨svcImageLoad_answers, svcImageSwitch_answers,
    fun s c cause uc hc hw hsrc hz hm hl => ⟨fun hx => ?_, fun hx hy => ?_, fun hx hy => ?_⟩,
    fun s c hc hw h2 hsrc hz hg hm hl => ⟨fun hx => ?_, fun hx => ?_⟩,
    fun s c hc hw ha hz hg => ⟨fun hr => ?_, fun hr hm hl => ?_⟩,
    fun s c tj hc => ⟨fun h => ?_, fun hw hz hset => ?_, fun hw hz hset => ?_⟩⟩
  · exact svcImageVerify_answers hc ((State.imageVerify_header hw hsrc hz hm hl).trans (if_pos hx))
  · exact svcImageVerify_answers hc ((State.imageVerify_header hw hsrc hz hm hl).trans ((if_neg (not_not.mpr hx)).trans (if_pos hy)))
  · exact svcImageVerify_answers hc
      ((State.imageVerify_header hw hsrc hz hm hl).trans ((if_neg (not_not.mpr hx)).trans (if_neg (not_not.mpr hy))))
  · exact svcGroveLoad_answers hc ((State.groveLoad_header hw h2 hsrc hz hg hm hl).trans (if_pos hx))
  · exact svcGroveLoad_answers hc ((State.groveLoad_header hw h2 hsrc hz hg hm hl).trans (if_neg (not_not.mpr hx)))
  · exact svcReadback_answers hc (State.readbackCall_refused hw ha hz hg hr)
  · exact svcReadback_answers hc (State.readbackCall_waits hw ha hz hg hr hm hl)
  · exact svcBootBank_answers hc (State.bootBankCall_badArg h)
  · exact svcBootBank_answers hc (by rw [State.bootBankCall_shows hw hz, if_neg (ne_true_of_eq_false hset)])
  · exact svcBootBank_answers hc (by rw [State.bootBankCall_shows hw hz, if_pos hset])

end Sys2Proof.Machine
end

section
/-! The host link and the host-side resets (R347, R350, R353, R354). -/

namespace Sys2Proof.Machine

/-! ### What an occurrence leaves of the host port

An occurrence reaches the HOST page in PAGE_ERR, the DMA channels and the PBA, and the host port in what it sends (R351, R352). The registers
between PAGE_ERR and the DMA channels, LINK_STAT among them, keep their values. -/

/-- The registers of the HOST page from its interrupt enable to I2C_STAT are as they were, and so is the host port but for what it has sent. -/
def KeepsLink (s t : State) : Prop :=
  (∀ a, pg 0x600 0x010 ≤ a → a < pg 0x600 0x040 → t.reg a = s.reg a) ∧ t.host = { s.host with sent := t.host.sent }

namespace KeepsLink

theorem refl (s : State) : KeepsLink s s := ⟨fun _ _ _ => rfl, rfl⟩

theorem trans {s t u : State} (h1 : KeepsLink s t) (h2 : KeepsLink t u) : KeepsLink s u :=
  ⟨fun a hlo hhi => (h2.1 a hlo hhi).trans (h1.1 a hlo hhi), h2.2.trans (by rw [h1.2])⟩

theorem ite {s t u : State} {c : Prop} [Decidable c] (h1 : KeepsLink s t) (h2 : KeepsLink s u) : KeepsLink s (if c then t else u) := by
  split <;> assumption

theorem of_regs {s t : State} (hr : t.regs = s.regs) (hh : t.host = s.host) : KeepsLink s t :=
  ⟨fun a _ _ => by rw [State.reg, hr, State.reg], by rw [hh]⟩

theorem setReg (s : State) {a : Nat} (v : Word) (h : a < pg 0x600 0x010 ∨ pg 0x600 0x040 ≤ a) : KeepsLink s (s.setReg a v) :=
  ⟨fun _ _ _ => State.reg_setReg_ne _ _ _ _ (by omega), rfl⟩

theorem setB (s : State) {a : Nat} (i : Nat) (b : Bool) (h : a < pg 0x600 0x010 ∨ pg 0x600 0x040 ≤ a) : KeepsLink s (s.setB a i b) :=
  setReg s _ h

theorem satAdd (s : State) {a : Nat} (hi lo n : Nat) (h : a < pg 0x600 0x010 ∨ pg 0x600 0x040 ≤ a) : KeepsLink s (s.satAdd a hi lo n) :=
  setReg s _ h

theorem sendHost (s : State) (m : HostTlp) : KeepsLink s (s.sendHost m) := ⟨fun _ _ _ => rfl, rfl⟩

end KeepsLink

section
open KeepsLink

theorem State.dmaWrite_keepsLink (s : State) (d : Nat) (r : List Word) : KeepsLink s (s.dmaWrite d r) := by
  have hring : pg 0x600 0x040 ≤ aDMA d 0x18 := by unfold aDMA pg; omega
  have hrecord (m : HostTlp) (w : Word) : KeepsLink s ((s.sendHost m).setReg (aDMA d 0x18) w) :=
    (KeepsLink.sendHost s m).trans (KeepsLink.setReg _ _ (.inr hring))
  exact ite ((hrecord _ _).trans (KeepsLink.sendHost _ _)) (hrecord _ _)

theorem State.msixRoute_keepsLink (s : State) {v : Nat} (hv : v < 64) : KeepsLink s (s.msixRoute v) := by
  have hpend : aMSIX_PEND (v / 32) < pg 0x600 0x010 := by unfold aMSIX_PEND pg; omega
  have hpba : pg 0x600 0x040 ≤ aPBA (v / 32) := by unfold aPBA pg; omega
  exact ite (KeepsLink.satAdd s _ _ _ (by decide))
    ((KeepsLink.setB s _ _ (.inl hpend)).trans (ite (KeepsLink.setB _ _ _ (.inr hpba)) (KeepsLink.sendHost _ _)))

theorem State.lineRoute_keepsLink (s : State) {j : Nat} (hj : j < 64) : KeepsLink s (s.lineRoute j) := by
  have hmerge : aFLN_MERGE (j / 32) < pg 0x600 0x010 := by unfold aFLN_MERGE pg; omega
  exact ite ((KeepsLink.setB s _ _ (.inl hmerge)).trans (KeepsLink.satAdd _ _ _ _ (by decide))) (of_regs rfl rfl)

theorem State.ropeRoute_keepsLink (s : State) (e k : Nat) (r : List Word) : KeepsLink s (s.ropeRoute e k r) := by
  have hmerge : KeepsLink s (s.satAdd aCNT_MERGE 31 0 1) := KeepsLink.satAdd s _ _ _ (by decide)
  unfold State.ropeRoute
  generalize s.rope.renew (s.rf (aRTGT k) 8 0) (s.rf (aRTGT k) 13 9) e r = y
  obtain ⟨found, x⟩ := y
  exact ite (refl s) (ite hmerge (ite hmerge (of_regs rfl rfl)))

theorem State.occur_keepsLink (s : State) {e : Nat} (t : DevTime) (q : Nat) (he : e < 320) : KeepsLink s (s.occur e t q).2 := by
  have hlo : aTS_LO e < pg 0x600 0x010 := by unfold aTS_LO pg; omega
  have hhi : aTS_HI e < pg 0x600 0x010 := by unfold aTS_HI pg; omega
  have hinfo : aTS_INFO e < pg 0x600 0x010 := by unfold aTS_INFO pg; omega
  have hpend : aPEND (e / 32) < pg 0x600 0x010 := by unfold aPEND pg; omega
  have hdrop (d : Nat) : pg 0x600 0x040 ≤ aDMA d 0x1C := by unfold aDMA pg; omega
  unfold State.occur
  refine trans ?_ (ite (State.ropeRoute_keepsLink _ _ _ _) (refl _))
  refine trans ?_ (ite (State.lineRoute_keepsLink _ (fld_lt _ 21 16)) (refl _))
  refine trans ?_ (ite (State.msixRoute_keepsLink _ (fld_lt _ 29 24)) (refl _))
  refine trans ?_ (ite ((KeepsLink.satAdd _ _ _ _ (.inr (hdrop _))).trans (KeepsLink.satAdd _ _ _ _ (by decide)))
    (ite (State.dmaWrite_keepsLink _ _ _) (refl _)))
  refine trans ?_ (KeepsLink.setB _ _ _ (.inl hpend))
  refine trans ?_ (KeepsLink.setReg _ _ (.inl hinfo))
  refine trans ?_ (KeepsLink.setReg _ _ (.inl hhi))
  exact trans (of_regs rfl rfl) (KeepsLink.setReg _ _ (.inl hlo))

theorem State.raise_keepsLink (s : State) {e : Nat} (he : e < 320) : KeepsLink s (s.raise e) := by
  unfold State.raise State.raiseAt State.raiseWith
  refine trans (s.occur_keepsLink _ _ he) (ite ?_ (refl _))
  exact (KeepsLink.setB _ _ _ (by decide)).trans (ite (State.occur_keepsLink _ _ _ (by decide)) (refl _))

end

/-! ### LINK_STAT -/

/-- LINK_STAT reads what the link has come to; the event that says so leaves it alone. -/
theorem State.linkSet_shows (s : State) (up : Bool) {gen width : Nat} (l1 : Bool) (hg : gen < 8) (hw : width < 8) :
    let t := s.linkSet up gen width l1
    t.rb aLINK_STAT 8 = up ∧ t.rf aLINK_STAT 2 0 = gen ∧ t.rf aLINK_STAT 6 4 = width ∧ t.rb aLINK_STAT 9 = l1 := by
  let u := (((s.setF aLINK_STAT 2 0 gen).setF aLINK_STAT 6 4 width).setB aLINK_STAT 8 up).setB aLINK_STAT 9 l1
  have hreg : (s.linkSet up gen width l1).reg aLINK_STAT = u.reg aLINK_STAT :=
    State.reg_ite _ _ _ _ ((u.raise_keepsLink (by decide)).1 _ (by decide) (by decide)) rfl
  refine ⟨(State.rb_congr hreg _).trans ?_, (State.rf_congr hreg _ _).trans ?_, (State.rf_congr hreg _ _).trans ?_,
    (State.rb_congr hreg _).trans (State.rb_setB_same _ _ _ _ (by decide))⟩
  · exact (State.rb_setB_ne _ _ _ _ _ _ (by decide) (.inr (by decide))).trans (State.rb_setB_same _ _ _ _ (by decide))
  · rw [State.rf_setB_ne _ _ _ _ _ _ _ (by decide) (by decide) (.inr (.inr (by decide))),
      State.rf_setB_ne _ _ _ _ _ _ _ (by decide) (by decide) (.inr (.inr (by decide))),
      State.rf_setF_disjoint _ _ _ _ _ _ _ (by decide) (by decide) (by decide) (.inr (by decide))]
    exact State.rf_setF_of_lt _ _ _ _ _ (by decide) (by decide) hg
  · rw [State.rf_setB_ne _ _ _ _ _ _ _ (by decide) (by decide) (.inr (.inr (by decide))),
      State.rf_setB_ne _ _ _ _ _ _ _ (by decide) (by decide) (.inr (.inr (by decide)))]
    exact State.rf_setF_of_lt _ _ _ _ _ (by decide) (by decide) hw

/-- A link that is down comes up by training within MAX_GEN, and one that is up stays within the MAX_GEN of its training (R353, R354). -/
theorem State.linkChange_up {s : State} {gen width : Nat} (l1 : Bool) (hp : s.power.perst = false) (hg : gen ≠ 0)
    (h : (s.linkUp = false ∧ s.host.training = true ∧ gen ≤ s.maxGen) ∨ (s.linkUp = true ∧ gen ≤ s.host.trainedGen))
    (hw : width = 1 ∨ width = 2 ∨ width = 4) : s.linkChange true gen width l1 =
      (s.linkSet true gen width l1).updHost fun h => { h with training := false, trainedGen := if s.linkUp then h.trainedGen else s.maxGen } := by
  refine (if_pos rfl).trans (if_neg ?_)
  rcases h with ⟨hup, htrain, hmax⟩ | ⟨hup, hmax⟩
  · simp [hp, hg, hw, hup, htrain, hmax]
  · simp [hp, hg, hw, hup, hmax]

theorem State.linkChange_lost {s : State} (gen width : Nat) (l1 : Bool) (hup : s.linkUp = true) : s.linkChange false gen width l1 =
    (((s.linkSet false 0 0 false).satAdd aLINK_STAT 31 16 1).setErr 0x600 18).updHost fun h => { h with training := true } :=
  (if_neg Bool.false_ne_true).trans (if_pos hup)

/-! ### PERST_N and the resets of a link that is up (R350) -/

theorem State.perstAssert_of_awake {s : State} (ha : s.awake = true) :
    s.perstAssert = (s.updPower fun p => { p with perst := true }).hostSideReset true := if_pos ha

theorem State.perstAssert_of_asleep {s : State} (ha : s.awake = false) : s.perstAssert = s.updPower fun p => { p with perst := true } :=
  if_neg (ne_true_of_eq_false ha)

theorem State.perstRelease_of_awake {s : State} (ha : s.awake = true) : s.perstRelease =
    (s.updPower fun p => { p with perst := false }).updHost fun h => { h with training := true } := if_pos ha

theorem State.perstRelease_of_asleep {s : State} (ha : s.awake = false) : s.perstRelease = s.updPower fun p => { p with perst := false } :=
  if_neg (ne_true_of_eq_false ha)

/-- Device time, the power state, the OTP, what DRAM holds, the event controller and the host port are as they were. -/
structure KeepsDevice (s t : State) : Prop where
  evt : t.evt = s.evt
  host : t.host = s.host
  power : t.power = s.power
  otp : t.otp = s.otp
  dramMem : t.dramMem = s.dramMem
  time : t.time = s.time

namespace KeepsDevice

theorem trans {s t u : State} (h1 : KeepsDevice s t) (h2 : KeepsDevice t u) : KeepsDevice s u :=
  ⟨h2.evt.trans h1.evt, h2.host.trans h1.host, h2.power.trans h1.power, h2.otp.trans h1.otp, h2.dramMem.trans h1.dramMem,
    h2.time.trans h1.time⟩

theorem withSettings {s t : State} (h : KeepsDevice s t) (x : Settings) : KeepsDevice s { t with settings := x } :=
  ⟨h.evt, h.host, h.power, h.otp, h.dramMem, h.time⟩

theorem satAdd {s t : State} (h : KeepsDevice s t) (a hi lo n : Nat) : KeepsDevice s (t.satAdd a hi lo n) :=
  ⟨h.evt, h.host, h.power, h.otp, h.dramMem, h.time⟩

end KeepsDevice

/-- The reset of a side of the mailboxes is about the mailboxes and what is staged (R319, R321). -/
theorem State.mbSideReset_keepsDevice (s : State) (r : Nat) : KeepsDevice s (s.mbSideReset r) :=
  List.foldlRecOn (motive := KeepsDevice s) _ _ ⟨rfl, rfl, rfl, rfl, rfl, rfl⟩
    fun _ ht _ _ => ⟨ht.evt, ht.host, ht.power, ht.otp, ht.dramMem, ht.time⟩

/-- An FLR returns D3hot, the MSI-X enable and the function mask to 0, and then raises event 106 (R350). -/
theorem State.hostSideReset_flr (s : State) : ∃ u : State, s.hostSideReset false = u.raise 106 ∧
    KeepsDevice (s.updHost fun h => { h with d3hot := false, msixEnable := false, functionMask := false, training := h.training || false }) u := by
  unfold State.hostSideReset
  refine ⟨_, rfl, .withSettings (.satAdd (.trans ?_ (State.mbSideReset_keepsDevice _ _)) _ _ _ _) _⟩
  exact ⟨rfl, rfl, rfl, rfl, rfl, rfl⟩

theorem flr_completes {s : State} (ha : s.awake = true) (hup : s.linkUp = true) : Completes .flr s fun t =>
    t.host.d3hot = false ∧ t.host.msixEnable = false ∧ t.host.functionMask = false ∧ t.count 106 = s.count 106 + 1 ∧ t.power = s.power ∧
      t.otp = s.otp ∧ t.dramMem = s.dramMem ∧ t.time = s.time := by
  obtain ⟨u, hraise, hu⟩ := s.hostSideReset_flr
  have hhost : (u.raise 106).host = { u.host with sent := (u.raise 106).host.sent } := (u.raise_keepsLink (by decide)).2
  refine Completes.live (f := fun t => if t.linkUp then t.hostSideReset false else t) rfl ha ?_
  rw [if_pos hup, hraise]
  refine ⟨?_, ?_, ?_, (u.count_raise 106 (by decide)).trans ?_, (u.raise_power 106).trans hu.power, (u.raise_otp 106).trans hu.otp,
    (u.raise_dramMem 106).trans hu.dramMem, (u.raise_time 106).trans hu.time⟩
  · exact (congrArg HostPort.d3hot hhost).trans (congrArg HostPort.d3hot hu.host)
  · exact (congrArg HostPort.msixEnable hhost).trans (congrArg HostPort.msixEnable hu.host)
  · exact (congrArg HostPort.functionMask hhost).trans (congrArg HostPort.functionMask hu.host)
  · rw [State.count, hu.evt]; rfl

/-! ### RETRAIN (R353) -/

theorem State.blockWritten_linkCtl (s : State) (r : Nat) (old v : Word) (keep : Bool) (h : bit v 8 = true) :
    s.blockWritten (pg 0x600 0x24) r old v keep = s.updHost fun h => { h with training := true } := if_pos ⟨rfl, h⟩

theorem retrain_answers {s : State} {r : ReqId} {v : Word} (hc : Accepted s r (pg 0x600 0x24) (setBit v 8 true)) :
    Answers (.retrain r v) s ((s.storeWrite (pg 0x600 0x24) (setBit v 8 true) false).updHost fun h => { h with training := true }) := by
  have hanswer := hc.stored (c := .retrain r v) rfl (by decide) (by decide)
  rwa [State.blockWritten_linkCtl _ _ _ _ _ (bit_setBit_same _ _ _ (by decide))] at hanswer

/-- Settles O44: PERST_N by whether the device is awake, the link by its direction, and the FLR by the state in which it raises its event. -/
theorem hostLink : Obligations.HostLink := by
  refine ⟨fun s ha => .act (f := (·.perstAssert)) rfl (State.perstAssert_of_awake ha),
    fun s ha => .act (f := (·.perstAssert)) rfl (State.perstAssert_of_asleep ha),
    fun s ha => .act (f := (·.perstRelease)) rfl (State.perstRelease_of_awake ha),
    fun s ha => .act (f := (·.perstRelease)) rfl (State.perstRelease_of_asleep ha),
    fun s ha hup => ⟨.live (f := fun t => if t.linkUp then t.hostSideReset true else t) rfl ha (if_pos hup),
      .live (f := fun t => if t.linkUp then t.hostSideReset false else t) rfl ha (if_pos hup)⟩,
    fun s => flr_completes, fun s gen width l1 ha hp hg hlink hw => ?_,
    fun s gen width l1 ha hup => .live (f := (·.linkChange false gen.toNat width.toNat l1)) rfl ha (State.linkChange_lost _ _ _ hup),
    fun s r v => retrain_answers,
    fun s d3hot en mask ha hup => .live (f := (·.configWrite d3hot en mask)) rfl ha (if_pos hup)⟩
  have hgen : gen.toNat ≠ 0 := fun h => hg (BitVec.eq_of_toNat_eq h)
  have hwidth : width.toNat = 1 ∨ width.toNat = 2 ∨ width.toNat = 4 := by rcases hw with rfl | rfl | rfl <;> decide
  obtain ⟨hup, hrate, hlanes, hl1⟩ := s.linkSet_shows true l1 gen.isLt width.isLt
  exact ⟨.live (f := (·.linkChange true gen.toNat width.toNat l1)) rfl ha (State.linkChange_up l1 hp hgen hlink hwidth),
    hup, hrate, hlanes, hl1, rfl⟩

end Sys2Proof.Machine
end

section
/-! BAR4, the sideband port, and pins with their banks and their lock (R334, R342, R346, R349, R353, R356). -/

namespace Sys2Proof.Machine

/-! ### BAR4 (R349, R353) -/

section
variable {s : State}

theorem State.bar4_request {write poisoned : Bool} (ofs : Nat) (be : BitVec 64) (data : BitVec 512) (tag : BitVec 6) (hup : s.linkUp = true)
    (hd : s.host.d3hot = false) (hp : (write && poisoned) = false) : s.bar4 ofs write be data tag poisoned =
      s.dramRequest { port := 8, addr := (s.bar4Base + ofs % 2 ^ 28) / 64 * 64, write := write, line := true, be := be, data := data,
                      close := true, fence := false, tag := tag, cls := 1, seq := 0 } :=
  (if_neg (by simp [hup, hd])).trans (if_neg (ne_true_of_eq_false hp))

theorem State.bar4_poisoned (ofs : Nat) (be : BitVec 64) (data : BitVec 512) (tag : BitVec 6) (hup : s.linkUp = true)
    (hd : s.host.d3hot = false) : s.bar4 ofs true be data tag true = s.setErr 0x600 19 :=
  (if_neg (by simp [hup, hd])).trans (if_pos rfl)

theorem bar4Access_answers {t : State} {ofs : BitVec 28} {write : Bool} {be : BitVec 64} {data : BitVec 512} {mark : TlpMark}
    (ha : s.awake = true) (ht : s.bar4 ofs.toNat write be data mark.tag mark.poisoned = t) : Answers (.bar4Access ofs write be data mark) s t :=
  .live (f := (·.bar4 ofs.toNat write be data mark.tag mark.poisoned)) rfl ha ht

/-! ### The sideband port (R356) -/

theorem State.power_of_awake (ha : s.awake = true) : s.power.inReset = false ∧ mIDLE ≤ s.mode := by
  simpa [State.awake] using ha

/-- An awake device that answers at its address acknowledges it. -/
theorem State.i2cMatch_acknowledged (fails : BitVec 16) (ha : s.awake = true) (hen : s.rb aI2C_CFG 8 = true) : s.i2cMatch fails =
    s.i2cAck.lateCause 1 (s.power.sleeper.isSome && s.rb aI2C_CFG 9 && s.rb (aPMU 0x24) 0) := by
  obtain ⟨hreset, hmode⟩ := State.power_of_awake ha
  have hoff : s.mode ≠ mOFF := by unfold mIDLE at hmode; unfold mOFF; omega
  have hsleep : ¬ (s.mode = mSLEEP ∨ s.mode = mBIVOUAC) := by unfold mIDLE at hmode; unfold mSLEEP mBIVOUAC; omega
  exact (if_neg (by simp [hreset, hoff, hen])).trans (if_neg hsleep)

theorem State.i2cMatch_inReset (fails : BitVec 16) (h : s.power.inReset = true) :
    s.i2cMatch fails = s.updHost fun h => { h with i2cAck := false } := if_pos (.inl h)

theorem State.i2cWrite_index (i : Byte) (h : s.host.i2cAck = true) : s.i2cWrite [i] = s.updHost fun h => { h with i2cIndex := i } :=
  if_neg (by simp [h])

/-- A write of two bytes or more sets the index; 0xA5 at index 0x10 is the doorbell, and every other byte is ignored. -/
theorem State.i2cWrite_bytes (i d : Byte) (rest : List Byte) (h : s.host.i2cAck = true) : s.i2cWrite (i :: d :: rest) =
    if i = 0x10 ∧ d = 0xA5 then (s.updHost fun h => { h with i2cIndex := i }).raise 107 else s.updHost fun h => { h with i2cIndex := i } :=
  if_neg (by simp [h])

theorem i2cWrite_answers {t : State} {bytes : List Byte} (ha : s.awake = true) (ht : s.i2cWrite bytes = t) : Answers (.i2cWrite bytes) s t :=
  .live (f := (·.i2cWrite bytes)) rfl ha ht

/-! ### Parks (R342) -/

theorem State.parkEnd_of_parked {n : Nat} (h : (s.pinState n).park.isSome = true) :
    s.parkEnd n = s.setPin n { s.pinState n with now := s.pinTarget n, park := none } :=
  if_neg (by simp [Option.isSome_iff_ne_none.mp h])

/-! ### Banks (R334) -/

/-- A measurement that disagrees with the declared code shows MISMATCH, whatever was measured before. -/
theorem State.vccioMeasure_mismatch {b meas : Nat} (hb : b < 20) (hm : meas < 5) (hne : meas ≠ s.rf (aIOB b 0x20) 1 0 + 1)
    (hnew : s.rb (aIOB b 0x24) 8 = false) : s.vccioMeasure b meas false =
      (((s.setF (aIOB b 0x24) 2 0 meas).setB (aIOB b 0x24) 8 true).setErr (0x500 + b) 18).settlePins := by
  let u := s.setF (aIOB b 0x24) 2 0 meas
  have hcfg : u.rf (aIOB b 0x20) 1 0 = s.rf (aIOB b 0x20) 1 0 := State.rf_setF_ne _ _ _ _ _ _ _ _ (by unfold aIOB pg; omega)
  have hmeas : u.rf (aIOB b 0x24) 2 0 = meas := State.rf_setF_of_lt _ _ _ _ _ (by decide) (by decide) (by omega)
  have hdiffer : ¬ u.bankAgrees b (u.rf (aIOB b 0x20) 1 0) = true := by simpa [State.bankAgrees, hmeas, hcfg] using hne
  have hflag : u.rb (aIOB b 0x24) 8 = false := (State.rb_setF_ne _ _ _ _ _ _ _ (by decide) (by decide) (.inr (.inr (by decide)))).trans hnew
  have hstarts (agreed : Bool) : ¬ (u.rb (aIOB b 0x24) 8 && !agreed) = true := by simp [hflag]
  refine (if_neg (by omega)).trans (congrArg State.settlePins ?_)
  exact (if_neg hdiffer).trans (if_neg (hstarts _))

/-- MEAS and MISMATCH read what the measurement has found, and PAGE_ERR of the bank shows it. -/
theorem State.mismatch_shows (s : State) {b meas : Nat} (hb : b < 20) (hm : meas < 5) :
    let t := (((s.setF (aIOB b 0x24) 2 0 meas).setB (aIOB b 0x24) 8 true).setErr (0x500 + b) 18).settlePins
    t.rf (aIOB b 0x24) 2 0 = meas ∧ t.rb (aIOB b 0x24) 8 = true ∧ t.rb (pg (0x500 + b) 0x00C) 18 = true := by
  let u := (s.setF (aIOB b 0x24) 2 0 meas).setB (aIOB b 0x24) 8 true
  have hevt : evtPage (aIOB b 0x24) = false := by
    simp only [evtPage, aIOB, pg, Bool.or_eq_false_iff, beq_eq_false_iff_ne]; omega
  have hstat : (u.setErr (0x500 + b) 18).settlePins.reg (aIOB b 0x24) = u.reg (aIOB b 0x24) :=
    (State.reg_settlePins _ _).trans (State.reg_setErr _ _ _ hevt (by unfold aIOB pg; omega))
  refine ⟨(State.rf_congr hstat _ _).trans ?_, (State.rb_congr hstat _).trans (State.rb_setB_same _ _ _ _ (by decide)), ?_⟩
  · rw [State.rf_setB_ne _ _ _ _ _ _ _ (by decide) (by decide) (.inr (.inr (by decide)))]
    exact State.rf_setF_of_lt _ _ _ _ _ (by decide) (by decide) (by omega)
  · exact (State.rb_congr (State.reg_settlePins _ _) _).trans (State.setErr_reads _ _ (by decide))

end

/-! ### The lock of a pin (R346) -/

/-- A word of PINX:LOCK: its step in the high half, its pin in the low. -/
theorem fld_lockWord {k n : Nat} (hk : k < 2 ^ 16) (hn : n < 640) :
    fld (BitVec.ofNat 32 (k * 2 ^ 16 + n)) 9 0 = n ∧ fld (BitVec.ofNat 32 (k * 2 ^ 16 + n)) 31 16 = k := by
  simp only [fld, BitVec.toNat_ofNat, Nat.shiftRight_eq_div_pow]
  omega

theorem State.lockStep_arms (s : State) (r : Nat) {n : Nat} (hn : n < 640) :
    s.lockStep r (BitVec.ofNat 32 (0x5EED * 2 ^ 16 + n)) = .arms n := by
  obtain ⟨hpin, hkey⟩ := fld_lockWord (k := 0x5EED) (by decide) hn
  rw [State.lockStep, hpin, hkey]
  exact (if_neg (by omega)).trans (if_pos rfl)

theorem State.lockStep_locks {s : State} {r n : Nat} (hn : n < 640) (harm : SMap.get (fun _ => 0) s.pins.armed r = n + 1) :
    s.lockStep r (BitVec.ofNat 32 (0xBA4C * 2 ^ 16 + n)) = .locks n := by
  obtain ⟨hpin, hkey⟩ := fld_lockWord (k := 0xBA4C) (by decide) hn
  rw [State.lockStep, hpin, hkey]
  exact (if_neg (by omega)).trans ((if_neg (by decide)).trans (if_pos ⟨rfl, harm⟩))

theorem State.armed_set_same (s : State) (r v : Nat) :
    let t := { s with pins := { s.pins with armed := SMap.set (fun _ => 0) s.pins.armed r v } }
    SMap.get (fun _ => 0) t.pins.armed r = v :=
  (SMap.get_set (fun _ => 0) s.pins.armed r r v).trans (if_pos rfl)

@[simp] theorem State.pins_storeWrite (s : State) (a : Nat) (v : Word) (keep : Bool) : (s.storeWrite a v keep).pins = s.pins :=
  (s.storeWrite_same a v keep).pins

/-- An accepted write of PINX:LOCK is stored, and is a step of the lock. -/
theorem Accepted.pinLock {c : Instr} {s : State} {r : ReqId} {v : Word} (h : exec c s = s.actWrite r (pg 0x522 0x20) v)
    (hc : Accepted s r (pg 0x522 0x20) v) : Answers c s ((s.storeWrite (pg 0x522 0x20) v false).pinLockWrite r.toNat v) :=
  hc.stored h (by decide) (by decide)

theorem pinLockArm_answers {s : State} {r : ReqId} {n : BitVec 10} (hn : n.toNat < 640)
    (hc : Accepted s r (pg 0x522 0x20) (BitVec.ofNat 32 (0x5EED * 2 ^ 16 + n.toNat))) :
    let u := s.storeWrite (pg 0x522 0x20) (BitVec.ofNat 32 (0x5EED * 2 ^ 16 + n.toNat)) false
    Answers (.pinLockArm r n) s { u with pins := { u.pins with armed := SMap.set (fun _ => 0) u.pins.armed r.toNat (n.toNat + 1) } } := by
  have hanswer := hc.pinLock (c := .pinLockArm r n) rfl
  rwa [State.pinLockWrite, State.lockStep_arms _ _ hn] at hanswer

theorem pinLockKey_answers {s : State} {r : ReqId} {n : BitVec 10} (hn : n.toNat < 640)
    (harm : SMap.get (fun _ => 0) s.pins.armed r.toNat = n.toNat + 1)
    (hc : Accepted s r (pg 0x522 0x20) (BitVec.ofNat 32 (0xBA4C * 2 ^ 16 + n.toNat))) :
    let u := ((s.storeWrite (pg 0x522 0x20) (BitVec.ofNat 32 (0xBA4C * 2 ^ 16 + n.toNat)) false).setB (aPCFG n.toNat) 28 true).setB
      (aLOCKED (n.toNat / 32)) (n.toNat % 32) true
    Answers (.pinLockKey r n) s { u with pins := { u.pins with armed := SMap.set (fun _ => 0) u.pins.armed r.toNat 0 } } := by
  have hanswer := hc.pinLock (c := .pinLockKey r n) rfl
  rwa [State.pinLockWrite, State.lockStep_locks hn (by rw [State.pins_storeWrite, harm])] at hanswer

/-- PCFG and LOCKED show a pin that is locked. -/
theorem State.lock_shows (s : State) {n : Nat} (hn : n < 640) :
    let t := (s.setB (aPCFG n) 28 true).setB (aLOCKED (n / 32)) (n % 32) true
    t.rb (aPCFG n) 28 = true ∧ t.rb (aLOCKED (n / 32)) (n % 32) = true := by
  have hne : aPCFG n ≠ aLOCKED (n / 32) := by unfold aPCFG aLOCKED pg; omega
  exact ⟨(State.rb_setF_ne _ _ _ _ _ _ _ (by decide) le_rfl (.inl hne)).trans (State.rb_setB_same _ _ _ _ (by decide)),
    State.rb_setB_same _ _ _ _ (by omega)⟩

/-- Settles O45: each command by the case that its hypotheses name; a lock by the step that its word is. -/
theorem sidebandAndPins : Obligations.SidebandAndPins := by
  refine ⟨fun s ofs write be data tag ha hup hd => ⟨?_, fun hw => ?_⟩, fun s ofs be data tag ha hup hd => ?_,
    fun s fails _ ha hen => .act (f := (·.i2cMatch fails)) rfl (State.i2cMatch_acknowledged fails ha hen),
    fun s fails h => .act (f := (·.i2cMatch fails)) rfl (State.i2cMatch_inReset fails h),
    fun s i d rest ha hack => ⟨?_, fun hbell => ?_, fun hbell => ?_⟩,
    fun s ha hack => .live (f := (·.i2cRead)) rfl ha (if_pos hack),
    fun s n h => .act (f := (·.parkEnd n.toNat)) rfl (State.parkEnd_of_parked h),
    fun s b meas ha hb hm hne hnew => ⟨?_, s.mismatch_shows hb hm⟩,
    fun s r n hn hc => ⟨pinLockArm_answers hn hc, ?_, fun k hk => ?_⟩,
    fun s r n hn harm hc => ?_⟩
  · exact bar4Access_answers ha (State.bar4_request _ _ _ _ hup hd (Bool.and_false _))
  · exact bar4Access_answers ha (State.bar4_request _ _ _ _ hup hd (by rw [hw]; rfl))
  · exact bar4Access_answers ha (State.bar4_poisoned _ _ _ _ hup hd)
  · exact i2cWrite_answers ha (State.i2cWrite_index i hack)
  · exact i2cWrite_answers ha ((State.i2cWrite_bytes i d rest hack).trans (if_pos hbell))
  · exact i2cWrite_answers ha ((State.i2cWrite_bytes i d rest hack).trans (if_neg hbell))
  · exact .live (f := (·.vccioMeasure b.toNat meas.toNat false)) rfl ha (State.vccioMeasure_mismatch hb hm hne hnew)
  · exact State.armed_set_same _ _ _
  · exact State.rb_congr (State.reg_storeWrite_ne _ _ _ (by unfold aPCFG pg; omega)) 28
  · obtain ⟨hcfg, hlocked⟩ := (s.storeWrite (pg 0x522 0x20) (BitVec.ofNat 32 (0xBA4C * 2 ^ 16 + n.toNat)) false).lock_shows hn
    exact ⟨pinLockKey_answers hn harm hc, hcfg, hlocked, State.armed_set_same _ _ _⟩

end Sys2Proof.Machine
end

section
/-! Requests and commands of the DRAM (R362, R365 to R367, R370, R373, R374, R378). -/

namespace Sys2Proof.Machine

section
variable {s : State}

/-! ### Requests at a fabric port (R362) -/

/-- The request that a fabric port makes of the words of DRAM_REQUEST: a beat stands in the half of its line that A[5] names. -/
def State.portReq (s : State) (p a : Nat) (write line : Bool) (be : BitVec 64) (data : BitVec 512) (close fence : Bool) (tag : BitVec 6) : DramReq where
  port := p
  addr := 32 * a
  write := write
  line := line
  be := if line then be else BitVec.ofNat 64 (be.toNat % 2 ^ 32 * 2 ^ (32 * (a % 2)))
  data := if line then data else BitVec.ofNat 512 (data.toNat % 2 ^ 256 * 2 ^ (8 * (32 * (a % 2))))
  close := close
  fence := fence
  tag := tag
  cls := s.rf (aPORTS (0x100 + 4 * p)) 1 0
  seq := 0

theorem State.portRequest_eq (s : State) (p a : Nat) (write line : Bool) (be : BitVec 64) (data : BitVec 512) (close fence : Bool)
    (tag : BitVec 6) : s.portRequest p a write line be data close fence tag = s.fabricRequest (s.portReq p a write line be data close fence tag) := by
  cases line <;> rfl

theorem State.fabricRequest_closed {r : DramReq} (hp : r.port < 8) (h : s.busPortOpen r.port = false) : s.fabricRequest r = s :=
  if_pos (by simp [hp, h])

theorem State.fabricRequest_open {r : DramReq} (h : s.busPortOpen r.port = true) (hline : r.line = false ∨ r.addr % 64 = 0) :
    s.fabricRequest r = s.dramRequest r :=
  (if_neg (by simp [h])).trans (if_neg (by rcases hline with hl | ha <;> simp [*]))

/-- A line at an address whose ADDR[5] is 1 is out of range. -/
theorem State.fabricRequest_misaligned {r : DramReq} (h : s.busPortOpen r.port = true) (hline : r.line = true) (ha : r.addr % 64 ≠ 0)
    (hwait : s.dram.atPort = []) (hstall : s.portStalls r.port = false) : s.fabricRequest r = s.enqueue r true :=
  (if_neg (by simp [h])).trans ((if_pos (by simp [hline, ha])).trans (if_neg (by simp [hwait, hstall])))

theorem dramRequest_answers {t : State} {p : BitVec 3} {a : BitVec 31} {write line : Bool} {be : BitVec 64} {data : BitVec 512}
    {close fence : Bool} {tag : BitVec 6} (hawake : s.awake = true)
    (ht : s.fabricRequest (s.portReq p.toNat a.toNat write line be data close fence tag) = t) :
    Answers (.dramRequest p a write line be data close fence tag) s t :=
  .live (f := fun u => u.portRequest p.toNat a.toNat write line be data close fence tag) rfl hawake ((s.portRequest_eq ..).trans ht)

/-! ### The command of a cycle, and the data of a read (R365, R374, R378) -/

theorem State.dramIssue_retrims (ready : List Nat) (h : s.dram.wakeTrim ≠ []) : s.dramIssue ready = s := if_pos (.inr h)

theorem State.dramIssue_none {ready : List Nat} (hst : s.dramState = dREADY) (htrim : s.dram.wakeTrim = []) (h : s.dramPick ready = none) :
    s.dramIssue ready = s := by
  rw [State.dramIssue, if_neg (by simp [hst, htrim]), h]

theorem State.dramIssue_picked {ready : List Nat} {r : DramReq} (hst : s.dramState = dREADY) (htrim : s.dram.wakeTrim = [])
    (h : s.dramPick ready = some r) : s.dramIssue ready = s.dramCommand r := by
  rw [State.dramIssue, if_neg (by simp [hst, htrim]), h]

/-- The read of a whole line returns the line. -/
theorem State.dramReadDone_line {seq : Nat} {r : DramReq} (ups : List (BitVec 3 × BitVec 72))
    (h : s.dram.queue.find? (fun r => r.seq == seq && r.issued && !r.write && r.result.isNone) = some r) (hline : r.line = true) :
    let x := (s.upsetWords (r.addr / 64 * 64) ups).readLine (r.addr / 64 * 64) (portRequester r.port)
    s.dramReadDone seq ups = ((x.2.2.updDram fun m => { m with
      queue := (m.queue.map fun q => if q.seq == seq then { q with result := some (x.1, x.2.1) } else q).filter
        fun q => !(q.answered && q.issued && q.result.isSome) }).answerPort r.port).admitWaiting := by
  simp only [State.dramReadDone, h, hline, if_true]

/-! ### Ageing, idle rows, refresh and re-trim (R366, R367, R370, R373) -/

theorem State.agePromote_aged {seq : Nat} {r : DramReq}
    (h : s.dram.queue.find? (fun r => r.seq == seq && !r.issued && !r.promoted) = some r)
    (hage : s.rf (aDRAM (0x28 + 4 * (r.cls / 2))) (16 * (r.cls % 2) + 15) (16 * (r.cls % 2)) ≠ 0) :
    s.agePromote seq = (s.updDram fun m => { m with
      queue := m.queue.map fun q => if q.seq == seq then { q with promoted := true } else q }).satAdd (aDRAM (0x30 + 4 * r.cls)) 31 0 1 := by
  simp only [State.agePromote, h, if_neg hage]

theorem State.rowIdle_openPage (bank : Nat) (h : s.hintPolicy = false) : s.rowIdle bank = s.setRow bank 0 := if_neg (ne_true_of_eq_false h)

theorem State.refresh_issued {rank : Nat} (hst : s.dramState = dREADY) (hrank : rank < s.dramRanks) :
    s.refresh rank false = (s.closeRank rank).updDram fun m => { m with postponed := SMap.set (fun _ => 0) m.postponed rank 0 } :=
  if_neg (not_or.mpr ⟨not_not.mpr hst, not_le.mpr hrank⟩)

theorem State.refresh_postponed {rank : Nat} (hst : s.dramState = dREADY) (hrank : rank < s.dramRanks)
    (hurgent : s.dram.queue.any (fun r => !r.issued && (r.promoted || r.cls < 2)) = true)
    (hroom : SMap.get (fun _ => 0) s.dram.postponed rank < 8) : s.refresh rank true = s.updDram fun m => { m with
      postponed := SMap.set (fun _ => 0) m.postponed rank (SMap.get (fun _ => 0) s.dram.postponed rank + 1) } :=
  (if_neg (not_or.mpr ⟨not_not.mpr hst, not_le.mpr hrank⟩)).trans (if_pos (by rw [hurgent, decide_eq_true hroom]; rfl))

theorem State.retrim_rank (hst : s.dramState = dREADY) : let rank := s.dram.wakeTrim.headD (s.dram.trim % s.dramRanks)
    s.retrim [] = (s.refresh rank false).updDram fun m => { m with trim := rank + 1, wakeTrim := m.wakeTrim.drop 1 } :=
  if_neg (not_not.mpr hst)

end

/-- Settles O46: each command by the case of its operation that the hypotheses name. -/
theorem dramTraffic : Obligations.DramTraffic := by
  refine ⟨fun s p a write line be data close fence tag ha hopen hline => dramRequest_answers ha (State.fabricRequest_open hopen hline),
    fun s p a write line be data close fence tag ha hclosed => dramRequest_answers ha (State.fabricRequest_closed p.isLt hclosed),
    fun s p a write be data close fence tag ha hopen hodd hwait hstall =>
      dramRequest_answers ha (State.fabricRequest_misaligned hopen rfl hodd hwait hstall),
    fun s ready ha htrim => .live (f := (·.dramIssue ready)) rfl ha (State.dramIssue_retrims ready htrim),
    fun s ready ha hst htrim => ⟨fun hnone => ?_, fun r hpick => ?_⟩,
    fun s seq ups r ha hfind hline => .live (f := (·.dramReadDone seq ups)) rfl ha (State.dramReadDone_line ups hfind hline),
    fun s seq ups ha => .live (f := (·.dramReadDone seq ups)) rfl ha rfl,
    fun s seq r ha hfind hage => .live (f := (·.agePromote seq)) rfl ha (State.agePromote_aged hfind hage),
    fun s bank ha hpolicy => .live (f := (·.rowIdle bank.toNat)) rfl ha (State.rowIdle_openPage _ hpolicy),
    fun s rank ha hst hrank => ⟨?_, fun hurgent hroom => ?_⟩,
    fun s ha hst => .live (f := (·.retrim [])) rfl ha (State.retrim_rank hst),
    fun s lanes ha => .live (f := (·.retrim (lanes.map fun l => (l.1.toInt, l.2.1.toInt, l.2.2.1.toNat, l.2.2.2.toNat)))) rfl ha rfl⟩
  · exact .live (f := (·.dramIssue ready)) rfl ha (State.dramIssue_none hst htrim hnone)
  · exact .live (f := (·.dramIssue ready)) rfl ha (State.dramIssue_picked hst htrim hpick)
  · exact .live (f := (·.refresh rank.toNat false)) rfl ha (State.refresh_issued hst hrank)
  · exact .live (f := (·.refresh rank.toNat true)) rfl ha (State.refresh_postponed hst hrank hurgent hroom)

end Sys2Proof.Machine
end

section
/-! What the requests of the DRAM leave as it is: the content of the DRAM, its self-refresh, and PAGE_CTL and STAT of page 0x640 (R377, R380). -/

namespace Sys2Proof.Machine

/-- What a request that enters, is answered or is refused leaves of the DRAM's states. -/
structure KeepsDramState (s t : State) : Prop where
  content : t.dramMem = s.dramMem
  selfRefresh : t.dram.selfRefresh = s.dram.selfRefresh
  keep : t.dram.keep = s.dram.keep
  forBrace : t.dram.forBrace = s.dram.forBrace
  otp : t.otp = s.otp
  ctl : t.reg (pg 0x640 0x004) = s.reg (pg 0x640 0x004)
  stat : t.reg (aDRAM 0x24) = s.reg (aDRAM 0x24)

namespace KeepsDramState

theorem refl (s : State) : KeepsDramState s s := ⟨rfl, rfl, rfl, rfl, rfl, rfl, rfl⟩

theorem trans {s t u : State} (h1 : KeepsDramState s t) (h2 : KeepsDramState t u) : KeepsDramState s u :=
  ⟨h2.content.trans h1.content, h2.selfRefresh.trans h1.selfRefresh, h2.keep.trans h1.keep, h2.forBrace.trans h1.forBrace,
    h2.otp.trans h1.otp, h2.ctl.trans h1.ctl, h2.stat.trans h1.stat⟩

theorem ite {s t u : State} {c : Prop} [Decidable c] (h1 : KeepsDramState s t) (h2 : KeepsDramState s u) :
    KeepsDramState s (if c then t else u) := by split <;> assumption

theorem foldl {α : Type} {f : State → α → State} (hf : ∀ t x, KeepsDramState t (f t x)) (l : List α) (s : State) :
    KeepsDramState s (l.foldl f s) :=
  List.foldlRecOn (motive := KeepsDramState s) l f (refl s) fun t ht x _ => ht.trans (hf t x)

theorem of_same {s t : State} (h : SameOutside s t) (hctl : t.reg (pg 0x640 0x004) = s.reg (pg 0x640 0x004))
    (hstat : t.reg (aDRAM 0x24) = s.reg (aDRAM 0x24)) : KeepsDramState s t :=
  ⟨h.dramMem, congrArg Dram.selfRefresh h.dram, congrArg Dram.keep h.dram, congrArg Dram.forBrace h.dram, h.otp, hctl, hstat⟩

theorem setReg (s : State) {a : Nat} (v : Word) (hctl : a ≠ pg 0x640 0x004) (hstat : a ≠ aDRAM 0x24) : KeepsDramState s (s.setReg a v) :=
  of_same (s.setReg_same a v) (State.reg_setReg_ne _ _ _ _ hctl.symm) (State.reg_setReg_ne _ _ _ _ hstat.symm)

theorem raise (s : State) {e : Nat} (he : e < 320) : KeepsDramState s (s.raise e) :=
  of_same (s.raise_same e) (State.raise_reg _ _ _ he rfl) (State.raise_reg _ _ _ he rfl)

theorem setErr (s : State) (p b : Nat) : KeepsDramState s (s.setErr p b) :=
  of_same (s.setErr_same p b) (State.reg_setErr _ _ _ rfl (by unfold pg; omega)) (State.reg_setErr _ _ _ rfl (by unfold aDRAM pg; omega))

/-- A change of the queues and of what is answered. -/
theorem updDram (s : State) {f : Dram → Dram} (hrefresh : (f s.dram).selfRefresh = s.dram.selfRefresh) (hkeep : (f s.dram).keep = s.dram.keep)
    (hbrace : (f s.dram).forBrace = s.dram.forBrace) : KeepsDramState s (s.updDram f) := ⟨rfl, hrefresh, hkeep, hbrace, rfl, rfl, rfl⟩

end KeepsDramState

theorem State.openAnswers_keepsDramState (s : State) (p : Nat) (l : List DramResp) : KeepsDramState s (s.openAnswers p l).2 := by
  unfold State.openAnswers
  split
  · exact List.foldlRecOn (motive := fun acc : List DramResp × State => KeepsDramState s acc.2) l _ (.refl s)
      fun _ h _ _ => h.trans ⟨rfl, rfl, rfl, rfl, rfl, rfl, rfl⟩
  · exact .refl s

theorem State.answerPort_keepsDramState (s : State) (p : Nat) : KeepsDramState s (s.answerPort p) := by
  unfold State.answerPort
  extract_lets mine due answers
  have h := s.openAnswers_keepsDramState p answers
  generalize s.openAnswers p answers = x at *
  obtain ⟨resp, t⟩ := x
  have hcount : aPORTS (0x180 + 4 * p) ≠ pg 0x640 0x004 ∧ aPORTS (0x180 + 4 * p) ≠ aDRAM 0x24 := by unfold aPORTS aDRAM pg; omega
  exact .ite ((h.trans (.updDram t rfl rfl rfl)).trans (.setReg _ _ hcount.1 hcount.2)) (h.trans (.updDram t rfl rfl rfl))

theorem State.rangeErr_keepsDramState (s : State) (port : Nat) : KeepsDramState s (s.rangeErr port) :=
  .trans (.ite (.setErr s _ _) (.refl s)) (.setErr _ _ _)

theorem State.enqueue_keepsDramState (s : State) (r : DramReq) (bad : Bool) : KeepsDramState s (s.enqueue r bad) := by
  unfold State.enqueue
  extract_lets b r1 s1 s2 s3
  have hcount : aPORTS (0x140 + 4 * r.port) ≠ pg 0x640 0x004 ∧ aPORTS (0x140 + 4 * r.port) ≠ aDRAM 0x24 := by unfold aPORTS aDRAM pg; omega
  have h1 : KeepsDramState s s1 := .trans (.ite (.refl s) (.ite (.updDram s rfl rfl rfl) (.refl s))) (.updDram _ rfl rfl rfl)
  have h2 : KeepsDramState s1 s2 := .ite (.setReg s1 _ hcount.1 hcount.2) (.refl s1)
  have h3 : KeepsDramState s2 s3 := .ite (s2.rangeErr_keepsDramState _) (.refl s2)
  exact ((h1.trans h2).trans h3).trans (s3.answerPort_keepsDramState _)

theorem State.admitWaiting_keepsDramState (s : State) : KeepsDramState s s.admitWaiting :=
  .foldl (fun t _ => .ite (.refl t) (.trans (.updDram t rfl rfl rfl) (State.enqueue_keepsDramState _ _ _))) _ _

theorem State.failAllRequests_keepsDramState (s : State) : KeepsDramState s s.failAllRequests := by
  unfold State.failAllRequests
  extract_lets s1 s2
  have h1 : KeepsDramState s s1 := .updDram s rfl rfl rfl
  have h2 : KeepsDramState s1 s2 := .foldl (f := fun (t : State) (r : DramReq) => t.rangeErr r.port) (fun t r => t.rangeErr_keepsDramState r.port) _ s1
  have h3 : KeepsDramState s2 ((List.range 12).foldl (fun (t : State) p => t.answerPort p) s2) :=
    .foldl (fun t p => t.answerPort_keepsDramState p) _ _
  exact ((h1.trans h2).trans h3).trans (State.admitWaiting_keepsDramState _)

end Sys2Proof.Machine
end

section
/-! ENABLE of the DRAM, training, scrubbing and port clocks (R357, R362, R371, R372, R376, R377, R380). -/

namespace Sys2Proof.Machine

/-! ### ENABLE (R371, R377) -/

/-- A write of ENABLE alone that changes it, on a page whose ENABLE is written. -/
theorem State.writeCtl_changes (s : State) {p : Nat} {v : Word} {on : Bool} (hheld : s.heldMask (pg p 0x004) ≠ 0) (hwas : s.pageEnable p = !on)
    (hen : bit v 0 = on) (hcommit : bit v 1 = false) (hlock : bit v 2 = false) :
    s.writeCtl p v false = (s.setB (pg p 0x004) 0 on).enableChanged p on := by
  have hchange : (s.heldMask (pg p 0x004) != 0 && !false && s.pageEnable p != bit v 0) = true := by simp [hheld, hwas, hen]
  unfold State.writeCtl
  dsimp only
  rw [if_pos hchange, hcommit, hlock, hen, if_neg Bool.false_ne_true, if_neg Bool.false_ne_true]

/-- DRAM_ENABLE and DRAM_DISABLE without COMMIT and LOCK: a change of ENABLE. -/
theorem Accepted.dramCtl_changes {i : Instr} {s : State} {r : ReqId} {v : Word} {on : Bool}
    (h : exec i s = s.actWrite r (pg 0x640 0x004) (setBit v 0 on)) (hc : Accepted s r (pg 0x640 0x004) (setBit v 0 on))
    (hwas : s.pageEnable 0x640 = !on) (hcommit : bit v 1 = false) (hlock : bit v 2 = false) :
    Answers i s ((s.setB (pg 0x640 0x004) 0 on).enableChanged 0x640 on) := by
  have hheld : s.heldMask (pg 0x640 0x004) = 1 := rfl
  have hanswer := hc.ctl h
  rwa [s.writeCtl_changes (by rw [hheld]; decide) hwas (bit_setBit_same _ _ _ (by decide))
    ((bit_setBit _ _ 1 _ (by decide)).trans hcommit) ((bit_setBit _ _ 2 _ (by decide)).trans hlock)] at hanswer

theorem State.dramState_setDramState (s : State) {v : Nat} (hv : v < 8) : (s.setDramState v).dramState = v :=
  State.rf_setF_of_lt _ _ _ _ _ (by decide) (by decide) hv

theorem State.dramEnable_trains (s : State) : s.dramEnable.dramState = dTRAINING := by
  have hshow (u : State) : ((u.setBusy 0x640 true).showUsable).reg (aDRAM 0x24) = u.reg (aDRAM 0x24) :=
    ((State.reg_setReg_ne _ _ _ _ (by decide)).trans (State.reg_setReg_ne _ _ _ _ (by decide))).trans (State.reg_setB_ne _ _ _ _ _ (by decide))
  exact (State.rf_congr (hshow _) 2 0).trans (State.dramState_setDramState _ (by decide))

theorem State.dramDisable_ready {s : State} (h : s.dramState = dREADY) : s.dramDisable = (s.selfRefresh false).refuseWaiting := by
  rw [State.dramDisable, if_pos h]

theorem State.dramDisable_training {s : State} (h : s.dramState = dTRAINING) : s.dramDisable = s.refuseWaiting := by
  rw [State.dramDisable, if_neg (by rw [h]; decide)]

/-! ### The end of training (R371, R372) -/

/-- The DRAM as a training leaves it, before the state that its lanes decide. -/
def State.trained (s : State) : State :=
  (s.trainedContent.setBusy 0x640 false).updDram fun m => { m with
    selfRefresh := false, keep := false, forBrace := false, rows := [], postponed := [], wakeTrim := [] }

/-- A training that has its lanes ends: READY, or self-refresh where ENABLE reads 0, or TRAIN_FAIL. -/
def State.trainingEnds (s : State) (ok : Bool) : State :=
  if ok then
    let u := (s.trained.setDramState dREADY).raise 99
    if u.pageEnable 0x640 then u.admitWaiting else (u.selfRefresh false).refuseWaiting
  else (((s.trained.setDramState dTRAIN_FAIL).setErr 0x640 17).raise 99).failAllRequests

/-- One lane more is trained with its sweeps. -/
def laneTrained (sweeps : List (BitVec 128 × BitVec 128)) (acc : Bool × State) (i : Nat) : Bool × State :=
  let x := acc.2.trainLane (i / 9) (i % 9) (sweeps.getD i (0, 0)).1 (sweeps.getD i (0, 0)).2
  (acc.1 && x.1, x.2)

/-- Every lane is trained with its sweeps: whether all passed, and the state. -/
def State.lanesTrained (s : State) (sweeps : List (BitVec 128 × BitVec 128)) : Bool × State :=
  (List.range (9 * s.dramRanks)).foldl (laneTrained sweeps) (true, s)

theorem State.trainingDone_ends {s : State} (hst : s.dramState = dTRAINING) (hstop : s.dram.trainStopped = false)
    (sweeps : List (BitVec 128 × BitVec 128)) :
    s.trainingDone sweeps = (s.lanesTrained sweeps).2.trainingEnds (s.lanesTrained sweeps).1 :=
  if_neg (by simp [hst, hstop])

theorem State.lanesTrained_keeps (s : State) (sweeps : List (BitVec 128 × BitVec 128)) : KeepsDramState s (s.lanesTrained sweeps).2 := by
  refine List.foldlRecOn (motive := fun acc : Bool × State => KeepsDramState s acc.2) _ _ (.refl s) fun acc h i _ => h.trans (.setReg _ _ ?_ ?_)
  · unfold aLANE pg; omega
  · unfold aLANE aDRAM pg; omega

@[simp] theorem State.reg_updDram (s : State) (f : Dram → Dram) (a : Nat) : (s.updDram f).reg a = s.reg a := rfl

theorem State.trained_ctl (s : State) : s.trained.reg (pg 0x640 0x004) = s.reg (pg 0x640 0x004) := by
  have hcontent : s.trainedContent.reg (pg 0x640 0x004) = s.reg (pg 0x640 0x004) := State.reg_ite _ _ _ _ rfl rfl
  have hbusy : (s.trainedContent.setBusy 0x640 false).reg (pg 0x640 0x004) = s.trainedContent.reg (pg 0x640 0x004) :=
    State.reg_setB_ne _ _ _ _ _ (by decide)
  rw [State.trained, State.reg_updDram, hbusy, hcontent]

/-- Training clears what self-refresh has left, and without KEEP the content (R371, log 6). -/
theorem State.trained_clears {s : State} (hkeep : s.dram.keep = false) : s.trained.dram.selfRefresh = false ∧ s.trained.dram.keep = false ∧
    s.trained.dram.forBrace = false ∧ s.trained.dramMem = [] ∧ s.trained.otp = s.otp := by
  have hcontent : s.trainedContent = { s with dramMem := [], dram := { s.dram with chk := [], lost := none } } := if_neg (ne_true_of_eq_false hkeep)
  rw [State.trained, hcontent]
  exact ⟨rfl, rfl, rfl, rfl, rfl⟩

/-- With ENABLE = 1 a training ends in READY or in TRAIN_FAIL, and the requests then admitted or refused leave that state. -/
theorem State.trainingEnds_keeps {s : State} (hen : s.pageEnable 0x640 = true) (ok : Bool) :
    KeepsDramState (s.trained.setDramState (if ok then dREADY else dTRAIN_FAIL)) (s.trainingEnds ok) := by
  cases ok with
  | true =>
    have hraise := KeepsDramState.raise (s.trained.setDramState dREADY) (e := 99) (by decide)
    have hctl : (s.trained.setDramState dREADY).reg (pg 0x640 0x004) = s.reg (pg 0x640 0x004) :=
      (State.reg_setF_ne _ _ _ _ _ _ (by decide)).trans s.trained_ctl
    have hon : ((s.trained.setDramState dREADY).raise 99).pageEnable 0x640 = true := (State.rb_congr (hraise.ctl.trans hctl) 0).trans hen
    rw [State.trainingEnds, if_pos rfl, if_pos rfl]
    dsimp only
    rw [if_pos hon]
    exact hraise.trans (State.admitWaiting_keepsDramState _)
  | false =>
    have herr := KeepsDramState.setErr (s.trained.setDramState dTRAIN_FAIL) 0x640 17
    rw [State.trainingEnds, if_neg Bool.false_ne_true, if_neg Bool.false_ne_true]
    exact (herr.trans (.raise _ (by decide))).trans (State.failAllRequests_keepsDramState _)

theorem trainingDone_completes {s : State} (sweeps : List (BitVec 128 × BitVec 128)) (ha : s.awake = true) (hst : s.dramState = dTRAINING)
    (hkeep : s.dram.keep = false) (hstop : s.dram.trainStopped = false) (hen : s.pageEnable 0x640 = true) :
    Completes (.trainingDone sweeps) s fun t => t.dram.selfRefresh = false ∧ t.dram.keep = false ∧ t.dram.forBrace = false ∧ t.dramMem = [] ∧
      t.otp = s.otp ∧ (t.dramState = dREADY ∨ t.dramState = dTRAIN_FAIL) := by
  have hlanes := s.lanesTrained_keeps sweeps
  have hends := State.trainingEnds_keeps (s := (s.lanesTrained sweeps).2) ((State.rb_congr hlanes.ctl 0).trans hen) (s.lanesTrained sweeps).1
  obtain ⟨hrefresh, hkept, hbrace, hmem, hotp⟩ := State.trained_clears (s := (s.lanesTrained sweeps).2) (hlanes.keep.trans hkeep)
  refine Completes.live (f := (·.trainingDone sweeps)) rfl ha ?_
  rw [State.trainingDone_ends hst hstop]
  refine ⟨hends.selfRefresh.trans hrefresh, hends.keep.trans hkept, hends.forBrace.trans hbrace, hends.content.trans hmem,
    (hends.otp.trans hotp).trans hlanes.otp, ?_⟩
  have hstate := (State.rf_congr hends.stat 2 0).trans (State.dramState_setDramState _ (by split <;> decide))
  exact (ite_eq_or_eq _ _ _).imp hstate.trans hstate.trans

/-! ### The scrubber and the port clocks (R362, R376) -/

theorem State.scrubAfter_next {s : State} {n : Nat} (h : s.dramOut (64 * (n + 1)) = false) : s.scrubAfter n = n + 1 := if_neg (by simp [h])

section
variable {s : State} (hst : s.dramState = dREADY) (hon : s.rb (aECC 0x34) 16 = true)
include hst hon

theorem State.dramScrub_advances : let n := (s.reg (aECC 0x38)).toNat
    let u := if s.dramOut (64 * n) then s else s.ownRequest (64 * n) false 0 0
    s.scrubAfter n < s.dramSize / 64 → s.dramScrub = u.setReg (aECC 0x38) (BitVec.ofNat 32 (s.scrubAfter n)) :=
  fun h => (if_neg (by simp [hst, hon])).trans (if_neg (not_le.mpr h))

theorem State.dramScrub_wraps : let n := (s.reg (aECC 0x38)).toNat
    let u := if s.dramOut (64 * n) then s else s.ownRequest (64 * n) false 0 0
    s.dramSize / 64 ≤ s.scrubAfter n → s.dramScrub = (u.setReg (aECC 0x38) 0).wrapAdd (aECC 0x3C) 31 0 1 :=
  fun h => (if_neg (by simp [hst, hon])).trans (if_pos h)

end

/-- A port whose clock is too fast is listed, with PAGE_ERR bit 20, and the queue stays as it is. -/
theorem State.portClock_fast (s : State) (p : Nat) : let t := s.portClock p true
    t.dram.fast.contains p = true ∧ t.rb (pg 0x640 0x00C) 20 = true ∧ t.dram.queue = s.dram.queue := by
  have hdram : (s.portClock p true).dram = { s.dram with fast := if s.dram.fast.contains p then s.dram.fast else p :: s.dram.fast } :=
    State.setErr_dram _ 0x640 20
  refine ⟨?_, State.setErr_reads _ _ (by decide), by rw [hdram]⟩
  rw [hdram]
  dsimp only
  split
  · assumption
  · simp

/-- Settles O47: ENABLE by the change that its write makes, the end of training through what its requests leave, the scrubber and the port
clocks by their cases. -/
theorem dramStates : Obligations.DramStates :=
  ⟨fun _ _ _ hc hoff hcommit hlock => hc.dramCtl_changes rfl hoff hcommit hlock,
    State.dramEnable_trains,
    fun _ _ _ hc hon hcommit hlock => hc.dramCtl_changes rfl hon hcommit hlock,
    fun _ => State.dramDisable_ready,
    fun _ => State.dramDisable_training,
    fun _ => trainingDone_completes,
    fun _ sweeps ha => .live (f := (·.trainingDone sweeps)) rfl ha rfl,
    fun _ ha hst hon => ⟨fun h => .live (f := State.dramScrub) rfl ha (State.dramScrub_advances hst hon h),
      fun h => .live (f := State.dramScrub) rfl ha (State.dramScrub_wraps hst hon h), State.scrubAfter_next⟩,
    fun s p ha => ⟨.live (f := (·.portClock p.toNat true)) rfl ha rfl, s.portClock_fast p.toNat⟩,
    fun _ p ha => .live (f := (·.portClock p.toNat false)) rfl ha rfl⟩

end Sys2Proof.Machine
end

section
/-! The addressed memories of a device — the DRAM content, the flash bytes and the OTP — and the operations that leave them as they are: the
state's own, and those of the blocks up to the Guide's calls. -/

namespace Sys2Proof.Machine

/-- The addressed memories of a device: the DRAM content, the flash bytes, and the OTP with its shadow. -/
structure Mems where
  dram : SMap Byte
  flash : SMap Byte
  otp : Otp

def State.mems (s : State) : Mems := ⟨s.dramMem, s.flash.bytes, s.otp⟩

@[simp] theorem State.mems_eta (s : State) : (⟨s.dramMem, s.flash.bytes, s.otp⟩ : Mems) = s.mems := (rfl)

@[simp] theorem State.mems_mk (pending freeIx regs lastRead evt mbx mbSeq host cadenceStep time edge cal sdf loop dramMem pub fabric pins power
    dram cfg flash otp settings bist debug otpOpen heart rope lastUr guide) :
    (State.mk pending freeIx regs lastRead evt mbx mbSeq host cadenceStep time edge cal sdf loop dramMem pub fabric pins power dram cfg flash otp
      settings bist debug otpOpen heart rope lastUr guide).mems = ⟨dramMem, flash.bytes, otp⟩ := (rfl)

@[simp] theorem State.mems_updFlash (s : State) (f : Flash → Flash) (h : (f s.flash).bytes = s.flash.bytes) : (s.updFlash f).mems = s.mems :=
  congrArg (Mems.mk s.dramMem · s.otp) h

@[simp] theorem State.mems_ite (c : Prop) [Decidable c] (s t : State) : (if c then s else t).mems = if c then s.mems else t.mems :=
  apply_ite State.mems c s t

theorem State.mems_foldl_of {α β : Type} (g : β → State) (f : β → α → β) (hf : ∀ b x, (g (f b x)).mems = (g b).mems)
    (l : List α) (b : β) : (g (l.foldl f b)).mems = (g b).mems := by
  induction l generalizing b with
  | nil => rfl
  | cons x l ih => exact (ih _).trans (hf b x)

@[simp] theorem State.mems_foldl {α : Type} (f : State → α → State) (hf : ∀ t x, (f t x).mems = t.mems) (l : List α) (s : State) :
    (l.foldl f s).mems = s.mems := State.mems_foldl_of id f hf l s

/-! ### Ops -/
@[simp] theorem State.withPending_mems (s : State) (q : List Instr) : (s.withPending q).mems = s.mems := (rfl)
@[simp] theorem State.free_mems (s : State) (w : Nat) : (s.free w).2.mems = s.mems := (rfl)

@[simp] theorem State.freeWords_mems (s : State) (n : Nat) : (s.freeWords n).2.mems = s.mems := by
  induction n generalizing s with
  | zero => rfl
  | succ k ih => simp [State.freeWords, ih]
@[simp] theorem State.freeBool_mems (s : State) : s.freeBool.2.mems = s.mems := (rfl)
@[simp] theorem State.setReg_mems (s : State) (a : Nat) (v : Word) : (s.setReg a v).mems = s.mems := (rfl)
@[simp] theorem State.setShadow_mems (s : State) (a : Nat) (v : Word) : (s.setShadow a v).mems = s.mems := (rfl)
@[simp] theorem State.setF_mems (s : State) (a hi lo v : Nat) : (s.setF a hi lo v).mems = s.mems := (rfl)
@[simp] theorem State.setB_mems (s : State) (a i : Nat) (b : Bool) : (s.setB a i b).mems = s.mems := (rfl)
@[simp] theorem State.satAdd_mems (s : State) (a hi lo n : Nat) : (s.satAdd a hi lo n).mems = s.mems := (rfl)
@[simp] theorem State.wrapAdd_mems (s : State) (a hi lo n : Nat) : (s.wrapAdd a hi lo n).mems = s.mems := (rfl)
@[simp] theorem State.setBusy_mems (s : State) (p : Nat) (b : Bool) : (s.setBusy p b).mems = s.mems := (rfl)
@[simp] theorem State.setPending_mems (s : State) (p : Nat) (b : Bool) : (s.setPending p b).mems = s.mems := (rfl)
@[simp] theorem State.markUndefined_mems (s : State) (c p ch : Nat) : (s.markUndefined c p ch).mems = s.mems := by simp [State.markUndefined]
@[simp] theorem State.clearUndefined_mems (s : State) (c p ch : Nat) : (s.clearUndefined c p ch).mems = s.mems := (rfl)

/-! ### Flags -/
@[simp] theorem State.sendHost_mems (s : State) (m : HostTlp) : (s.sendHost m).mems = s.mems := (rfl)
@[simp] theorem State.dmaWrite_mems (s : State) (d : Nat) (r : List Word) : (s.dmaWrite d r).mems = s.mems := by simp [State.dmaWrite]
@[simp] theorem State.msixMessage_mems (s : State) (v : Nat) : (s.msixMessage v).mems = s.mems := by simp [State.msixMessage]
@[simp] theorem State.msixRoute_mems (s : State) (v : Nat) : (s.msixRoute v).mems = s.mems := by simp [State.msixRoute]
@[simp] theorem State.lineRoute_mems (s : State) (j : Nat) : (s.lineRoute j).mems = s.mems := by simp [State.lineRoute]
@[simp] theorem State.ropeRoute_mems (s : State) (e k : Nat) (r : List Word) : (s.ropeRoute e k r).mems = s.mems := by simp [State.ropeRoute]
@[simp] theorem State.occur_mems (s : State) (e : Nat) (t : DevTime) (q : Nat) : (s.occur e t q).2.mems = s.mems := by simp [State.occur]
@[simp] theorem State.raiseWith_mems (s : State) (e : Nat) (t : DevTime) (q : Nat) : (s.raiseWith e t q).mems = s.mems := by simp [State.raiseWith]
@[simp] theorem State.raiseAt_mems (s : State) (e : Nat) (t : DevTime) : (s.raiseAt e t).mems = s.mems := by simp [State.raiseAt]
@[simp] theorem State.raise_mems (s : State) (e : Nat) : (s.raise e).mems = s.mems := by simp [State.raise]
@[simp] theorem State.setErr_mems (s : State) (p b : Nat) : (s.setErr p b).mems = s.mems := by
  unfold State.setErr
  repeat'
    split
    all_goals simp
@[simp] theorem State.setErrLevel_mems (s : State) (p b : Nat) (on : Bool) : (s.setErrLevel p b on).mems = s.mems := by simp [State.setErrLevel]
@[simp] theorem State.recordRefusal_mems (s : State) (p r : Nat) : (s.recordRefusal p r).mems = s.mems := (rfl)
@[simp] theorem State.transferReg_mems (s : State) (a : Nat) : (s.transferReg a).mems = s.mems := (rfl)
@[simp] theorem State.transferPage_mems (s : State) (p : Nat) : (s.transferPage p).mems = s.mems := by simp [State.transferPage]
@[simp] theorem State.commitTransfer_mems (s : State) (p : Nat) : (s.commitTransfer p).mems = s.mems := by
  unfold State.commitTransfer
  split <;> simp
@[simp] theorem State.requestCommit_mems (s : State) (p : Nat) : (s.requestCommit p).mems = s.mems := by simp [State.requestCommit]

/-! ### Time -/
@[simp] theorem State.setEdge_mems (s : State) (p : Nat) (u : EdgeUnit) : (s.setEdge p u).mems = s.mems := (rfl)
@[simp] theorem State.setSdf_mems (s : State) (c : Nat) (u : SdfChannel) : (s.setSdf c u).mems = s.mems := (rfl)
@[simp] theorem State.setCtx_mems (s : State) (n : Nat) (c : LoopCtx) : (s.setCtx n c).mems = s.mems := (rfl)
@[simp] theorem State.loopEvent_mems (s : State) (n : Nat) : (s.loopEvent n).mems = s.mems := by simp [State.loopEvent]
@[simp] theorem State.ctxFlag_mems (s : State) (n b : Nat) : (s.ctxFlag n b).mems = s.mems := by simp [State.ctxFlag]
@[simp] theorem State.ctxMissed_mems (s : State) (n : Nat) : (s.ctxMissed n).mems = s.mems := (rfl)

@[simp] theorem State.regrid_mems (s : State) (n : Nat) (old new : DevTime) (step : Bool) : (s.regrid n old new step).mems = s.mems :=
  by simp [State.regrid]
@[simp] theorem State.showRate_mems (s : State) : s.showRate.mems = s.mems := (rfl)
@[simp] theorem State.markCadence_mems (s : State) : s.markCadence.mems = s.mems := (rfl)
@[simp] theorem State.wrapEffects_mems (s : State) (new : DevTime) : (s.wrapEffects new).mems = s.mems := by simp [State.wrapEffects]
@[simp] theorem State.reach_mems (s : State) (t : DevTime) : (s.reach t).mems = s.mems := by simp [State.reach]
@[simp] theorem State.tick_mems (s : State) : s.tick.mems = s.mems := by simp [State.tick]
@[simp] theorem State.updateBound_mems (s : State) : s.updateBound.mems = s.mems := (rfl)
@[simp] theorem State.setQuality_mems (s : State) (q : Nat) : (s.setQuality q).mems = s.mems := by simp [State.setQuality]
@[simp] theorem State.shiftInstants_mems (s : State) (d new : DevTime) : (s.shiftInstants d new).mems = s.mems := (rfl)
@[simp] theorem State.stepTo_mems (s : State) (new : DevTime) : (s.stepTo new).mems = s.mems := by simp [State.stepTo]
@[simp] theorem State.applyStep_mems (s : State) : s.applyStep.mems = s.mems := by
  unfold State.applyStep
  repeat'
    split
    all_goals simp
@[simp] theorem State.requestStep_mems (s : State) (q : StepReq) : (s.requestStep q).mems = s.mems := (rfl)
@[simp] theorem State.timeTransfer_mems (s : State) : s.timeTransfer.mems = s.mems := by
  simp only [State.timeTransfer]
  split <;> simp
@[simp] theorem State.timeCtlWritten_mems (s : State) : s.timeCtlWritten.mems = s.mems := by simp [State.timeCtlWritten]
@[simp] theorem State.ppsAt_mems (s : State) : s.ppsAt.2.mems = s.mems := by
  unfold State.ppsAt
  split <;> simp

@[simp] theorem State.measure_mems (s : State) (e0 : Int) : (s.measure e0).mems = s.mems :=
  by grind [State.measure, State.mems, State.timeTransfer_mems, State.setReg_mems, State.requestStep_mems, State.setQuality_mems, State.showRate_mems]
@[simp] theorem State.loseReference_mems (s : State) : s.loseReference.mems = s.mems := by simp [State.loseReference]

/-! ### ClockSites -/
@[simp] theorem State.updClocks_mems (s : State) (f : Clocks → Clocks) : (s.updClocks f).mems = s.mems := (rfl)
@[simp] theorem State.setSwitch_mems (s : State) (k : Nat) (x : Option ClockSwitch) : (s.setSwitch k x).mems = s.mems := (rfl)

/-! ### FabricEval -/
@[simp] theorem State.setBough_mems (s : State) (b : Nat) (x : Bough) : (s.setBough b x).mems = s.mems := (rfl)
@[simp] theorem State.updBough_mems (s : State) (b : Nat) (f : Bough → Bough) : (s.updBough b f).mems = s.mems := (rfl)
@[simp] theorem State.setPin_mems (s : State) (n : Nat) (p : PinState) : (s.setPin n p).mems = s.mems := (rfl)
@[simp] theorem State.wireBit_mems (s0 : State) (n : Node) (s : State) : (s0.wireBit n s).2.mems = s.mems := by
  unfold State.wireBit
  split <;> simp
@[simp] theorem State.setLoop_mems (s : State) (b l : Nat) (v : Option Bool) : (s.setLoop b l v).mems = s.mems := (rfl)
@[simp] theorem State.loopPass_mems (s : State) : s.loopPass.mems = s.mems := by simp [State.loopPass]
@[simp] theorem State.loopSweep_mems (s : State) : s.loopSweep.mems = s.mems := by simp [State.loopSweep]

@[simp] theorem State.loopSettle_mems (pass : State → State) (hf : ∀ t, (pass t).mems = t.mems) (fuel : Nat) (s : State) :
    (State.loopSettle pass fuel s).mems = s.mems := by
  induction fuel generalizing s with
  | zero => rfl
  | succ k ih => simp [State.loopSettle, hf, ih]
@[simp] theorem State.settleLoops_mems (s : State) : s.settleLoops.mems = s.mems := by simp [State.settleLoops]

@[simp] theorem State.wireBits_mems (s0 : State) (b d n : Nat) (s : State) : (s0.wireBits b d n s).2.mems = s.mems :=
  State.mems_foldl_of Prod.snd _ (fun _ _ => by simp) _ _

/-! ### FlashArray -/
@[simp] theorem State.setStatus_mems (s : State) (sec v : Nat) : (s.setStatus sec v).mems = s.mems := (rfl)
@[simp] theorem State.suspectRead_mems (s : State) (suspect : Bool) : (s.suspectRead suspect).mems = s.mems := by simp [State.suspectRead]
@[simp] theorem State.countErase_mems (s : State) (p : Nat) : (s.countErase p).mems = s.mems := (rfl)

/-! ### Heart -/
@[simp] theorem State.updHeart_mems (s : State) (f : HeartCopy → HeartCopy) : (s.updHeart f).mems = s.mems := (rfl)
@[simp] theorem State.updCount_mems (s : State) (f : HeartCount → HeartCount) : (s.updCount f).mems = s.mems := (rfl)
@[simp] theorem State.sampleTj_mems (s : State) (tj : Int) : (s.sampleTj tj).mems = s.mems := by simp [State.sampleTj]
@[simp] theorem State.setCalendar_mems (s : State) (c : Nat) : (s.setCalendar c).mems = s.mems := (rfl)
@[simp] theorem State.alarmNow_mems (s : State) : s.alarmNow.mems = s.mems := by simp [State.alarmNow]
@[simp] theorem State.setTicks_mems (s : State) (n : Nat) : (s.setTicks n).mems = s.mems := (rfl)
@[simp] theorem State.rtcAdvance_mems (s : State) (sub : Nat) : (s.rtcAdvance sub).mems = s.mems := by simp [State.rtcAdvance]
@[simp] theorem State.rtcNow_mems (s : State) : s.rtcNow.mems = s.mems := by simp [State.rtcNow]
@[simp] theorem State.heartLimit_mems (s : State) (old max : Nat) : (s.heartLimit old max).mems = s.mems := by simp [State.heartLimit]
@[simp] theorem State.heartVin_mems (s : State) (i : Nat) : (s.heartVin i).mems = s.mems := by simp [State.heartVin]
@[simp] theorem State.heartErr_mems (s : State) (k r : Nat) : (s.heartErr k r).mems = s.mems := by simp [State.heartErr]
@[simp] theorem State.heartLoad_mems (s : State) (i : Nat) : (s.heartLoad i).mems = s.mems := by
  unfold State.heartLoad
  split <;> simp
@[simp] theorem State.heartCommit_mems (s : State) : s.heartCommit.mems = s.mems := by simp [State.heartCommit]
@[simp] theorem State.heartCycle_mems (s : State) : s.heartCycle.mems = s.mems := by simp [State.heartCycle]
@[simp] theorem State.heartSecond_mems (s : State) : s.heartSecond.mems = s.mems := by simp [State.heartSecond]
@[simp] theorem State.heartSlept_mems (s : State) (ticks : Nat) : (s.heartSlept ticks).mems = s.mems := by simp [State.heartSlept]
@[simp] theorem State.heartDefer_mems (s : State) : s.heartDefer.mems = s.mems := by simp [State.heartDefer]
@[simp] theorem State.heartFail_mems (s : State) (r : FailRec) : (s.heartFail r).mems = s.mems := (rfl)
@[simp] theorem State.heartBoot_mems (s : State) : s.heartBoot.mems = s.mems := by simp [State.heartBoot]

/-! ### Checks -/
@[simp] theorem State.updBist_mems (s : State) (f : Bist → Bist) : (s.updBist f).mems = s.mems := (rfl)

@[simp] theorem State.checkResult_mems (s : State) (elem : Word) (src res : Nat) (targeted : Bool) (misr exp : Word) :
    (s.checkResult elem src res targeted misr exp).mems = s.mems := by unfold State.checkResult; repeat' split; all_goals simp

@[simp] theorem State.queueCheck_mems (s : State) (elem : Word) (src : Nat) (word : Nat) : (s.queueCheck elem src word).mems = s.mems :=
  by simp [State.queueCheck]
@[simp] theorem State.dropCheck_mems (s : State) (elem : Word) : (s.dropCheck elem).mems = s.mems := (rfl)
@[simp] theorem State.showRepairs_mems (s : State) : s.showRepairs.mems = s.mems := by simp [State.showRepairs]
@[simp] theorem State.retireElem_mems (s : State) (e : Word) : (s.retireElem e).mems = s.mems := by
  unfold State.retireElem
  split <;> simp

/-! ### HardBlocks -/
@[simp] theorem portIn_mems (s0 : State) (b n : Nat) (portB : Bool) (s : State) : (portIn s0 b n portB s).2.mems = s.mems := by simp [portIn]

@[simp] theorem freeAt_mems (s : State) (bits : List Nat) (r : BitVec 72) : (freeAt s bits r).2.mems = s.mems :=
  State.mems_foldl_of Prod.snd _ (fun _ _ => by simp) _ _
@[simp] theorem State.drawRow_mems (s : State) (b n r : Nat) : (s.drawRow b n r).mems = s.mems := by simp [State.drawRow]
@[simp] theorem State.eccReport_mems (s : State) (b n row : Nat) (dbe : Bool) : (s.eccReport b n row dbe).mems = s.mems := by simp [State.eccReport]

/-- A draw that is made under a condition leaves the memories alone where either branch does. -/
theorem State.mems_of_branch {β : Type} {c : Prop} [Decidable c] {x y : β × State} {p : β} {s t : State} (h : (if c then x else y) = (p, t))
    (hx : x.2.mems = s.mems) (hy : y.2.mems = s.mems) : t.mems = s.mems := by
  have ht : (if c then x else y).2 = t := by rw [h]
  rw [← ht, apply_ite Prod.snd]
  split <;> assumption
@[simp] theorem State.bramEdge_mems (s0 : State) (b n : Nat) (actA actB same : Bool) (s : State) :
    (s0.bramEdge b n actA actB same s).mems = s.mems := by
  unfold State.bramEdge
  extract_lets cfg c rowOf hs regB regA wA wB
  split
  split
  · rfl
  split
  · rfl
  split
  rename_i pa s1 hA
  split
  rename_i pb s2 hB
  have h1 : s1.mems = s.mems := State.mems_of_branch hA (by simp) rfl
  have h2 : s2.mems = s.mems := State.mems_of_branch hB (by simp [h1]) h1
  extract_lets ma mb s3 s4 bq aRow bRow we oldRow72 old oa ob onA onB wrA wrB sameRow conflict sA sB words sC readFix clashA clashB
  have h4 : s4.mems = s.mems := by simp [s4, s3, h2]
  clear_value s4
  split
  · split
    rename_i wb s5 hW
    have h5 : s5.mems = s.mems := State.mems_of_branch hW (by simp [h4]) h4
    extract_lets weAll dn doWrite newRow mask s6 clash diff
    have h6 : s6.mems = s.mems := by simp [s6, h5]
    clear_value s6
    split
    · exact h6
    · split
      rename_i seen s7 hS
      have h7 : s7.mems = s.mems := State.mems_of_branch hS (by simp [h6]) h6
      simp [h7]
  · have hC : sC.mems = s.mems := by simp [sC, sB, sA, h4]
    have hread (t : State) (on : Bool) (o other : PortOp) (wr : Bool) (w a : Nat) : (readFix t on o other wr w a).2.mems = t.mems := by
      simp only [readFix]
      split
      · rfl
      · split <;> simp
    clear_value sC readFix
    simp [hread, hC]
@[simp] theorem State.spoilBram_mems (s : State) (b n : Nat) : (s.spoilBram b n).mems = s.mems := (rfl)
@[simp] theorem macIn_mems (s0 : State) (b m : Nat) (s : State) : (macIn s0 b m s).2.mems = s.mems := by simp [macIn]
@[simp] theorem State.drawMac_mems (s : State) (b m : Nat) : (s.drawMac b m).mems = s.mems := (rfl)
@[simp] theorem State.macEdge_mems (s0 : State) (b m : Nat) (s : State) : (s0.macEdge b m s).mems = s.mems := by simp [State.macEdge]

/-! ### Mailbox -/
@[simp] theorem State.setMb_mems (s : State) (m : Nat) (x : Mailbox) : (s.setMb m x).mems = s.mems := (rfl)
@[simp] theorem State.mbLevel_mems (s : State) (m : Nat) : (s.mbLevel m).mems = s.mems := by simp [State.mbLevel]
@[simp] theorem State.mbFlag_mems (s : State) (m b : Nat) : (s.mbFlag m b).mems = s.mems := by simp [State.mbFlag]

@[simp] theorem State.mbAppend_mems (s : State) (m r : Nat) (epoch : BitVec 16) (words : List Word) : (s.mbAppend m r epoch words).mems = s.mems :=
  by simp [State.mbAppend]
@[simp] theorem State.postResult_mems (s : State) (m r res : Nat) (tag : BitVec 16) : (s.postResult m r res tag).mems = s.mems := (rfl)

@[simp] theorem State.mbTryPost_mems (s : State) (m r : Nat) (epoch : BitVec 16) (words : List Word) :
    (s.mbTryPost m r epoch words).2.mems = s.mems := by
  grind [State.mbTryPost, State.mems, State.postResult_mems, State.mbFlag_mems, State.mbAppend_mems]
@[simp] theorem State.txWord_mems (s : State) (m r w : Nat) (v : Word) : (s.txWord m r w v).mems = s.mems := (rfl)

@[simp] theorem State.txPost_mems (s : State) (m r : Nat) (release : Bool) : (s.txPost m r release).mems = s.mems :=
  by unfold State.txPost; split <;> simp
@[simp] theorem State.rxTake_mems (s : State) (m r : Nat) : (s.rxTake m r).2.mems = s.mems := by
  unfold State.rxTake
  repeat'
    split
    all_goals simp

@[simp] theorem State.mbLockRead_mems (s : State) (m r : Nat) : (s.mbLockRead m r).2.mems = s.mems :=
  by grind [State.mbLockRead, State.mems, State.setMb_mems]
@[simp] theorem State.mbLockWrite_mems (s : State) (m r : Nat) : (s.mbLockWrite m r).mems = s.mems := by simp [State.mbLockWrite]
@[simp] theorem State.mbTimeout_mems (s : State) (m : Nat) : (s.mbTimeout m).mems = s.mems := by simp [State.mbTimeout]
@[simp] theorem State.dropStaged_mems (s : State) (r : Nat) : (s.dropStaged r).mems = s.mems := (rfl)
@[simp] theorem State.mbSideReset_mems (s0 : State) (r : Nat) : (s0.mbSideReset r).mems = s0.mems := by simp [State.mbSideReset]

/-! ### HostPort -/
@[simp] theorem State.updHost_mems (s : State) (f : HostPort → HostPort) : (s.updHost f).mems = s.mems := (rfl)

@[simp] theorem State.linkSet_mems (s : State) (up : Bool) (gen width : Nat) (l1 : Bool) : (s.linkSet up gen width l1).mems = s.mems :=
  by simp [State.linkSet]
@[simp] theorem State.linkDown_mems (s : State) : s.linkDown.mems = s.mems := by simp [State.linkDown]

@[simp] theorem State.linkChange_mems (s : State) (up : Bool) (gen width : Nat) (l1 : Bool) : (s.linkChange up gen width l1).mems = s.mems :=
  by simp [State.linkChange]
@[simp] theorem State.hostReadsDiscarded_mems (s : State) : s.hostReadsDiscarded.mems = s.mems := (rfl)

@[simp] theorem State.hostSideReset_mems (s : State) (link : Bool) : (s.hostSideReset link).mems = s.mems :=
  by simp only [State.hostSideReset]; split <;> simp
@[simp] theorem State.configWrite_mems (s : State) (d3hot en mask : Bool) : (s.configWrite d3hot en mask).mems = s.mems := by simp [State.configWrite]
@[simp] theorem State.msixSend_mems (s : State) (v : Nat) : (s.msixSend v).mems = s.mems := by simp [State.msixSend]
@[simp] theorem State.msixPendClear_mems (s : State) (k : Nat) (w : Word) : (s.msixPendClear k w).mems = s.mems := (rfl)
@[simp] theorem State.i2cAck_mems (s : State) : s.i2cAck.mems = s.mems := (rfl)

@[simp] theorem State.i2cWrite_mems (s : State) (bytes : List Byte) : (s.i2cWrite bytes).mems = s.mems :=
  by unfold State.i2cWrite; repeat' split; all_goals simp
@[simp] theorem State.i2cRead_mems (s : State) : s.i2cRead.mems = s.mems := by simp [State.i2cRead]

/-! ### Dram -/
@[simp] theorem State.updDram_mems (s : State) (f : Dram → Dram) : (s.updDram f).mems = s.mems := (rfl)
@[simp] theorem State.setDramState_mems (s : State) (v : Nat) : (s.setDramState v).mems = s.mems := (rfl)
@[simp] theorem State.dramFetch_mems (s : State) (a : Nat) : (s.dramFetch a).2.mems = s.mems := by
  unfold State.dramFetch
  split <;> simp
@[simp] theorem State.dramRewritten_mems (s : State) (a : Nat) : (s.dramRewritten a).mems = s.mems := by simp [State.dramRewritten]

@[simp] theorem State.openAnswers_mems (s : State) (p : Nat) (l : List DramResp) : (s.openAnswers p l).2.mems = s.mems := by
  unfold State.openAnswers
  split
  · exact State.mems_foldl_of Prod.snd _ (fun _ _ => by simp) _ _
  · rfl
@[simp] theorem State.answerPort_mems (s0 : State) (p : Nat) : (s0.answerPort p).mems = s0.mems := by simp [State.answerPort]
@[simp] theorem State.dropBacks_mems (s : State) (r : DramReq) : (s.dropBacks r).mems = s.mems := by simp [State.dropBacks]
@[simp] theorem State.rangeErr_mems (s : State) (port : Nat) : (s.rangeErr port).mems = s.mems := by simp [State.rangeErr]
@[simp] theorem State.enqueue_mems (s : State) (r : DramReq) (bad : Bool) : (s.enqueue r bad).mems = s.mems := by simp [State.enqueue]
@[simp] theorem State.dramRequest_mems (s : State) (r : DramReq) : (s.dramRequest r).mems = s.mems := by simp [State.dramRequest]

@[simp] theorem State.ownRequest_mems (s : State) (a : Nat) (write : Bool) (be : BitVec 64) (data : BitVec 512) :
    (s.ownRequest a write be data).mems = s.mems := by simp [State.ownRequest]

@[simp] theorem State.eccRecord_mems (s : State) (a : Nat) (r : BitVec 72) (dbe : Bool) (req : Nat) : (s.eccRecord a r dbe req).mems = s.mems :=
  by simp [State.eccRecord]

@[simp] theorem State.readWord_mems (s : State) (a req : Nat) (queue back : Bool) : (s.readWord a req queue back).2.2.2.mems = s.mems :=
  by simp only [State.readWord]; split <;> simp

@[simp] theorem State.readChecked_mems (s : State) (a req : Nat) (queue : Bool) : (s.readChecked a req queue).2.2.2.mems = s.mems :=
  by simp [State.readChecked]
@[simp] theorem State.fabricRequest_mems (s : State) (r : DramReq) : (s.fabricRequest r).mems = s.mems := by simp [State.fabricRequest]
@[simp] theorem State.admitWaiting_mems (s : State) : s.admitWaiting.mems = s.mems := by simp [State.admitWaiting]
@[simp] theorem State.setRow_mems (s : State) (bank : Nat) (v : Nat) : (s.setRow bank v).mems = s.mems := (rfl)
@[simp] theorem State.afterWriteBack_mems (s : State) (r : DramReq) : (s.afterWriteBack r).mems = s.mems := by simp [State.afterWriteBack]
@[simp] theorem State.agePromote_mems (s : State) (seq : Nat) : (s.agePromote seq).mems = s.mems := by
  unfold State.agePromote
  split <;> simp
@[simp] theorem State.rowIdle_mems (s : State) (bank : Nat) : (s.rowIdle bank).mems = s.mems := by simp [State.rowIdle]
@[simp] theorem State.closeRank_mems (s : State) (rank : Nat) : (s.closeRank rank).mems = s.mems := (rfl)
@[simp] theorem State.refresh_mems (s : State) (rank : Nat) (postpone : Bool) : (s.refresh rank postpone).mems = s.mems := by simp [State.refresh]

@[simp] theorem State.trainLane_mems (s : State) (r l : Nat) (rd wr : BitVec 128) : (s.trainLane r l rd wr).2.mems = s.mems :=
  by simp [State.trainLane]
@[simp] theorem State.failAllRequests_mems (s : State) : s.failAllRequests.mems = s.mems := by simp [State.failAllRequests]
@[simp] theorem State.refuseWaiting_mems (s : State) : s.refuseWaiting.mems = s.mems := by simp [State.refuseWaiting]

@[simp] theorem State.retrimLane_mems (s : State) (r l : Nat) (rdStep wrStep : Int) (rdEye wrEye : Nat) :
    (s.retrimLane r l rdStep wrStep rdEye wrEye).mems = s.mems := by simp [State.retrimLane]
@[simp] theorem State.retrim_mems (s : State) (lanes : List (Int × Int × Nat × Nat)) : (s.retrim lanes).mems = s.mems := by simp [State.retrim]
@[simp] theorem State.selfRefreshExit_mems (s : State) : s.selfRefreshExit.mems = s.mems := by simp [State.selfRefreshExit]
@[simp] theorem State.selfRefreshWake_mems (s : State) : s.selfRefreshWake.mems = s.mems := by simp [State.selfRefreshWake]
@[simp] theorem State.showUsable_mems (s : State) : s.showUsable.mems = s.mems := (rfl)
@[simp] theorem State.tryTimings_mems (s : State) : s.tryTimings.mems = s.mems := by simp [State.tryTimings]
@[simp] theorem State.dramEnable_mems (s : State) : s.dramEnable.mems = s.mems := by simp [State.dramEnable]
@[simp] theorem State.dramScrub_mems (s : State) : s.dramScrub.mems = s.mems := by simp [State.dramScrub]
@[simp] theorem State.portClock_mems (s : State) (p : Nat) (fast : Bool) : (s.portClock p fast).mems = s.mems := by simp [State.portClock]

@[simp] theorem State.bar4_mems (s : State) (ofs : Nat) (write : Bool) (be : BitVec 64) (data : BitVec 512) (tag : BitVec 6) (poisoned : Bool) :
    (s.bar4 ofs write be data tag poisoned).mems = s.mems := by simp [State.bar4]
@[simp] theorem State.bufferRange_mems (s : State) (a n : Nat) : (s.bufferRange a n).mems = s.mems := by simp [State.bufferRange]

/-! ### Rope -/
@[simp] theorem State.updRope_mems (s : State) (f : Rope → Rope) : (s.updRope f).mems = s.mems := (rfl)
@[simp] theorem State.setRopeState_mems (s : State) (v : Nat) : (s.setRopeState v).mems = s.mems := (rfl)
@[simp] theorem State.setBypass_mems (s : State) (b : Bool) : (s.setBypass b).mems = s.mems := (rfl)
@[simp] theorem State.noteHop_mems (s : State) (br v : Bool) : (s.noteHop br v).mems = s.mems := by simp [State.noteHop]
@[simp] theorem State.setRate_mems (s0 : State) (br v : Bool) : (s0.setRate br v).mems = s0.mems := by simp [State.setRate]
@[simp] theorem State.showLimits_mems (s : State) : s.showLimits.mems = s.mems := (rfl)
@[simp] theorem State.showBudget_mems (s : State) : s.showBudget.mems = s.mems := by simp [State.showBudget]
@[simp] theorem State.setPresent_mems (s : State) (br : Bool) (p : BitVec 64) : (s.setPresent br p).mems = s.mems := by simp [State.setPresent]
@[simp] theorem State.heard_mems (s : State) (p : RopePort) : (s.heard p).mems = s.mems := by simp [State.heard]
@[simp] theorem State.closeBypass_mems (s : State) : s.closeBypass.mems = s.mems := by simp [State.closeBypass]
@[simp] theorem State.ropeListen_mems (s : State) : s.ropeListen.mems = s.mems := by simp [State.ropeListen]
@[simp] theorem State.ropeEnabled_mems (s : State) : s.ropeEnabled.mems = s.mems := by simp [State.ropeEnabled]
@[simp] theorem State.ropeLock_mems (s : State) (rate : Bool) : (s.ropeLock rate).mems = s.mems := by simp [State.ropeLock]
@[simp] theorem State.takeSync_mems (s : State) (f : CycleFrame) : (s.takeSync f).mems = s.mems := by simp [State.takeSync]
@[simp] theorem State.joinCheck_mems (s : State) (f : CycleFrame) (west : Bool) : (s.joinCheck f west).mems = s.mems := by simp [State.joinCheck]
@[simp] theorem State.wrapAt_mems (s : State) (p : RopePort) : (s.wrapAt p).mems = s.mems := by simp [State.wrapAt]
@[simp] theorem State.openBypass_mems (s : State) : s.openBypass.mems = s.mems := by simp [State.openBypass]
@[simp] theorem State.joinOpen_mems (s : State) : s.joinOpen.mems = s.mems := by simp [State.joinOpen]
@[simp] theorem State.joined_mems (s : State) : s.joined.mems = s.mems := by simp [State.joined]
@[simp] theorem State.joinTimeout_mems (s : State) : s.joinTimeout.mems = s.mems := by simp [State.joinTimeout]
@[simp] theorem State.leadingStart_mems (s : State) (br : Bool) : (s.leadingStart br).mems = s.mems := by simp [State.leadingStart]
@[simp] theorem State.ropeLeave_mems (s0 : State) : s0.ropeLeave.mems = s0.mems := by simp [State.ropeLeave]
@[simp] theorem State.belay_mems (s : State) : s.belay.mems = s.mems := by simp [State.belay]
@[simp] theorem State.leaveDone_mems (s : State) : s.leaveDone.mems = s.mems := by simp [State.leaveDone]
@[simp] theorem State.unbelay_mems (s : State) : s.unbelay.mems = s.mems := by simp [State.unbelay]
@[simp] theorem State.dupLeader_mems (s : State) (br : Bool) : (s.dupLeader br).mems = s.mems := by simp [State.dupLeader]
@[simp] theorem State.syncLost_mems (s : State) : s.syncLost.mems = s.mems := by simp [State.syncLost]
@[simp] theorem State.listenTimeout_mems (s : State) : s.listenTimeout.mems = s.mems := by simp [State.listenTimeout]

@[simp] theorem State.portFault_mems (s : State) (p : RopePort) (c : PortCause) : (s.portFault p c).mems = s.mems := by
  unfold State.portFault
  extract_lets fires g a s0
  have h0 : s0.mems = s.mems := by unfold s0; split <;> simp
  split
  · split <;> simp
  · simp [h0]
@[simp] theorem State.portClean_mems (s : State) (p : RopePort) : (s.portClean p).mems = s.mems := by simp [State.portClean]
@[simp] theorem State.wrapNrClear_mems (s : State) : s.wrapNrClear.mems = s.mems := by
  unfold State.wrapNrClear
  split <;> simp
@[simp] theorem State.unwrap_mems (s : State) : s.unwrap.mems = s.mems := by simp [State.unwrap]
@[simp] theorem State.rateReturn_mems (s : State) (br : Bool) : (s.rateReturn br).mems = s.mems := by simp [State.rateReturn]
@[simp] theorem State.roundFree_mems (s : State) (x : Rat) : (s.roundFree x).2.mems = s.mems := by
  unfold State.roundFree
  split <;> simp
@[simp] theorem State.showHop_mems (s : State) (br : Bool) : (s.showHop br).mems = s.mems := by
  unfold State.showHop
  split <;> simp

@[simp] theorem State.rateSwitch_mems (s : State) (br : Bool) : (s.rateSwitch br).mems = s.mems :=
  by grind [State.rateSwitch, State.mems, State.showHop_mems, State.showLimits_mems, State.updRope_mems, State.setErr_mems, State.setRate_mems,
    State.setF_mems]

@[simp] theorem State.hopRx_mems (s : State) (br : Bool) (seq : BitVec 12) (turn : Word) (t4 : DevTime) : (s.hopRx br seq turn t4).mems = s.mems :=
  by unfold State.hopRx; repeat' split; all_goals simp
@[simp] theorem State.hopHold_mems (s : State) (br : Bool) : (s.hopHold br).mems = s.mems := by simp [State.hopHold]
@[simp] theorem State.hopSend_mems (s : State) (t3 : DevTime) : (s.hopSend t3).mems = s.mems := by
  unfold State.hopSend
  split <;> simp
@[simp] theorem State.tword_mems (s : State) (x : Option Rat) : (s.tword x).2.mems = s.mems := by
  unfold State.tword
  split <;> simp
@[simp] theorem State.pubCycle_mems (s : State) (tc : DevTime) : (s.pubCycle tc).mems = s.mems := (rfl)
@[simp] theorem State.subStale_mems (s : State) (e : Nat) : (s.subStale e).mems = s.mems := by simp [State.subStale]

@[simp] theorem State.subTake_mems (s : State) (f : CycleFrame) (br ret : Bool) (e : Nat) : (s.subTake f br ret e).mems = s.mems :=
  by grind [State.subTake, State.mems, State.freeBool_mems, State.subStale_mems, State.setF_mems, State.setReg_mems, State.setB_mems]

@[simp] theorem State.subTakeAll_mems (s : State) (f : CycleFrame) (br ret : Bool) : (s.subTakeAll f br ret).mems = s.mems :=
  by simp [State.subTakeAll]
@[simp] theorem State.cycleStart_mems (s0 : State) (br : Bool) (tc : DevTime) : (s0.cycleStart br tc).mems = s0.mems := by simp [State.cycleStart]

@[simp] theorem State.cycleFrameRx_mems (s00 : State) (f : CycleFrame) (west : Bool) (ta : DevTime) (fwd : Nat) (w : Wire) :
    (s00.cycleFrameRx f west ta fwd w).mems = s00.mems := by unfold State.cycleFrameRx; repeat' split; all_goals simp

@[simp] theorem State.cycleReturn_mems (s00 : State) (br west : Bool) (f : CycleFrame) (ta : DevTime) :
    (s00.cycleReturn br west f ta).mems = s00.mems := by simp [State.cycleReturn]

/-! ### RopeAccess -/
@[simp] theorem State.setSnap_mems (s : State) (k : Nat) (v : Word) : (s.setSnap k v).mems = s.mems := (rfl)
@[simp] theorem State.dropSnap_mems (s : State) (k : Nat) : (s.dropSnap k).mems = s.mems := (rfl)
@[simp] theorem State.setPair_mems (s : State) (n : Nat) (p : Pair) : (s.setPair n p).mems = s.mems := (rfl)
@[simp] theorem State.readFails_mems (s : State) (r : Nat) : (s.readFails r).mems = s.mems := (rfl)
@[simp] theorem State.accErr_mems (s : State) (code status r n addr : Nat) : (s.accErr code status r n addr).mems = s.mems := by simp [State.accErr]

@[simp] theorem State.accFail_mems (s : State) (code r n addr : Nat) (read : Bool) : (s.accFail code r n addr read).mems = s.mems :=
  by simp [State.accFail]
@[simp] theorem State.failAll_mems (s : State) (n code : Nat) (l : List RopeReq) : (s.failAll n code l).mems = s.mems := by simp [State.failAll]
@[simp] theorem State.queueFrame_mems (s : State) (f : AccFrame) : (s.queueFrame f).mems = s.mems := (rfl)
@[simp] theorem State.ropeAccept_mems (s : State) (n : Nat) (q0 : RopeReq) : (s.ropeAccept n q0).mems = s.mems := by simp [State.ropeAccept]

@[simp] theorem State.ropeIssue_mems (s : State) (n r addr : Nat) (body : AccBody) (reply : Option (Call × Bool)) :
    (s.ropeIssue n r addr body reply).mems = s.mems := by simp [State.ropeIssue]

@[simp] theorem State.unstall_mems (s : State) : s.unstall.mems = s.mems := by
  unfold State.unstall
  simp only [State.updRope_mems]
  refine (State.mems_foldl_of Prod.fst _ (fun acc x => ?_) _ _).trans (by simp)
  split
  · simp
  · split <;> simp

@[simp] theorem State.ropeMessage_mems (s : State) (n m r : Nat) (words : List Word) (reply : Option (Call × Bool)) :
    (s.ropeMessage n m r words reply).mems = s.mems := by simp [State.ropeMessage]
@[simp] theorem State.remoteRead_mems (s : State) (r n a : Nat) : (s.remoteRead r n a).mems = s.mems := by
  unfold State.remoteRead
  split <;> simp
@[simp] theorem State.ropeFreed_mems (s : State) (n : Nat) : (s.ropeFreed n).mems = s.mems := by simp [State.ropeFreed]
@[simp] theorem State.frameSend_mems (s : State) : s.frameSend.mems = s.mems := by
  simp only [State.frameSend]
  split <;> simp
@[simp] theorem State.noteEpoch_mems (s : State) (n : Nat) (e : BitVec 16) : (s.noteEpoch n e).mems = s.mems := by simp [State.noteEpoch]

@[simp] theorem State.checkEpoch_mems (s : State) (n : Nat) (e : BitVec 16) : (s.checkEpoch n e).2.mems = s.mems :=
  by grind [State.checkEpoch, State.mems, State.updRope_mems, State.noteEpoch_mems, State.setPair_mems, State.ropeFreed_mems, State.raise_mems,
    State.failAll_mems]

@[simp] theorem State.takeReq_mems (s : State) (n : Nat) (a : BitVec 12) : (s.takeReq n a).2.mems = s.mems :=
  by grind [State.takeReq, State.mems, State.setPair_mems]

@[simp] theorem State.rdRspRx_mems (s : State) (n : Nat) (ack : BitVec 12) (data : Word) (latched : List Word) (e : BitVec 16) :
    (s.rdRspRx n ack data latched e).mems = s.mems := by
  have hepoch := s.checkEpoch_mems n e
  have htake := (s.checkEpoch n e).2.takeReq_mems n ack
  simp only [State.rdRspRx]
  split
  · exact hepoch
  · split <;> simp_all

@[simp] theorem State.wrAckRx_mems (s : State) (n : Nat) (ack : BitVec 12) (status : Nat) (e : BitVec 16) :
    (s.wrAckRx n ack status e).mems = s.mems :=
  by grind [State.wrAckRx, State.mems, State.checkEpoch_mems, State.takeReq_mems, State.ropeFreed_mems, State.accErr_mems, State.raise_mems,
    State.setErr_mems, State.satAdd_mems]
@[simp] theorem State.resend_mems (s : State) (n : Nat) (l : List RopeReq) : (s.resend n l).mems = s.mems := by simp [State.resend]

@[simp] theorem State.poison_mems (s : State) (n code : Nat) (before l : List RopeReq) : (s.poison n code before l).mems = s.mems :=
  by unfold State.poison; split <;> simp

@[simp] theorem State.nakPair_mems (s : State) (src : Nat) (ack : BitVec 12) (code : Nat) : (s.nakPair src ack code).2.mems = s.mems :=
  by unfold State.nakPair; repeat' split; all_goals simp

@[simp] theorem State.nakRx_mems (s : State) (src : Nat) (ack : BitVec 12) (code : Nat) (e : BitVec 16) : (s.nakRx src ack code e).mems = s.mems :=
  by simp [State.nakRx]
@[simp] theorem State.retxTimeout_mems (s : State) (n : Nat) : (s.retxTimeout n).mems = s.mems := by
  simp only [State.retxTimeout]
  split <;> simp

@[simp] theorem State.mbxAckRx_mems (s : State) (n : Nat) (ack : BitVec 12) (status : Nat) (e : BitVec 16) :
    (s.mbxAckRx n ack status e).2.mems = s.mems :=
  by grind [State.mbxAckRx, State.mems, State.checkEpoch_mems, State.takeReq_mems, State.ropeFreed_mems, State.accErr_mems, State.raise_mems,
    State.setErr_mems, State.satAdd_mems]
@[simp] theorem State.answer_mems (s : State) (f : AccFrame) (b : AccBody) : (s.answer f b).mems = s.mems := (rfl)

@[simp] theorem State.frameForward_mems (s : State) (fromBranch : Bool) (f : AccFrame) : (s.frameForward fromBranch f).mems = s.mems :=
  by simp [State.frameForward]
@[simp] theorem State.pos0Pass_mems (s : State) (br : Bool) (f : AccFrame) : (s.pos0Pass br f).mems = s.mems := by simp [State.pos0Pass]
@[simp] theorem State.ropeEventSend_mems (s : State) : s.ropeEventSend.mems = s.mems := by
  unfold State.ropeEventSend
  split <;> simp

/-! ### Guide -/
@[simp] theorem State.updGuide_mems (s : State) (f : Guide → Guide) : (s.updGuide f).mems = s.mems := (rfl)
@[simp] theorem State.setMode_mems (s : State) (m : Nat) : (s.setMode m).mems = s.mems := by simp [State.setMode]
@[simp] theorem State.setTarget_mems (s : State) (m : Nat) : (s.setTarget m).mems = s.mems := (rfl)
@[simp] theorem State.setHoldCause_mems (s : State) (b : Nat) (v : Bool) : (s.setHoldCause b v).mems = s.mems := (rfl)
@[simp] theorem State.wakeGuide_mems (s : State) : s.wakeGuide.mems = s.mems := by simp [State.wakeGuide]
@[simp] theorem State.postReply_mems (s : State) (r : Reply) : (s.postReply r).mems = s.mems := by simp [State.postReply]

@[simp] theorem State.answerCall_mems (s : State) (svc : Nat) (c : Call) (result detail : Nat) (res : List Word) :
    (s.answerCall svc c result detail res).mems = s.mems := by simp [State.answerCall]

@[simp] theorem State.endLong_mems (s : State) (result detail : Nat) (res : List Word) : (s.endLong result detail res).mems = s.mems :=
  by unfold State.endLong; split <;> simp
@[simp] theorem State.responsePost_mems (s : State) (m : Nat) : (s.responsePost m).mems = s.mems := by
  unfold State.responsePost
  split <;> simp
@[simp] theorem State.replyRetry_mems (s : State) : s.replyRetry.mems = s.mems := by
  unfold State.replyRetry
  split <;> simp

@[simp] theorem State.admitCall_mems (s : State) (svc : Nat) (c : Call) : (s.admitCall svc c).mems = s.mems :=
  by unfold State.admitCall; repeat' split; all_goals simp
@[simp] theorem State.takeFrom_mems (s : State) (m : Nat) : (s.takeFrom m).mems = s.mems := by
  unfold State.takeFrom
  split <;> simp
@[simp] theorem State.takeJtag_mems (s : State) (w : List Word) : (s.takeJtag w).mems = s.mems := by simp [State.takeJtag]

@[simp] theorem State.takeRequest_mems (s : State) : s.takeRequest.mems = s.mems :=
  by grind [State.takeRequest, State.mems, State.takeFrom_mems, State.takeJtag_mems]
@[simp] theorem State.startLong_mems (s : State) (svc : Nat) (c : Call) : (s.startLong svc c).mems = s.mems := by simp [State.startLong]

@[simp] theorem State.longOnce_mems (s : State) (svc : Nat) (c : Call) (result detail : Nat) (res : List Word) :
    (s.longOnce svc c result detail res).mems = s.mems := by simp [State.longOnce]

end Sys2Proof.Machine
end

section
/-! The memories are left by what the calls, the fabric, the blocks of the edge and loop pages, the clocks and the pins do beside them. -/

namespace Sys2Proof.Machine

/-! ### Settings -/
@[simp] theorem State.updSettings_mems (s : State) (f : Settings → Settings) : (s.updSettings f).mems = s.mems := (rfl)
@[simp] theorem State.showSettings_mems (s : State) : s.showSettings.mems = s.mems := by simp [State.showSettings]
@[simp] theorem State.storeLost_mems (s : State) (gone : Nat → Bool) : (s.storeLost gone).mems = s.mems := by simp [State.storeLost]

@[simp] theorem State.inlineWords_mems (s : State) (bytes : List Byte) : (s.inlineWords bytes).2.mems = s.mems :=
  by simp only [State.inlineWords]; split <;> simp
@[simp] theorem State.settingsStage_mems (s : State) (c : Call) : (s.settingsStage c).mems = s.mems := by simp [State.settingsStage]
@[simp] theorem State.settingsAbort_mems (s : State) (c : Call) : (s.settingsAbort c).mems = s.mems := by simp [State.settingsAbort]

/-! ### FlashCalls -/
@[simp] theorem State.showOp_mems (s : State) : s.showOp.mems = s.mems := by
  simp only [State.showOp]
  split <;> simp
@[simp] theorem State.setOp_mems (s : State) (o : Option FlashOp) : (s.setOp o).mems = s.mems := by simp [State.setOp]
@[simp] theorem State.startOp_mems (s : State) (o : FlashOp) : (s.startOp o).mems = s.mems := by simp [State.startOp]
@[simp] theorem State.tempErr_mems (s : State) : s.tempErr.mems = s.mems := by simp [State.tempErr]
@[simp] theorem State.endOp_mems (s : State) (o : FlashOp) (res : Nat) (ws : List Word) : (s.endOp o res ws).mems = s.mems := by simp [State.endOp]

@[simp] theorem State.programStart_mems (s : State) (c : Call) (a n : Nat) (data : List Byte) : (s.programStart c a n data).mems = s.mems :=
  by grind [State.programStart, State.mems, State.longOnce_mems, State.tempErr_mems, State.startOp_mems, State.startLong_mems]
@[simp] theorem State.eraseBegin_mems (s : State) (o : FlashOp) : (s.eraseBegin o).mems = s.mems := by
  unfold State.eraseBegin
  split <;> simp

@[simp] theorem State.eraseStart_mems (s : State) (c : Call) (a n : Nat) : (s.eraseStart c a n).mems = s.mems :=
  by unfold State.eraseStart; split <;> simp

@[simp] theorem State.eraseEnd_mems (s : State) (o : FlashOp) : (s.eraseEnd o).mems = s.mems :=
  by unfold State.eraseEnd; repeat' split; all_goals simp
@[simp] theorem State.eraseTimeout_mems (s : State) : s.eraseTimeout.mems = s.mems := by
  unfold State.eraseTimeout
  split <;> simp

@[simp] theorem State.patchStart_mems (s : State) (c : Call) (n : Nat) (package : List Byte) : (s.patchStart c n package).mems = s.mems :=
  by unfold State.patchStart; repeat' split; all_goals simp

@[simp] theorem State.flashErase_mems (s : State) (c : Call) (tj : Int) : (s.flashErase c tj).mems = s.mems :=
  by unfold State.flashErase; repeat' split; all_goals simp
@[simp] theorem State.flashBlankCheck_mems (s : State) (c : Call) : (s.flashBlankCheck c).mems = s.mems := by simp [State.flashBlankCheck]
@[simp] theorem State.flashStatus_mems (s : State) (c : Call) : (s.flashStatus c).mems = s.mems := by simp [State.flashStatus]
@[simp] theorem State.patchBoot_mems (s : State) : s.patchBoot.mems = s.mems := by
  unfold State.patchBoot
  split <;> simp

/-! ### ClockTree -/
@[simp] theorem State.keepPhase_mems (s : State) (r old new : Nat) : (s.keepPhase r old new).mems = s.mems := by simp [State.keepPhase]
@[simp] theorem State.alignEdge_mems (s : State) (r : Nat) : (s.alignEdge r).mems = s.mems := by simp [State.alignEdge]
@[simp] theorem State.alignPoints_mems (s : State) (es : List ClockEdge) : (s.alignPoints es).mems = s.mems := by simp [State.alignPoints]
@[simp] theorem State.countStops_mems (s : State) (es : List ClockEdge) : (s.countStops es).mems = s.mems := by simp [State.countStops]

@[simp] theorem State.countSwitches_mems (s : State) (es : List ClockEdge) : (s.countSwitches es).mems = s.mems :=
  State.mems_foldl _ (fun t e => by cases e with | mk i x => cases x <;> simp) _ _
@[simp] theorem State.noteHigh_mems (s : State) (es : List ClockEdge) (bs : List BoughEdge) : (s.noteHigh es bs).mems = s.mems := (rfl)

@[simp] theorem State.tryClocks_mems (s : State) (bs : List BoughEdge) : (s.tryClocks bs).mems = s.mems := by
  refine State.mems_foldl _ (fun t e => ?_) _ _
  dsimp only
  cases s.meetsClock e.b e.c <;> simp

/-! ### Edge -/
@[simp] theorem State.edgeErr_mems (s : State) (p b : Nat) : (s.edgeErr p b).mems = s.mems := by simp [State.edgeErr]
@[simp] theorem State.placeEdge_mems (s : State) (p : Nat) (t : DevTime) (l : Bool) : (s.placeEdge p t l).mems = s.mems := by simp [State.placeEdge]
@[simp] theorem State.queuePush_mems (s : State) (p : Nat) (e : QueueEntry) : (s.queuePush p e).mems = s.mems := by simp [State.queuePush]
@[simp] theorem State.pushEntry_mems (s : State) (p r : Nat) (w : Word) : (s.pushEntry p r w).mems = s.mems := by simp [State.pushEntry]
@[simp] theorem State.stageLow_mems (s : State) (p r : Nat) (w : Word) : (s.stageLow p r w).mems = s.mems := (rfl)
@[simp] theorem State.queuePop_mems (s : State) (p : Nat) : (s.queuePop p).mems = s.mems := (rfl)
@[simp] theorem State.queueEdge_mems (s : State) (p : Nat) : (s.queueEdge p).mems = s.mems := by
  unfold State.queueEdge
  repeat'
    split
    all_goals simp
@[simp] theorem State.pwmArm_mems (s : State) (p : Nat) : (s.pwmArm p).mems = s.mems := by simp [State.pwmArm]
@[simp] theorem State.edgeToIdle_mems (s : State) (p : Nat) : (s.edgeToIdle p).mems = s.mems := by simp [State.edgeToIdle]
@[simp] theorem State.pwmRise_mems (s : State) (p : Nat) : (s.pwmRise p).mems = s.mems := by
  simp only [State.pwmRise]
  split <;> simp
@[simp] theorem State.pwmFall_mems (s : State) (p : Nat) : (s.pwmFall p).mems = s.mems := by
  simp only [State.pwmFall]
  split <;> simp
@[simp] theorem State.pwmFinish_mems (s : State) (p : Nat) : (s.pwmFinish p).mems = s.mems := by simp [State.pwmFinish]
@[simp] theorem State.edgeTransfer_mems (s : State) (p : Nat) : (s.edgeTransfer p).mems = s.mems := by simp [State.edgeTransfer]

@[simp] theorem State.pwmPeriodStart_mems (s : State) (p : Nat) : (s.pwmPeriodStart p).mems = s.mems :=
  by unfold State.pwmPeriodStart; repeat' split; all_goals simp
@[simp] theorem State.edgeCommit_mems (s : State) (p : Nat) : (s.edgeCommit p).mems = s.mems := by simp [State.edgeCommit]
@[simp] theorem State.edgeStarts_mems (s : State) (p : Nat) : (s.edgeStarts p).mems = s.mems := by simp [State.edgeStarts]
@[simp] theorem State.edgeEmpty_mems (s : State) (p : Nat) : (s.edgeEmpty p).mems = s.mems := (rfl)
@[simp] theorem State.edgeStops_mems (s : State) (p : Nat) : (s.edgeStops p).mems = s.mems := by simp [State.edgeStops]
@[simp] theorem State.captureEdge_mems (s : State) (p : Nat) (falling : Bool) : (s.captureEdge p falling).mems = s.mems := by simp [State.captureEdge]
@[simp] theorem State.captureTake_mems (s : State) (p : Nat) : (s.captureTake p).2.mems = s.mems := by
  simp only [State.captureTake]
  split <;> simp
@[simp] theorem State.setCal_mems (s : State) (i : Nat) (c : CalEngine) : (s.setCal i c).mems = s.mems := (rfl)
@[simp] theorem State.calBegin_mems (s : State) (i : Nat) : (s.calBegin i).mems = s.mems := (rfl)

@[simp] theorem State.calCycleStart_mems (s : State) (i : Nat) : (s.calCycleStart i).mems = s.mems :=
  by unfold State.calCycleStart; repeat' split; all_goals simp
@[simp] theorem State.calAgePin_mems (s : State) (p : Nat) : (s.calAgePin p).mems = s.mems := by simp [State.calAgePin]
@[simp] theorem State.calFinish_mems (s : State) (i : Nat) : (s.calFinish i).mems = s.mems := by simp [State.calFinish]
@[simp] theorem State.lineCalDone_mems (s : State) (p : Nat) (ok : Bool) : (s.lineCalDone p ok).mems = s.mems := by simp [State.lineCalDone]
@[simp] theorem State.swapDrop_mems (s : State) (p : Nat) : (s.swapDrop p).mems = s.mems := by simp [State.swapDrop]
@[simp] theorem State.lineSwap_mems (s : State) (p : Nat) : (s.lineSwap p).mems = s.mems := by
  simp only [State.lineSwap]
  split <;> simp
@[simp] theorem State.swapAbandon_mems (s : State) (p : Nat) : (s.swapAbandon p).mems = s.mems := by
  simp only [State.swapAbandon]
  split <;> simp
@[simp] theorem State.bootCalDone_mems (s : State) (i : Nat) : (s.bootCalDone i).mems = s.mems := by simp [State.bootCalDone]

/-! ### Pads -/
@[simp] theorem State.pinInput_mems (s0 : State) (n : Nat) (s : State) : (s0.pinInput n s).2.mems = s.mems := by
  unfold State.pinInput
  split <;> simp

/-! ### Fabric -/

@[simp] theorem State.absorbAsync_mems (s0 : State) : s0.absorbAsync.mems = s0.mems := by
  refine State.mems_foldl _ (fun t e => State.mems_foldl _ (fun u l => ?_) _ _) _ _
  dsimp only
  cases asyncSr e.2.cfg e.1 l s0.wire <;> simp

@[simp] theorem State.settleLevels_mems (fuel : Nat) (s : State) : (State.settleLevels fuel s).mems = s.mems := by
  induction fuel generalizing s with
  | zero => rfl
  | succ k ih => simp [State.settleLevels, ih]
@[simp] theorem State.levels_mems (s : State) : s.levels.mems = s.mems := by simp [State.levels]
@[simp] theorem State.upRise_mems (s : State) (b : Nat) : (s.upRise b).mems = s.mems := by simp [State.upRise]

@[simp] theorem State.watchEvents_mems (s0 : State) (fresh : Bool) (b : Nat) (s : State) : (s0.watchEvents fresh b s).mems = s.mems := by
  refine State.mems_foldl _ (fun t e => ?_) _ _
  dsimp only
  cases trunkValue s0 b e.1 s0.wire <;> simp
@[simp] theorem State.watchGrants_mems (s0 : State) (b : Nat) (s : State) : (s0.watchGrants b s).mems = s.mems := by simp [State.watchGrants]
@[simp] theorem State.propagate_mems (s : State) : s.propagate.mems = s.mems := by simp [State.propagate]

@[simp] theorem State.leafEdge_mems (s0 : State) (b : Nat) (act : Nat → Bool → Bool) (s : State) : (s0.leafEdge b act s).mems = s.mems := by
  refine State.mems_foldl _ (fun t l => ?_) _ _
  dsimp only
  split
  · rfl
  · split <;> simp

@[simp] theorem State.cellEdge_mems (s0 : State) (b : Nat) (act : Nat → Bool → Bool) (s : State) : (s0.cellEdge b act s).mems = s.mems := by
  unfold State.cellEdge
  extract_lets x levelAt s1
  have hlevel (t : State) (k : Nat) (inp : Option Bool) : (levelAt t k inp).mems = t.mems := by
    simp only [levelAt]
    cases inp <;> simp <;> split <;> simp
  refine (State.mems_foldl _ (fun t e => by simp [hlevel]) _ _).trans (State.mems_foldl _ (fun t u => ?_) _ _)
  split
  · rfl
  · split <;> simp [hlevel]

@[simp] theorem State.upEdge_mems (s0 : State) (b : Nat) (act : Nat → Bool → Bool) (s : State) : (s0.upEdge b act s).mems = s.mems :=
  by simp [State.upEdge]

@[simp] theorem State.ackEdge_mems (s0 : State) (b : Nat) (act : Nat → Bool → Bool) (ackOf : Nat → Option Bool) (s : State) :
    (s0.ackEdge b act ackOf s).mems = s.mems := by
  refine State.mems_foldl _ (fun t e => ?_) _ _
  dsimp only
  cases ackOf e.1 <;> simp <;> split <;> simp

@[simp] theorem State.gather_mems (level : Nat → Option Bool) (n : Nat) (s : State) : (State.gather level n s).2.mems = s.mems := by
  refine State.mems_foldl_of Prod.snd _ (fun acc j => ?_) _ _
  dsimp only
  cases level j <;> simp
@[simp] theorem State.upWord_mems (s0 : State) (b c : Nat) (s : State) : (s0.upWord b c s).2.mems = s.mems := by simp [State.upWord]
@[simp] theorem State.downWord_mems (s0 : State) (b c : Nat) (s : State) : (s0.downWord b c s).2.mems = s.mems := by simp [State.downWord]
@[simp] theorem State.sendWord_mems (s0 : State) (b c : Nat) (s : State) : (s0.sendWord b c s).mems = s.mems := by simp [State.sendWord]
@[simp] theorem State.slotSend_mems (s : State) (q : Nat) : (s.slotSend q).mems = s.mems := by
  unfold State.slotSend
  split <;> simp
@[simp] theorem State.slotIdle_mems (s : State) (q : Nat) : (s.slotIdle q).mems = s.mems := by
  unfold State.slotIdle
  split <;> simp
@[simp] theorem State.slotRecall_mems (s : State) (q : Nat) : (s.slotRecall q).mems = s.mems := by simp [State.slotRecall]
@[simp] theorem State.tryDelays_mems (s : State) (b : Nat) : (s.tryDelays b).mems = s.mems := by simp [State.tryDelays]

@[simp] theorem State.captureTwig_mems (s0 : State) (b t : Nat) (s : State) : (s0.captureTwig b t s).mems = s.mems := by
  refine State.mems_foldl _ (fun u i => ?_) _ _
  dsimp only
  split
  · rfl
  · split <;> simp
@[simp] theorem State.sendFrom_mems (s : State) (b j : Nat) : (s.sendFrom b j).mems = s.mems := by simp [State.sendFrom]
@[simp] theorem State.lowerRequest_mems (s : State) (b c : Nat) : (s.lowerRequest b c).mems = s.mems := by simp [State.lowerRequest]
@[simp] theorem State.fire_mems (s : State) (b j : Nat) : (s.fire b j).mems = s.mems := by simp [State.fire]

@[simp] theorem State.ackIncoming_mems (s : State) (b c : Nat) : (s.ackIncoming b c).mems = s.mems :=
  by grind [State.ackIncoming, State.mems, State.updBough_mems, State.slotSend_mems]
@[simp] theorem State.lowerAll_mems (s : State) (b : Nat) : (s.lowerAll b).mems = s.mems := by simp [State.lowerAll]

@[simp] theorem State.stageMove_mems (s : State) (b j : Nat) : (s.stageMove b j).2.mems = s.mems :=
  by grind [State.stageMove, State.mems, State.updBough_mems, State.fire_mems]

@[simp] theorem State.settlePass_mems (s : State) : s.settlePass.2.mems = s.mems := by
  refine State.mems_foldl_of Prod.snd _ (fun acc e => ?_) _ _
  dsimp only
  split
  · rfl
  · split
    · simp
    · simp only [State.lowerAll_mems]
      refine (State.mems_foldl _ (by simp) _ _).trans ?_
      exact State.mems_foldl_of Prod.snd _ (fun _ _ => by simp) _ _

@[simp] theorem State.settleFor_mems (s : State) (fuel : Nat) : (s.settleFor fuel).mems = s.mems := by
  induction fuel generalizing s with
  | zero => rfl
  | succ k ih => simp only [State.settleFor]; split <;> simp [ih]
@[simp] theorem State.settle_mems (s : State) : s.settle.mems = s.mems := by simp [State.settle]
@[simp] theorem State.hsRequest_mems (s : State) (b j : Nat) : (s.hsRequest b j).mems = s.mems := by simp [State.hsRequest]
@[simp] theorem State.channelPush_mems (s : State) (b c : Nat) : (s.channelPush b c).mems = s.mems := by simp [State.channelPush]

@[simp] theorem State.channelValid_mems (s : State) (b c : Nat) : (s.channelValid b c).mems = s.mems :=
  by grind [State.channelValid, State.mems, State.propagate_mems, State.updBough_mems, State.freeBool_mems, State.downWord_mems]

@[simp] theorem State.channelPop_mems (s : State) (b c : Nat) : (s.channelPop b c).mems = s.mems :=
  by grind [State.channelPop, State.mems, State.wireBit_mems, State.settle_mems, State.updBough_mems, State.slotSend_mems]

@[simp] theorem State.bankBit_mems (s0 : State) (b k r : Nat) (pipe : Bool) (c : SyncCell) (s : State) :
    (s0.bankBit b k r pipe c s).2.2.2.mems = s.mems := by simp only [State.bankBit]; split <;> simp
@[simp] theorem State.drawBank_mems (s : State) (n : Nat) : (s.drawBank n).mems = s.mems := by simp [State.drawBank]

@[simp] theorem State.bankEdge_mems (s0 : State) (n r : Nat) (falling : Bool) (s : State) : (s0.bankEdge n r falling s).mems = s.mems :=
  by simp [State.bankEdge]

@[simp] theorem State.boughEdge_mems (s0 : State) (b : Nat) (act : Nat → Bool → Bool) (s : State) : (s0.boughEdge b act s).mems = s.mems :=
  by simp [State.boughEdge]

@[simp] theorem State.clockEdges_mems (s : State) (edges : List ClockEdge) (balls : List (Nat × Option Bool)) :
    (s.clockEdges edges balls).mems = s.mems := by simp [State.clockEdges]
@[simp] theorem State.eventArrival_mems (s : State) (b u : Nat) : (s.eventArrival b u).mems = s.mems := by simp [State.eventArrival]
@[simp] theorem State.fabricEventLaunch_mems (s : State) (e : Nat) : (s.fabricEventLaunch e).mems = s.mems := by simp [State.fabricEventLaunch]
@[simp] theorem State.lineDeliver_mems (s : State) (j : Nat) : (s.lineDeliver j).mems = s.mems := by simp [State.lineDeliver]
@[simp] theorem State.cadenceRestart_mems (s : State) (b : Nat) : (s.cadenceRestart b).mems = s.mems := (rfl)
@[simp] theorem State.cadClr_mems (s : State) (b : Nat) : (s.cadClr b).mems = s.mems := by simp [State.cadClr]

@[simp] theorem State.hsCtlWritten_mems (s : State) (b : Nat) (old v : Word) (keep : Bool) : (s.hsCtlWritten b old v keep).mems = s.mems :=
  by simp [State.hsCtlWritten]
@[simp] theorem State.stallCheck_mems (s : State) (b : Nat) : (s.stallCheck b).mems = s.mems := by simp [State.stallCheck]
@[simp] theorem State.cadenceWindow_mems (s : State) (b : Nat) : (s.cadenceWindow b).mems = s.mems := by simp [State.cadenceWindow]
@[simp] theorem State.showFrozen_mems (s : State) (b : Nat) : (s.showFrozen b).mems = s.mems := (rfl)
@[simp] theorem State.holdFreezeAll_mems (s : State) (on : Bool) : (s.holdFreezeAll on).mems = s.mems := by simp [State.holdFreezeAll]
@[simp] theorem State.assertHold_mems (s : State) (b : Nat) : (s.assertHold b).mems = s.mems := by simp [State.assertHold]
@[simp] theorem State.findLoops_mems (s : State) : s.findLoops.mems = s.mems := by simp [State.findLoops]
@[simp] theorem State.releaseHold_mems (s : State) (b : Nat) : (s.releaseHold b).mems = s.mems := by simp [State.releaseHold]

@[simp] theorem State.isoWire_mems (s0 : State) (iso b u : Nat) (s : State) : (s0.isoWire iso b u s).2.mems = s.mems :=
  by grind [State.isoWire, State.mems, State.wireBit_mems]

@[simp] theorem State.isolateGrove_mems (s0 : State) (g : Nat) : (s0.isolateGrove g).mems = s0.mems := by
  simp only [State.isolateGrove, State.propagate_mems]
  refine State.mems_foldl _ (fun t b => ?_) _ _
  simp only [State.assertHold_mems, State.updBough_mems]
  exact State.mems_foldl_of Prod.snd _ (fun _ _ => by simp) _ _

/-! ### Sdf -/
@[simp] theorem State.sdfFlag_mems (s : State) (c b : Nat) (t : DevTime) (q : Nat) : (s.sdfFlag c b t q).mems = s.mems := by simp [State.sdfFlag]
@[simp] theorem State.sdfSyncLevel_mems (s : State) (c : Nat) : (s.sdfSyncLevel c).mems = s.mems := by simp [State.sdfSyncLevel]
@[simp] theorem State.sdfStale_mems (s : State) (c : Nat) : (s.sdfStale c).mems = s.mems := (rfl)
@[simp] theorem State.sdfStart_mems (s : State) (c : Nat) : (s.sdfStart c).mems = s.mems := by simp [State.sdfStart]
@[simp] theorem State.sdfStop_mems (s : State) (c : Nat) : (s.sdfStop c).mems = s.mems := by simp [State.sdfStop]

@[simp] theorem State.sdfStopDone_mems (s : State) (c : Nat) : (s.sdfStopDone c).mems = s.mems :=
  by grind [State.sdfStopDone, State.mems, State.reach_mems, State.setB_mems, State.setSdf_mems]
@[simp] theorem State.sdfFollow_mems (s : State) (c : Nat) : (s.sdfFollow c).mems = s.mems := by simp [State.sdfFollow]

@[simp] theorem State.sdfTakeBit_mems (s : State) (c : Nat) (b : Bool) (t : DevTime) : (s.sdfTakeBit c b t).mems = s.mems :=
  by simp [State.sdfTakeBit]

@[simp] theorem State.sdfCompare_mems (s : State) (c : Nat) (t : DevTime) : (s.sdfCompare c t).mems = s.mems :=
  by grind [State.sdfCompare, State.mems, State.free_mems, State.setB_mems, State.setReg_mems, State.setSdf_mems]

@[simp] theorem State.sdfForm_mems (s : State) (c : Nat) (t edge : DevTime) : (s.sdfForm c t edge).mems = s.mems :=
  by grind [State.sdfForm, State.mems, State.free_mems, State.setSdf_mems]

@[simp] theorem State.sdfEnter_mems (s : State) (c : Nat) (b : Bool) (t edge : DevTime) : (s.sdfEnter c b t edge).mems = s.mems :=
  by simp [State.sdfEnter]

@[simp] theorem State.sdfBit_mems (s : State) (c : Nat) (b : Bool) : (s.sdfBit c b).mems = s.mems :=
  by unfold State.sdfBit; repeat' split; all_goals simp
@[simp] theorem State.sdfPublish_mems (s : State) (c : Nat) : (s.sdfPublish c).mems = s.mems := by
  simp only [State.sdfPublish]
  split <;> simp

@[simp] theorem State.sdfTrip_mems (s : State) (c : Nat) (high : Bool) : (s.sdfTrip c high).mems = s.mems :=
  by simp only [State.sdfTrip]; split <;> simp
@[simp] theorem State.sdfClkFault_mems (s : State) (c : Nat) (gap : Bool) : (s.sdfClkFault c gap).mems = s.mems := by simp [State.sdfClkFault]
@[simp] theorem State.sdfRunFault_mems (s : State) (c : Nat) : (s.sdfRunFault c).mems = s.mems := by simp [State.sdfRunFault]

/-! ### Loop -/
@[simp] theorem State.setCause_mems (s : State) (n b : Nat) : (s.setCause n b).mems = s.mems := by simp [State.setCause]
@[simp] theorem State.clearCause_mems (s : State) (n b : Nat) : (s.clearCause n b).mems = s.mems := (rfl)
@[simp] theorem State.countStale_mems (s : State) (n : Nat) (stale : Bool) : (s.countStale n stale).mems = s.mems := by simp [State.countStale]
@[simp] theorem State.loopPwmWrite_mems (s : State) (p rise fall : Nat) : (s.loopPwmWrite p rise fall).mems = s.mems := by simp [State.loopPwmWrite]
@[simp] theorem State.pubWrite_mems (s : State) (i : Nat) (w : Word) : (s.pubWrite i w).mems = s.mems := (rfl)
@[simp] theorem State.loopLog_mems (s : State) (n : Nat) (u : LoopUpdate) : (s.loopLog n u).mems = s.mems := by simp [State.loopLog]

@[simp] theorem State.loopTarget_mems (s : State) (n : Nat) (o : Int) (w par : Word) (t : DevTime) : (s.loopTarget n o w par t).mems = s.mems :=
  by unfold State.loopTarget; split <;> simp
@[simp] theorem State.outputApply_mems (s : State) (n : Nat) : (s.outputApply n).mems = s.mems := by
  unfold State.outputApply
  split <;> simp
@[simp] theorem State.coastCheck_mems (s : State) (n : Nat) : (s.coastCheck n).mems = s.mems := by
  unfold State.coastCheck
  split <;> simp

@[simp] theorem State.loopUpdate_mems (s00 : State) (n : Nat) (tr : DevTime) (own : Bool) : (s00.loopUpdate n tr own).mems = s00.mems :=
  by simp only [State.loopUpdate]; split <;> simp
@[simp] theorem State.recordLost_mems (s : State) (n : Nat) (tr : DevTime) : (s.recordLost n tr).mems = s.mems := by simp [State.recordLost]

@[simp] theorem State.loopRead_mems (s : State) (n : Nat) (tr : DevTime) (own : Bool) (ecc : BitVec 2) : (s.loopRead n tr own ecc).mems = s.mems :=
  by simp [State.loopRead]

@[simp] theorem State.loopGridPoint_mems (s : State) (n : Nat) (ecc : BitVec 2) : (s.loopGridPoint n ecc).mems = s.mems :=
  by simp [State.loopGridPoint]
@[simp] theorem State.takeEvent_mems (s : State) (n : Nat) : (s.takeEvent n).mems = s.mems := (rfl)
@[simp] theorem State.takeTrigger_mems (s : State) (n : Nat) : (s.takeTrigger n).mems = s.mems := (rfl)

@[simp] theorem State.loopTrigger_mems (s : State) (n : Nat) (t : DevTime) (own : Bool) (ecc : BitVec 2) :
    (s.loopTrigger n t own ecc).mems = s.mems := by simp [State.loopTrigger]
@[simp] theorem State.eventTrigger_mems (s : State) (n : Nat) (ecc : BitVec 2) : (s.eventTrigger n ecc).mems = s.mems := by simp [State.eventTrigger]

@[simp] theorem State.sampleTrigger_mems (s : State) (n : Nat) (ecc : BitVec 2) : (s.sampleTrigger n ecc).mems = s.mems :=
  by unfold State.sampleTrigger; split <;> simp

@[simp] theorem State.abseilTrigger_mems (s : State) (n : Nat) (ecc : BitVec 2) : (s.abseilTrigger n ecc).mems = s.mems :=
  by simp [State.abseilTrigger]
@[simp] theorem State.reloadPolicy_mems (s : State) (n : Nat) : (s.reloadPolicy n).mems = s.mems := by simp [State.reloadPolicy]
@[simp] theorem State.holdPort_mems (s : State) (q : Nat) : (s.holdPort q).mems = s.mems := by simp [State.holdPort]
@[simp] theorem State.endReload_mems (s : State) (n : Nat) : (s.endReload n).mems = s.mems := (rfl)
@[simp] theorem State.releasePort_mems (s : State) (q : Nat) : (s.releasePort q).mems = s.mems := by simp [State.releasePort]
@[simp] theorem State.fslotWord_mems (s : State) (q : Nat) (w : BitVec 64) : (s.fslotWord q w).mems = s.mems := by simp [State.fslotWord]

@[simp] theorem State.standingCauses_mems (s : State) (n : Nat) (starts : Bool) : (s.standingCauses n starts).mems = s.mems :=
  by simp [State.standingCauses]

@[simp] theorem State.transferCtx_mems (restart : Bool) (s : State) (n : Nat) : (State.transferCtx restart s n).mems = s.mems :=
  by simp [State.transferCtx]
@[simp] theorem State.commitDone_mems (s : State) (p : Nat) : (s.commitDone p).mems = s.mems := by
  unfold State.commitDone
  split <;> simp

@[simp] theorem State.loopCommitRequest_mems (s : State) (cs : List Nat) (laneCtl restart : Bool) (pages : List Nat) :
    (s.loopCommitRequest cs laneCtl restart pages).mems = s.mems := by simp [State.loopCommitRequest]
@[simp] theorem State.ctxCommit_mems (s : State) (w : Word) : (s.ctxCommit w).mems = s.mems := by simp [State.ctxCommit]
@[simp] theorem State.admissionDone_mems (s : State) : s.admissionDone.mems = s.mems := by
  unfold State.admissionDone
  repeat'
    split
    all_goals simp
@[simp] theorem State.abseilCmd_mems (s : State) (w : Word) : (s.abseilCmd w).mems = s.mems := by
  unfold State.abseilCmd
  split <;> simp
@[simp] theorem State.hbKick_mems (s : State) (h : Nat) : (s.hbKick h).mems = s.mems := by simp [State.hbKick]
@[simp] theorem State.hbMiss_mems (s : State) (h : Nat) : (s.hbMiss h).mems = s.mems := by simp [State.hbMiss]
@[simp] theorem State.loopHold_mems (s : State) : s.loopHold.mems = s.mems := by simp [State.loopHold]
@[simp] theorem State.loopRun_mems (s : State) : s.loopRun.mems = s.mems := by simp [State.loopRun]

/-! ### Clocks -/
@[simp] theorem State.pllJudge_mems (s : State) (p : Nat) : (s.pllJudge p).mems = s.mems := by simp [State.pllJudge]
@[simp] theorem State.pllStart_mems (s : State) (p : Nat) : (s.pllStart p).mems = s.mems := by simp [State.pllStart]
@[simp] theorem State.pllStop_mems (s : State) (p : Nat) : (s.pllStop p).mems = s.mems := (rfl)
@[simp] theorem State.pllLock_mems (s : State) (p : Nat) : (s.pllLock p).mems = s.mems := by simp [State.pllLock]
@[simp] theorem State.pllLoss_mems (s : State) (p : Nat) : (s.pllLoss p).mems = s.mems := by simp [State.pllLoss]
@[simp] theorem State.tpllHoldover_mems (s : State) : s.tpllHoldover.mems = s.mems := by simp [State.tpllHoldover]
@[simp] theorem State.refclkLoss_mems (s : State) : s.refclkLoss.mems = s.mems := by simp [State.refclkLoss]

@[simp] theorem State.tpllRelock_mems (s : State) : s.tpllRelock.mems = s.mems :=
  by grind [State.tpllRelock, State.mems, State.setB_mems, State.setQuality_mems]
@[simp] theorem State.timingPllLock_mems (s : State) : s.timingPllLock.mems = s.mems := by simp [State.timingPllLock]
@[simp] theorem State.xtalStart_mems (s : State) : s.xtalStart.mems = s.mems := by simp [State.xtalStart]
@[simp] theorem State.xtalFail_mems (s : State) : s.xtalFail.mems = s.mems := by simp [State.xtalFail]
@[simp] theorem State.xtalOff_mems (s : State) : s.xtalOff.mems = s.mems := (rfl)
@[simp] theorem State.oldSideDone_mems (s : State) (b c : Nat) : (s.oldSideDone b c).mems = s.mems := by simp [State.oldSideDone]

@[simp] theorem State.switchDone_mems (s : State) (k : ClkSite) : (s.switchDone k).mems = s.mems :=
  by unfold State.switchDone; repeat' split; all_goals simp
@[simp] theorem State.beginSwitch_mems (s : State) (k source ratio : Nat) (moves : Bool) : (s.beginSwitch k source ratio moves).mems = s.mems := (rfl)
@[simp] theorem State.bclkWritten_mems (s : State) (b c : Nat) (old : Word) : (s.bclkWritten b c old).mems = s.mems := by simp [State.bclkWritten]
@[simp] theorem State.rootGated_mems (s : State) (r : Nat) (old : Word) : (s.rootGated r old).mems = s.mems := by simp [State.rootGated]
@[simp] theorem State.rootWritten_mems (s0 : State) (r : Nat) (old : Word) : (s0.rootWritten r old).mems = s0.mems := by simp [State.rootWritten]
@[simp] theorem State.srcCtlWritten_mems (s : State) (old : Word) : (s.srcCtlWritten old).mems = s.mems := by simp [State.srcCtlWritten]
@[simp] theorem State.setHoldGate_mems (s : State) (on : Bool) : (s.setHoldGate on).mems = s.mems := (rfl)
@[simp] theorem State.xmergeClr_mems (s : State) (b : Nat) : (s.xmergeClr b).mems = s.mems := (rfl)

/-! ### Pins -/
@[simp] theorem State.settlePins_mems (s : State) : s.settlePins.mems = s.mems := by simp [State.settlePins]
@[simp] theorem State.settlePin_mems (s : State) (n : Nat) : (s.settlePin n).mems = s.mems := (rfl)
@[simp] theorem State.parkEnd_mems (s : State) (n : Nat) : (s.parkEnd n).mems = s.mems := by simp [State.parkEnd]
@[simp] theorem State.parksEnd_mems (s : State) : s.parksEnd.mems = s.mems := by simp [State.parksEnd]

@[simp] theorem State.bankCompare_mems (s : State) (b : Nat) (before settled : Bool) : (s.bankCompare b before settled).mems = s.mems :=
  by simp [State.bankCompare]

@[simp] theorem State.vccioMeasure_mems (s : State) (b meas : Nat) (settled : Bool) : (s.vccioMeasure b meas settled).mems = s.mems :=
  by simp [State.vccioMeasure]
@[simp] theorem State.bankDeclared_mems (s : State) (b : Nat) (old : Word) : (s.bankDeclared b old).mems = s.mems := by simp [State.bankDeclared]
@[simp] theorem State.pinRefused_mems (s : State) (r n : Nat) : (s.pinRefused r n).mems = s.mems := by simp [State.pinRefused]

@[simp] theorem State.pinLockWrite_mems (s : State) (r : Nat) (w : Word) : (s.pinLockWrite r w).mems = s.mems :=
  by unfold State.pinLockWrite; split <;> simp

@[simp] theorem State.pinOwners_mems (s : State) (first count owner : Nat) : (s.pinOwners first count owner).2.2.2.mems = s.mems :=
  by unfold State.pinOwners; repeat' split; all_goals simp
@[simp] theorem State.jtagIr_mems (s : State) (code : Nat) : (s.jtagIr code).mems = s.mems := by simp [State.jtagIr]
@[simp] theorem State.scanUpdate_mems (s : State) (cells : List (Nat × Bool × Bool)) : (s.scanUpdate cells).mems = s.mems := (rfl)

end Sys2Proof.Machine
end

section
/-! The memories are left by what register writes, loads, pitches, the start and the rope do beside them. -/

namespace Sys2Proof.Machine

/-! ### Registers -/

@[simp] theorem State.recordChecks_mems (s : State) (a r : Nat) (v : Word) (c : WriteChecks) : (s.recordChecks a r v c).mems = s.mems :=
  by simp [State.recordChecks]

@[simp] theorem State.noteQuiet_mems (s : State) (a : Nat) (old : Word) (quiet : Bool) : (s.noteQuiet a old quiet).mems = s.mems :=
  by unfold State.noteQuiet; split <;> simp
@[simp] theorem State.unitEnabled_mems (s : State) (p ch : Nat) : (s.unitEnabled p ch).mems = s.mems := by simp [State.unitEnabled]

@[simp] theorem State.pageCommit_mems (s : State) (p : Nat) : (s.pageCommit p).mems = s.mems :=
  by grind [State.pageCommit, State.mems, State.loopCommitRequest_mems, State.setPending_mems]
@[simp] theorem State.ofsWritten_mems (s : State) (p : Nat) (out : Bool) (old : Word) : (s.ofsWritten p out old).mems = s.mems := (rfl)

@[simp] theorem State.loopWritten_mems (s : State) (o : Nat) (old v : Word) (keep : Bool) : (s.loopWritten o old v keep).mems = s.mems :=
  by simp [State.loopWritten]

@[simp] theorem State.mbxWritten_mems (s : State) (i r o : Nat) (old v : Word) : (s.mbxWritten i r o old v).mems = s.mems :=
  by unfold State.mbxWritten; repeat' split; all_goals simp

@[simp] theorem State.sdfWritten_mems (s : State) (p o : Nat) (old : Word) : (s.sdfWritten p o old).mems = s.mems :=
  by unfold State.sdfWritten; repeat' split; all_goals simp

@[simp] theorem State.clkWritten_mems (s : State) (p o : Nat) (old v : Word) : (s.clkWritten p o old v).mems = s.mems :=
  by unfold State.clkWritten; split <;> simp

@[simp] theorem State.edgeWritten_mems (s : State) (p r o : Nat) (old v : Word) : (s.edgeWritten p r o old v).mems = s.mems :=
  by simp [State.edgeWritten]
@[simp] theorem State.calWritten_mems (s : State) (i o : Nat) (old v : Word) : (s.calWritten i o old v).mems = s.mems := by simp [State.calWritten]
@[simp] theorem State.ropeWritten_mems (s : State) (o : Nat) (old : Word) : (s.ropeWritten o old).mems = s.mems := by simp [State.ropeWritten]
@[simp] theorem State.portCntClr_mems (s : State) (p : Nat) : (s.portCntClr p).mems = s.mems := by simp [State.portCntClr]

@[simp] theorem State.pubWritten_mems (s : State) (r o : Nat) (old v : Word) (keep : Bool) : (s.pubWritten r o old v keep).mems = s.mems :=
  by simp [State.pubWritten]
@[simp] theorem State.hostWritten_mems (s : State) (o : Nat) (old v : Word) : (s.hostWritten o old v).mems = s.mems := by simp [State.hostWritten]

@[simp] theorem State.blockWritten_mems (s : State) (a r : Nat) (old v : Word) (keep : Bool) : (s.blockWritten a r old v keep).mems = s.mems :=
  by simp only [State.blockWritten]; split <;> simp

@[simp] theorem State.storeWrite_mems (s : State) (a : Nat) (v : Word) (keep : Bool) : (s.storeWrite a v keep).mems = s.mems :=
  by unfold State.storeWrite; split <;> simp
@[simp] theorem State.disarm_mems (s : State) (a r : Nat) : (s.disarm a r).mems = s.mems := by simp [State.disarm]

@[simp] theorem State.showOpen_mems (s : State) (r a : Nat) : (s.showOpen r a).2.mems = s.mems :=
  by unfold State.showOpen; repeat' split; all_goals simp
@[simp] theorem State.latchAll_mems (s : State) (r a : Nat) : (s.latchAll r a).mems = s.mems := by simp [State.latchAll]

@[simp] theorem State.readReg_mems (s : State) (r a : Nat) : (s.readReg r a).2.mems = s.mems :=
  by grind [State.readReg, State.mems, State.rtcNow_mems, State.captureTake_mems, State.setSnap_mems, State.latchAll_mems, State.showOpen_mems,
    State.rxTake_mems, State.mbLockRead_mems, State.setB_mems, State.dropSnap_mems]
@[simp] theorem State.localRead_mems (s : State) (r a : Nat) : (s.localRead r a).mems = s.mems := by simp [State.localRead]

/-! ### BootRecords -/

@[simp] theorem State.clampEntry_mems (s : State) (id ix reason : Nat) (a v w : Word) : (s.clampEntry id ix reason a v w).mems = s.mems :=
  by grind [State.clampEntry, State.mems, State.setErr_mems, State.satAdd_mems, State.wrapAdd_mems, State.updSettings_mems]
@[simp] theorem State.bootStore_mems (s : State) (a : Nat) (w : Word) : (s.bootStore a w).mems = s.mems := by simp [State.bootStore]

@[simp] theorem State.bootCommit_mems (s : State) (id p : Nat) (last : Option BootEntry) : (s.bootCommit id p last).mems = s.mems :=
  by unfold State.bootCommit; repeat' split; all_goals simp

/-! ### Modes -/
@[simp] theorem State.updPower_mems (s : State) (f : Power → Power) : (s.updPower f).mems = s.mems := (rfl)
@[simp] theorem State.updFabric_mems (s : State) (f : Fabric → Fabric) : (s.updFabric f).mems = s.mems := (rfl)
@[simp] theorem State.updCfg_mems (s : State) (f : CfgEngine → CfgEngine) : (s.updCfg f).mems = s.mems := (rfl)
@[simp] theorem State.quiescePort_mems (s : State) (p : Nat) : (s.quiescePort p).mems = s.mems := by simp [State.quiescePort]
@[simp] theorem State.quiesceAll_mems (s : State) : s.quiesceAll.mems = s.mems := by simp [State.quiesceAll]
@[simp] theorem State.unquiesce_mems (s : State) : s.unquiesce.mems = s.mems := (rfl)
@[simp] theorem State.holdFabric_mems (s : State) (on : Bool) : (s.holdFabric on).mems = s.mems := by simp [State.holdFabric]
@[simp] theorem State.toHold_mems (s : State) : s.toHold.mems = s.mems := by simp [State.toHold]
@[simp] theorem State.showBudgetStat_mems (s : State) : s.showBudgetStat.mems = s.mems := (rfl)
@[simp] theorem State.budgetDebit_mems (s : State) (cost : Nat) : (s.budgetDebit cost).mems = s.mems := (rfl)
@[simp] theorem State.budgetStepRequest_mems (s : State) (cost : Nat) : (s.budgetStepRequest cost).mems = s.mems := by simp [State.budgetStepRequest]

@[simp] theorem State.budgetRequest_mems (s : State) (costs : List Nat) (next : StartNext) : (s.budgetRequest costs next).2.mems = s.mems :=
  by simp only [State.budgetRequest]; split <;> simp
@[simp] theorem State.budgetRefill_mems (s : State) : s.budgetRefill.mems = s.mems := (rfl)
@[simp] theorem State.abortLong_mems (s : State) : s.abortLong.mems = s.mems := by simp [State.abortLong]

/-! ### Supply -/
@[simp] theorem State.setVin_mems (s : State) (vin : Nat) : (s.setVin vin).mems = s.mems := (rfl)
@[simp] theorem State.vinOv_mems (s : State) : s.vinOv.mems = s.mems := by simp [State.vinOv]
@[simp] theorem State.vinLowAsleep_mems (s : State) : s.vinLowAsleep.mems = s.mems := by simp [State.vinLowAsleep]
@[simp] theorem State.vinAboveWarn_mems (s : State) (vin : Nat) : (s.vinAboveWarn vin).mems = s.mems := by simp [State.vinAboveWarn]
@[simp] theorem State.railsUp_mems (s : State) : s.railsUp.mems = s.mems := (rfl)
@[simp] theorem State.noteRailFault_mems (s : State) (rail : Nat) (above : Bool) : (s.noteRailFault rail above).mems = s.mems := (rfl)
@[simp] theorem State.phaseFault_mems (s : State) (phase : Nat) : (s.phaseFault phase).mems = s.mems := by simp [State.phaseFault]
@[simp] theorem State.kMeasure_mems (s : State) (m : SupplySample) : (s.kMeasure m).mems = s.mems := by simp [State.kMeasure]
@[simp] theorem State.railCfgWritten_mems (s : State) : s.railCfgWritten.mems = s.mems := by simp [State.railCfgWritten]

/-! ### Domains -/
@[simp] theorem State.debugEnd_mems (s : State) : s.debugEnd.mems = s.mems := by simp [State.debugEnd]
@[simp] theorem State.resetRegs_mems (s : State) (p : Nat → Bool) : (s.resetRegs p).mems = s.mems := (rfl)
@[simp] theorem State.ctxBankLost_mems (s : State) (b : Nat) : (s.ctxBankLost b).mems = s.mems := by simp [State.ctxBankLost]
@[simp] theorem State.bankReport_mems (s : State) (b : Nat) : (s.bankReport b).mems = s.mems := by simp [State.bankReport]

/-! ### Image -/
@[simp] theorem State.putFrame_mems (s : State) (ix : Nat) (d : BitVec 4096) : (s.putFrame ix d).mems = s.mems := (rfl)
@[simp] theorem State.writeLogic_mems (s : State) (ix : Nat) (d : BitVec 4096) : (s.writeLogic ix d).mems = s.mems := by simp [State.writeLogic]
@[simp] theorem State.writeMemory_mems (s : State) (ix : Nat) (d : BitVec 4096) : (s.writeMemory ix d).mems = s.mems := (rfl)
@[simp] theorem State.frameReg_mems (s : State) (a : Nat) (w : Word) : (s.frameReg a w).mems = s.mems := by
  unfold State.frameReg
  split <;> simp
@[simp] theorem State.writeIo_mems (s : State) (ix : Nat) (d : BitVec 4096) : (s.writeIo ix d).mems = s.mems := by simp [State.writeIo]

@[simp] theorem State.writeBclk_mems (s : State) (m : Nat) (d : BitVec 4096) (take : Nat → Bool) : (s.writeBclk m d take).mems = s.mems :=
  by simp [State.writeBclk]
@[simp] theorem State.defineGroves_mems (s : State) : s.defineGroves.mems = s.mems := by simp [State.defineGroves]
@[simp] theorem State.setGroveState_mems (s : State) (g v : Nat) : (s.setGroveState g v).mems = s.mems := by simp [State.setGroveState]

@[simp] theorem State.writeClock_mems (s : State) (ix : Nat) (d : BitVec 4096) (take : Nat → Bool) : (s.writeClock ix d take).mems = s.mems :=
  by simp [State.writeClock]

@[simp] theorem State.writeFrame_mems (s : State) (ix : Nat) (d : BitVec 4096) (take : Nat → Bool) : (s.writeFrame ix d take).mems = s.mems :=
  by simp [State.writeFrame]
@[simp] theorem State.wipeBough_mems (s : State) (mem : Bool) (b : Nat) : (s.wipeBough mem b).mems = s.mems := by simp [State.wipeBough]
@[simp] theorem State.wipeAll_mems (s : State) : s.wipeAll.mems = s.mems := by simp [State.wipeAll]
@[simp] theorem State.wipeGrove_mems (s : State) (g : Nat) : (s.wipeGrove g).mems = s.mems := by simp [State.wipeGrove]

@[simp] theorem State.recordFail_mems (s : State) (cause : Nat) (fa : Word) (pkt src : Nat) (grove : Option Nat) :
    (s.recordFail cause fa pkt src grove).mems = s.mems := by simp [State.recordFail]
@[simp] theorem State.setCfgState_mems (s : State) (v : Nat) : (s.setCfgState v).mems = s.mems := (rfl)

/-! ### Load -/
@[simp] theorem State.updLoad_mems (s : State) (f : Load → Load) : (s.updLoad f).mems = s.mems := (rfl)
@[simp] theorem State.dropLoad_mems (s : State) : s.dropLoad.mems = s.mems := (rfl)
@[simp] theorem State.endWake_mems (s : State) : s.endWake.mems = s.mems := by
  unfold State.endWake
  repeat'
    split
    all_goals simp
@[simp] theorem State.finishWake_mems (s : State) : s.finishWake.mems = s.mems := by simp [State.finishWake]

@[simp] theorem State.endCall_mems (s : State) (svcs : List Nat) (result detail : Nat) (res : List Word) :
    (s.endCall svcs result detail res).mems = s.mems := by simp [State.endCall]

@[simp] theorem State.endFailed_mems (s : State) (result cause : Nat) (res : List Word) : (s.endFailed result cause res).mems = s.mems :=
  by simp [State.endFailed]
@[simp] theorem State.holdPorts_mems (s : State) (slots buses : List Nat) : (s.holdPorts slots buses).mems = s.mems := by simp [State.holdPorts]
@[simp] theorem State.holdAll_mems (s : State) : s.holdAll.mems = s.mems := by simp [State.holdAll]
@[simp] theorem State.groveHold_mems (s : State) (l : Load) (g : Nat) : (s.groveHold l g).mems = s.mems := by simp [State.groveHold]
@[simp] theorem State.wipeDone_mems (s : State) : s.wipeDone.mems = s.mems := by
  unfold State.wipeDone
  repeat'
    split
    all_goals simp
@[simp] theorem State.failHold_mems (s : State) (noImage : Bool) : (s.failHold noImage).mems = s.mems := by simp [State.failHold]
@[simp] theorem State.unloaded_mems (s : State) : s.unloaded.mems = s.mems := by simp [State.unloaded]

@[simp] theorem State.failFull_mems (s : State) (l : Load) (cause : Nat) (fa : Word) : (s.failFull l cause fa).mems = s.mems :=
  by simp [State.failFull]

@[simp] theorem State.failGrove_mems (s : State) (l : Load) (g cause : Nat) (fa : Word) : (s.failGrove l g cause fa).mems = s.mems :=
  by simp [State.failGrove]

@[simp] theorem State.failLoad_mems (s : State) (l : Load) (cause : Nat) (fa : Option Word) : (s.failLoad l cause fa).mems = s.mems := by
  cases fa <;> simp only [State.failLoad] <;> split <;> simp

@[simp] theorem State.packetTaken_mems (s : State) (len : Nat) (d : List Byte) : (s.packetTaken len d).mems = s.mems :=
  by simp only [State.packetTaken]; split <;> simp
@[simp] theorem State.streamEnded_mems (s : State) : s.streamEnded.mems = s.mems := by simp [State.streamEnded]

@[simp] theorem State.loadWrites_mems (s : State) (l : Load) (ix : Nat) (d : BitVec 4096) : (s.loadWrites l ix d).mems = s.mems :=
  by simp [State.loadWrites]
@[simp] theorem State.releaseRank_mems (s : State) : s.releaseRank.mems = s.mems := by
  unfold State.releaseRank
  split <;> simp
@[simp] theorem State.openPorts_mems (s : State) : s.openPorts.mems = s.mems := by simp [State.openPorts]
@[simp] theorem State.releasePorts_mems (s : State) : s.releasePorts.mems = s.mems := by
  unfold State.releasePorts
  split <;> simp
@[simp] theorem State.releasePins_mems (s : State) : s.releasePins.mems = s.mems := by
  unfold State.releasePins
  split <;> simp
@[simp] theorem State.showRollback_mems (s : State) : s.showRollback.mems = s.mems := (rfl)
@[simp] theorem State.showBootPend_mems (s : State) : s.showBootPend.mems = s.mems := by
  simp only [State.showBootPend]
  split <;> simp
@[simp] theorem State.groupAdmission_mems (s : State) : s.groupAdmission.mems = s.mems := by simp [State.groupAdmission]
@[simp] theorem State.showLoaded_mems (s : State) (l : Load) : (s.showLoaded l).mems = s.mems := by simp [State.showLoaded]
@[simp] theorem State.groveDone_mems (s : State) (l : Load) (g : Nat) : (s.groveDone l g).mems = s.mems := by simp [State.groveDone]
@[simp] theorem State.headerFailed_mems (s : State) (bank cause : Nat) : (s.headerFailed bank cause).mems = s.mems := by simp [State.headerFailed]

/-! ### ImageCalls -/

@[simp] theorem State.readbackCall_mems (s : State) (c : Call) : (s.readbackCall c).mems = s.mems :=
  by unfold State.readbackCall; repeat' split; all_goals simp
@[simp] theorem State.refreshCells_mems (s : State) (b : Nat) : (s.refreshCells b).mems = s.mems := by simp [State.refreshCells]

@[simp] theorem State.recordUpset_mems (s : State) (ix : Nat) (bits word : Nat) (checkOnly repaired essential : Bool) :
    (s.recordUpset ix bits word checkOnly repaired essential).mems = s.mems := by simp [State.recordUpset]
@[simp] theorem State.noteEssential_mems (s : State) (ix : Nat) : (s.noteEssential ix).mems = s.mems := by simp [State.noteEssential]

@[simp] theorem State.upsetFound_mems (s : State) (ix : Nat) (u : BitVec 4096) (uc : Word) (fetched : Bool) :
    (s.upsetFound ix u uc fetched).mems = s.mems := by unfold State.upsetFound; repeat' split; all_goals simp
@[simp] theorem State.scrubNext_mems (s : State) : s.scrubNext.mems = s.mems := by simp [State.scrubNext]

@[simp] theorem State.scrubFrame_mems (s : State) (flips : BitVec 4096) (checkFlips : Word) (fetched : Bool) :
    (s.scrubFrame flips checkFlips fetched).mems = s.mems := by simp [State.scrubFrame]

/-! ### Lifecycle -/
@[simp] theorem State.lcShow_mems (s : State) : s.lcShow.mems = s.mems := by simp [State.lcShow]

@[simp] theorem State.tokenCheck_mems (s : State) (c : Call) (w : Nat) : (s.tokenCheck c w).2.mems = s.mems :=
  by grind [State.tokenCheck, State.mems, State.raise_mems, State.setErr_mems, State.setF_mems, State.setB_mems]
@[simp] theorem State.endFull_mems (s : State) : s.endFull.mems = s.mems := by simp [State.endFull]

@[simp] theorem State.debugOpenCall_mems (s : State) (c : Call) : (s.debugOpenCall c).mems = s.mems :=
  by unfold State.debugOpenCall; repeat' split; all_goals simp
@[simp] theorem State.debugCloseCall_mems (s : State) (c : Call) : (s.debugCloseCall c).mems = s.mems := by simp [State.debugCloseCall]
@[simp] theorem State.debugTimeout_mems (s : State) : s.debugTimeout.mems = s.mems := by simp [State.debugTimeout]
@[simp] theorem State.debugSecond_mems (s : State) : s.debugSecond.mems = s.mems := by simp [State.debugSecond]

@[simp] theorem State.guideCall_mems (s : State) (words : List Word) : (s.guideCall words).mems = s.mems :=
  by simp only [State.guideCall]; split <;> simp

/-! ### Pitch -/
@[simp] theorem State.showPitch_mems (s : State) (e : Word) (req busy : Bool) : (s.showPitch e req busy).mems = s.mems := by simp [State.showPitch]
@[simp] theorem State.pitchAnswer_mems (s : State) : s.pitchAnswer.mems = s.mems := by simp [State.pitchAnswer]
@[simp] theorem State.pitchNotRun_mems (s : State) (p : Pitch) : (s.pitchNotRun p).mems = s.mems := by simp [State.pitchNotRun]
@[simp] theorem State.beginPitch_mems (s : State) (p : Pitch) : (s.beginPitch p).mems = s.mems := by simp [State.beginPitch]
@[simp] theorem State.pitchGrant_mems (s : State) (p : Pitch) : (s.pitchGrant p).mems = s.mems := by simp [State.pitchGrant]
@[simp] theorem State.nextGroup_mems (s : State) (late : Bool) : (s.nextGroup late).mems = s.mems := by simp [State.nextGroup]
@[simp] theorem State.periodicStart_mems (s : State) (late : Bool) : (s.periodicStart late).mems = s.mems := by simp [State.periodicStart]
@[simp] theorem State.fullStart_mems (s : State) : s.fullStart.mems = s.mems := by simp [State.fullStart]

@[simp] theorem State.pitchStart_mems (s : State) : s.pitchStart.mems = s.mems :=
  by grind [State.pitchStart, State.mems, State.pitchGrant_mems, State.beginPitch_mems, State.dropCheck_mems, State.updBist_mems,
    State.periodicStart_mems, State.fullStart_mems]
@[simp] theorem State.periodicPitch_mems (s : State) (late : Bool) : (s.periodicPitch late).mems = s.mems := by simp [State.periodicPitch]
@[simp] theorem State.grantTimeout_mems (s : State) : s.grantTimeout.mems = s.mems := by
  unfold State.grantTimeout
  split <;> simp
@[simp] theorem State.pitchRetry_mems (s : State) (e : Word) : (s.pitchRetry e).mems = s.mems := by
  unfold State.pitchRetry
  split <;> simp
@[simp] theorem State.holdoffEnd_mems (s : State) : s.holdoffEnd.mems = s.mems := (rfl)
@[simp] theorem State.dbeTimeout_mems (s : State) (e : Word) : (s.dbeTimeout e).mems = s.mems := by
  unfold State.dbeTimeout
  split <;> simp
@[simp] theorem State.linkChecks_mems (s old : State) : (s.linkChecks old).mems = s.mems := by simp [State.linkChecks]
@[simp] theorem State.pitchStop_mems (s : State) : s.pitchStop.mems = s.mems := by
  unfold State.pitchStop
  split <;> simp
@[simp] theorem State.pitchRun_mems (s : State) (c : Call) : (s.pitchRun c).mems = s.mems := by simp [State.pitchRun]
@[simp] theorem State.pitchSchedule_mems (s : State) (c : Call) : (s.pitchSchedule c).mems = s.mems := by simp [State.pitchSchedule]

/-! ### Start -/
@[simp] theorem State.latchTime_mems (s : State) : s.latchTime.mems = s.mems := (rfl)
@[simp] theorem State.timeLatch_mems (s : State) (sub : Nat) : (s.timeLatch sub).mems = s.mems := by simp [State.timeLatch]
@[simp] theorem State.rebuild_mems (s : State) : s.rebuild.mems = s.mems := by
  unfold State.rebuild
  split <;> simp
@[simp] theorem State.keepAon_mems (s old : State) : (s.keepAon old).mems = s.mems := by simp [State.keepAon]
@[simp] theorem State.wakeBlocks_mems (s : State) : s.wakeBlocks.mems = s.mems := by simp [State.wakeBlocks]
@[simp] theorem State.sourcesUp_mems (s : State) : s.sourcesUp.mems = s.mems := (rfl)
@[simp] theorem State.heldEnables_mems (s : State) : s.heldEnables.mems = s.mems := (rfl)
@[simp] theorem State.applyRepairs_mems (s : State) : s.applyRepairs.mems = s.mems := by simp [State.applyRepairs]
@[simp] theorem State.showHeart_mems (s : State) : s.showHeart.mems = s.mems := by simp [State.showHeart]
@[simp] theorem State.noteUnbraced_mems (s : State) : s.noteUnbraced.mems = s.mems := by simp [State.noteUnbraced]
@[simp] theorem State.reportFaults_mems (s : State) : s.reportFaults.mems = s.mems := by simp [State.reportFaults]

/-! ### Power -/
@[simp] theorem State.enterStart_mems (s : State) (target : Nat) (c : Call) : (s.enterStart target c).mems = s.mems := by simp [State.enterStart]
@[simp] theorem State.setPassed_mems (s : State) (n : Nat) : (s.setPassed n).mems = s.mems := (rfl)
@[simp] theorem State.enterLoop_mems (s : State) : s.enterLoop.mems = s.mems := by simp [State.enterLoop]
@[simp] theorem State.enterPins_mems (s : State) : s.enterPins.mems = s.mems := by simp [State.enterPins]
@[simp] theorem State.signBanks_mems (s : State) : s.signBanks.mems = s.mems := (rfl)
@[simp] theorem State.enterArm_mems (s : State) : s.enterArm.mems = s.mems := by simp [State.enterArm]
@[simp] theorem State.modeDone_mems (s : State) (m : Nat) : (s.modeDone m).mems = s.mems := (rfl)
@[simp] theorem State.undoEntry_mems (s : State) (e : Entry) (hold : Bool) : (s.undoEntry e hold).mems = s.mems := by simp [State.undoEntry]
@[simp] theorem State.entryUndo_mems (s : State) : s.entryUndo.mems = s.mems := by
  unfold State.entryUndo
  split <;> simp

@[simp] theorem State.noteCause_mems (s : State) (b : Nat) (pin : Option Nat) : (s.noteCause b pin).mems = s.mems :=
  by unfold State.noteCause; split <;> simp
@[simp] theorem State.lateCause_mems (s : State) (b : Nat) (en : Bool) : (s.lateCause b en).mems = s.mems := by simp [State.lateCause]
@[simp] theorem State.holdEnter_mems (s : State) (c : Call) : (s.holdEnter c).mems = s.mems := by
  unfold State.holdEnter
  split <;> simp
@[simp] theorem State.railRetry_mems (s : State) : s.railRetry.mems = s.mems := by simp [State.railRetry]
@[simp] theorem State.guideWait_mems (s : State) : s.guideWait.mems = s.mems := by simp [State.guideWait]

/-! ### SystemCalls -/
@[simp] theorem State.calendarSecond_mems (s : State) (tj : Int) : (s.calendarSecond tj).mems = s.mems := by simp [State.calendarSecond]
@[simp] theorem State.svcInfo_mems (s : State) (c : Call) : (s.svcInfo c).mems = s.mems := by simp [State.svcInfo]
@[simp] theorem State.pageOwnerCall_mems (s : State) (c : Call) : (s.pageOwnerCall c).mems = s.mems := by simp [State.pageOwnerCall]
@[simp] theorem State.pinOwnerCall_mems (s : State) (c : Call) : (s.pinOwnerCall c).mems = s.mems := by simp [State.pinOwnerCall]
@[simp] theorem State.xtalFailed_mems (s : State) : s.xtalFailed.mems = s.mems := by simp [State.xtalFailed]

/-! ### RopeServe -/

@[simp] theorem State.remoteWrite_mems (s : State) (r n a : Nat) (v : Word) : (s.remoteWrite r n a v).mems = s.mems :=
  by unfold State.remoteWrite; repeat' split; all_goals simp
@[simp] theorem State.setPeer_mems (s : State) (n : Nat) (p : Peer) : (s.setPeer n p).mems = s.mems := (rfl)

@[simp] theorem State.peerEpoch_mems (s : State) (n : Nat) (e : BitVec 16) : (s.peerEpoch n e).mems = s.mems :=
  by simp only [State.peerEpoch]; split <;> simp
@[simp] theorem State.performed_mems (s : State) (f : AccFrame) (e : BitVec 16) (b : AccBody) : (s.performed f e b).mems = s.mems := (rfl)
@[simp] theorem State.readRemote_mems (s : State) (n a : Nat) : (s.readRemote n a).2.mems = s.mems := by simp [State.readRemote]

@[simp] theorem State.postRemote_mems (s : State) (n m : Nat) (e : BitVec 16) (words : List Word) : (s.postRemote n m e words).2.mems = s.mems :=
  by grind [State.postRemote, State.mems, State.postResult_mems, State.mbTryPost_mems, State.setPeer_mems]

@[simp] theorem State.mbxAckIn_mems (s : State) (f : AccFrame) : (s.mbxAckIn f).mems = s.mems := by
  simp only [State.mbxAckIn]
  repeat' split
  all_goals simp

/-! ### Commands -/

@[simp] theorem State.commitUpdate_mems (s : State) (p : Nat) : (s.commitUpdate p).mems = s.mems :=
  by grind [State.commitUpdate, State.mems, State.timeTransfer_mems, State.edgeCommit_mems, State.settlePins_mems, State.commitTransfer_mems,
    State.alarmNow_mems]
@[simp] theorem State.timeOp_mems (s : State) (op : Nat) : (s.timeOp op).mems = s.mems := by simp [State.timeOp]
@[simp] theorem State.ppsEdge_mems (s : State) (t : DevTime) : (s.ppsEdge t).mems = s.mems := by simp [State.ppsEdge]
@[simp] theorem State.servoMeasure_mems (s : State) : s.servoMeasure.mems = s.mems := by simp [State.servoMeasure]
@[simp] theorem State.crossing_mems (s : State) (k : CrossTarget) : (s.crossing k).mems = s.mems := by
  unfold State.crossing
  split <;> simp
@[simp] theorem State.fabricEvent_mems (s : State) (e : Nat) : (s.fabricEvent e).mems = s.mems := by simp [State.fabricEvent]
@[simp] theorem State.bramError_mems (s : State) (b n row : Nat) (dbe : Bool) : (s.bramError b n row dbe).mems = s.mems := by simp [State.bramError]
@[simp] theorem State.perstAssert_mems (s : State) : s.perstAssert.mems = s.mems := by simp [State.perstAssert]
@[simp] theorem State.perstRelease_mems (s : State) : s.perstRelease.mems = s.mems := by simp [State.perstRelease]
@[simp] theorem State.rdRspIn_mems (s : State) (f : AccFrame) : (s.rdRspIn f).mems = s.mems := by
  unfold State.rdRspIn
  split <;> simp
@[simp] theorem State.wrAckIn_mems (s : State) (f : AccFrame) : (s.wrAckIn f).mems = s.mems := by
  unfold State.wrAckIn
  split <;> simp
@[simp] theorem State.nakIn_mems (s : State) (f : AccFrame) : (s.nakIn f).mems = s.mems := by
  unfold State.nakIn
  split <;> simp

@[simp] theorem State.portRequest_mems (s : State) (p a : Nat) (write line : Bool) (be : BitVec 64) (data : BitVec 512) (close fence : Bool) (tag :
    BitVec 6) : (s.portRequest p a write line be data close fence tag).mems = s.mems := by simp [State.portRequest]

@[simp] theorem State.jtagScan_mems (s : State) (code : Nat) (cells : List (BitVec 10 × Bool × Bool)) : (s.jtagScan code cells).mems = s.mems :=
  by simp [State.jtagScan]

end Sys2Proof.Machine
end

section
/-! What a step may do to the memories: it clears no OTP bit and keeps their canonical form. -/

namespace Sys2Proof.Machine

/-- The canonical form of the memories. -/
def Mems.wf (m : Mems) : Bool :=
  SMap.wf (fun _ => 0) m.dram && SMap.wf (fun _ => 0xFF) m.flash && SMap.wf (Config.otpShipped m.otp.variant) m.otp.words &&
    SMap.wf (Config.otpShipped m.otp.variant) m.otp.shadow

/-- A word of the OTP. -/
def Mems.cell (m : Mems) (w : Nat) : BitVec 64 := SMap.get (Config.otpShipped m.otp.variant) m.otp.words w

/-- The memories n come from the memories m by steps that clear no OTP bit and keep the canonical form. -/
def MemKept (m n : Mems) : Prop := (∀ w, m.cell w &&& n.cell w = m.cell w) ∧ (m.wf = true → n.wf = true)

theorem memKept_iff (s t : State) : MemKept s.mems t.mems ↔ OtpKept s t ∧ (Memory.wf s = true → Memory.wf t = true) := Iff.rfl

namespace MemKept

variable {m : Mems} {s t : State}

@[refl, simp] theorem refl (m : Mems) : MemKept m m := ⟨fun _ => BitVec.and_self, id⟩

theorem trans {m n k : Mems} (h1 : MemKept m n) (h2 : MemKept n k) : MemKept m k :=
  ⟨fun w => by rw [← h1.1 w, BitVec.and_assoc, h2.1 w], fun h => h2.2 (h1.2 h)⟩

/-- What leaves the OTP alone and keeps the canonical form. -/
theorem of_otp (h : MemKept m s.mems) (ho : t.otp = s.otp) (hw : Memory.wf s = true → Memory.wf t = true) : MemKept m t.mems :=
  h.trans ⟨OtpKept.of_eq ho, hw⟩

theorem foldl_of {α β : Type} {g : β → State} {f : β → α → β} (hf : ∀ b x, MemKept m (g b).mems → MemKept m (g (f b x)).mems)
    (l : List α) {b : β} (h : MemKept m (g b).mems) : MemKept m (g (l.foldl f b)).mems := by
  induction l generalizing b with
  | nil => exact h
  | cons x l ih => exact ih (hf b x h)

theorem foldl {α : Type} {f : State → α → State} (hf : ∀ t x, MemKept m t.mems → MemKept m (f t x).mems) (l : List α)
    (h : MemKept m s.mems) : MemKept m (l.foldl f s).mems := foldl_of (g := id) hf l h

/-- The DRAM content is lost. -/
theorem noDram {d f : SMap Byte} {o : Otp} (h : MemKept m ⟨d, f, o⟩) : MemKept m ⟨[], f, o⟩ :=
  h.trans ⟨fun _ => BitVec.and_self, fun hw => by simp_all [Mems.wf, SMap.wf]⟩

/-- The flash of one state beside the DRAM and the OTP of another. -/
theorem withFlash {d d' f f' : SMap Byte} {o o' : Otp} (h : MemKept m ⟨d, f, o⟩) (h' : MemKept m ⟨d', f', o'⟩) : MemKept m ⟨d, f', o⟩ :=
  ⟨h.1, fun hw => by
    have h1 := h.2 hw
    have h2 := h'.2 hw
    simp_all [Mems.wf]⟩

end MemKept

end Sys2Proof.Machine
end

section
/-! The memories kept: what programs, erases and retires flash, programs the OTP, and writes the heartwood (R424 to R433, R437, R524). -/

namespace Sys2Proof.Machine

namespace MemKept

theorem flashWrite {m : Mems} {s : State} (h : MemKept m s.mems) (a : Nat) (l : List Byte) : MemKept m (s.flashWrite a l).mems := by
  refine h.of_otp ?_ (State.flashWrite_wf l s a)
  clear h
  induction l generalizing s a with
  | nil => rfl
  | cons b l ih => exact ih (s := s.updFlash _) _

theorem wipeSector {m : Mems} {s : State} (h : MemKept m s.mems) (sec : Nat) : MemKept m (s.wipeSector sec).mems :=
  h.of_otp rfl (s.wipeSector_wf sec)

theorem retireSector {m : Mems} {s : State} (h : MemKept m s.mems) (sec : Nat) : MemKept m (s.retireSector sec).mems := by
  refine h.of_otp ?_ (s.retireSector_wf sec)
  simp only [State.retireSector]
  split <;> simp [State.setStatus, State.countErase]

theorem eraseSector {m : Mems} {s : State} (h : MemKept m s.mems) (sec : Nat) : MemKept m (s.eraseSector sec).mems := by
  have h1 : MemKept m (((s.wipeSector sec).countErase (s.physSector sec)).setStatus sec 0).mems := by simpa using wipeSector h sec
  simp only [State.eraseSector]
  split
  · exact retireSector h1 _
  · exact h1

theorem otpProgram {m : Mems} {s : State} (h : MemKept m s.mems) (w : Nat) (v : BitVec 64) : MemKept m (s.otpProgram w v).mems :=
  h.trans ⟨s.otpProgram_kept w v, s.otpProgram_wf w v⟩

theorem otpReload {m : Mems} {s : State} (h : MemKept m s.mems) : MemKept m s.otpReload.mems :=
  h.trans ⟨fun _ => BitVec.and_self, s.otpReload_wf⟩

theorem otpFollow {m : Mems} {s : State} (h : MemKept m s.mems) (w : Nat) : MemKept m (s.otpFollow w).mems :=
  h.trans ⟨fun _ => BitVec.and_self, s.otpFollow_wf w⟩

theorem heartPut {m : Mems} {s : State} (h : MemKept m s.mems) (ty arg : Nat) (data : List Byte) : MemKept m (s.heartPut ty arg data).mems := by
  simpa [State.heartPut] using flashWrite h s.heartLine (heartEntry ty (s.heart.seq + 1).toNat arg data)

theorem heartPieces {m : Mems} {s : State} (h : MemKept m s.mems) (p : Nat) : MemKept m (s.heartPieces p).mems :=
  foldl (fun _ _ ht => heartPut ht _ _ _) _ h

theorem heartRebase {m : Mems} {s : State} (h : MemKept m s.mems) : MemKept m s.heartRebase.mems := by
  unfold State.heartRebase
  extract_lets first copy src0 s0 seq0 s1 s2 s3 s4 s5 src6 s6 s7 used t
  have h2 : MemKept m s2.mems := foldl (fun _ _ ht => heartPut ht _ _ _) _ (heartPut (s := s0) h _ _ _)
  have h5 : MemKept m s5.mems := heartPut (heartPut (heartPut h2 _ _ _) _ _ _) _ _ _
  have h7 : MemKept m s7.mems := by rwa [State.setF_mems]
  split
  · exact h7
  · split
    · exact heartPieces (eraseSector h7 _) _
    · exact h7

theorem heartRoom {m : Mems} {s : State} (h : MemKept m s.mems) (n : Nat) : MemKept m (s.heartRoom n).mems := by
  unfold State.heartRoom
  split <;> simp [heartRebase, h]

theorem heartWrite {m : Mems} {s : State} (h : MemKept m s.mems) {f : State → State}
    (hf : ∀ {t : State}, MemKept m t.mems → MemKept m (f t).mems) : MemKept m (s.heartWrite f).mems := by
  unfold State.heartWrite
  split
  · simpa using h
  · exact hf h

theorem heartCount {m : Mems} {s : State} (h : MemKept m s.mems) (clean : Bool) : MemKept m (s.heartCount clean).mems := by
  grind [State.heartCount, State.mems_mk, State.mems_eta, ← heartPut, ← heartRoom, ← heartWrite]

theorem heartErase {m : Mems} {s : State} (h : MemKept m s.mems) (sec : Nat) : MemKept m (s.heartErase sec).mems := by
  grind [State.heartErase, State.mems_mk, State.mems_eta, ← heartPieces, ← heartRoom, ← heartWrite]

theorem heartRepair {m : Mems} {s : State} (h : MemKept m s.mems) (r : Repair) : MemKept m (s.heartRepair r).mems := by
  grind [State.heartRepair, State.mems_mk, State.mems_eta, State.updHeart_mems, ← heartPut, ← heartRoom, ← heartWrite]

theorem heartBrace {m : Mems} {s : State} (h : MemKept m s.mems) (t0 : DevTime) (vin : Nat) : MemKept m (s.heartBrace t0 vin).mems := by
  simp only [State.heartBrace]
  split <;> simp [heartPut, heartRoom, h]

theorem heartLate {m : Mems} {s : State} (h : MemKept m s.mems) : MemKept m s.heartLate.mems := by
  unfold State.heartLate
  split
  · extract_lets src s1
    have h1 : MemKept m s1.mems := by simpa [s1] using h
    split
    · exact heartCount h1 _
    · exact heartRebase h1
  · exact h

theorem failElem {m : Mems} {s : State} (h : MemKept m s.mems) (e : Word) (src : Nat) : MemKept m (s.failElem e src).2.mems := by
  grind [State.failElem, State.mems_mk, State.mems_eta, State.setErr_mems, State.showRepairs_mems, State.retireElem_mems, ← heartRepair]

theorem endCheck {m : Mems} {s : State} (h : MemKept m s.mems) (e : Word) (src : Nat) (bad : Bool) : MemKept m (s.endCheck e src bad).mems := by
  unfold State.endCheck
  repeat'
    split
    all_goals simp [failElem, h]

end MemKept

end Sys2Proof.Machine
end

section
/-! The memories kept: what DRAM writes, reads, training and self-refresh do to the content. -/

namespace Sys2Proof.Machine

namespace MemKept

theorem dramPut {m : Mems} {s : State} (h : MemKept m s.mems) (a : Nat) (l : List Byte) : MemKept m (s.dramPut a l).mems :=
  h.of_otp (s.dramPut_traffic l a).otp (State.dramPut_wf l s a)

theorem dramStore {m : Mems} {s : State} (h : MemKept m s.mems) (a : Nat) (r : BitVec 72) : MemKept m (s.dramStore a r).mems := by
  simp [State.dramStore, dramPut, h]

theorem dramStoreWord {m : Mems} {s : State} (h : MemKept m s.mems) (a : Nat) (d : BitVec 64) : MemKept m (s.dramStoreWord a d).mems := by
  simp [State.dramStoreWord, dramStore, h]

theorem upsetWords {m : Mems} {s : State} (h : MemKept m s.mems) (line : Nat) (ups : List (BitVec 3 × BitVec 72)) :
    MemKept m (s.upsetWords line ups).mems :=
  foldl (fun _ _ ht => dramStore ht _ _) _ h

theorem lineWords {m : Mems} {line req : Nat} {q : Bool} (l : List Nat) {acc : BitVec 512 × Bool × Bool × State} (h : MemKept m acc.2.2.2.mems) :
    MemKept m (l.foldl (lineWord line req q) acc).2.2.2.mems :=
  foldl_of (g := fun acc : BitVec 512 × Bool × Bool × State => acc.2.2.2) (fun _ _ hb => by simpa [lineWord] using hb) l h

theorem readLine {m : Mems} {s : State} (h : MemKept m s.mems) (line req : Nat) : MemKept m (s.readLine line req).2.2.mems := by
  unfold State.readLine
  extract_lets due
  have hw := lineWords (line := line) (req := req) (q := due.isNone) (List.range 8) (acc := (0, false, false, s)) h
  generalize (List.range 8).foldl (lineWord line req due.isNone) (0, false, false, s) = r at hw ⊢
  obtain ⟨d, bad, err, t⟩ := r
  cases due with
  | none => exact hw
  | some c => exact endCheck hw _ _ _

theorem dramWriteWord {m : Mems} {s : State} (h : MemKept m s.mems) (a be req : Nat) (d : BitVec 64) : MemKept m (s.dramWriteWord a be req d).mems :=
  h.of_otp (s.dramWriteWord_traffic a be req d).otp (s.dramWriteWord_wf a be req d)

theorem dramWrite {m : Mems} {s : State} (h : MemKept m s.mems) (r : DramReq) : MemKept m (s.dramWrite r).mems :=
  h.of_otp (s.dramWrite_traffic r).otp (s.dramWrite_wf r)

theorem drainRange {m : Mems} {s : State} (h : MemKept m s.mems) (a n : Nat) : MemKept m (s.drainRange a n).mems := by
  simp only [State.drainRange, State.updDram_mems]
  exact foldl (fun _ _ ht => dramWrite ht _) _ h

theorem dramCommand {m : Mems} {s : State} (h : MemKept m s.mems) (r : DramReq) : MemKept m (s.dramCommand r).mems := by
  unfold State.dramCommand
  repeat'
    split
    all_goals simp [dramWrite, h]

theorem dramIssue {m : Mems} {s : State} (h : MemKept m s.mems) (ready : List Nat) : MemKept m (s.dramIssue ready).mems := by
  grind [State.dramIssue, State.mems_mk, State.mems_eta, ← dramCommand]

theorem dramReadDone {m : Mems} {s : State} (h :
    MemKept m s.mems) (seq : Nat) (ups : List (BitVec 3 × BitVec 72)) : MemKept m (s.dramReadDone seq ups).mems := by
  unfold State.dramReadDone
  split
  · exact h
  · next r _ =>
    have hl := readLine (upsetWords h (r.addr / 64 * 64) ups) (r.addr / 64 * 64) (portRequester r.port)
    simp only [State.admitWaiting_mems, State.answerPort_mems, State.updDram_mems]
    generalize (s.upsetWords (r.addr / 64 * 64) ups).readLine _ _ = x at hl ⊢
    exact hl

theorem drainWrites {m : Mems} {s : State} (h : MemKept m s.mems) : MemKept m s.drainWrites.mems := by
  simp only [State.drainWrites, State.updDram_mems]
  exact foldl (fun _ _ ht => dramWrite ht _) _ h

theorem trainedContent {m : Mems} {s : State} (h : MemKept m s.mems) : MemKept m s.trainedContent.mems := by
  unfold State.trainedContent
  split
  · exact h
  · exact noDram h

theorem selfRefresh {m : Mems} {s : State} (h : MemKept m s.mems) (b : Bool) : MemKept m (s.selfRefresh b).mems := by
  unfold State.selfRefresh
  split
  · exact h
  · extract_lets s0 s1 s2
    have h0 : MemKept m s0.mems := by
      unfold s0
      split <;> simp [trainedContent, h]
    simpa [s2] using drainWrites h0

theorem trainingDone {m : Mems} {s : State} (h : MemKept m s.mems) (sweeps : List (BitVec 128 × BitVec 128)) :
    MemKept m (s.trainingDone sweeps).mems := by
  unfold State.trainingDone
  split
  · exact h
  · have hlanes : ∀ l : List Nat, MemKept m (l.foldl (fun (acc : Bool × State) i =>
        let w := sweeps.getD i (0, 0)
        let (g, t) := acc.2.trainLane (i / 9) (i % 9) w.1 w.2
        (acc.1 && g, t)) (true, s)).2.mems := fun l =>
      foldl_of (g := fun acc : Bool × State => acc.2) (fun _ _ hb => by simpa using hb) l h
    specialize hlanes (List.range (9 * s.dramRanks))
    split
    rename_i ok s1 hr
    rw [hr] at hlanes
    have h2 := trainedContent hlanes
    simp only
    split
    · split
      · simpa using h2
      · simpa using selfRefresh (by simpa using h2) _
    · simpa using h2

theorem dramDisable {m : Mems} {s : State} (h : MemKept m s.mems) : MemKept m s.dramDisable.mems := by
  unfold State.dramDisable
  split <;> simp [selfRefresh, h]

theorem servePort {m : Mems} {s : State} (h : MemKept m s.mems) (p : Nat) : MemKept m (s.servePort p).mems := by
  simp only [State.servePort, State.answerPort_mems]
  refine foldl (fun t r ht => ?_) _ (by simpa using h)
  have hl := readLine ht (r.addr / 64 * 64) (portRequester p)
  split
  · simpa using dramWrite ht r
  · simp only [State.updDram_mems]
    generalize t.readLine _ _ = x at hl ⊢
    exact hl

theorem bufferGet {m : Mems} {s : State} (h : MemKept m s.mems) (a n : Nat) : MemKept m (s.bufferGet a n).2.mems := by
  unfold State.bufferGet
  split
  · exact h
  · exact foldl_of (g := fun acc : List Byte × Bool × State => acc.2.2) (fun _ _ hb => by simpa using hb) _
      (drainRange (servePort h 8) a n)

theorem bufferWrite {m : Mems} {s : State} (h : MemKept m s.mems) (port req a : Nat) (bytes : List Byte) :
    MemKept m (s.bufferWrite port req a bytes).mems :=
  foldl (fun _ _ ht => dramWriteWord (by simpa using ht) _ _ _ _) _ (drainRange (servePort h port) a _)

theorem bufferPut {m : Mems} {s : State} (h : MemKept m s.mems) (a : Nat) (bytes : List Byte) : MemKept m (s.bufferPut a bytes).mems := by
  simp [State.bufferPut, bufferWrite, h]

theorem bufferFrames {m : Mems} {s : State} (h : MemKept m s.mems) (a : Nat) (bytes : List Byte) : MemKept m (s.bufferFrames a bytes).mems := by
  simp [State.bufferFrames, bufferWrite, h]

end MemKept

end Sys2Proof.Machine
end

section
/-! The memories kept: the settings store and the calls and pulses of flash (R424 to R448). -/

namespace Sys2Proof.Machine

namespace MemKept

theorem serve {m : Mems} {s : State} (h : MemKept m s.mems) (svc : Nat) (c : Call) {body : State → State}
    (hb : ∀ {t : State}, MemKept m t.mems → MemKept m (body t).mems) : MemKept m (s.serve svc c body).mems := by
  unfold State.serve
  split
  · exact h
  · extract_lets s1
    have h1 : MemKept m s1.mems := by simpa [s1] using h
    split
    · exact h1
    · split
      · simpa using h1
      · exact hb h1

theorem putLines {m : Mems} {s : State} (h : MemKept m s.mems) (n : Nat) (bytes : List Byte) : MemKept m (s.putLines n bytes).mems := by
  induction n generalizing s bytes with
  | zero => exact h
  | succ k ih => exact ih (by simpa using flashWrite h _ _) _

theorem putTx {m : Mems} {s : State} (h : MemKept m s.mems) (recs : List SetRec) : MemKept m (s.putTx recs).mems := by simp [State.putTx, putLines, h]

theorem compact {m : Mems} {s : State} (h : MemKept m s.mems) : MemKept m s.compact.mems := by
  unfold State.compact
  split
  · exact h
  · extract_lets mine live s1 s2
    have h1 : MemKept m s1.mems := foldl (fun _ _ ht => putTx ht _) _ h
    simpa using heartErase (s := s2) (by simpa [s2] using eraseSector h1 _) _

theorem compaction {m : Mems} {s : State} (h : MemKept m s.mems) : MemKept m s.compaction.mems := by
  unfold State.compaction
  split <;> simp [compact, h]

theorem writeCommit {m : Mems} {s : State} (h : MemKept m s.mems) (recs : List SetRec) : MemKept m (s.writeCommit recs).mems := by
  unfold State.writeCommit
  split <;> simp [putTx, compact, h]

theorem commitRecs {m : Mems} {s : State} (h :
    MemKept m s.mems) (caller : Nat) (recs : List SetRec) : MemKept m (s.commitRecs caller recs).2.2.mems := by
  unfold State.commitRecs
  repeat'
    split
    all_goals simp [writeCommit, h]

theorem flushDeferred {m : Mems} {s : State} (h : MemKept m s.mems) : MemKept m s.flushDeferred.mems := by
  unfold State.flushDeferred
  split
  · exact h
  · simpa using foldl (fun _ _ ht => writeCommit ht _) s.settings.deferred h

theorem writeDeferred {m : Mems} {s : State} (h : MemKept m s.mems) (tj : Int) : MemKept m (s.writeDeferred tj).mems := by
  unfold State.writeDeferred
  split <;> simp [flushDeferred, h]

/-- Sectors are erased and their erases entered in the heartwood. -/
theorem eraseSectors {m : Mems} {s : State} (h : MemKept m s.mems) (l : List Nat) :
    MemKept m (l.foldl (fun (t : State) k => (t.eraseSector k).heartErase k) s).mems :=
  foldl (fun _ _ ht => heartErase (eraseSector ht _) _) l h

theorem settingsBoot {m : Mems} {s : State} (h : MemKept m s.mems) : MemKept m s.settingsBoot.mems := by
  unfold State.settingsBoot
  extract_lets opened s1 s2
  have h1 : MemKept m s1.mems := eraseSectors h _
  have h2 : MemKept m s2.mems := by
    unfold s2
    split <;> simpa using h1
  simpa using h2

theorem putBuffer {m : Mems} {s : State} (h : MemKept m s.mems) (a : Nat) (bytes : List Byte) : MemKept m (s.putBuffer a bytes).2.mems := by
  grind [State.putBuffer, State.mems_mk, State.mems_eta, State.bufferRange_mems, ← bufferPut]

theorem takeBuffer {m : Mems} {s : State} (h : MemKept m s.mems) (a n : Nat) : MemKept m (s.takeBuffer a n).2.mems := by
  unfold State.takeBuffer
  split <;> simp [bufferGet, h]

theorem settingsRead {m : Mems} {s : State} (h : MemKept m s.mems) (c : Call) : MemKept m (s.settingsRead c).mems := by
  grind [State.settingsRead, State.mems_mk, State.mems_eta, State.inlineWords_mems, State.answerCall_mems, ← putBuffer]

theorem readStaged {m : Mems} {s : State} (h : MemKept m s.mems) (l : List StageRec) : MemKept m (s.readStaged l).2.mems := by
  induction l generalizing s with
  | nil => exact h
  | cons r rest ih =>
    have h1 : ∀ b : Option (Nat × Nat), MemKept m (match b with | some (a, n) => s.takeBuffer a n | none => (some r.data, s)).2.mems := by
      intro b
      cases b with
      | none => exact h
      | some p => exact takeBuffer h _ _
    unfold State.readStaged
    specialize h1 r.buffer
    split
    rename_i d s1 heq
    replace h1 : MemKept m s1.mems := by
      have := congrArg (fun x => x.2.mems) heq
      simp only at this
      rw [← this]
      exact h1
    split
    · exact h1
    · exact ih h1

theorem settingsCommit {m : Mems} {s : State} (h : MemKept m s.mems) (c : Call) (tj : Int) : MemKept m (s.settingsCommit c tj).mems := by
  grind [State.settingsCommit, State.mems_mk, State.mems_eta, State.updSettings_mems, State.sampleTj_mems, State.longOnce_mems,
    State.showSettings_mems, ← commitRecs, ← readStaged]

theorem clampLogCall {m : Mems} {s : State} (h : MemKept m s.mems) (c : Call) : MemKept m (s.clampLogCall c).mems := by
  simp only [State.clampLogCall]
  split <;> simp [putBuffer, h]

theorem partPulse {m : Mems} {s : State} (h : MemKept m s.mems) (a : Nat) (data : List Byte) : MemKept m (s.partPulse a data).mems :=
  flashWrite (by simpa using h) _ _

theorem halfLine {m : Mems} {s : State} (h : MemKept m s.mems) (a : Nat) (data : List Byte) : MemKept m (s.halfLine a data).mems := flashWrite h _ _

theorem halfOrBlank {m : Mems} {s : State} (h : MemKept m s.mems) (o : FlashOp) : MemKept m (s.halfOrBlank o).mems := by
  unfold State.halfOrBlank
  repeat'
    split
    all_goals simp [halfLine, h]

theorem patchCommit {m : Mems} {s : State} (h : MemKept m s.mems) (slot done : Nat) : MemKept m (s.patchCommit slot done).2.mems := by
  simp [State.patchCommit, commitRecs, h]

theorem programNext {m : Mems} {s : State} (h : MemKept m s.mems) (o : FlashOp) (tj : Int) : MemKept m (s.programNext o tj).mems := by
  have h1 := flashWrite h o.addr (o.data.take 32)
  simp only [State.programNext]
  split
  · split
    · simpa using h1
    · simpa using patchCommit (s := (s.flashWrite o.addr (o.data.take 32)).sampleTj tj) (by simpa using h1) _ _
  · split
    · split <;> simpa using h1
    · simpa using h1

theorem programPulse {m : Mems} {s : State} (h : MemKept m s.mems) (pass : Bool) (tj : Int) : MemKept m (s.programPulse pass tj).mems := by
  simp only [State.programPulse]
  split
  · exact h
  · split
    · exact h
    · split
      · exact programNext h _ _
      · split <;> simpa using partPulse h _ _

theorem partErase {m : Mems} {s : State} (h : MemKept m s.mems) (sec : Nat) : MemKept m (s.partErase sec).mems :=
  h.of_otp (List.foldlRecOn (motive := fun (t : State) => t.otp = s.otp) _ _ rfl fun _ ht _ _ => ht) (s.partErase_wf sec)

theorem abandonPulse {m : Mems} {s : State} (h : MemKept m s.mems) (o : FlashOp) : MemKept m (s.abandonPulse o).mems := by
  unfold State.abandonPulse
  split <;> simp [partErase, h]

theorem eraseVerified {m : Mems} {s : State} (h : MemKept m s.mems) (o : FlashOp) : MemKept m (s.eraseVerified o).mems := by
  simp [State.eraseVerified, eraseSector, heartErase, h]

theorem eraseFailed {m : Mems} {s : State} (h : MemKept m s.mems) (o : FlashOp) : MemKept m (s.eraseFailed o).mems := by
  have h1 : MemKept m ((s.updFlash fun f => { f with fail := true }).setErr 0x700 16).mems := by simpa using h
  simpa [State.eraseFailed] using heartErase (retireSector h1 (o.addr / 0x10000)) (o.addr / 0x10000)

theorem retireOrWait {m : Mems} {s : State} (h : MemKept m s.mems) (o : FlashOp) (pass : Bool) : MemKept m (s.retireOrWait o pass).mems := by
  unfold State.retireOrWait
  repeat'
    split
    all_goals simp [eraseVerified, eraseFailed, h]

theorem erasePulse {m : Mems} {s : State} (h : MemKept m s.mems) (pass : Bool) (tj : Int) : MemKept m (s.erasePulse pass tj).mems := by
  grind [State.erasePulse, State.mems_mk, State.mems_eta, State.sampleTj_mems, State.setOp_mems, ← partErase, ← eraseVerified, ← retireOrWait]

theorem eraseGoesOn {m : Mems} {s : State} (h : MemKept m s.mems) (o : FlashOp) : MemKept m (s.eraseGoesOn o).mems := by
  unfold State.eraseGoesOn
  split <;> simp [eraseVerified, eraseFailed, h]

theorem eraseResume {m : Mems} {s : State} (h : MemKept m s.mems) (tj : Int) : MemKept m (s.eraseResume tj).mems := by
  unfold State.eraseResume
  repeat'
    split
    all_goals simp [eraseGoesOn, h]

theorem flashProgram {m : Mems} {s : State} (h : MemKept m s.mems) (c : Call) (tj : Int) : MemKept m (s.flashProgram c tj).mems := by
  grind [State.flashProgram, State.mems_mk, State.mems_eta, State.patchStart_mems, State.sampleTj_mems, State.programStart_mems,
    State.longOnce_mems, ← takeBuffer]

theorem flashSuspend {m : Mems} {s : State} (h : MemKept m s.mems) (c : Call) : MemKept m (s.flashSuspend c).mems := by
  unfold State.flashSuspend
  repeat'
    split
    all_goals simp [abandonPulse, h]

theorem flashResume {m : Mems} {s0 : State} (h : MemKept m s0.mems) (c : Call) (tj : Int) : MemKept m (s0.flashResume c tj).mems := by
  unfold State.flashResume
  extract_lets s
  split
  · simpa [s] using h
  · split
    · simpa [s] using h
    · extract_lets wait s1 s2
      have h2 : MemKept m s2.mems := by simpa [s2, s1, s] using h
      split
      · exact eraseGoesOn h2 _
      · exact h2

theorem flashReadCall {m : Mems} {s : State} (h : MemKept m s.mems) (c : Call) : MemKept m (s.flashReadCall c).mems := by
  grind [State.flashReadCall, State.mems_mk, State.mems_eta, State.free_mems, State.inlineWords_mems, State.suspectRead_mems,
    State.answerCall_mems, ← putBuffer]

theorem flashBrace {m : Mems} {s : State} (h : MemKept m s.mems) : MemKept m s.flashBrace.mems := by
  simp only [State.flashBrace]
  split
  · exact h
  · split
    · simpa using abandonPulse h _
    · have h1 : MemKept m s.freeBool.2.mems := by simpa using h
      split
      · simpa using flashWrite h1 _ _
      · simpa using halfLine h1 _ _

theorem flashCut {m : Mems} {s : State} (h : MemKept m s.mems) : MemKept m s.flashCut.mems := by
  unfold State.flashCut
  repeat'
    split
    all_goals simp [halfOrBlank, abandonPulse, h]

theorem flashBoot {m : Mems} {s : State} (h : MemKept m s.mems) : MemKept m s.flashBoot.mems := by
  unfold State.flashBoot
  extract_lets opened s2 s3
  have h3 : MemKept m s3.mems := by simpa [s3] using eraseSectors h opened
  split
  · simpa using h3
  · exact h3

end MemKept

end Sys2Proof.Machine
end

section
/-! The memories kept: register writes, the boot records, and the mode changes that clear domains. -/

namespace Sys2Proof.Machine

namespace MemKept

theorem enableChanged {m : Mems} {s : State} (h : MemKept m s.mems) (p : Nat) (on : Bool) : MemKept m (s.enableChanged p on).mems := by
  unfold State.enableChanged
  repeat'
    split
    all_goals simp [dramDisable, h]

theorem writeCtl {m : Mems} {s : State} (h : MemKept m s.mems) (p : Nat) (v : Word) (keep : Bool) : MemKept m (s.writeCtl p v keep).mems := by
  unfold State.writeCtl
  repeat'
    split
    all_goals simp [enableChanged, h]

theorem applyWrite {m : Mems} {s : State} (h : MemKept m s.mems) (a r : Nat) (v : Word) (keep : Bool) : MemKept m (s.applyWrite a r v keep).mems := by
  unfold State.applyWrite
  repeat'
    split
    all_goals simp [writeCtl, h]

theorem writeReg {m : Mems} {s : State} (h : MemKept m s.mems) (r a : Nat) (full : Bool) (v : Word) : MemKept m (s.writeReg r a full v).2.mems := by
  grind [State.writeReg, State.mems_mk, State.mems_eta, State.recordChecks_mems, State.disarm_mems, ← applyWrite]

theorem localWrite {m : Mems} {s : State} (h : MemKept m s.mems) (r a : Nat) (v : Word) : MemKept m (s.localWrite r a v).mems := by
  unfold State.localWrite
  split <;> simp [writeReg, h]

theorem bootPut {m : Mems} {s : State} (h : MemKept m s.mems) (a : Nat) (w : Word) (hold : Bool) : MemKept m (s.bootPut a w hold).mems := by
  simp [State.bootPut, applyWrite, h]

theorem bootEntry {m : Mems} {s : State} (h : MemKept m s.mems) (id : Nat) (e : BootEntry) : MemKept m (s.bootEntry id e).mems := by
  unfold State.bootEntry
  repeat'
    split
    all_goals simp [bootPut, h]

theorem bootPage {m : Mems} {s : State} (h : MemKept m s.mems) (id : Nat) (l : List BootEntry) (p : Nat) : MemKept m (s.bootPage id l p).mems := by
  unfold State.bootPage
  extract_lets mine ctl rest en was s1 s2 rws s3 s4 s5 good want s6
  have h1 : MemKept m s1.mems := by
    unfold s1
    split
    · exact enableChanged (by simpa using h) _ _
    · exact h
  have h2 : MemKept m s2.mems := foldl (fun _ _ ht => bootEntry ht _ _) _ h1
  have h3 : MemKept m s3.mems := by
    unfold s3
    split <;> simpa using h2
  have h4 : MemKept m s4.mems := by
    refine foldl (fun t e ht => ?_) _ h3
    split
    · split
      · exact bootPut ht _ _ _
      · exact ht
    · exact ht
  have h5 : MemKept m s5.mems := by
    refine foldl (fun t e ht => ?_) _ h4
    split
    · simpa using ht
    · split <;> simpa using ht
  have h6 : MemKept m s6.mems := by
    unfold s6
    split
    · exact enableChanged (by simpa using h5) _ _
    · exact h5
  split
  · simpa using h6
  · exact h6

theorem bootRecordOn {m : Mems} {s : State} (h : MemKept m s.mems) (on : Nat → Bool) (r : SetRec) : MemKept m (s.bootRecordOn on r).mems := by
  unfold State.bootRecordOn
  split
  · simp only
    split <;> simpa using h
  · exact foldl (fun _ _ ht => bootPage ht _ _ _) _ h

theorem bootRangeOn {m : Mems} {s : State} (h : MemKept m s.mems) (on : Nat → Bool) (lo hi : Nat) : MemKept m (s.bootRangeOn on lo hi).mems := by
  refine foldl (fun t i ht => ?_) _ h
  split
  · exact bootRecordOn ht _ _
  · exact ht

theorem bootRange {m : Mems} {s : State} (h : MemKept m s.mems) (lo hi : Nat) : MemKept m (s.bootRange lo hi).mems := by
  simp [State.bootRange, bootRangeOn, h]

theorem bootPins {m : Mems} {s : State} (h : MemKept m s.mems) : MemKept m s.bootPins.mems := by simp [State.bootPins, bootRange, h]

theorem bootLoop {m : Mems} {s : State} (h : MemKept m s.mems) : MemKept m s.bootLoop.mems := by simp [State.bootLoop, bootRange, h]

theorem dramBrace {m : Mems} {s : State} (h : MemKept m s.mems) : MemKept m s.dramBrace.mems := by
  unfold State.dramBrace
  split <;> simp [selfRefresh, h]

theorem dramResume {m : Mems} {s : State} (h : MemKept m s.mems) : MemKept m s.dramResume.mems := by
  grind [State.dramResume, State.mems_mk, State.mems_eta, State.dramEnable_mems, State.refuseWaiting_mems, State.selfRefreshExit_mems,
    ← selfRefresh]

theorem toRun {m : Mems} {s : State} (h : MemKept m s.mems) : MemKept m s.toRun.mems := by simp [State.toRun, dramResume, h]

theorem toService {m : Mems} {s : State} (h : MemKept m s.mems) : MemKept m s.toService.mems := by simp [State.toService, dramResume, h]

theorem toLoad {m : Mems} {s : State} (h : MemKept m s.mems) (target : Nat) : MemKept m (s.toLoad target).mems := by
  simp [State.toLoad, dramResume, h]

theorem cleared {m : Mems} {s : State} (h : MemKept m s.mems) (aon dram : Bool) : MemKept m (s.cleared aon dram).mems := by
  have hf : MemKept m ⟨s.dramMem, s.flashCut.flash.bytes, s.otp⟩ := withFlash h (flashCut h)
  unfold State.cleared
  extract_lets f keep
  cases keep with
  | false => exact noDram hf
  | true => exact hf

theorem resetAssert {m : Mems} {s : State} (h : MemKept m s.mems) : MemKept m s.resetAssert.mems := by simp [State.resetAssert, cleared, h]

theorem powerLost {m : Mems} {s : State} (h : MemKept m s.mems) : MemKept m s.powerLost.mems := by simp [State.powerLost, cleared, h]

theorem domainsOff {m : Mems} {s : State} (h : MemKept m s.mems) (target : Nat) : MemKept m (s.domainsOff target).mems := by
  simp [State.domainsOff, flashCut, h]

theorem bank8Lost {m : Mems} {s : State} (h : MemKept m s.mems) : MemKept m s.bank8Lost.mems := by simp [State.bank8Lost, bootRangeOn, h]

theorem bank9Lost {m : Mems} {s : State} (h : MemKept m s.mems) : MemKept m s.bank9Lost.mems := by simp [State.bank9Lost, bootRangeOn, h]

theorem bank10Lost {m : Mems} {s : State} (h : MemKept m s.mems) : MemKept m s.bank10Lost.mems := by
  simp [State.bank10Lost, bootRangeOn, bootRange, h]

theorem bankAction {m : Mems} {s : State} (h : MemKept m s.mems) (lost : List Nat) (b : Nat) : MemKept m (s.bankAction lost b).mems := by
  grind [State.bankAction, State.mems_mk, State.mems_eta, State.ctxBankLost_mems, State.setF_mems, ← bank8Lost, ← bank9Lost, ← bank10Lost]

theorem retentionRestore {m : Mems} {s : State} (h : MemKept m s.mems) : MemKept m s.retentionRestore.mems := by
  unfold State.retentionRestore
  extract_lets lost s1
  have h1 : MemKept m s1.mems := by simpa [s1] using h
  simpa using foldl (fun _ _ ht => bankAction ht _ _) lost h1

end MemKept

end Sys2Proof.Machine
end

section
/-! The memories kept: images, the packets of a stream, loads and releases. -/

namespace Sys2Proof.Machine

namespace MemKept

theorem srcRead {m : Mems} {s : State} (h : MemKept m s.mems) (src a n : Nat) : MemKept m (s.srcRead src a n).2.mems := by
  unfold State.srcRead
  repeat'
    split
    all_goals simp [bufferGet, h]

theorem headerCheck {m : Mems} {s : State} (h :
    MemKept m s.mems) (src ofs : Nat) (want : Option Nat) (fits : Bool) : MemKept m (s.headerCheck src ofs want fits).2.2.2.mems := by
  grind [State.headerCheck, State.mems_mk, State.mems_eta, ← srcRead]

theorem checkHeader {m : Mems} {s : State} (h :
    MemKept m s.mems) (src ofs : Nat) (want : Option Nat) (fits : Bool) : MemKept m (s.checkHeader src ofs want fits).2.2.2.mems := by
  simp [State.checkHeader, headerCheck, h]

theorem checkBank {m : Mems} {s : State} (h : MemKept m s.mems) (bank : Nat) : MemKept m (s.checkBank bank).2.2.mems := by
  simp [State.checkBank, checkHeader, h]

theorem fullHold {m : Mems} {s : State} (h : MemKept m s.mems) (l : Load) : MemKept m (s.fullHold l).mems := by
  unfold State.fullHold
  split <;> simp [bootLoop, toLoad, h]

theorem loadHold {m : Mems} {s : State} (h : MemKept m s.mems) : MemKept m s.loadHold.mems := by
  grind [State.loadHold, State.mems_mk, State.mems_eta, State.groveHold_mems, ← fullHold]

theorem loadBegin {m : Mems} {s : State} (h : MemKept m s.mems) (l : Load) : MemKept m (s.loadBegin l).mems := by
  unfold State.loadBegin
  repeat'
    split
    all_goals simp [loadHold, h]

theorem packetActs {m : Mems} {s : State} (h : MemKept m s.mems) (l : Load) (p : BitVec 64) (d b : List Byte) {write : State → State}
    (hw : ∀ {t : State}, MemKept m t.mems → MemKept m (write t).mems) : MemKept m (s.packetActs l p d b write).mems := by
  unfold State.packetActs
  split
  · simpa using h
  · simp only
    split <;> simpa using hw h

theorem takePacket {m : Mems} {s : State} (h : MemKept m s.mems) (p : BitVec 64) (op : Nat) (reg : Option Nat)
    (agrees : Load → List Byte → Option (List Byte) → Bool) {write : Load → List Byte → State → State}
    (hw : ∀ {l b} {t : State}, MemKept m t.mems → MemKept m (write l b t).mems) : MemKept m (s.takePacket p op reg agrees write).mems := by
  unfold State.takePacket
  split
  · exact h
  · next l _ =>
    have hh := srcRead h l.image.src l.at_ 8
    have hs := srcRead h l.image.src l.at_ (24 + pktLen p)
    extract_lets len
    split
    · exact h
    split
    · simpa using h
    split
    · simpa using h
    split
    · simpa using hh
    split
    · exact h
    split
    · simpa using h
    split
    · exact h
    split
    · simpa using h
    generalize s.srcRead l.image.src l.at_ (24 + pktLen p) = x at hs ⊢
    obtain ⟨d, s1⟩ := x
    cases d with
    | none => simpa using hs
    | some d =>
      simp only
      split
      · exact h
      split
      · simpa using hs
      · exact packetActs hs _ _ _ _ hw

theorem plainPacket {m : Mems} {s : State} (h :
    MemKept m s.mems) (p : BitVec 64) (op : Nat) (reg : Option Nat) (tagOk : Bool) : MemKept m (s.plainPacket p op reg tagOk).mems := by
  simp [State.plainPacket, takePacket, h]

theorem packetNop {m : Mems} {s : State} (h : MemKept m s.mems) (p : BitVec 64) (tagOk : Bool) : MemKept m (s.packetNop p tagOk).mems := by
  simp [State.packetNop, plainPacket, h]

theorem packetDeviceId {m : Mems} {s : State} (h : MemKept m s.mems) (p : BitVec 64) (tagOk : Bool) : MemKept m (s.packetDeviceId p tagOk).mems := by
  simp [State.packetDeviceId, plainPacket, h]

theorem packetMode {m : Mems} {s : State} (h : MemKept m s.mems) (p : BitVec 64) (tagOk : Bool) : MemKept m (s.packetMode p tagOk).mems := by
  simp [State.packetMode, plainPacket, h]

theorem packetUsercode {m : Mems} {s : State} (h : MemKept m s.mems) (p : BitVec 64) (tagOk : Bool) : MemKept m (s.packetUsercode p tagOk).mems := by
  simp [State.packetUsercode, plainPacket, h]

theorem packetFrame {m : Mems} {s : State} (h : MemKept m s.mems) (p : BitVec 64) (tagOk : Bool) (d : BitVec 4096) (check : Word) :
    MemKept m (s.packetFrame p tagOk d check).mems := by
  refine takePacket h _ _ _ _ (fun ht => ?_)
  split
  · exact ht
  · simpa using ht

theorem packetKeyRoll {m : Mems} {s : State} (h : MemKept m s.mems) (p : BitVec 64) (tagOk : Bool) : MemKept m (s.packetKeyRoll p tagOk).mems := by
  simp [State.packetKeyRoll, plainPacket, h]

theorem packetEnd {m : Mems} {s : State} (h :
    MemKept m s.mems) (p : BitVec 64) (tagOk : Bool) (crc : Word) (digestOk : Bool) : MemKept m (s.packetEnd p tagOk crc digestOk).mems := by
  simp [State.packetEnd, takePacket, h]

theorem verifyStream {m : Mems} {s : State} (h : MemKept m s.mems) (img : Image) (h : List Byte) : MemKept m (s.verifyStream img h).2.2.mems := by
  grind [State.verifyStream, State.mems_mk, State.mems_eta, ← srcRead]

theorem advanceRollback {m : Mems} {s : State} (h : MemKept m s.mems) (svn : Nat) : MemKept m (s.advanceRollback svn).mems := by
  simpa [State.advanceRollback] using foldl (fun _ _ ht => otpFollow (otpProgram ht _ _) _) (List.range 4) h

theorem setBootBank {m : Mems} {s : State} (h : MemKept m s.mems) (bank : Nat) : MemKept m (s.setBootBank bank).2.mems := by
  simp [State.setBootBank, commitRecs, h]

theorem requestLoopGroup {m : Mems} {s : State} (h : MemKept m s.mems) : MemKept m s.requestLoopGroup.mems := by
  unfold State.requestLoopGroup
  split <;> simp [bootLoop, h]

theorem fullDone {m : Mems} {s : State} (h : MemKept m s.mems) (l : Load) : MemKept m (s.fullDone l).mems := by
  grind [State.fullDone, State.mems_mk, State.mems_eta, State.updCfg_mems, State.setHoldCause_mems, State.finishWake_mems, State.dropLoad_mems,
    State.showLoaded_mems, State.raise_mems, State.endCall_mems, State.heartLoad_mems, State.toHold_mems, ← toRun, ← advanceRollback,
    ← setBootBank, ← requestLoopGroup]

theorem loadDone {m : Mems} {s : State} (h : MemKept m s.mems) (l : Load) : MemKept m (s.loadDone l).mems := by
  unfold State.loadDone
  split <;> simp [fullDone, h]

theorem releaseDone {m : Mems} {s : State} (h : MemKept m s.mems) (tj : Int) : MemKept m (s.releaseDone tj).mems := by
  unfold State.releaseDone
  repeat'
    split
    all_goals simp [loadDone, h]

theorem releaseRest {m : Mems} {s : State} (h : MemKept m s.mems) (l : Load) : MemKept m (s.releaseRest l).mems := by
  simp only [State.releaseRest]
  split <;> simp [loadDone, h]

theorem loadBank {m : Mems} {s : State} (h : MemKept m s.mems) (bank : Nat) (service : Bool) : MemKept m (s.loadBank bank service).mems := by
  unfold State.loadBank
  repeat'
    split
    all_goals simp [toLoad, checkBank, loadBegin, h]

theorem fallbackLoad {m : Mems} {s : State} (h : MemKept m s.mems) : MemKept m s.fallbackLoad.mems := by
  unfold State.fallbackLoad
  repeat'
    split
    all_goals simp [checkBank, loadBegin, h]

theorem leaveHold {m : Mems} {s : State} (h : MemKept m s.mems) : MemKept m s.leaveHold.mems := by
  grind [State.leaveHold, State.mems_mk, State.mems_eta, State.settlePins_mems, ← toRun, ← toLoad, ← loadBank]

theorem imageLoad {m : Mems} {s : State} (h : MemKept m s.mems) (svc : Nat) (c : Call) : MemKept m (s.imageLoad svc c).mems := by
  grind [State.imageLoad, State.mems_mk, State.mems_eta, State.updCfg_mems, State.startLong_mems, State.longOnce_mems, ← checkBank, ← loadBegin]

theorem imageVerify {m : Mems} {s : State} (h : MemKept m s.mems) (c : Call) : MemKept m (s.imageVerify c).mems := by
  grind [State.imageVerify, State.mems_mk, State.mems_eta, State.longOnce_mems, ← checkHeader, ← verifyStream]

theorem groveLoad {m : Mems} {s : State} (h : MemKept m s.mems) (c : Call) : MemKept m (s.groveLoad c).mems := by
  grind [State.groveLoad, State.mems_mk, State.mems_eta, State.startLong_mems, State.longOnce_mems, ← checkHeader, ← loadBegin]

theorem bootBankCall {m : Mems} {s : State} (h : MemKept m s.mems) (c : Call) : MemKept m (s.bootBankCall c).mems := by
  unfold State.bootBankCall
  repeat'
    split
    all_goals simp [setBootBank, h]

theorem readbackCapture {m : Mems} {s : State} (h : MemKept m s.mems) : MemKept m s.readbackCapture.mems := by
  grind [State.readbackCapture, State.mems_mk, State.mems_eta, State.updCfg_mems, State.bufferRange_mems, State.setCfgState_mems,
    State.reach_mems, State.endCall_mems, ← bufferFrames]

theorem essAction {m : Mems} {s : State} (h : MemKept m s.mems) : MemKept m s.essAction.mems := by
  unfold State.essAction
  split
  · exact h
  split
  · exact h
  extract_lets s1
  have h1 : MemKept m s1.mems := by simpa [s1] using h
  split
  · split
    · exact h1
    split
    · exact h1
    split
    · exact h1
    · next g _ _ _ img _ =>
      extract_lets ofs
      have h2 := checkHeader h1 img.src ofs (if img.src < 2 then none else some g) true
      generalize s1.checkHeader _ _ _ _ = x at h2 ⊢
      obtain ⟨k, _, _, s2⟩ := x
      simp only
      split
      · exact loadBegin (by simpa using h2) _
      · exact h2
  · split
    · simpa using h1
    · exact h1
  · exact h1

end MemKept

end Sys2Proof.Machine
end

section
/-! The memories kept: life cycle, OTP writes, debug accesses and pitches. -/

namespace Sys2Proof.Machine

namespace MemKept

theorem otpWrite {m : Mems} {s : State} (h : MemKept m s.mems) (w : Nat) (v : BitVec 64) : MemKept m (s.otpWrite w v).mems := by
  grind [State.otpWrite, State.mems_mk, State.mems_eta, ← otpProgram]

theorem otpCut {m : Mems} {s : State} (h : MemKept m s.mems) (w : Nat) (v : BitVec 64) : MemKept m (s.otpCut w v).mems := by
  grind [State.otpCut, State.mems_mk, State.mems_eta, State.free_mems, ← otpProgram]

theorem otpPulse {m : Mems} {s : State} (h : MemKept m s.mems) (w : Nat) (v : BitVec 64) : MemKept m (s.otpPulse w v).mems := by
  grind [State.otpPulse, State.mems_mk, State.mems_eta, State.free_mems, ← otpProgram]

theorem programGroup {m : Mems} {s : State} (h : MemKept m s.mems) (k n : Nat) : MemKept m (s.programGroup k n).mems :=
  foldl (fun _ _ ht => otpWrite ht _ _) _ h

theorem eraseOwned {m : Mems} {s : State} (h : MemKept m s.mems) (n : Nat) (p : State → Nat → Bool) : MemKept m (s.eraseOwned n p).mems := by
  simp only [State.eraseOwned, State.storeLost_mems]
  refine foldl (fun t k ht => ?_) _ h
  split
  · exact heartErase (eraseSector ht _) _
  · exact ht

theorem scrapErase {m : Mems} {s : State} (h : MemKept m s.mems) : MemKept m s.scrapErase.mems := by
  unfold State.scrapErase
  split <;> simp [eraseOwned, h]

theorem lcBoot {m : Mems} {s : State} (h : MemKept m s.mems) : MemKept m s.lcBoot.mems := by
  grind [State.lcBoot, State.mems_mk, State.mems_eta, State.lcShow_mems, ← otpReload, ← programGroup, ← scrapErase]

theorem returnErases {m : Mems} {s : State} (h : MemKept m s.mems) (target n : Nat) : MemKept m (s.returnErases target n).mems := by
  unfold State.returnErases
  split <;> simp [eraseOwned, h]

theorem runTransition {m : Mems} {s : State} (h :
    MemKept m s.mems) (c : Call) (target : Nat) (cut : Cut) : MemKept m (s.runTransition c target cut).mems := by
  grind [State.runTransition, State.mems_mk, State.mems_eta, State.debugEnd_mems, State.endFull_mems, State.storeLost_mems, State.raise_mems,
    State.lcShow_mems, State.longOnce_mems, State.setStatus_mems, ← otpReload, ← partErase, ← otpCut, ← otpPulse, ← programGroup, ← scrapErase,
    ← returnErases]

theorem lcTransition {m : Mems} {s : State} (h : MemKept m s.mems) (c : Call) (cut : Cut) (tj : Int) : MemKept m (s.lcTransition c cut tj).mems := by
  grind [State.lcTransition, State.mems_mk, State.mems_eta, State.tokenCheck_mems, State.sampleTj_mems, State.longOnce_mems, ← runTransition]

theorem otpWriteCall {m : Mems} {s : State} (h : MemKept m s.mems) (c : Call) (cut : Cut) (tj : Int) : MemKept m (s.otpWriteCall c cut tj).mems := by
  unfold State.otpWriteCall
  extract_lets s0 first n done left
  have h0 : MemKept m s0.mems := by simpa [s0] using h
  split
  · exact h
  split
  · simpa using h0
  have hb := takeBuffer h0 (bufferOf c.w3 c.w4) (8 * n)
  generalize s0.takeBuffer (bufferOf c.w3 c.w4) (8 * n) = x at hb ⊢
  obtain ⟨d, s1⟩ := x
  cases d with
  | none => simpa using hb
  | some bytes =>
    simp -zeta only
    extract_lets word s2 s3 s4
    have h2 : MemKept m s2.mems := foldl (fun _ _ ht => otpWrite ht _ _) _ hb
    split
    · simpa using h2
    · have h4 : MemKept m s4.mems := otpCut h2 _ _
      split
      · exact h4
      · simpa using h4

theorem debugAccess {m : Mems} {s : State} (h :
    MemKept m s.mems) (write : Bool) (ofs : BitVec 24) (v : Word) : MemKept m (s.debugAccess write ofs v).mems := by
  unfold State.debugAccess
  repeat'
    split
    all_goals simp [writeReg, h]

theorem fuseRepair {m : Mems} {s : State} (h : MemKept m s.mems) : MemKept m s.fuseRepair.mems := by
  unfold State.fuseRepair
  split
  · exact foldl (fun _ _ ht => otpProgram (by simpa using ht) _ _) _ h
  · exact h

theorem pitchDone {m : Mems} {s : State} (h : MemKept m s.mems) (misr : Word) (fails : List Word) : MemKept m (s.pitchDone misr fails).mems := by
  unfold State.pitchDone
  split
  · exact h
  next p _ =>
  split
  · exact h
  extract_lets exp s1 s2
  have h1 : MemKept m s1.mems := by simpa [s1] using h
  have h2 : MemKept m s2.mems := by
    unfold s2
    split
    · simpa using h1
    · exact foldl (fun t e ht => by simpa using failElem ht e p.source) _ (fuseRepair h1)
  split
  · simpa using h2
  · exact h2

theorem linkCheckDone {m : Mems} {s : State} (h : MemKept m s.mems) (port : Nat) (bad : Bool) : MemKept m (s.linkCheckDone port bad).mems := by
  unfold State.linkCheckDone
  split <;> simp [endCheck, h]

end MemKept

end Sys2Proof.Machine
end

section
/-! The memories kept: start, wakes, entries to a power state, the resets and the heartwood's calls. -/

namespace Sys2Proof.Machine

namespace MemKept

theorem startLoad {m : Mems} {s : State} (h : MemKept m s.mems) (k : StartKind) : MemKept m (s.startLoad k).mems := by
  unfold State.startLoad
  split <;> simp [loadBank, h]

theorem startFabric {m : Mems} {s : State} (h : MemKept m s.mems) (k : StartKind) : MemKept m (s.startFabric k).mems := by
  simp only [State.startFabric]
  split <;> simp [startLoad, h]

theorem restRoots {m : Mems} {s : State} (h : MemKept m s.mems) : MemKept m s.restRoots.mems := by
  refine foldl (fun t r ht => ?_) _ h
  split
  · exact ht
  · exact bootPut ht _ _ _

theorem bootImage {m : Mems} {s : State} (h : MemKept m s.mems) : MemKept m s.bootImage.mems := by simp [State.bootImage, bootRange, h]

theorem bootDram {m : Mems} {s : State} (h : MemKept m s.mems) : MemKept m s.bootDram.mems := by simp [State.bootDram, bootRange, h]

theorem bootGroups {m : Mems} {s : State} (h : MemKept m s.mems) : MemKept m s.bootGroups.mems := by
  grind [State.bootGroups, State.mems_mk, State.mems_eta, ← bootRange, ← bootDram]

theorem clocksReady {m : Mems} {s : State} (h : MemKept m s.mems) (k : StartKind) : MemKept m (s.clocksReady k).mems := by
  have h1 : MemKept m (s.updPower fun p => { p with lockWait := none }).restRoots.mems := restRoots (by simpa using h)
  unfold State.clocksReady
  extract_lets s1 s2
  refine startFabric ?_ k
  unfold s2
  cases k with
  | cold | reset => simpa using bootGroups (bootImage h1)
  | wakeBivouac => simpa using bootGroups (bootImage h1)
  | wakeSleep => simpa using h1

theorem clockCheck {m : Mems} {s : State} (h : MemKept m s.mems) : MemKept m s.clockCheck.mems := by
  unfold State.clockCheck
  repeat'
    split
    all_goals simp [clocksReady, h]

theorem timingLocked {m : Mems} {s : State} (h : MemKept m s.mems) : MemKept m s.timingLocked.mems := by
  unfold State.timingLocked
  repeat'
    split
    all_goals simp [clockCheck, h]

theorem timeReconstruct {m : Mems} {s : State} (h : MemKept m s.mems) (sub : Nat) : MemKept m (s.timeReconstruct sub).mems := by
  unfold State.timeReconstruct
  split <;> simp [clockCheck, h]

theorem pllLocked {m : Mems} {s : State} (h : MemKept m s.mems) (p : Nat) : MemKept m (s.pllLocked p).mems := by
  unfold State.pllLocked
  split <;> simp [clockCheck, h]

theorem bootCalPage {m : Mems} {s : State} (h : MemKept m s.mems) (i : Nat) : MemKept m (s.bootCalPage i).mems := by
  unfold State.bootCalPage
  repeat'
    split
    all_goals simp [bootLoop, h]

theorem heartStart {m : Mems} {s1 : State} (h : MemKept m s1.mems) (cold dirty : Bool) : MemKept m (s1.heartStart cold dirty).mems := by
  grind [State.heartStart, State.mems_mk, State.mems_eta, State.setCalendar_mems, State.heartCycle_mems, State.showHeart_mems,
    State.heartSlept_mems, State.noteUnbraced_mems, State.wrapAdd_mems, State.setF_mems, ← heartCount]

theorem coldBoot {m : Mems} {s : State} (h : MemKept m s.mems) (cold : Bool) : MemKept m (s.coldBoot cold).mems := by
  unfold State.coldBoot
  extract_lets s1 s2 dirty s3 s4 s5 s6
  have h2 : MemKept m s2.mems := by
    unfold s2 s1
    split <;> simpa using h
  clear_value s2 dirty
  have h2' : MemKept m ((((s2.raise 0).heartBoot).lcBoot).patchBoot).mems := by
    rw [State.patchBoot_mems]
    exact lcBoot (by rwa [State.heartBoot_mems, State.raise_mems])
  have h3 : MemKept m s3.mems := by
    unfold s3
    rw [State.applyRepairs_mems]
    exact heartStart (settingsBoot (flashBoot h2')) cold dirty
  have h5 : MemKept m s5.mems := bootPins (by simpa [s4] using h3)
  simpa [s6] using bootRange (bootRange h5 0x0100 0x01FF) 0x0200 0x02FF

theorem wakeReset {m : Mems} {s : State} (h : MemKept m s.mems) : MemKept m s.wakeReset.mems := by simp [State.wakeReset, resetAssert, h]

theorem wakeBoot {m : Mems} {s : State} (h : MemKept m s.mems) (k : StartKind) : MemKept m (s.wakeBoot k).mems := by
  grind [State.wakeBoot, State.mems_mk, State.mems_eta, State.heldEnables_mems, State.showRollback_mems, State.sourcesUp_mems,
    State.settlePins_mems, State.setMode_mems, State.showHeart_mems, State.setTarget_mems, State.setErr_mems, State.keepAon_mems,
    State.setB_mems, State.updPower_mems, State.railsUp_mems, State.railCfgWritten_mems, State.showRepairs_mems, State.showSettings_mems,
    State.setF_mems, State.heartVin_mems, ← settingsBoot, ← flashBoot, ← bootRange, ← retentionRestore, ← wakeReset]

theorem bootNow {m : Mems} {s0 : State} (h : MemKept m s0.mems) (k : StartKind) : MemKept m (s0.bootNow k).mems := by
  unfold State.bootNow
  split <;> simp [coldBoot, wakeBoot, h]

theorem startDomains {m : Mems} {s : State} (h : MemKept m s.mems) (k : StartKind) : MemKept m (s.startDomains k).mems := by
  simp only [State.startDomains]
  split <;> simp [bootNow, h]

theorem startNext {m : Mems} {s : State} (h : MemKept m s.mems) (n : StartNext) : MemKept m (s.startNext n).mems := by
  unfold State.startNext
  split <;> simp [loadHold, startLoad, bootNow, h]

theorem budgetStep {m : Mems} {s : State} (h : MemKept m s.mems) : MemKept m s.budgetStep.mems := by
  grind [State.budgetStep, State.mems_mk, State.mems_eta, State.budgetDebit_mems, State.showBudgetStat_mems, State.updPower_mems, ← startNext]

theorem vinGood {m : Mems} {s : State} (h : MemKept m s.mems) (vin : Nat) (straps : BitVec 3) : MemKept m (s.vinGood vin straps).mems := by
  unfold State.vinGood
  split <;> simp [startDomains, h]

theorem resetEnd {m : Mems} {s : State} (h : MemKept m s.mems) : MemKept m s.resetEnd.mems := by
  unfold State.resetEnd
  split <;> simp [startDomains, h]

theorem enterDram {m : Mems} {s : State} (h : MemKept m s.mems) (target : Nat) : MemKept m (s.enterDram target).mems := by
  have h1 : MemKept m (s.setPassed 2).mems := by simpa using h
  unfold State.enterDram
  split
  · exact selfRefresh h1 false
  · simpa using noDram (drainWrites h1)

theorem enterCopy {m : Mems} {s : State} (h : MemKept m s.mems) (target : Nat) : MemKept m (s.enterCopy target).mems := by
  unfold State.enterCopy
  repeat'
    split
    all_goals simp [heartCount, flushDeferred, h]

theorem powerDown {m : Mems} {s : State} (h : MemKept m s.mems) (e : Entry) : MemKept m (s.powerDown e).mems := by
  unfold State.powerDown
  split <;> simp [cleared, domainsOff, h]

theorem pwrEnter {m : Mems} {s0 : State} (h : MemKept m s0.mems) (c : Call) (passed : Nat) (tj : Int) : MemKept m (s0.pwrEnter c passed tj).mems := by
  grind [State.pwrEnter, State.mems_mk, State.mems_eta, State.enterLoop_mems, State.enterPins_mems, State.sampleTj_mems, State.startLong_mems,
    State.endLong_mems, State.longOnce_mems, State.undoEntry_mems, State.enterArm_mems, State.enterStart_mems, ← enterDram, ← enterCopy,
    ← powerDown]

theorem wakeSource {m : Mems} {s : State} (h :
    MemKept m s.mems) (b : Nat) (pin : Option Nat) (fails : BitVec 16) : MemKept m (s.wakeSource b pin fails).mems := by
  grind [State.wakeSource, State.mems_mk, State.mems_eta, State.noteCause_mems, State.setReg_mems, State.latchTime_mems, State.updPower_mems,
    ← startDomains]

theorem wakeN {m : Mems} {s : State} (h : MemKept m s.mems) (fails : BitVec 16) : MemKept m (s.wakeN fails).mems := by
  simp [State.wakeN, wakeSource, h]

theorem pinWakeEdge {m : Mems} {s : State} (h :
    MemKept m s.mems) (n : Nat) (rising : Bool) (fails : BitVec 16) : MemKept m (s.pinWakeEdge n rising fails).mems := by
  unfold State.pinWakeEdge
  split <;> simp [wakeSource, h]

theorem vinRestore {m : Mems} {s : State} (h : MemKept m s.mems) (fails : BitVec 16) : MemKept m (s.vinRestore fails).mems := by
  unfold State.vinRestore
  split <;> simp [wakeSource, h]

theorem i2cMatch {m : Mems} {s : State} (h : MemKept m s.mems) (fails : BitVec 16) : MemKept m (s.i2cMatch fails).mems := by
  grind [State.i2cMatch, State.mems_mk, State.mems_eta, State.updHost_mems, State.i2cAck_mems, State.setB_mems, State.lateCause_mems,
    State.satAdd_mems, ← wakeSource]

theorem braceLoad {m : Mems} {s : State} (h : MemKept m s.mems) : MemKept m s.braceLoad.mems := by
  grind [State.braceLoad, State.mems_mk, State.mems_eta, State.dropLoad_mems, State.updPower_mems, State.failLoad_mems, ← releaseRest]

theorem brace {m : Mems} {s : State} (h : MemKept m s.mems) (vin : Nat) : MemKept m (s.brace vin).mems := by
  grind [State.brace, State.mems_mk, State.mems_eta, State.updCfg_mems, State.setHoldCause_mems, State.abortLong_mems, State.endLong_mems,
    State.raise_mems, State.undoEntry_mems, State.pitchStop_mems, State.setErr_mems, State.setB_mems, State.updPower_mems, State.setVin_mems,
    State.satAdd_mems, State.toHold_mems, State.heartVin_mems, ← flashBrace, ← dramBrace, ← braceLoad]

theorem heartBraceWrite {m : Mems} {s : State} (h : MemKept m s.mems) (tj : Int) : MemKept m (s.heartBraceWrite tj).mems := by
  unfold State.heartBraceWrite
  split <;> simp [heartBrace, h]

theorem autoRelease {m : Mems} {s : State} (h : MemKept m s.mems) : MemKept m s.autoRelease.mems := by
  unfold State.autoRelease
  split <;> simp [leaveHold, h]

theorem holdRelease {m : Mems} {s : State} (h : MemKept m s.mems) (c : Call) : MemKept m (s.holdRelease c).mems := by
  unfold State.holdRelease
  repeat'
    split
    all_goals simp [leaveHold, h]

theorem serviceEnter {m : Mems} {s : State} (h : MemKept m s.mems) (c : Call) : MemKept m (s.serviceEnter c).mems := by
  unfold State.serviceEnter
  split <;> simp [toService, h]

theorem serviceExit {m : Mems} {s : State} (h : MemKept m s.mems) (c : Call) : MemKept m (s.serviceExit c).mems := by
  unfold State.serviceExit
  split <;> simp [loadBank, h]

theorem deviceReset {m : Mems} {s : State} (h : MemKept m s.mems) (c : Call) : MemKept m (s.deviceReset c).mems := by
  simp [State.deviceReset, selfRefresh, resetAssert, h]

theorem rstN {m : Mems} {s : State} (h : MemKept m s.mems) : MemKept m s.rstN.mems := by
  unfold State.rstN
  split <;> simp [resetAssert, h]

theorem railFault {m : Mems} {s : State} (h : MemKept m s.mems) (rail : Nat) (above : Bool) : MemKept m (s.railFault rail above).mems := by
  unfold State.railFault
  split <;> simp [resetAssert, h]

theorem pwrPolicy {m : Mems} {s : State} (h : MemKept m s.mems) (c : Call) : MemKept m (s.pwrPolicy c).mems := by
  grind [State.pwrPolicy, State.mems_mk, State.mems_eta, State.railCfgWritten_mems, State.answerCall_mems, ← applyWrite]

theorem alarm {m : Mems} {s : State} (h : MemKept m s.mems) (fails : BitVec 16) : MemKept m (s.alarm fails).mems := by
  grind [State.alarm, State.mems_mk, State.mems_eta, State.raise_mems, State.setErr_mems, State.setB_mems, State.lateCause_mems, ← wakeSource]

theorem calendarSet {m : Mems} {s0 : State} (h : MemKept m s0.mems) (c : Call) (tj : Int) : MemKept m (s0.calendarSet c tj).mems := by
  unfold State.calendarSet
  split <;> simp [heartCount, h]

theorem heartCountWrite {m : Mems} {s : State} (h : MemKept m s.mems) (tj : Int) : MemKept m (s.heartCountWrite tj).mems := by
  unfold State.heartCountWrite
  split <;> simp [heartCount, h]

theorem heartDeferredWrite {m : Mems} {s : State} (h : MemKept m s.mems) (tj : Int) : MemKept m (s.heartDeferredWrite tj).mems := by
  unfold State.heartDeferredWrite
  split <;> simp [heartLate, h]

theorem heartRebaseDue {m : Mems} {s : State} (h : MemKept m s.mems) (tj : Int) : MemKept m (s.heartRebaseDue tj).mems := by
  unfold State.heartRebaseDue
  split
  · exact heartWrite (by simpa using h) heartRebase
  · exact h

theorem heartRead {m : Mems} {s : State} (h : MemKept m s.mems) (c : Call) : MemKept m (s.heartRead c).mems := by
  unfold State.heartRead
  repeat'
    split
    all_goals simp [putBuffer, h]

end MemKept

end Sys2Proof.Machine
end

section
/-! The memories kept: accesses over the rope and of the host. -/

namespace Sys2Proof.Machine

namespace MemKept

theorem remoteAccess {m : Mems} {s : State} (h : MemKept m s.mems) (r n a : Nat) (full : Bool) (k : AccessKind) :
    MemKept m (s.remoteAccess r n a full k).mems := by
  unfold State.remoteAccess
  split
  · exact h
  split
  · cases k with
    | read => simpa using h
    | write v => exact writeReg h _ _ _ _
  · cases k with
    | read => simp only; split <;> simpa using h
    | write v =>
      simp only
      split
      · simpa using h
      · split
        · simpa using h
        · exact h

theorem takeRequestFrame {m : Mems} {s : State} (h : MemKept m s.mems) (f : AccFrame) (sync : Bool) (e : BitVec 16) {run : State → AccBody × State}
    (hr : ∀ {t : State}, MemKept m t.mems → MemKept m (run t).2.mems) : MemKept m (s.takeRequestFrame f sync e run).mems := by
  unfold State.takeRequestFrame
  extract_lets n s1 go resync known
  have h1 : MemKept m s1.mems := by simpa [s1] using h
  have hgo : ∀ {t : State}, MemKept m t.mems → MemKept m (go t).mems := fun ht => by simpa [go] using hr ht
  have hre : ∀ {t : State}, MemKept m t.mems → MemKept m (resync t).mems := fun ht => by simpa [resync] using ht
  clear_value s1 go resync known
  split
  · cases known with
    | some x => simpa using h1
    | none =>
      refine hgo ?_
      split
      · simpa using h1
      · exact h1
  split
  · exact hre h1
  next q _ =>
  extract_lets d
  clear_value d
  split
  · exact hgo h1
  split
  · rwa [State.queueFrame_mems]
  split
  · split
    · simpa using h1
    · exact h1
  · exact hre h1

theorem writeRemote {m : Mems} {s : State} (h :
    MemKept m s.mems) (n a : Nat) (v : Word) (pair : Option Word) : MemKept m (s.writeRemote n a v pair).2.mems := by
  unfold State.writeRemote
  repeat'
    split
    all_goals simp [writeReg, h]

theorem frameArrives {m : Mems} {s : State} (h : MemKept m s.mems) (port : RopePort) (c : FrameCheck) (mine : Bool) {act : State → State}
    (ha : ∀ {t : State}, MemKept m t.mems → MemKept m (act t).mems) : MemKept m (s.frameArrives port c mine act).mems := by
  have hheard : MemKept m (s.heard port).mems := by simpa using h
  unfold State.frameArrives
  split
  · exact h
  split
  · exact ha hheard
  split
  · simpa using h
  · exact hheard

theorem rdReqRx {m : Mems} {s : State} (h : MemKept m s.mems) (f : AccFrame) : MemKept m (s.rdReqRx f).mems := by
  unfold State.rdReqRx
  repeat'
    split
    all_goals simp [takeRequestFrame, h]

theorem wrReqRx {m : Mems} {s : State} (h : MemKept m s.mems) (f : AccFrame) : MemKept m (s.wrReqRx f).mems := by
  unfold State.wrReqRx
  split
  · split
    · exact takeRequestFrame h _ _ _ (fun ht => writeRemote ht _ _ _ _)
    · exact h
  · exact h

theorem mbxRx {m : Mems} {s : State} (h : MemKept m s.mems) (f : AccFrame) : MemKept m (s.mbxRx f).mems := by
  unfold State.mbxRx
  repeat'
    split
    all_goals simp [takeRequestFrame, h]

theorem tlp {m : Mems} {s : State} (h : MemKept m s.mems) (r dwords : Nat) (poisoned read : Bool) {f : State → State}
    (hf : ∀ {t : State}, MemKept m t.mems → MemKept m (f t).mems) : MemKept m (s.tlp r dwords poisoned read f).mems := by
  unfold State.tlp
  split
  · exact hf h
  split
  · exact h
  split
  · simpa using h
  split
  · simpa using h
  · exact hf h

theorem frameIn {m : Mems} {s : State} (h : MemKept m s.mems) (port : RopePort) (c : FrameCheck) (mine : Bool) {act : State → State}
    (ha : ∀ {t : State}, MemKept m t.mems → MemKept m (act t).mems) : MemKept m (s.frameIn port c mine act).mems := by
  simpa [State.frameIn] using frameArrives h port c mine ha

theorem accessIn {m : Mems} {s : State} (h : MemKept m s.mems) (port : RopePort) (f : AccFrame) (w : Wire) {act : State → State}
    (ha : ∀ {t : State}, MemKept m t.mems → MemKept m (act t).mems) : MemKept m (s.accessIn port f w act).mems :=
  frameIn h port _ _ ha

theorem onRope {m : Mems} {s : State} (h : MemKept m s.mems) {f : State → State}
    (hf : ∀ {t : State}, MemKept m t.mems → MemKept m (f t).mems) : MemKept m (s.onRope f).mems := by
  unfold State.onRope
  split
  · exact h
  · exact hf h

end MemKept

end Sys2Proof.Machine
end

section
/-! Every command keeps the memories, and so does every step: no OTP bit is cleared (R437), and the content of DRAM, flash and OTP stays
canonical. -/

namespace Sys2Proof.Machine

/-- The command is an effect on what stands beside the queue, under which the memories are kept. -/
def KeepsMems (c : Instr) (s : State) : Prop := ∃ f, exec c s = s.act f ∧ MemKept s.mems (f s).mems

namespace KeepsMems

variable {c : Instr} {s : State} {f : State → State}

theorem act (h : exec c s = s.act f) (hk : MemKept s.mems (f s).mems) : KeepsMems c s := ⟨f, h, hk⟩

theorem when {b : Bool} (h : exec c s = s.actWhen b f) (hk : MemKept s.mems (f s).mems) : KeepsMems c s := by
  refine ⟨_, h, ?_⟩
  cases b with
  | false => exact .refl _
  | true => exact hk

theorem live (h : exec c s = s.actLive f) (hk : MemKept s.mems (f s).mems) : KeepsMems c s := when h hk

theorem timed (h : exec c s = s.actTimed f) (hk : MemKept s.mems (f s).mems) : KeepsMems c s := when h hk

theorem call {n : Nat} {k : Call} (h : exec c s = s.actCall n k f)
    (hk : ∀ {t : State}, MemKept s.mems t.mems → MemKept s.mems (f t).mems) : KeepsMems c s := live h (.serve (.refl _) n k hk)

theorem write {r : ReqId} {a : Nat} {v : Word} (h : exec c s = s.actWrite r a v) : KeepsMems c s := act h (.localWrite (.refl _) _ _ _)

theorem read {r : ReqId} {a : Nat} (h : exec c s = s.actRead r a) : KeepsMems c s := act h (by simp)

end KeepsMems

open MemKept in
/-- Every command keeps the memories. -/
theorem exec_keepsMems (c : Instr) (s : State) : KeepsMems c s := by
  cases c
  case pllEnable | pllDisable | clockSwitch | divWrite | bclkGate | rootGate | xmergeClr | dramEnable | dramDisable | eqLo | eqHi |
    edgeDisable | edgeEnable | grpCommit | msixPendClear | sw0Raise | sw1Raise | txWord | txPost | mbLockWrite | boughFreeze |
    boughResume | cadClr | retrain | ctxCommit | abseilEnter | abseilRelease | hbKick | stateWrite | missedClr | pinLockArm |
    pinLockKey | commit | lock | ropeEnable | belay | portCntClr | sdfStart | sdfStop =>
    exact .write (by unfold exec; exact rfl)
  case capLoRead | rxInfo0Read | mbLockRead | timeStatRead =>
    exact .read (by unfold exec; exact rfl)
  case xtalStart | xtalFail | activeClockEdge | calendarSecond | perstNAssert | perstNRelease | parkEnd | vinLowAsleep | vinAboveWarn |
    vinOv | railRetry | phaseFault | kMeasure | timeLatch | budgetRefill =>
    exact .act (by unfold exec; exact rfl) (by simp)
  case idcode | samplePreload | extest | clampInstr | highz | bypass =>
    exact .when (by unfold exec; exact rfl) (by simp)
  case pllLossOfLock | refclkLoss | tpllRelock | clockSwitchDone | dramRequest | agePromote | rowIdleClose | refresh | retrim |
    dramScrubRead | portClkMeasure | msixSend | ropeEventSend | fabricEvent | hsRequest | channelPush | channelValid | channelPop |
    crossingEvent | bramEccError | eraseTempTimeout | hotReset | flr | linkChange | bar4Access | i2cWrite | i2cRead |
    configurationSpaceWrite | wipeDone | releaseRank | releasePorts | releasePins | scrubFrame | debugTimeout | guideCall |
    vccioMeasure | pitchStart | periodicPitch | grantTimeout | pitchRetry | holdoffEnd | dbeCheckTimeout | guideWait |
    guideTakeRequest | guideResponsePost | guideReplyRetry | entryUndo | commitTransfer | ropeLock | joinCheck | joinOpen | joined |
    joinTimeout | leadingStart | leaveDone | subStale | portFault | wrapNrClear | unwrap | rateReturn | rateSwitch | syncLost |
    listenTimeout | timeStepCommit | timeSlewCommit =>
    exact .live (by unfold exec; exact rfl) (by simp)
  case queueEdge | pwmPeriodStart | pwmEdge | captureEdge | calCycleStart | lineCalDone | lineSwap | swapAbandon | mbTimeout |
    cadenceWindow | loopGridPoint | loopEventTrigger | loopSampleTrigger | abseilTrigger | outputApply | fslotWord | admissionDone |
    hb1Kick | hbMiss | cycleStart | cycleFrameRx | hopSend | sdfStopDone | sdfOutput | sdfCmpTrip | sdfClkFault | sdfRunFault |
    sdfBitSample | stepApply | servoMeasure | refLost | ppsEdge | timeWrap | boundUpdate =>
    exact .timed (by unfold exec; exact rfl) (by simp)
  case svcFlashErase | svcFlashBlankCheck | svcFlashStatus | svcReadback | svcDebugOpen | svcDebugClose | svcPitchRun |
    svcPitchSchedule | svcInfo | svcPageOwner | svcPinOwner | svcHoldEnter | svcSettingsStage | svcSettingsAbort =>
    refine .call (by unfold exec; exact rfl) fun h => ?_
    simpa using h
  case remoteAccess r n addr full k dwords poisoned =>
    exact .act (f := fun t => t.tlp r.toNat dwords.toNat (poisoned && k != .read) (k == .read) fun u =>
        u.remoteAccess r.toNat n.toNat addr.toNat full k) rfl
      (tlp (.refl _) _ _ _ _ fun h => remoteAccess h _ _ _ _ _)
  case accessFrameSend => exact .live (f := (·.onRope State.frameSend)) rfl (onRope (.refl _) fun h => by simpa using h)
  case rdReqRx port f w => exact .live (f := fun t => t.accessIn port f w (·.rdReqRx f)) rfl (accessIn (.refl _) _ _ _ fun h => rdReqRx h _)
  case wrReqRx port f w => exact .live (f := fun t => t.accessIn port f w (·.wrReqRx f)) rfl (accessIn (.refl _) _ _ _ fun h => wrReqRx h _)
  case mbxRx port f w => exact .live (f := fun t => t.accessIn port f w (·.mbxRx f)) rfl (accessIn (.refl _) _ _ _ fun h => mbxRx h _)
  case rdRspRx port f w => exact .live (f := fun t => t.accessIn port f w (·.rdRspIn f)) rfl (accessIn (.refl _) _ _ _ fun h => by simpa using h)
  case wrAckRx port f w => exact .live (f := fun t => t.accessIn port f w (·.wrAckIn f)) rfl (accessIn (.refl _) _ _ _ fun h => by simpa using h)
  case mbxAckRx port f w => exact .live (f := fun t => t.accessIn port f w (·.mbxAckIn f)) rfl (accessIn (.refl _) _ _ _ fun h => by simpa using h)
  case nakRx port f w => exact .live (f := fun t => t.accessIn port f w (·.nakIn f)) rfl (accessIn (.refl _) _ _ _ fun h => by simpa using h)
  case retxTimeout n => exact .live (f := fun t => t.onRope (·.retxTimeout n.toNat)) rfl (onRope (.refl _) fun h => by simpa using h)
  case pos0Pass br f => exact .live (f := fun t => t.onRope (·.pos0Pass br f)) rfl (onRope (.refl _) fun h => by simpa using h)
  case frameForward fromBranch f =>
    exact .live (f := fun t => t.onRope (·.frameForward fromBranch f)) rfl (onRope (.refl _) fun h => by simpa using h)
  case pllLock p => exact .live (f := (·.pllLocked p.toNat)) rfl (pllLocked (.refl _) _)
  case timingPllLock => exact .act (f := (·.timingLocked)) rfl (timingLocked (.refl _))
  case dramIssue ready => exact .live (f := (·.dramIssue ready)) rfl (dramIssue (.refl _) _)
  case dramReadDone seq ups => exact .live (f := (·.dramReadDone seq ups)) rfl (dramReadDone (.refl _) _ _)
  case trainingDone sweeps => exact .live (f := (·.trainingDone sweeps)) rfl (trainingDone (.refl _) _)
  case bootCalDone i => exact .timed (f := (·.bootCalPage i.toNat)) rfl (bootCalPage (.refl _) _)
  case svcFlashRead c => exact .call (f := (·.flashReadCall c)) rfl fun h => flashReadCall h _
  case svcFlashProgram c tj => exact .call (f := (·.flashProgram c tj.toInt)) rfl fun h => flashProgram h _ _
  case svcFlashSuspend c => exact .call (f := (·.flashSuspend c)) rfl fun h => flashSuspend h _
  case svcFlashResume c => exact .call (f := (·.flashResume c.call c.tj.toInt)) rfl fun h => flashResume h _ _
  case erasePulseDone pass tj => exact .live (f := (·.erasePulse pass tj.toInt)) rfl (erasePulse (.refl _) _ _)
  case programPulseDone pass tj => exact .live (f := (·.programPulse pass tj.toInt)) rfl (programPulse (.refl _) _ _)
  case eraseTempResume tj => exact .live (f := (·.eraseResume tj.toInt)) rfl (eraseResume (.refl _) _)
  case svcHeartRead c => exact .call (f := (·.heartRead c)) rfl fun h => heartRead h _
  case svcCalendarSet c tj => exact .call (f := (·.calendarSet c tj.toInt)) rfl fun h => calendarSet h _ _
  case alarm fails => exact .act (f := (·.alarm fails)) rfl (alarm (.refl _) _)
  case heartCountWrite tj => exact .act (f := (·.heartCountWrite tj.toInt)) rfl (heartCountWrite (.refl _) _)
  case heartDeferredWrite tj => exact .act (f := (·.heartDeferredWrite tj.toInt)) rfl (heartDeferredWrite (.refl _) _)
  case heartRebase tj => exact .act (f := (·.heartRebaseDue tj.toInt)) rfl (heartRebaseDue (.refl _) _)
  case i2cAddressMatch fails => exact .act (f := (·.i2cMatch fails)) rfl (i2cMatch (.refl _) _)
  case svcImageLoad c => exact .call (f := (·.imageLoad 0x0301 c)) rfl fun h => imageLoad h _ _
  case svcImageSwitch c => exact .call (f := (·.imageLoad 0x0302 c)) rfl fun h => imageLoad h _ _
  case svcImageVerify c _ _ => exact .call (f := (·.imageVerify c)) rfl fun h => imageVerify h _
  case svcGroveLoad c => exact .call (f := (·.groveLoad c)) rfl fun h => groveLoad h _
  case svcBootBank c tj => exact .call (f := fun t => (t.sampleTj tj.toInt).bootBankCall c) rfl fun h => bootBankCall (by simpa using h) _
  case nop header tagOk => exact .live (f := (·.packetNop header tagOk)) rfl (packetNop (.refl _) _ _)
  case deviceId header tagOk => exact .live (f := (·.packetDeviceId header tagOk)) rfl (packetDeviceId (.refl _) _ _)
  case wregMode header tagOk => exact .live (f := (·.packetMode header tagOk)) rfl (packetMode (.refl _) _ _)
  case wregUsercode header tagOk => exact .live (f := (·.packetUsercode header tagOk)) rfl (packetUsercode (.refl _) _ _)
  case frame header tagOk d check => exact .live (f := (·.packetFrame header tagOk d check)) rfl (packetFrame (.refl _) _ _ _ _)
  case keyRoll header tagOk => exact .live (f := (·.packetKeyRoll header tagOk)) rfl (packetKeyRoll (.refl _) _ _)
  case end_ header tagOk crc digestOk => exact .live (f := (·.packetEnd header tagOk crc digestOk)) rfl (packetEnd (.refl _) _ _ _ _)
  case fallbackLoad => exact .live (f := (·.fallbackLoad)) rfl (fallbackLoad (.refl _))
  case releaseDone tj => exact .live (f := (·.releaseDone tj.toInt)) rfl (releaseDone (.refl _) _)
  case readbackCapture => exact .timed (f := (·.readbackCapture)) rfl (readbackCapture (.refl _))
  case essAction => exact .live (f := (·.essAction)) rfl (essAction (.refl _))
  case lcTransition c word erased loss tj =>
    exact .call (f := fun t => t.lcTransition c { word := word.toNat, erased := erased.toNat, loss } tj.toInt) rfl fun h => lcTransition h _ _ _
  case otpWrite c word erased loss tj =>
    exact .call (f := fun t => t.otpWriteCall c { word := word.toNat, erased := erased.toNat, loss } tj.toInt) rfl fun h => otpWriteCall h _ _ _
  case debugAccess write ofs v => exact .when (f := (·.debugAccess write ofs v)) rfl (debugAccess (.refl _) _ _ _)
  case pitchDone misr fails => exact .live (f := (·.pitchDone misr fails)) rfl (pitchDone (.refl _) _ _)
  case linkCheckDone port bad => exact .live (f := fun t => t.linkCheckDone (portPage port - 0x541) bad) rfl (linkCheckDone (.refl _) _ _)
  case vinGood vin straps => exact .act (f := (·.vinGood vin.toNat straps)) rfl (vinGood (.refl _) _ _)
  case powerOnReset => exact .act (f := (·.powerLost)) rfl (powerLost (.refl _))
  case brace vin => exact .act (f := (·.brace vin.toNat)) rfl (brace (.refl _) _)
  case heartBraceWrite tj => exact .act (f := (·.heartBraceWrite tj.toInt)) rfl (heartBraceWrite (.refl _) _)
  case autoHoldRelease => exact .live (f := (·.autoRelease)) rfl (autoRelease (.refl _))
  case railFault rail above => exact .act (f := (·.railFault rail.toNat above)) rfl (railFault (.refl _) _ _)
  case rstNAssert => exact .act (f := (·.rstN)) rfl (rstN (.refl _))
  case deviceResetEnd => exact .act (f := (·.resetEnd)) rfl (resetEnd (.refl _))
  case svcDeviceReset c => exact .call (f := (·.deviceReset c)) rfl fun h => deviceReset h _
  case svcHoldRelease c => exact .call (f := (·.holdRelease c)) rfl fun h => holdRelease h _
  case svcServiceEnter c => exact .call (f := (·.serviceEnter c)) rfl fun h => serviceEnter h _
  case svcServiceExit c => exact .call (f := (·.serviceExit c)) rfl fun h => serviceExit h _
  case svcPwrEnter c passed tj =>
    refine .live (by unfold exec; exact rfl) ?_
    split
    · exact .refl _
    · exact serve (.refl _) _ _ fun h => pwrEnter h _ _ _
  case svcPwrPolicy c => exact .call (f := (·.pwrPolicy c)) rfl fun h => pwrPolicy h _
  case wakeN fails => exact .act (f := (·.wakeN fails)) rfl (wakeN (.refl _) _)
  case pinWake n rising fails => exact .act (f := (·.pinWakeEdge n.toNat rising fails)) rfl (pinWakeEdge (.refl _) _ _ _)
  case vinRestore fails => exact .act (f := (·.vinRestore fails)) rfl (vinRestore (.refl _) _)
  case timeReconstruct sub => exact .act (f := (·.timeReconstruct sub.toNat)) rfl (timeReconstruct (.refl _) _)
  case budgetStep => exact .act (f := (·.budgetStep)) rfl (budgetStep (.refl _))
  case registerWrite r addr v full dwords poisoned =>
    refine .act (by unfold exec; exact rfl) ?_
    split
    · exact tlp (.refl _) _ _ _ _ fun h => writeReg h _ _ _ _
    · exact .refl _
  case snapshotRead r addr dwords =>
    exact .act (f := fun t => t.tlp r.toNat dwords.toNat false true (fun u => u.localRead r.toNat addr.toNat)) rfl
      (tlp (.refl _) _ _ _ _ fun h => by simpa using h)
  case cycleFrameReturn port f a =>
    exact .timed (f := fun t => t.frameIn port (cycleCheck f a.wire) true (fun u => u.cycleReturn (port == .branch) (port == .west) f a.time)) rfl
      (frameIn (.refl _) _ _ _ fun h => by simpa using h)
  case hopRx br seq turn t4 w =>
    exact .timed (f := fun t => t.frameIn (if br then .branch else .east) (checkFrame w (hopHead (headSrc w) seq) (bytesOf 4 turn.toNat)) true fun u =>
        (u.reach t4).hopRx br seq turn t4) rfl
      (frameIn (.refl _) _ _ _ fun h => by simpa using h)
  case hopHold br => exact .timed (f := fun t => t.onRope (·.hopHold br)) rfl (onRope (.refl _) fun h => by simpa using h)
  case svcSettingsRead c => exact .call (f := (·.settingsRead c)) rfl fun h => settingsRead h _
  case svcSettingsCommit c tj => exact .call (f := (·.settingsCommit c tj.toInt)) rfl fun h => settingsCommit h _ _
  case svcClampLog c => exact .call (f := (·.clampLogCall c)) rfl fun h => clampLogCall h _
  case deferredCommitWrite tj => exact .live (f := fun t => (t.writeDeferred tj.toInt).showBootPend) rfl (by simpa using writeDeferred (.refl _) _)
  case compaction tj => exact .live (f := fun t => (t.sampleTj tj.toInt).compaction) rfl (compaction (by simp))

/-- A step on a queue with a front carries that front out on the state with the rest. -/
theorem step_front {c : Instr} {rest : List Instr} {s : State} (h : s.pending = c :: rest) : step s = exec c (s.withPending rest) := by
  simp only [step, h]

theorem step_idle {s : State} (h : s.pending = []) : step s = .next s.tick := by
  simp only [step, h]

/-- A step keeps the memories: a command by what it does, an idle step because it moves device time alone. -/
theorem step_keepsMems {s t : State} (h : step s = .next t) : MemKept s.mems t.mems := by
  cases hq : s.pending with
  | nil =>
    rw [step_idle hq] at h
    cases h
    simp
  | cons c rest =>
    obtain ⟨f, hf, hk⟩ := exec_keepsMems c (s.withPending rest)
    rw [step_front hq, hf] at h
    cases h
    exact hk

/-- Settles O9: no effect on the memories clears an OTP bit. -/
theorem otpBitsStay : Obligations.OtpBitsStay := fun _ _ h => (step_keepsMems h).1

/-- Settles O8: every effect on the memories keeps their canonical form. -/
theorem memoryStaysCanonical : Obligations.MemoryStaysCanonical := fun _ _ hw h => (step_keepsMems h).2 hw

end Sys2Proof.Machine
end

section
/-! The queue: a step runs its front, every command is an effect on what stands beside the queue, and an idle step is one cycle of device time
(log 2, log 3). -/

namespace Sys2Proof.Machine

/-! ### Every command is an effect -/

/-- Every command acts on all but the queue: its meaning is an effect of State.act. -/
theorem exec_isAct (c : Instr) (s : State) : ∃ f, exec c s = s.act f := by
  obtain ⟨f, hf, -⟩ := exec_keepsMems c s
  exact ⟨f, hf⟩

theorem exec_next (c : Instr) (s : State) : ∃ t, exec c s = .next t ∧ t.pending = s.pending := by
  obtain ⟨f, hf⟩ := exec_isAct c s
  rw [hf]
  exact s.act_next f

/-- What a command answers is a state whose queue stands as it was. -/
theorem pending_of_exec {c : Instr} {s t : State} (h : exec c s = .next t) : t.pending = s.pending := by
  obtain ⟨u, hu, hq⟩ := exec_next c s
  cases hu.symm.trans h
  exact hq

/-! ### What moves device time leaves the queue -/

theorem State.ctxFlag_pending (s : State) (n b : Nat) : (s.ctxFlag n b).pending = s.pending := by
  unfold State.ctxFlag
  split
  · exact State.loopEvent_pending _ n
  · rfl

theorem State.regrid_pending (s : State) (n : Nat) (old new : DevTime) (gap : Bool) : (s.regrid n old new gap).pending = s.pending := by
  unfold State.regrid
  split
  · rfl
  · extract_lets c p ph nb nb0 passed from_ early s1
    split
    · exact State.ctxFlag_pending _ n 1
    · rfl

theorem State.wrapEffects_pending (s : State) (new : DevTime) : (s.wrapEffects new).pending = s.pending :=
  List.foldlRecOn (motive := fun (t : State) => t.pending = s.pending) _ _ (s.raiseAt_pending 82 new) fun t ht n _ =>
    (t.regrid_pending n 0 0 false).trans ht

theorem State.reach_pending (s : State) (t : DevTime) : (s.reach t).pending = s.pending := by
  unfold State.reach
  split
  · rfl
  · extract_lets old left s1 s2 s3
    have h3 : s3.pending = s.pending := by unfold s3; split <;> rfl
    split
    · exact (s3.wrapEffects_pending t).trans h3
    · exact h3

/-- Device time stands at the instant reached, where that lies ahead. -/
theorem State.reach_now {s : State} {t : DevTime} (h : laterThan t s.time.now = true) : (s.reach t).time.now = t := by
  unfold State.reach
  rw [if_neg (by simp [h])]
  extract_lets old left s1 s2 s3
  have h3 : s3.time.now = t := by unfold s3; split <;> rfl
  split
  · rw [(s3.wrapEffects_keepsTimeAndEdges t).1, h3]
  · exact h3

/-- One nanosecond ahead of an instant from which device time does not wrap is later than it. -/
theorem laterThan_add_ns (t : DevTime) : laterThan (t + ns 1) t = true := by
  have hne : t + ns 1 ≠ t := by
    intro h
    have : ns 1 = 0 := by simpa using h
    exact absurd this (by decide)
  have hsub : t + ns 1 - t = ns 1 := by rw [BitVec.add_comm, BitVec.add_sub_cancel]
  simp [laterThan, hne, hsub]
  decide

/-! ### The statements -/

/-- Settles O1: a step on a queue with a front is that front's execution. -/
theorem stepRunsFront : Obligations.StepRunsFront := fun _ _ _ h => step_front h

/-- Settles O2: the idle step is a tick, which reaches the next nanosecond of a running device time. -/
theorem idleStepTicks : Obligations.IdleStepTicks := by
  refine ⟨fun s hq hr => ?_, fun s hq hr => ?_, fun s hq hr _ => ⟨s.reach (s.time.now + ns 1), ?_, ?_, ?_⟩⟩
  · rw [step_idle hq, State.tick, if_pos hr]
  · rw [step_idle hq, State.tick, if_neg (by simp [hr])]
  · rw [step_idle hq, State.tick, if_pos hr]
  · exact State.reach_now (laterThan_add_ns _)
  · rw [State.reach_pending, hq]

/-- Settles O3: a command is an effect of State.act, which puts the queue back. -/
theorem everyCommandAnswers : Obligations.EveryCommandAnswers := exec_next

/-- The state after the front commands of a queue that is not empty is what its front leaves, carried on. -/
theorem State.afterFront_succ {s t : State} {c : Instr} {rest : List Instr} {n : Nat} (hq : s.pending = c :: rest)
    (ht : exec c (s.withPending rest) = .next t) : s.afterFront (n + 1) = t.afterFront n := by
  simp only [State.afterFront, hq, ht]

/-- Settles O4, by induction on the number of steps. -/
theorem queueInOrder : Obligations.QueueInOrder := by
  intro s n
  induction n generalizing s with
  | zero => exact fun _ => ⟨rfl, rfl⟩
  | succ n ih =>
    intro hn
    cases hq : s.pending with
    | nil => simp [hq] at hn
    | cons c rest =>
      obtain ⟨t, ht, htq⟩ := exec_next c (s.withPending rest)
      have hlen : n ≤ t.pending.length := by simpa [htq, hq] using hn
      obtain ⟨hrun, hdrop⟩ := ih t hlen
      have hstep : Sys2Proof.core.step s = .next t := (step_front hq).trans ht
      rw [State.afterFront_succ hq ht]
      refine ⟨?_, ?_⟩
      · simp only [Host.Core.run, hstep]
        exact hrun
      · rw [hdrop, htq]
        rfl

/-- Settles O7: a step with a front leaves the queue's rest, and an idle step the empty queue. -/
theorem queueStaysWellFormed : Obligations.QueueStaysWellFormed := by
  intro s t hok hst
  cases hq : s.pending with
  | nil =>
    rw [step_idle hq] at hst
    cases hst
    have htick : s.tick.pending = [] := by
      unfold State.tick
      split
      · rw [State.reach_pending, hq]
      · exact hq
    simp [QueueOk, htick]
  | cons c rest =>
    rw [step_front hq] at hst
    unfold QueueOk at hok ⊢
    rw [hq, List.all_cons, Bool.and_eq_true] at hok
    rw [pending_of_exec hst]
    exact hok.2

/-- Settles O6: the queue of the reset state is empty, and its memories list nothing. -/
theorem resetInGoodOrder : Obligations.ResetInGoodOrder := ⟨rfl, rfl⟩

end Sys2Proof.Machine
end

section
/-! What reset leaves, the resets and rails, and the supply monitors (R45, R461 to R469, R477, R487). -/

namespace Sys2Proof.Machine

/-! ### Reset -/

/-- Settles O5: the stores of the reset state list nothing, so each entry reads its default. -/
theorem resetState : Obligations.ResetState := by
  refine ⟨fun _ => ⟨rfl, rfl⟩, rfl, rfl, rfl, rfl, rfl, rfl, fun _ => rfl, fun _ n => ?_, fun _ => rfl, fun _ => ⟨rfl, rfl⟩,
    fun w hw => ?_, fun w hw => ?_⟩
  · simp [State.dramGet, State.reset, SMap.get]
  · exact if_pos hw
  · simp only [State.otpWord, State.reset, SMap.get, Config.otpShipped, reduceCtorEq, if_false]
    rw [if_neg (by omega), if_neg (by omega)]

/-! ### Power-on reset, the device reset and the rails -/

/-- The device reset keeps the AON bits of every register but MODE, and the DRAM content in self-refresh. -/
theorem State.resetAssert_keeps (s : State) :
    (∀ a, a ≠ aMODE → s.resetAssert.reg a = SMap.get regReset (keepBits aonBits s.regs.act) a) ∧
    s.resetAssert.reg aMODE = BitVec.ofNat 32 (mRUN * 2 ^ 12 + s.mode * 2 ^ 8 + mLOAD) ∧
    s.resetAssert.dramMem = (if s.dram.selfRefresh then s.dramMem else []) := by
  refine ⟨fun a ha => ?_, ?_, rfl⟩
  · simp only [State.resetAssert, State.reg_settlePins, State.reg_setReg_ne _ _ _ _ ha]
    rfl
  · simp only [State.resetAssert, State.reg_settlePins, State.reg_setReg_same]

theorem State.rstN_started {s : State} (h : s.power.cold = false) : s.rstN = s.resetAssert := by simp [State.rstN, h]

theorem State.railFault_on {s : State} {rail : Nat} (above : Bool) (hi : s.power.inReset = false) (hb : s.mode ≠ mBIVOUAC) (ho : s.mode ≠ mOFF)
    (h0 : rail ≠ 0) (h3 : rail ≤ 3) :
    s.railFault rail above = ((s.noteRailFault rail above).resetAssert).updPower fun p => { p with railsDown := true } := by
  simp [State.railFault, hi, hb, ho, h0, show ¬ 3 < rail by omega]

/-- Settles O16, clause by clause from what the resets keep. -/
theorem resetsAndRails : Obligations.ResetsAndRails := by
  refine ⟨fun s => ⟨.act rfl rfl, fun a => ?_, rfl, rfl, rfl, rfl, rfl, rfl, rfl⟩, fun s hc => ?_, fun s rail above hi hb ho h0 => ?_,
    fun s hi hr hc => .act (f := (·.railRetry)) rfl ?_, fun s vin straps hi hc hn => .act (f := (·.vinGood vin.toNat straps)) rfl ?_,
    fun s hi hc hr hn => .act (f := (·.resetEnd)) rfl ?_⟩
  · simp only [State.reg_settlePins]
    rfl
  · obtain ⟨hreg, hmode, hdram⟩ := s.resetAssert_keeps
    exact ⟨.act (f := (·.rstN)) rfl (State.rstN_started hc), hreg, hmode, rfl, rfl, hdram, rfl, rfl, rfl, rfl⟩
  · have hrail : rail.toNat ≠ 0 := fun h => h0 (BitVec.eq_of_toNat_eq h)
    exact ⟨.act (f := (·.railFault rail.toNat above)) rfl (State.railFault_on above hi hb ho hrail (by omega)), rfl, rfl, rfl, rfl, rfl, rfl⟩
  · simp [State.railRetry, hi, hr, hc, State.updPower]
  · simp [State.vinGood, hi, hc, hn, State.setVin]
  · simp [State.resetEnd, hi, hc, hr, hn]

/-! ### The supply monitors -/

theorem State.reg_updPower (s : State) (f : Power → Power) (a : Nat) : (s.updPower f).reg a = s.reg a := rfl

theorem State.heartLimit_power (s : State) (o m : Nat) : (s.heartLimit o m).power = s.power := by
  unfold State.heartLimit
  split <;> simp

theorem State.heartVin_power (s : State) (i : Nat) : (s.heartVin i).power = s.power := State.heartLimit_power _ _ _

theorem State.heartLimit_keepsErrs (s : State) (o m : Nat) : KeepsErrs s (s.heartLimit o m) := by
  unfold State.heartLimit
  exact .ite ((s.setErr_keepsErrs _ _).trans (State.raise_keepsErrs _ _ (by decide))) (.refl s)

theorem State.heartVin_keepsErrs (s : State) (i : Nat) : KeepsErrs s (s.heartVin i) := by
  unfold State.heartVin
  extract_lets n
  exact (KeepsErrs.of_regs (s.updHeart_regs _)).trans (State.heartLimit_keepsErrs _ _ _)

/-- An error counts no event but the one of its page, and 104. -/
theorem State.count_setErr_ne (s : State) {p b k : Nat} (hp : pageEvent p b ≠ some k) (hk : k ≠ 104) : (s.setErr p b).count k = s.count k := by
  unfold State.setErr
  split
  · rfl
  · dsimp only
    split
    · split
      · next e he => exact (State.count_raise_ne _ e k (fun h => hp (h ▸ he)) hk).trans rfl
      · rfl
    · rfl

theorem State.count_heartVin (s : State) (i : Nat) {k : Nat} (hk : k ≠ 121) (hp : k ≠ 116) (h4 : k ≠ 104) : (s.heartVin i).count k = s.count k := by
  have h0 (t : State) : ((t.setErr 0x720 16).raise 121).count k = t.count k := by
    rw [State.count_raise_ne _ _ _ hk h4, State.count_setErr_ne _ _ h4]
    exact fun h => hp (Option.some.inj h).symm
  simp only [State.heartVin, State.heartLimit]
  split
  · exact h0 _
  · rfl

theorem State.vinOv_awake {s : State} (ha : s.awake = true) : s.vinOv = ((s.setErr 0x002 20).raise 15).heartVin 4 := by
  have hi : s.power.inReset = false := by simpa using (Bool.and_eq_true_iff.mp ha).1
  simp [State.vinOv, ha, hi]

/-- The phases that are not marked failed. -/
def State.phasesLeft (s : State) : Nat := 4 - ((List.range 4).filter fun j => s.rb (aSUP 0x3C) (20 + j)).length

theorem State.phasesLeft_le {s : State} {k : Nat} (hk : k < 4) (h : s.rb (aSUP 0x3C) (20 + k) = true) : s.phasesLeft ≤ 3 := by
  have hmem : k ∈ (List.range 4).filter fun j => s.rb (aSUP 0x3C) (20 + j) := by simp [hk, h]
  have := List.length_pos_of_mem hmem
  unfold State.phasesLeft
  omega

theorem State.phaseFault_new {s : State} {k : Nat} (hk : k < 4) (ha : s.awake = true) (hb : s.boardVcore = false)
    (hf : s.rb (aSUP 0x3C) (20 + k) = false) : let s1 := (s.setB (aSUP 0x3C) (20 + k) true).setErr 0x002 19
    s.phaseFault k = s1.setF (aSUP 0x3C) 19 16 (min (s1.rf (aSUP 0x3C) 19 16) s1.phasesLeft) := by
  simp [State.phaseFault, State.phasesLeft, ha, hk, hb, hf]

/-- Settles O17, from what an error, an event and an entry of the heartwood leave. -/
theorem supplyMonitors : Obligations.SupplyMonitors := by
  refine ⟨fun s hi hm => .act (f := (·.vinLowAsleep)) rfl ?_, fun s vin ha hb => ?_,
    fun s vin ha hb => .act (f := (·.vinAboveWarn vin.toNat)) rfl ?_, fun s ha h20 => ?_,
    fun s hi ha => .act (f := (·.vinOv)) rfl ?_, fun s k ha hb hf => ?_⟩
  · simp [State.vinLowAsleep, hi, hm]
  · have hevt : evtPage (aSUP 0x24) = false := by decide
    refine ⟨.act (f := (·.vinAboveWarn vin.toNat)) rfl (by simp [State.vinAboveWarn, ha, hb, State.setVin]), ?_, ?_, ?_, ?_, ?_⟩
    · simp
    · rw [State.rf, State.raise_reg _ _ _ (by decide) hevt, State.reg_updPower, State.reg_setB, if_pos rfl, State.reg_setF, if_pos rfl,
        fld_setBit_ne _ _ _ _ _ (by decide) (by decide) (by decide), fld_setFld _ _ _ _ (by decide) (by decide)]
      exact Nat.mod_eq_of_lt vin.isLt
    · rw [State.rb, State.raise_reg _ _ _ (by decide) hevt, State.reg_updPower]
      exact State.rb_setB_same _ _ _ _ (by decide)
    · rw [State.count_raise _ _ (by decide)]
      rfl
    · simp
  · simp [State.vinAboveWarn, ha, hb, State.setVin]
  · refine ⟨.act (f := (·.vinOv)) rfl (State.vinOv_awake ha), ?_, ?_, ?_, ?_, ?_⟩
    · have hset : (s.setErr 0x002 20).rb (pg 0x002 0x00C) 20 = true := State.setErr_reads _ _ (by decide)
      exact ((State.raise_keepsErrs _ 15 (by decide)).trans (State.heartVin_keepsErrs _ 4)).2 _ _ (by decide) hset
    · rw [State.count_heartVin _ _ (by decide) (by decide) (by decide), State.count_raise _ _ (by decide),
        State.count_setErr_ne _ (by decide) (by decide)]
    · simp [State.heartVin_power]
    · exact congrArg Mems.dram (show (((s.setErr 0x002 20).raise 15).heartVin 4).mems = s.mems by simp)
    · exact congrArg Mems.otp (show (((s.setErr 0x002 20).raise 15).heartVin 4).mems = s.mems by simp)
  · simp [State.vinOv, hi, ha]
  · have hk : k.toNat < 4 := k.isLt
    have hreg (t : State) : (t.setErr 0x002 19).reg (aSUP 0x3C) = t.reg (aSUP 0x3C) :=
      State.setErr_reg _ _ _ _ (fun _ => pageEvent_lt) (by decide) (by decide)
    have hbit (t : State) (v : Nat) : (t.setF (aSUP 0x3C) 19 16 v).rb (aSUP 0x3C) (20 + k.toNat) = t.rb (aSUP 0x3C) (20 + k.toNat) := 
      State.rb_setF_ne _ _ _ _ _ _ _ (by omega) (by decide) (by omega)
    have hset : ((s.setB (aSUP 0x3C) (20 + k.toNat) true).setErr 0x002 19).rb (aSUP 0x3C) (20 + k.toNat) = true := by
      rw [State.rb, hreg]
      exact State.rb_setB_same _ _ _ _ (by omega)
    have hleft := State.phasesLeft_le hk hset
    refine ⟨.act (f := (·.phaseFault k.toNat)) rfl (State.phaseFault_new hk ha hb hf), ?_, ?_, ?_, ?_⟩
    · rw [hbit, hset]
    · rw [State.rb_setF_ne _ _ _ _ _ _ _ (by decide) (by decide) (.inl (by decide))]
      exact State.setErr_reads _ _ (by decide)
    · rw [State.rf_setF_of_lt _ _ _ _ _ (by decide) (by decide) (by omega)]
      exact (Nat.min_le_right _ _).trans hleft
    · simp

end Sys2Proof.Machine
end

section
/-! Entries to a power state, the policy, wakes, the time rebuilt and the wake budget (R473 to R486). -/

namespace Sys2Proof.Machine

/-! ### The entry, abort point by abort point (R473) -/

theorem State.pwrEnter_badTarget {s : State} {c : Call} {passed : Nat} {tj : Int} (h3 : fld c.w2 1 0 = 3) :
    s.pwrEnter c passed tj = (s.sampleTj tj).longOnce 0x0501 c rcBAD_ARG 0 [] := by
  simp [State.pwrEnter, h3]

section
variable {s : State} {c : Call} {tj : Int}

/-- The entry once it is admitted, with the loops stopped. -/
def State.entryLoops (s : State) (c : Call) : State := ((s.startLong 0x0501 c).enterStart (fld c.w2 1 0) c).enterLoop

/-- What an entry past its first abort point does, the loops being stopped. -/
theorem State.pwrEnter_passes (h3 : fld c.w2 1 0 ≠ 3) (hr : (s.sampleTj tj).enterRefusal (fld c.w2 1 0) = none)
    (hl : ((s.sampleTj tj).entryLoops c).loopsActive = false) :
    let s3 := ((s.sampleTj tj).entryLoops c).enterPins
    let s4 := s3.enterDram (fld c.w2 1 0)
    let s5 := s4.enterCopy (fld c.w2 1 0)
    s.pwrEnter c 1 tj = s3 ∧ s.pwrEnter c 2 tj = s4 ∧ s.pwrEnter c 3 tj = s5 ∧ s.pwrEnter c 4 tj = s5.enterArm ∧
    ∀ e, s5.enterArm.power.entry = some e → s.pwrEnter c 5 tj = s5.enterArm.powerDown e := by
  unfold State.entryLoops at hl ⊢
  refine ⟨?_, ?_, ?_, ?_, fun e he => ?_⟩ <;> simp [State.pwrEnter, h3, hr, hl]
  simp only [he]

end

/-! ### The policy (R475) -/

/-- The register that a policy write names. -/
def policyReg (c : Call) : Nat := (if bit c.w2 8 then pg 0x002 0 else pg 0x001 0) + fld c.w2 7 0

/-- The bits of a register that a policy write may not set. -/
def policyShut (a : Nat) : Word :=
  ~~~((match regSpec a with | some r => BitVec.ofNat 32 r.writable | none => 0) ||| BitVec.ofNat 32 (roBits a))

theorem State.pwrPolicy_badArg {s : State} {c : Call} (h : fld c.w2 31 16 ≠ 0 ∨ policyRegs.contains (policyReg c) = false ∨
    (fieldRules (policyReg c) c.w3).any (fun r => r.breaks c.w3) = true ∨ c.w3 &&& policyShut (policyReg c) ≠ 0) :
    s.pwrPolicy c = s.answerCall 0x0502 c rcBAD_ARG 0 (c.w2 :: (if (regSpec (policyReg c)).isSome then [s.reg (policyReg c)] else [])) := by
  have hbad : (fld c.w2 31 16 != 0 || !policyRegs.contains (policyReg c) || (fieldRules (policyReg c) c.w3).any (fun r => r.breaks c.w3) ||
      c.w3 &&& policyShut (policyReg c) != 0) = true := by
    simpa only [Bool.or_eq_true, bne_iff_ne, Bool.not_eq_true', or_assoc] using h
  exact if_pos hbad

theorem State.pwrPolicy_done {s : State} {c : Call} (h2 : fld c.w2 31 16 = 0) (hp : policyRegs.contains (policyReg c) = true)
    (hf : (fieldRules (policyReg c) c.w3).any (fun r => r.breaks c.w3) = false) (hw : c.w3 &&& policyShut (policyReg c) = 0) {v : State}
    (hv : (if policyReg c = aSUP 0x28 then (s.applyWrite (policyReg c) rGuide c.w3 false).railCfgWritten
      else s.applyWrite (policyReg c) rGuide c.w3 false) = v) :
    s.pwrPolicy c = v.answerCall 0x0502 c rcOK 0 [c.w2, v.reg (policyReg c)] := by
  have hgood : ¬ (fld c.w2 31 16 != 0 || !policyRegs.contains (policyReg c) || (fieldRules (policyReg c) c.w3).any (fun r => r.breaks c.w3) ||
      c.w3 &&& policyShut (policyReg c) != 0) = true := by
    simp only [h2, hp, hf, hw, bne_self_eq_false, Bool.not_true, Bool.or_false, Bool.false_eq_true, not_false_eq_true]
  rw [← hv]
  exact if_neg hgood

/-! ### The latch of the time, the wakes and the budget -/

/-- The RTC counter stands, or takes the ticks reached. -/
theorem State.rtcAdvance_cases (s : State) (n : Nat) :
    s.rtcAdvance n = s ∨ ∃ k, s.rtcAdvance n = (s.setTicks k).setReg (aRTC 0x30) (BitVec.ofNat 32 n) := by
  unfold State.rtcAdvance
  extract_lets c
  split
  · exact .inl rfl
  · exact .inr ⟨_, rfl⟩

theorem State.rtcAdvance_keeps (s : State) (n : Nat) : (s.rtcAdvance n).time = s.time ∧ (s.rtcAdvance n).rb aSRC_STAT 3 = s.rb aSRC_STAT 3 := by
  obtain h | ⟨k, h⟩ := s.rtcAdvance_cases n <;> rw [h]
  · exact ⟨rfl, rfl⟩
  · refine ⟨rfl, ?_⟩
    unfold State.setTicks State.rb
    rw [State.reg_setReg_ne _ _ _ _ (by decide), State.reg_setReg_ne _ _ _ _ (by decide), State.reg_setReg_ne _ _ _ _ (by decide)]

theorem State.wakeSource_sleep {s : State} (b : Nat) (fails : BitVec 16) (hi : s.power.inReset = false) (hw : s.power.waking = false)
    (hm : s.mode = mSLEEP) (hl : s.power.latched.isSome = true) :
    s.wakeSource b none fails = (((s.setReg (aPMU 0x28) 0).noteCause b none).updPower fun p =>
      { p with waking := true, wakeFails := fails, rebuildTime := true }).startDomains .wakeSleep := by
  have hn : ((s.setReg (aPMU 0x28) 0).noteCause b none).power.latched ≠ none := Option.isSome_iff_ne_none.mp hl
  unfold State.wakeSource
  rw [if_neg (by simp [hw]), if_neg (by simp [hi]), if_pos (.inl hm)]
  extract_lets s1 s2
  have h2 : s2 = s1 := if_neg (by simpa [s1] using hn)
  rw [h2, if_pos hm]

theorem State.budgetStep_last {s : State} {cost : Nat} (hw : s.power.waiting = [cost]) (hn : s.power.next = none)
    (hc : s.budgetCovers cost = true) :
    s.budgetStep = ((s.updPower fun p => { p with waiting := [] }).budgetDebit cost).showBudgetStat := by
  have hnext : (((s.updPower fun p => { p with waiting := [] }).budgetDebit cost).showBudgetStat).power.next = none := hn
  simp only [State.budgetStep, hw, hc, Bool.not_true, Bool.false_eq_true, if_false]
  simp only [hnext]

/-- Settles O21, clause by clause from the equations of the entry, the policy and the wakes. -/
theorem sleepAndWake : Obligations.SleepAndWake := by
  refine ⟨fun s c passed tj hc hp => ?_, fun s c hc => ⟨fun h => begun_call rfl hc (State.pwrPolicy_badArg h), fun h2 hreg hf hw => ?_⟩,
    fun s e ha he => .live (f := (·.entryUndo)) rfl ha (by simp only [State.entryUndo, he]), fun s sub hm hl => ?_,
    fun s sub hr h4 => .act (f := (·.timeReconstruct sub.toNat)) rfl (if_pos ⟨hr, h4⟩),
    fun s fails hi hw hm hl => .act (f := (·.wakeN fails)) rfl (State.wakeSource_sleep 0 fails hi hw hm hl),
    fun s fails hw => .act (f := (·.wakeN fails)) rfl ?_,
    fun s n rising fails hn hs h3 hsel => .act (f := (·.pinWakeEdge n.toNat rising fails)) rfl (if_pos ⟨hn, hs, h3, hsel⟩),
    fun s fails hm h18 h2 => .act (f := (·.vinRestore fails)) rfl (if_pos ⟨hm, h18, h2⟩), fun s cost hw hn hcov => ?_,
    fun s => ⟨.act (f := (·.budgetRefill)) rfl rfl, rfl⟩⟩
  · have hpitch : (s.bist.running.any fun p => !p.waitGrant) = false := by simp [hp]
    refine ⟨fun h3 => svcPwrEnter_answers hc hpitch (State.pwrEnter_badTarget h3),
      fun r h3 hr => svcPwrEnter_answers hc hpitch (State.pwrEnter_refused h3 hr), ?_, ?_, ?_⟩
    · rintro h3 hr rfl
      exact svcPwrEnter_answers hc hpitch (State.pwrEnter_starts h3 hr)
    · rintro h3 hr rfl s2 s6 hl e he
      obtain ⟨-, -, -, -, h5⟩ := State.pwrEnter_passes h3 hr hl
      exact svcPwrEnter_answers hc hpitch (h5 e he)
    · intro h3 hr s2 hl
      obtain ⟨h1, h2, h3', h4, -⟩ := State.pwrEnter_passes h3 hr hl
      refine ⟨?_, ?_, ?_, ?_⟩ <;> rintro rfl <;> apply svcPwrEnter_answers hc hpitch
      exacts [h1, h2, h3', h4]
  · exact ⟨fun ha => begun_call rfl hc (State.pwrPolicy_done h2 hreg hf hw (if_neg ha)),
      fun ha => begun_call rfl hc (State.pwrPolicy_done h2 hreg hf hw (if_pos ha))⟩
  · obtain ⟨htime, hxtal⟩ := s.rtcAdvance_keeps sub.toNat
    refine ⟨.act (f := (·.timeLatch sub.toNat)) rfl (if_pos ⟨hm, by simp [hl]⟩), ?_, ?_, rfl⟩
    · simp only [htime, hxtal]
    · simp only [htime]
  · simp [State.wakeN, State.wakeSource, hw, State.noteCause]
  · refine ⟨.act (f := (·.budgetStep)) rfl (State.budgetStep_last hw hn hcov), rfl, ?_⟩
    exact State.rf_setF_of_lt _ _ _ _ _ (by decide) (by decide) (Nat.two_pow_pos _)

end Sys2Proof.Machine
end

section
/-! The packets of a configuration stream (R387 to R393, R397, R406, R415, R416). -/

namespace Sys2Proof.Machine

/-! ### A packet in its place -/

theorem State.packetActs_error {s : State} {l : Load} {h : BitVec 64} {d b : List Byte} {write : State → State} {c : Nat}
    (ha : l.accept (s.loadRules l) h d b = .error c) : s.packetActs l h d b write = s.failLoad l c (pktFa h) := by
  simp only [State.packetActs, ha]

theorem State.packetActs_taken {s : State} {l m : Load} {h : BitVec 64} {d b : List Byte} {write : State → State}
    (ha : l.accept (s.loadRules l) h d b = .ok m) (h7 : pktOp h ≠ 7) :
    s.packetActs l h d b write = ((write s).updLoad fun _ => m).packetTaken (pktLen h) d := by
  simp only [State.packetActs, ha, if_neg h7]

theorem State.packetActs_ended {s : State} {l m : Load} {h : BitVec 64} {d b : List Byte} {write : State → State}
    (ha : l.accept (s.loadRules l) h d b = .ok m) (h7 : pktOp h = 7) :
    s.packetActs l h d b write = ((write s).updLoad fun _ => m).streamEnded := by
  simp only [State.packetActs, ha, if_pos h7]

section
variable {s t : State} {l m : Load} {h : BitVec 64} {op len : Nat} {d b : List Byte} {c : Instr} {reg : Option Nat}
  {agrees : Load → List Byte → Option (List Byte) → Bool} {write : Load → List Byte → State → State}

/-- A packet whose bytes open acts with its plain body. -/
theorem PacketNext.acts (hn : PacketNext s l h op len d) (ho : l.opened d = some b)
    (hc : exec c s = s.actLive (·.takePacket h op reg agrees write)) (hr : reg.any (fun r => pktReg h != r) = false)
    (h2 : op = 2 → pktReg h = 1 ∨ pktReg h = 2) (ha : agrees l d (some b) = true)
    (ht : (s.afterPacket l len).packetActs l h d b (write l b) = t) : Answers c s t := by
  refine .live hc hn.1 ?_
  rw [hn.take reg hr h2 agrees (by rwa [ho]) write, ho]
  exact ht

/-- A packet whose bytes do not open ends the load with TAG. -/
theorem PacketNext.tagFails (hn : PacketNext s l h op len d) (ho : l.opened d = none)
    (hc : exec c s = s.actLive (·.takePacket h op reg agrees write)) (hr : reg.any (fun r => pktReg h != r) = false)
    (h2 : op = 2 → pktReg h = 1 ∨ pktReg h = 2) (ha : agrees l d none = true) :
    Answers c s ((s.afterPacket l len).failLoad l ccTAG (pktFa h)) := by
  refine .live hc hn.1 ?_
  rw [hn.take reg hr h2 agrees (by rwa [ho]) write, ho]

theorem PacketNext.op_eq (hn : PacketNext s l h op len d) : pktOp h = op := by
  obtain ⟨-, -, -, -, hop, -⟩ := hn
  exact hop

theorem PacketNext.len_eq (hn : PacketNext s l h op len d) : pktLen h = len := by
  obtain ⟨-, -, -, -, -, -, hlen, -⟩ := hn
  exact hlen

/-- FAIL_FA holds the frame address of a FRAME, and no other packet has one. -/
theorem PacketNext.fa (hn : PacketNext s l h op len d) : pktFa h = if op = 3 then some (pktArg h) else none := by
  simp only [pktFa, hn.op_eq]

/-- A packet that the load does not accept fails it, with the cause that the rule names. -/
theorem PacketNext.refused {k : Nat} (hn : PacketNext s l h op len d)
    (hacc : ∀ u : State, u = s.afterPacket l len → l.accept (u.loadRules l) h d b = .error k) (f : State → State) :
    (s.afterPacket l len).packetActs l h d b f = (s.afterPacket l len).failLoad l k (if op = 3 then some (pktArg h) else none) := by
  rw [State.packetActs_error (hacc _ rfl), hn.fa]

/-- A packet other than END that the load accepts is taken, its bits written. -/
theorem PacketNext.taken (hn : PacketNext s l h op len d) (h7 : op ≠ 7)
    (hacc : ∀ u : State, u = s.afterPacket l len → l.accept (u.loadRules l) h d b = .ok m) (f : State → State) :
    (s.afterPacket l len).packetActs l h d b f = ((f (s.afterPacket l len)).updLoad fun _ => m).packetTaken len d := by
  rw [State.packetActs_taken (hacc _ rfl) (by rwa [hn.op_eq]), hn.len_eq]

end

/-- What a packet without bits of its own is checked for: that its bytes open as its command says. -/
def opensAs (tagOk : Bool) (_ : Load) (_ : List Byte) (o : Option (List Byte)) : Bool := o.isSome == tagOk

/-- A packet without bits of its own writes nothing. -/
def writesNothing (_ : Load) (_ : List Byte) (t : State) : State := t

theorem exec_nop (h : BitVec 64) (ok : Bool) (s : State) :
    exec (.nop h ok) s = s.actLive (·.takePacket h 0 none (opensAs ok) writesNothing) := rfl

theorem exec_deviceId (h : BitVec 64) (ok : Bool) (s : State) :
    exec (.deviceId h ok) s = s.actLive (·.takePacket h 1 none (opensAs ok) writesNothing) := rfl

theorem exec_wregMode (h : BitVec 64) (ok : Bool) (s : State) :
    exec (.wregMode h ok) s = s.actLive (·.takePacket h 2 (some 1) (opensAs ok) writesNothing) := rfl

theorem exec_wregUsercode (h : BitVec 64) (ok : Bool) (s : State) :
    exec (.wregUsercode h ok) s = s.actLive (·.takePacket h 2 (some 2) (opensAs ok) writesNothing) := rfl

theorem exec_keyRoll (h : BitVec 64) (ok : Bool) (s : State) :
    exec (.keyRoll h ok) s = s.actLive (·.takePacket h 5 none (opensAs ok) writesNothing) := rfl

/-- What a FRAME is checked for: that it opens as its command says, to the data and the check that its command names. -/
def opensToFrame (ok : Bool) (x : BitVec 4096) (check : Word) (_ : Load) (_ : List Byte) (o : Option (List Byte)) : Bool :=
  o.isSome == ok && o.all fun b => frameData b == x && frameChk b == check

/-- A FRAME writes the cells of its index. -/
def writesFrame (a : Word) (l : Load) (b : List Byte) (t : State) : State :=
  match frameIndex a with
  | none => t
  | some ix => t.loadWrites l ix (frameData b)

theorem exec_frame (h : BitVec 64) (ok : Bool) (x : BitVec 4096) (check : Word) (s : State) :
    exec (.frame h ok x check) s = s.actLive (·.takePacket h 3 none (opensToFrame ok x check) (writesFrame (pktArg h))) := rfl

/-- What END is checked for: that it opens as its command says, to the CRC and the digest that its command names. -/
def opensToEnd (ok : Bool) (crc : Word) (digestOk : Bool) (l : Load) (d : List Byte) (o : Option (List Byte)) : Bool :=
  o.isSome == ok && o.all fun b => BitVec.ofNat 32 (ofBytes b) == crc && l.digestPasses d == digestOk

theorem exec_end (h : BitVec 64) (ok : Bool) (crc : Word) (digestOk : Bool) (s : State) :
    exec (.end_ h ok crc digestOk) s = s.actLive (·.takePacket h 7 none (opensToEnd ok crc digestOk) writesNothing) := rfl

/-! ### What a load accepts -/

section
variable {l : Load} {r : PacketRules} {h : BitVec 64} {d b : List Byte}

theorem Load.accept_nop (hop : pktOp h = 0) : l.accept r h d b = if l.pkt < 2 ∨ l.rollDue then .error ccSEQUENCE else .ok l := by
  simp only [Load.accept, Load.acceptHead, hop]

theorem Load.accept_deviceId (hop : pktOp h = 1) :
    l.accept r h d b = if l.pkt ≠ 0 then .error ccSEQUENCE else if pktArg h ≠ 0x10524AF3 then .error ccDEVICE_ID else .ok l := by
  simp only [Load.accept, Load.acceptHead, hop]

theorem Load.accept_mode (hop : pktOp h = 2) (hreg : pktReg h = 1) :
    l.accept r h d b = if l.pkt ≠ 1 then .error ccSEQUENCE else if (pktArg h).toNat ≠ r.mode then .error ccIFACE else .ok l := by
  simp only [Load.accept, Load.acceptHead, hop, if_pos hreg]

theorem Load.accept_usercode (hop : pktOp h = 2) (hreg : pktReg h = 2) :
    l.accept r h d b = if l.pkt < 2 ∨ l.total ≠ 0 then .error ccSEQUENCE else .ok { l with usercode := pktArg h } := by
  simp only [Load.accept, Load.acceptHead, hop, hreg, OfNat.ofNat_ne_one, if_false]

theorem Load.accept_frame (hop : pktOp h = 3) : l.accept r h d b = l.acceptFrame r (pktArg h) b := by
  simp only [Load.accept, hop]

theorem Load.acceptFrame_inOrder {a : Word} {ix : Nat} (hix : frameIndex a = some ix) (hp : 2 ≤ l.pkt) (hr : l.rollDue = false)
    (hout : l.outOfOrder r.full ix = false) (hwin : r.window ix = true) :
    l.acceptFrame r a b = if frameChk b ≠ frameCheck a (frameData b) then .error ccCHECK else .ok (l.afterFrame ix (frameChk b)) := by
  have horder : ¬ (l.pkt < 2 ∨ l.rollDue = true ∨ l.outOfOrder r.full ix = true) := by simp [hr, hout]; omega
  simp only [Load.acceptFrame, hix]
  rw [if_neg horder, if_neg (by simp [hwin])]

theorem Load.accept_keyRoll (hop : pktOp h = 5) : l.accept r h d b = l.acceptRoll b := by
  simp only [Load.accept, hop]

theorem Load.accept_end (hop : pktOp h = 7) : l.accept r h d b = l.acceptEnd r h d b := by
  simp only [Load.accept, hop]

/-- A frame index that does not rise, or is not the next of a full image, is out of order (R392). -/
theorem Load.outOfOrder_of {full : Bool} {ix : Nat}
    (ho : l.last.any (fun k => decide (ix ≤ k)) = true ∨ (full = true ∧ ix ≠ (l.last.map (· + 1)).getD 0)) : l.outOfOrder full ix = true := by
  unfold Load.outOfOrder
  cases full with
  | false => simpa using ho
  | true =>
    cases hlast : l.last with
    | none => simpa [hlast] using ho
    | some k =>
      have hk : ix ≤ k ∨ ix ≠ k + 1 := by simpa [hlast] using ho
      have : ix ≠ k + 1 := by omega
      simpa using this

end

/-! ### The packets, kind by kind -/

section
variable {s t : State} {l m : Load} {h : BitVec 64} {d b : List Byte}

theorem nop_tagFails (hn : PacketNext s l h 0 0 d) (ho : l.opened d = none) :
    Answers (.nop h false) s ((s.afterPacket l 0).failLoad l ccTAG none) := by
  have hfails := hn.tagFails ho (exec_nop h false s) rfl nofun rfl
  rwa [hn.fa] at hfails

theorem nop_answers (hn : PacketNext s l h 0 0 d) (ho : l.opened d = some b) :
    (2 ≤ l.pkt → l.rollDue = false → Answers (.nop h true) s (((s.afterPacket l 0).updLoad fun _ => l).packetTaken 0 d)) ∧
    (l.pkt < 2 ∨ l.rollDue = true → Answers (.nop h true) s ((s.afterPacket l 0).failLoad l ccSEQUENCE none)) := by
  have hacts {t : State} := hn.acts (t := t) ho (exec_nop h true s) rfl nofun rfl
  refine ⟨fun hp hr => hacts (hn.taken (by decide) (fun v _ => ?_) _), fun hbad => hacts (hn.refused (fun v _ => ?_) _)⟩ <;>
    rw [Load.accept_nop hn.op_eq]
  · exact if_neg (by simp [hr]; omega)
  · exact if_pos hbad

theorem deviceId_answers (hn : PacketNext s l h 1 0 d) (ho : l.opened d = some b) : let u := s.afterPacket l 0
    (l.pkt = 0 → pktArg h = 0x10524AF3 → Answers (.deviceId h true) s ((u.updLoad fun _ => l).packetTaken 0 d)) ∧
    (l.pkt = 0 → pktArg h ≠ 0x10524AF3 → Answers (.deviceId h true) s (u.failLoad l ccDEVICE_ID none)) ∧
    (l.pkt ≠ 0 → Answers (.deviceId h true) s (u.failLoad l ccSEQUENCE none)) := by
  have hacts {t : State} := hn.acts (t := t) ho (exec_deviceId h true s) rfl nofun rfl
  refine ⟨fun hp harg => hacts (hn.taken (by decide) (fun v _ => ?_) _), fun hp harg => hacts (hn.refused (fun v _ => ?_) _),
    fun hp => hacts (hn.refused (fun v _ => ?_) _)⟩ <;> rw [Load.accept_deviceId hn.op_eq]
  · rw [if_neg (not_not.mpr hp), if_neg (not_not.mpr harg)]
  · rw [if_neg (not_not.mpr hp), if_pos harg]
  · rw [if_pos hp]

theorem wregMode_answers (hn : PacketNext s l h 2 0 d) (ho : l.opened d = some b) (hreg : pktReg h = 1) : let u := s.afterPacket l 0
    (l.pkt = 1 → (pktArg h).toNat = modeWanted l → Answers (.wregMode h true) s ((u.updLoad fun _ => l).packetTaken 0 d)) ∧
    (l.pkt = 1 → (pktArg h).toNat ≠ modeWanted l → Answers (.wregMode h true) s (u.failLoad l ccIFACE none)) ∧
    (l.pkt ≠ 1 → Answers (.wregMode h true) s (u.failLoad l ccSEQUENCE none)) := by
  have hacts {t : State} := hn.acts (t := t) ho (exec_wregMode h true s) (by simp [hreg]) (fun _ => .inl hreg) rfl
  refine ⟨fun hp harg => hacts (hn.taken (by decide) (fun v _ => ?_) _), fun hp harg => hacts (hn.refused (fun v _ => ?_) _),
    fun hp => hacts (hn.refused (fun v _ => ?_) _)⟩ <;> rw [Load.accept_mode hn.op_eq hreg]
  · rw [if_neg (not_not.mpr hp)]
    exact if_neg (not_not.mpr harg)
  · rw [if_neg (not_not.mpr hp)]
    exact if_pos harg
  · rw [if_pos hp]

theorem wregUsercode_answers (hn : PacketNext s l h 2 0 d) (ho : l.opened d = some b) (hreg : pktReg h = 2) (hp : 2 ≤ l.pkt) :
    let u := s.afterPacket l 0
    (l.total = 0 → Answers (.wregUsercode h true) s ((u.updLoad fun _ => { l with usercode := pktArg h }).packetTaken 0 d)) ∧
    (l.total ≠ 0 → Answers (.wregUsercode h true) s (u.failLoad l ccSEQUENCE none)) := by
  have hacts {t : State} := hn.acts (t := t) ho (exec_wregUsercode h true s) (by simp [hreg]) (fun _ => .inr hreg) rfl
  refine ⟨fun ht => hacts (hn.taken (by decide) (fun v _ => ?_) _), fun ht => hacts (hn.refused (fun v _ => ?_) _)⟩ <;>
    rw [Load.accept_usercode hn.op_eq hreg]
  · exact if_neg (by omega)
  · exact if_pos (.inr ht)

theorem keyRoll_answers (hn : PacketNext s l h 5 40 d) (ho : l.opened d = some b) (hp : 2 ≤ l.pkt) : let u := s.afterPacket l 40
    (l.rollDue = true → Answers (.keyRoll h true) s ((u.updLoad fun _ =>
      { l with seg := 0, rollDue := false, key := b.take 32, nonce := b.drop 32, segStart := l.pkt + 1 }).packetTaken 40 d)) ∧
    (l.rollDue = false → Answers (.keyRoll h true) s (u.failLoad l ccSEQUENCE none)) := by
  have hacts {t : State} := hn.acts (t := t) ho (exec_keyRoll h true s) rfl nofun rfl
  refine ⟨fun hr => hacts (hn.taken (by decide) (fun v _ => ?_) _), fun hr => hacts (hn.refused (fun v _ => ?_) _)⟩ <;>
    rw [Load.accept_keyRoll hn.op_eq]
  · exact if_neg (by simp [hr]; omega)
  · exact if_pos (by simp [hr])

theorem frame_acts (hn : PacketNext s l h 3 516 d) (ho : l.opened d = some b)
    (ht : (s.afterPacket l 516).packetActs l h d b (writesFrame (pktArg h) l b) = t) : Answers (.frame h true (frameData b) (frameChk b)) s t :=
  hn.acts ho (exec_frame h true _ _ s) rfl nofun (by simp [opensToFrame]) ht

/-- A FRAME whose index lies in order and in the window is written where its check agrees (R392, R394, R406). -/
theorem frame_inOrder (hn : PacketNext s l h 3 516 d) (ho : l.opened d = some b) {ix : Nat} (hix : frameIndex (pktArg h) = some ix)
    (hp : 2 ≤ l.pkt) (hr : l.rollDue = false) (hout : l.outOfOrder (l.grove.isNone || l.fromFull) ix = false)
    (hwin : l.fromFull = true ∨ l.grove.any (fun g => !(s.afterPacket l 516).inWindow g ix) = false) : let u := s.afterPacket l 516
    (frameChk b = frameCheck (pktArg h) (frameData b) → Answers (.frame h true (frameData b) (frameChk b)) s
      (((u.loadWrites l ix (frameData b)).updLoad fun _ => l.afterFrame ix (frameChk b)).packetTaken 516 d)) ∧
    (frameChk b ≠ frameCheck (pktArg h) (frameData b) →
      Answers (.frame h true (frameData b) (frameChk b)) s (u.failLoad l ccCHECK (some (pktArg h)))) := by
  have hwindow : ((s.afterPacket l 516).loadRules l).window ix = true := by
    rcases hwin with hw | hw <;> simp [State.loadRules, hw]
  have hacc := Load.acceptFrame_inOrder (b := b) (r := (s.afterPacket l 516).loadRules l) hix hp hr hout hwindow
  have hwrites : writesFrame (pktArg h) l b (s.afterPacket l 516) = (s.afterPacket l 516).loadWrites l ix (frameData b) := by
    simp only [writesFrame, hix]
  refine ⟨fun hchk => frame_acts hn ho ?_, fun hchk => frame_acts hn ho (hn.refused (fun v hv => ?_) _)⟩
  · rw [← hwrites]
    refine hn.taken (by decide) (fun v hv => ?_) _
    rw [hv, Load.accept_frame hn.op_eq, hacc, if_neg (not_not.mpr hchk)]
  · rw [hv, Load.accept_frame hn.op_eq, hacc, if_pos hchk]

theorem frame_outOfOrder (hn : PacketNext s l h 3 516 d) (ho : l.opened d = some b) {ix : Nat} (hix : frameIndex (pktArg h) = some ix)
    (hbad : l.rollDue = true ∨ l.last.any (fun k => decide (ix ≤ k)) = true ∨
      ((l.grove.isNone || l.fromFull) = true ∧ ix ≠ (l.last.map (· + 1)).getD 0)) :
    Answers (.frame h true (frameData b) (frameChk b)) s ((s.afterPacket l 516).failLoad l ccSEQUENCE (some (pktArg h))) := by
  refine frame_acts hn ho (hn.refused (fun v _ => ?_) _)
  rw [Load.accept_frame hn.op_eq]
  simp only [Load.acceptFrame, hix]
  exact if_pos (.inr (hbad.imp_right Load.outOfOrder_of))

theorem frame_noIndex (hn : PacketNext s l h 3 516 d) (ho : l.opened d = some b) (hix : frameIndex (pktArg h) = none) :
    Answers (.frame h true (frameData b) (frameChk b)) s ((s.afterPacket l 516).failLoad l ccBAD_PACKET (some (pktArg h))) := by
  refine frame_acts hn ho (hn.refused (fun v _ => ?_) _)
  rw [Load.accept_frame hn.op_eq]
  simp only [Load.acceptFrame, hix]

theorem frame_tagFails (hn : PacketNext s l h 3 516 d) (ho : l.opened d = none) (x : BitVec 4096) (check : Word) :
    Answers (.frame h false x check) s ((s.afterPacket l 516).failLoad l ccTAG (some (pktArg h))) := by
  have hfails := hn.tagFails ho (exec_frame h false x check s) rfl nofun rfl
  rwa [hn.fa] at hfails

theorem end_acts (hn : PacketNext s l h 7 4 d) (ho : l.opened d = some b)
    (ht : (s.afterPacket l 4).packetActs l h d b (writesNothing l b) = t) :
    Answers (.end_ h true (BitVec.ofNat 32 (ofBytes b)) (l.digestPasses d)) s t :=
  hn.acts ho (exec_end h true _ _ s) rfl nofun (by simp [opensToEnd]) ht

/-- An END in its place ends the stream where the count, the CRC, the digest and the coverage agree (R393). -/
theorem end_inPlace (hn : PacketNext s l h 7 4 d) (ho : l.opened d = some b) (hp : 2 ≤ l.pkt) (hpos : l.pos + 28 = l.image.streamLen)
    (hseg : l.total = 0 ∨ l.seg ≠ 0) : let u := s.afterPacket l 4
    let crc := BitVec.ofNat 32 (ofBytes b)
    ((pktArg h).toNat = l.total → crc = ~~~l.crc → l.digestPasses d = true → u.covered l = true →
      Answers (.end_ h true crc (l.digestPasses d)) s (u.updLoad fun _ => l).streamEnded) ∧
    ((pktArg h).toNat ≠ l.total ∨ crc ≠ ~~~l.crc ∨ l.digestPasses d = false ∨ u.covered l = false →
      Answers (.end_ h true crc (l.digestPasses d)) s (u.failLoad l ccFINAL none)) := by
  have hplace : ¬ (l.pkt < 2 ∨ l.pos + 28 ≠ l.image.streamLen ∨ l.total ≠ 0 ∧ l.seg = 0) := by omega
  refine ⟨fun harg hcrc hdig hcov => end_acts hn ho ?_, fun hbad => end_acts hn ho (hn.refused (fun v hv => ?_) _)⟩
  · refine State.packetActs_ended ?_ hn.op_eq
    rw [Load.accept_end hn.op_eq, Load.acceptEnd, if_neg hplace]
    exact if_neg (by simp [harg, hcrc, hdig, hcov, State.loadRules])
  · subst hv
    rw [Load.accept_end hn.op_eq, Load.acceptEnd, if_neg hplace]
    exact if_pos (by simpa [State.loadRules] using hbad)

theorem end_outOfPlace (hn : PacketNext s l h 7 4 d) (ho : l.opened d = some b) (hpos : l.pos + 28 ≠ l.image.streamLen) :
    Answers (.end_ h true (BitVec.ofNat 32 (ofBytes b)) (l.digestPasses d)) s ((s.afterPacket l 4).failLoad l ccSEQUENCE none) := by
  refine end_acts hn ho (hn.refused (fun v _ => ?_) _)
  rw [Load.accept_end hn.op_eq, Load.acceptEnd, if_pos (.inr (.inl hpos))]

end

/-! ### The ends of the wipe and of the stream -/

theorem State.wipeDone_next {s : State} {l : Load} (hl : s.cfg.load = some l) (hp : l.phase = .wipe) :
    s.wipeDone = (match l.grove with | none => s.wipeAll.setCfgState 2 | some g => s.wipeGrove g).updLoad fun l => { l with phase := .stream } := by
  simp only [State.wipeDone, hl, hp]
  rfl

/-- Settles O49, packet by packet. -/
theorem streamPackets : Obligations.StreamPackets := by
  refine ⟨fun s l ha hl hp => .live (f := (·.wipeDone)) rfl ha (State.wipeDone_next hl hp),
    fun s l h d hn => ⟨nop_tagFails hn, fun b ho => nop_answers hn ho⟩,
    fun s l h d b hn ho => deviceId_answers hn ho,
    fun s l h d b hn ho => ⟨wregMode_answers hn ho, fun hreg => ⟨fun hp => (wregUsercode_answers hn ho hreg hp).1,
      fun hp => (wregUsercode_answers hn ho hreg hp).2⟩⟩,
    fun s l h d b hn ho => ⟨fun hp => (keyRoll_answers hn ho hp).1, fun hp => (keyRoll_answers hn ho hp).2⟩,
    fun s l h d b hn ho => ⟨fun ix hix => ⟨frame_inOrder hn ho hix, frame_outOfOrder hn ho hix⟩, frame_noIndex hn ho⟩,
    fun s l h d x check hn ho => frame_tagFails hn ho x check,
    fun s l h d b hn ho => ⟨end_inPlace hn ho, end_outOfPlace hn ho⟩,
    fun t l hl => ⟨fun hg => if_pos (by simp [hl, hg]), fun hg => if_neg (by simpa [hl] using hg)⟩⟩

end Sys2Proof.Machine
end

section
/-! Read-back and scrubbing (R410, R412 to R414). -/

namespace Sys2Proof.Machine

/-! ### The capture -/

theorem State.reach_of_past {s : State} {t : DevTime} (h : laterThan t s.time.now = false) : s.reach t = s := by
  unfold State.reach
  exact if_pos (by simp [h])

/-- The boughs of a read-back. -/
def State.readbackBoughs (s : State) (r : Readback) : List Nat := match r.grove with | none => List.range 128 | some g => s.groveBoughs g

/-- The state in which a read-back that is due is taken. -/
def State.readbackTaken (s : State) : State := (s.updCfg fun t => { t with readback := none }).setCfgState 0

theorem State.readbackCapture_due {s : State} {r : Readback} (hd : s.dramWaits = false) (hr : s.cfg.readback = some r)
    (ht : laterThan r.tcap s.time.now = false) : let s1 := s.readbackTaken
    let n := (s.readbackBoughs r).length
    s.readbackCapture = if !s1.bufferOk r.buffer (16 + 520 * n) then
        (s1.bufferRange r.buffer (16 + 520 * n)).endCall [0x0305] rcBUFFER_FAULT 0 []
      else
        (s1.bufferFrames r.buffer (bytesOf 8 (nsOf r.tcap) ++ bytesOf 1 (fracOf r.tcap) ++ bytesOf 1 s1.quality ++ [0, 0] ++ bytesOf 4 n ++
          (s.readbackBoughs r).flatMap s1.captureBytes)).endCall [0x0305] rcOK 0
          [BitVec.ofNat 32 n, BitVec.ofNat 32 (nsOf r.tcap), BitVec.ofNat 32 (nsOf r.tcap / 2 ^ 32)] := by
  have hreach : s.reach r.tcap = s := State.reach_of_past ht
  have hsome : (if s.dramWaits = true then none else s.cfg.readback) = some r := by simp [hd, hr]
  unfold State.readbackCapture
  simp only [hsome, hreach]
  rfl

theorem State.readbackCapture_waits {s : State} (hd : s.dramWaits = true) : s.readbackCapture = s := by
  simp only [State.readbackCapture, hd, if_true]

/-! ### The scrubber -/

theorem State.scrubs {s : State} (ha : s.awake = true)
    (he : s.rb (aSCRUB 0x20) 0 = true) (hr : s.cfg.readback = none) : ¬ (!s.awake ∨ !s.rb (aSCRUB 0x20) 0 ∨ s.cfg.readback.isSome) := by
  simp [ha, he, hr]

/-! ### The action of an essential upset -/

theorem State.essAction_next {s : State} {b : Nat} {rest : List Nat} (hb : s.cfg.essBough = b :: rest) (hl : s.guide.long = none)
    (hload : s.cfg.load = none) (ht : s.inTransition = false) : let s1 := s.updCfg fun c => { c with essBough := rest }
    (s.rf (aSCRUB 0x20) 2 1 = 0 → s.essAction = s1) ∧
    (s.rf (aSCRUB 0x20) 2 1 = 2 → s.mode = mRUN ∨ s.mode = mIDLE → s.essAction = (s1.wakeGuide.setB aMODE 19 true).toHold) := by
  have hfree : ¬ (s.guide.long.isSome = true ∨ s.cfg.load.isSome = true ∨ s.inTransition = true) := by simp [hl, hload, ht]
  refine ⟨fun ha => ?_, fun ha hm => ?_⟩
  · simp only [State.essAction, hb, if_neg hfree, ha]
  · simp only [State.essAction, hb, if_neg hfree, ha, if_pos hm]
    rfl

/-- Settles O51, command by command. -/
theorem readbackAndScrub : Obligations.ReadbackAndScrub := by
  refine ⟨fun s r ht hd hr hcap => ?_, fun s ht hd => .timed (f := (·.readbackCapture)) rfl ht (State.readbackCapture_waits hd),
    fun s flips cf fetched ha he hr => ?_, fun s b rest ha hb hl hload ht => ?_, fun s ha hb => .live (f := (·.essAction)) rfl ha ?_⟩
  · have hdue := State.readbackCapture_due hd hr hcap
    exact ⟨fun hok => .timed (f := (·.readbackCapture)) rfl ht (hdue.trans (if_pos (congrArg (!·) hok))),
      fun hok => .timed (f := (·.readbackCapture)) rfl ht (hdue.trans (if_neg (ne_true_of_eq_false (congrArg (!·) hok))))⟩
  · have hruns := State.scrubs ha he hr
    refine ⟨fun hs => .live (f := (·.scrubFrame flips cf fetched)) rfl ha ?_,
      fun hs hne => .live (f := (·.scrubFrame flips cf fetched)) rfl ha ?_⟩
    · simp only [State.scrubFrame, if_neg hruns, if_pos hs]
    · simp only [State.scrubFrame, if_neg hruns, hs, Bool.false_eq_true, if_false]
      exact if_neg hne
  · obtain ⟨hnone, hhold⟩ := State.essAction_next hb hl hload ht
    exact ⟨fun h0 => .live (f := (·.essAction)) rfl ha (hnone h0), fun h2 hm => .live (f := (·.essAction)) rfl ha (hhold h2 hm)⟩
  · simp only [State.essAction, hb]

end Sys2Proof.Machine
end

section
/-! The calls of the embedded flash (R424 to R429, R433, R434). -/

namespace Sys2Proof.Machine

section
variable {s : State} {c : Call} {tj : Int}

/-! ### Reads -/

theorem State.flashReadCall_empty (h : c.w3 = 0) : s.flashReadCall c = s.answerCall 0x0201 c rcBAD_ARG 0 [] := by
  unfold State.flashReadCall
  exact if_pos (.inl (by rw [h]; rfl))

/-- A read of at most 16 bytes without a buffer answers them in its words. -/
theorem State.flashReadCall_inline (h0 : c.w3.toNat ≠ 0) (h16 : c.w3.toNat ≤ 16) (hb : bufferOf c.w4 c.w5 = 0)
    (hr : readReaches c.w2.toNat c.w3.toNat = true) :
    let v := s.suspectRead (s.rangeOpen c.w2.toNat c.w3.toNat)
    let p := v.putBuffer 0 (v.flashRead c.w2.toNat c.w3.toNat)
    let i := p.2.inlineWords (v.flashRead c.w2.toNat c.w3.toNat)
    let f := i.2.free 32
    p.1 = none → s.flashReadCall c =
      f.2.answerCall 0x0201 c rcOK 0 ((if s.rangeOpen c.w2.toNat c.w3.toNat then 1 else 0) :: f.1 :: i.1) := by
  intro v p i f hp
  have hgood : ¬ (c.w3.toNat = 0 ∨ 4096 < c.w3.toNat ∨ (bufferOf c.w4 c.w5 = 0 ∧ 16 < c.w3.toNat) ∨ bufferOf c.w4 c.w5 % 8 ≠ 0 ∨
      (!readReaches c.w2.toNat c.w3.toNat) = true) := by
    simp [hb, hr]
    omega
  simp only [p, v, f, i] at hp ⊢
  simp only [State.flashReadCall]
  rw [if_neg hgood]
  simp only [hb, hp]

/-! ### Programs -/

/-- The arguments of a program that installs no patch. -/
abbrev ProgramArgs (c : Call) : Prop :=
  fld c.w3 15 0 ≠ 0 ∧ fld c.w3 15 0 ≤ 2048 ∧ bufferOf c.w4 c.w5 % 8 = 0 ∧ bit c.w3 16 = false ∧ c.w2.toNat % 32 = 0

theorem ProgramArgs.good (h : ProgramArgs c) : ¬ (fld c.w3 15 0 = 0 ∨ 2048 < fld c.w3 15 0 ∨ bufferOf c.w4 c.w5 % 8 ≠ 0 ∨
    ((!bit c.w3 16) = true ∧ c.w2.toNat % 32 ≠ 0)) := by
  obtain ⟨h0, hn, hb, -, ha⟩ := h
  omega

theorem State.flashProgram_empty (h : fld c.w3 15 0 = 0) : s.flashProgram c tj = s.longOnce 0x0202 c rcBAD_ARG 0 (progWords 0 none) := by
  unfold State.flashProgram
  exact if_pos (.inl h)

theorem State.flashProgram_refused {r : Nat} (h : ProgramArgs c) (hr : s.flashRefusal c c.w2.toNat (32 * fld c.w3 15 0) = some r) :
    s.flashProgram c tj = s.longOnce 0x0202 c r 0 (progWords 0 none) := by
  have hgood := h.good
  obtain ⟨-, -, -, hp, -⟩ := h
  simp only [State.flashProgram]
  rw [if_neg hgood]
  simp only [hp, Bool.false_eq_true, if_false, hr]

theorem State.flashProgram_busy (h : ProgramArgs c) (hr : s.flashRefusal c c.w2.toNat (32 * fld c.w3 15 0) = none) (hb : s.flashBusy = true) :
    s.flashProgram c tj = s.longOnce 0x0202 c rcBUSY 0 (progWords 0 none) := by
  have hgood := h.good
  obtain ⟨-, -, -, hp, -⟩ := h
  simp only [State.flashProgram]
  rw [if_neg hgood]
  simp only [hp, Bool.false_eq_true, if_false, hr, hb, true_or, if_true]

theorem State.flashProgram_starts {data : List Byte} (h : ProgramArgs c) (hr : s.flashRefusal c c.w2.toNat (32 * fld c.w3 15 0) = none)
    (hb : s.flashBusy = false) (hd : (s.takeBuffer (bufferOf c.w4 c.w5) (32 * fld c.w3 15 0)).1 = some data) :
    s.flashProgram c tj = (((s.takeBuffer (bufferOf c.w4 c.w5) (32 * fld c.w3 15 0)).2.sampleTj tj).programStart c c.w2.toNat (fld c.w3 15 0) data) := by
  have hgood := h.good
  obtain ⟨-, -, -, hp, -⟩ := h
  simp only [State.flashProgram]
  rw [if_neg hgood]
  simp only [hp, Bool.false_eq_true, if_false, hr, hb, false_and, or_self, hd]

/-! ### Erases -/

theorem State.flashErase_misaligned (h : c.w2.toNat % 0x10000 ≠ 0) : s.flashErase c tj = s.longOnce 0x0203 c rcBAD_ARG 0 [0] := by
  unfold State.flashErase
  exact if_pos (.inl h)

theorem State.flashErase_admitted (h : c.w2.toNat % 0x10000 = 0) (h0 : c.w3.toNat ≠ 0) (hn : c.w3.toNat ≤ 160)
    (hr : s.flashRefusal c c.w2.toNat (0x10000 * c.w3.toNat) = none) :
    s.flashErase c tj = if s.flashBusy ∨ s.flash.parked.isSome then s.longOnce 0x0203 c rcBUSY 0 [0]
      else (s.sampleTj tj).eraseStart c c.w2.toNat c.w3.toNat := by
  have hgood : ¬ (c.w2.toNat % 0x10000 ≠ 0 ∨ c.w3.toNat = 0 ∨ 160 < c.w3.toNat) := by omega
  simp only [State.flashErase, if_neg hgood, hr]

/-! ### Suspension -/

theorem State.flashSuspend_none (h : s.flash.op = none) : s.flashSuspend c = s.answerCall 0x0204 c rcBAD_STATE 0 [] := by
  simp only [State.flashSuspend, h]

theorem State.flashSuspend_program {o : FlashOp} (h : s.flash.op = some o) (he : o.erase = false) :
    s.flashSuspend c = s.answerCall 0x0204 c rcBAD_STATE 0 [] := by
  simp only [State.flashSuspend, h, he, Bool.not_false, if_true]

/-- An erase parks, its pulse abandoned; its own call ends where it still runs. -/
theorem State.flashSuspend_erase {o : FlashOp} (h : s.flash.op = some o) (he : o.erase = true) :
    let s1 := ((s.abandonPulse o).updFlash fun f => { f with op := none, parked := some { o with detached := true } }).showOp
    s.flashSuspend c = (if o.detached then s1 else s1.endLong rcOK 1 o.eraseWords).answerCall 0x0204 c rcOK 0
      [BitVec.ofNat 32 (o.addr / 0x10000)] := by
  simp only [State.flashSuspend, h, he, Bool.not_true, Bool.false_eq_true, if_false]

theorem State.flashResume_none (h : (s.sampleTj tj).flash.parked = none) :
    s.flashResume c tj = (s.sampleTj tj).answerCall 0x0205 c rcBAD_STATE 0 [] := by
  simp only [State.flashResume, h]

theorem State.flashResume_busy {o : FlashOp} (h : (s.sampleTj tj).flash.parked = some o) (hb : (s.sampleTj tj).flashBusy = true) :
    s.flashResume c tj = (s.sampleTj tj).answerCall 0x0205 c rcBUSY 0 [] := by
  simp only [State.flashResume, h, hb, if_true]

/-- A parked erase goes on; a retirement that waits does so at once, where it is not too hot. -/
theorem State.flashResume_parked {o : FlashOp} (h : (s.sampleTj tj).flash.parked = some o) (hb : (s.sampleTj tj).flashBusy = false) :
    let u := s.sampleTj tj
    let wait := u.isHot || (o.tempWait && decide (cool < tj))
    let v := ((u.updFlash fun f => { f with op := some { o with tempWait := wait }, parked := none }).showOp).answerCall 0x0205 c
      rcOK 0 [BitVec.ofNat 32 (o.addr / 0x10000)]
    s.flashResume c tj = if o.retire.isSome ∧ !wait then v.eraseGoesOn o else v := by
  simp only [State.flashResume, h, hb, Bool.false_eq_true, if_false]

/-! ### Blank checks and the status -/

/-- The arguments of a blank check of lines that lie in the array. -/
abbrev BlankArgs (c : Call) : Prop :=
  c.w2.toNat % 32 = 0 ∧ c.w3.toNat ≠ 0 ∧ c.w3.toNat ≤ 65536 ∧ c.w2.toNat + 32 * c.w3.toNat ≤ 0x2000000

theorem State.flashBlankCheck_parts (h : partOf (c.w2.toNat / 0x10000) ≠ partOf ((c.w2.toNat + 32 * c.w3.toNat - 1) / 0x10000)) :
    s.flashBlankCheck c = s.longOnce 0x0206 c rcBAD_ARG 0 [] := by
  unfold State.flashBlankCheck
  exact if_pos (.inr (.inr (.inr (.inr h))))

theorem State.flashBlankCheck_one (ha : BlankArgs c)
    (hp : partOf (c.w2.toNat / 0x10000) = partOf ((c.w2.toNat + 32 * c.w3.toNat - 1) / 0x10000)) :
    s.flashBlankCheck c = if s.flashBusy then s.longOnce 0x0206 c rcBUSY 0 [] else s.longOnce 0x0206 c rcOK 0
      [match s.firstNonBlank c.w2.toNat c.w3.toNat with | some f => BitVec.ofNat 32 f | none => 0xFFFFFFFF] := by
  unfold State.flashBlankCheck
  obtain ⟨h32, h0, hn, htop⟩ := ha
  exact if_neg (by simp only [not_or, not_not, not_lt]; exact ⟨h32, h0, hn, htop, hp⟩)

end

/-- Settles O52, call by call. -/
theorem flashCalls : Obligations.FlashCalls := by
  refine ⟨fun s c hc => ⟨fun h => begun_call rfl hc (State.flashReadCall_empty h), fun h0 h16 hb hr hp =>
      begun_call rfl hc (State.flashReadCall_inline h0 h16 hb hr hp)⟩, fun s c tj hc => ?_, fun s c tj hc => ?_, fun s c hc => ?_,
    fun s c tj hc => ?_, fun s c hc => ?_, fun s c hc => ?_⟩
  · refine ⟨fun h => begun_call rfl hc (State.flashProgram_empty h), fun h0 hn hb hp ha => ?_⟩
    have hargs : ProgramArgs c := ⟨h0, hn, hb, hp, ha⟩
    exact ⟨fun r hr => begun_call rfl hc (State.flashProgram_refused hargs hr),
      fun hr hbusy => begun_call rfl hc (State.flashProgram_busy hargs hr hbusy),
      fun data hr hbusy hd => begun_call rfl hc (State.flashProgram_starts hargs hr hbusy hd)⟩
  · refine ⟨fun h => begun_call rfl hc (State.flashErase_misaligned h), fun h h0 hn hr => ⟨fun hb => ?_, fun hb hp => ?_⟩⟩
    · exact begun_call rfl hc ((State.flashErase_admitted h h0 hn hr).trans (if_pos hb))
    · exact begun_call rfl hc ((State.flashErase_admitted h h0 hn hr).trans (if_neg (by simp [hb, hp])))
  · refine ⟨fun h => begun_call rfl hc (State.flashSuspend_none h), fun o h he => begun_call rfl hc (State.flashSuspend_program h he),
      fun o h he hd => begun_call rfl hc ((State.flashSuspend_erase h he).trans ?_),
      fun o h he hd => begun_call rfl hc ((State.flashSuspend_erase h he).trans ?_)⟩
    · rw [if_pos hd]
    · rw [if_neg (by simp [hd])]
  · refine ⟨fun h => begun_call (f := fun t => t.flashResume c tj.toInt) rfl hc (State.flashResume_none h),
      fun o h hb => begun_call (f := fun t => t.flashResume c tj.toInt) rfl hc (State.flashResume_busy h hb), fun o h hb => ⟨fun hw => ?_, fun hr hw => ?_⟩⟩
    · refine begun_call (f := fun t => t.flashResume c tj.toInt) rfl hc ((State.flashResume_parked h hb).trans (if_neg ?_))
      rcases hw with hw | hw
      · simp [hw]
      · exact fun hgo => absurd hw (ne_true_of_eq_false ((Bool.not_eq_true' _).mp hgo.2))
    · refine begun_call (f := fun t => t.flashResume c tj.toInt) rfl hc ((State.flashResume_parked h hb).trans (if_pos ⟨?_, ?_⟩))
      · exact Option.isSome_iff_ne_none.mpr hr
      · exact congrArg (!·) hw
  · intro u n ha h0 hn htop
    refine ⟨fun hp => begun_call rfl hc (State.flashBlankCheck_parts hp), fun hp => ⟨fun hb => ?_, fun hb => ?_⟩⟩
    · exact begun_call rfl hc ((State.flashBlankCheck_one ⟨ha, h0, hn, htop⟩ hp).trans (if_pos hb))
    · exact begun_call rfl hc ((State.flashBlankCheck_one ⟨ha, h0, hn, htop⟩ hp).trans (if_neg (ne_true_of_eq_false hb)))
  · exact ⟨fun h => begun_call (f := (·.flashStatus c)) rfl hc (if_pos h), fun h => begun_call (f := (·.flashStatus c)) rfl hc (if_neg (Nat.not_le.mpr h))⟩

end Sys2Proof.Machine
end

section
/-! The pulses of the embedded flash (R424, R425, R427, R435). -/

namespace Sys2Proof.Machine

section
variable {s : State} {o : FlashOp} {tj : Int}

/-! ### Erase pulses -/

/-- A pulse that verifies erases its sector, but that a sector it wears out waits for a cool junction. -/
theorem State.erasePulse_pass (ho : s.flash.op = some o) (he : o.erase = true) (hw : o.tempWait = false) :
    let u := s.sampleTj tj
    s.erasePulse true tj =
      if endurance (partOf (o.addr / 0x10000)) ≤ u.eraseCount (o.addr / 0x10000) + 1 then u.retireOrWait o true else u.eraseVerified o := by
  simp only [State.erasePulse, ho, he, hw, Bool.not_true, Bool.false_eq_true, or_self, if_false, if_true]

/-- A pulse that does not verify leaves the sector half erased, and the twentieth retires it. -/
theorem State.erasePulse_fail (ho : s.flash.op = some o) (he : o.erase = true) (hw : o.tempWait = false) :
    let v := (s.partErase (o.addr / 0x10000)).sampleTj tj
    s.erasePulse false tj = if 20 ≤ o.pulses + 1 then v.retireOrWait { o with pulses := o.pulses + 1 } false
      else v.setOp (some { o with pulses := o.pulses + 1, tempWait := v.isHot }) := by
  simp only [State.erasePulse, ho, he, hw, Bool.not_true, Bool.false_eq_true, or_self, if_false]

theorem State.retireOrWait_hot (h : s.isHot = true) (pass : Bool) :
    s.retireOrWait o pass = s.setOp (some { o with tempWait := true, retire := some pass }) := if_pos h

theorem State.retireOrWait_cool (h : s.isHot = false) (pass : Bool) :
    s.retireOrWait o pass = if pass then s.eraseVerified o else s.eraseFailed o := if_neg (ne_true_of_eq_false h)

/-- A verified sector that is not worn out, or is at a cool junction, is erased. -/
theorem State.erasePulse_verified (ho : s.flash.op = some o) (he : o.erase = true) (hw : o.tempWait = false)
    (h : decide (endurance (partOf (o.addr / 0x10000)) ≤ (s.sampleTj tj).eraseCount (o.addr / 0x10000) + 1) = false ∨
      (s.sampleTj tj).isHot = false) : s.erasePulse true tj = (s.sampleTj tj).eraseVerified o := by
  rw [State.erasePulse_pass ho he hw]
  split
  · next hworn =>
    rw [State.retireOrWait_cool (h.resolve_left (by simpa using hworn))]
    rfl
  · rfl

/-- The erase that goes on to its next sector, or ends with its last. -/
theorem State.eraseVerified_last (h : o.left = 1) : s.eraseVerified o = ((s.eraseSector (o.addr / 0x10000)).heartErase (o.addr / 0x10000)).eraseEnd
    { o with addr := o.addr + 0x10000, left := o.left - 1, done := o.done + 1, pulses := 0 } := by
  unfold State.eraseVerified
  exact if_pos (by simp [h])

theorem State.eraseVerified_next (h : 1 < o.left) : s.eraseVerified o = ((s.eraseSector (o.addr / 0x10000)).heartErase (o.addr / 0x10000)).eraseBegin
    { o with addr := o.addr + 0x10000, left := o.left - 1, done := o.done + 1, pulses := 0 } := by
  unfold State.eraseVerified
  exact if_neg (by simp; omega)

/-! ### Program pulses -/

theorem State.programPulse_pass (ho : s.flash.op = some o) (he : o.erase = false) : s.programPulse true tj = s.programNext o tj := by
  simp only [State.programPulse, ho, he, Bool.false_eq_true, if_false, if_true]

theorem State.programPulse_fail (ho : s.flash.op = some o) (he : o.erase = false) :
    let v := s.partPulse o.addr (o.data.take 32)
    s.programPulse false tj = if 8 ≤ o.pulses + 1 then
        ((v.updFlash fun f => { f with fail := true }).setErr 0x700 16).endOp { o with pulses := o.pulses + 1 } rcFLASH_FAIL (progWords o.done none)
      else v.setOp (some { o with pulses := o.pulses + 1 }) := by
  simp only [State.programPulse, ho, he, Bool.false_eq_true, if_false]

/-! ### An erase that waits for its junction -/

theorem State.eraseResume_eq (ho : s.flash.op = some o) :
    s.eraseResume tj = if o.tempWait ∧ tj ≤ cool then (s.sampleTj tj).eraseGoesOn o else s.sampleTj tj := by
  simp only [State.eraseResume, ho]

theorem State.eraseTimeout_eq (ho : s.flash.op = some o) (hw : o.tempWait = true) :
    s.eraseTimeout = s.tempErr.endOp o rcTEMP_INHIBIT o.eraseWords := by
  simp only [State.eraseTimeout, ho, hw, if_true]

end

/-- Settles O53, pulse by pulse. -/
theorem flashPulses : Obligations.FlashPulses := by
  refine ⟨fun s o tj ha ho he hw => ⟨fun h h1 => ?_, fun h h1 => ?_, fun hworn hhot => ?_, fun hp hc => ?_, fun hp hhot => ?_, fun hp => ?_⟩,
    fun s o tj ha ho he => ⟨.live (f := (·.programPulse true tj.toInt)) rfl ha (State.programPulse_pass ho he), fun hp => ?_, fun hp => ?_⟩,
    fun s o tj ha ho => ⟨fun hw hc => ?_, fun t => ?_, fun hc => ?_, fun hw => ?_⟩⟩
  · exact .live (f := (·.erasePulse true tj.toInt)) rfl ha ((State.erasePulse_verified ho he hw h).trans (State.eraseVerified_last h1))
  · exact .live (f := (·.erasePulse true tj.toInt)) rfl ha ((State.erasePulse_verified ho he hw h).trans (State.eraseVerified_next h1))
  · refine .live (f := (·.erasePulse true tj.toInt)) rfl ha ((State.erasePulse_pass ho he hw).trans ?_)
    rw [if_pos (of_decide_eq_true hworn), State.retireOrWait_hot hhot]
  · refine .live (f := (·.erasePulse false tj.toInt)) rfl ha ((State.erasePulse_fail ho he hw).trans ?_)
    rw [if_pos (by omega), State.retireOrWait_cool hc]
    rfl
  · refine .live (f := (·.erasePulse false tj.toInt)) rfl ha ((State.erasePulse_fail ho he hw).trans ?_)
    rw [if_pos (by omega), State.retireOrWait_hot hhot]
  · exact .live (f := (·.erasePulse false tj.toInt)) rfl ha ((State.erasePulse_fail ho he hw).trans (if_neg (by omega)))
  · exact .live (f := (·.programPulse false tj.toInt)) rfl ha ((State.programPulse_fail ho he).trans (if_pos (by omega)))
  · exact .live (f := (·.programPulse false tj.toInt)) rfl ha ((State.programPulse_fail ho he).trans (if_neg (by omega)))
  · exact .live (f := (·.eraseResume tj.toInt)) rfl ha ((State.eraseResume_eq ho).trans (if_pos ⟨hw, hc⟩))
  · rfl
  · exact .live (f := (·.eraseResume tj.toInt)) rfl ha ((State.eraseResume_eq ho).trans (if_neg fun h => absurd h.2 (not_le.mpr hc)))
  · exact .live (f := (·.eraseTimeout)) rfl ha (State.eraseTimeout_eq ho hw)

end Sys2Proof.Machine
end

section
/-! The settings store (R403, R440 to R445, R448, R453). -/

namespace Sys2Proof.Machine

section
variable {s : State} {c : Call} {tj : Int}

/-! ### Reads -/

theorem State.settingsRead_badId (h : badRecId (fld c.w2 15 0) = true) : s.settingsRead c = s.answerCall 0x0401 c rcBAD_ARG 0 [] := by
  unfold State.settingsRead
  exact if_pos h

theorem State.settingsRead_absent (h : badRecId (fld c.w2 15 0) = false) (hf : findRec s.settings.txs (fld c.w2 15 0) = none) :
    s.settingsRead c = s.answerCall 0x0401 c rcOK 0 [0x80000000] := by
  simp only [State.settingsRead, h, hf, Bool.false_eq_true, if_false]

theorem State.settingsRead_deleted {tsn : Word} {r : SetRec} (h : badRecId (fld c.w2 15 0) = false)
    (hf : findRec s.settings.txs (fld c.w2 15 0) = some (tsn, r)) (hd : r.delete = true) :
    s.settingsRead c = s.answerCall 0x0401 c rcOK 0 [0x80000000, tsn] := by
  simp only [State.settingsRead, h, hf, hd, Bool.false_eq_true, if_false, if_true]

theorem State.settingsRead_record {tsn : Word} {r : SetRec} (h : badRecId (fld c.w2 15 0) = false)
    (hf : findRec s.settings.txs (fld c.w2 15 0) = some (tsn, r)) (hd : r.delete = false)
    (hp : (s.putBuffer (bufferOf c.w3 c.w4) r.data).1 = none) :
    let i := (s.putBuffer (bufferOf c.w3 c.w4) r.data).2.inlineWords r.data
    s.settingsRead c = i.2.answerCall 0x0401 c rcOK 0 (BitVec.ofNat 32 r.data.length :: tsn :: i.1) := by
  simp only [State.settingsRead, h, hf, hd, hp, Bool.false_eq_true, if_false]

/-! ### Staging -/

theorem State.updSettings_congr {f g : Settings → Settings} (h : f s.settings = g s.settings) : s.updSettings f = s.updSettings g := by
  simp only [State.updSettings, h]

theorem State.settingsStage_badId (h : badRecId (fld c.w2 15 0) = true) : s.settingsStage c = s.answerCall 0x0402 c rcBAD_ARG 0 [] := by
  unfold State.settingsStage
  exact if_pos (.inl h)

/-- A deletion is staged alone, where its caller has staged nothing and no other caller either. -/
theorem State.settingsStage_first (h : badRecId (fld c.w2 15 0) = false) (hd : bit c.w2 31 = true) (hn : fld c.w2 25 16 ≤ 512)
    (hp : 0x0C40 ≤ fld c.w2 15 0 ∨ fabricCaller c = false) (hs : s.settings.staged = []) :
    s.settingsStage c = ((s.updSettings fun t => { t with staged := [(callerOf c, [stageRec c])] }).showSettings).answerCall 0x0402 c rcOK 0
      [1, BitVec.ofNat 32 (stageRec c).size] := by
  have hargs : ¬ (badRecId (fld c.w2 15 0) = true ∨ 512 < fld c.w2 25 16 ∨ (!bit c.w2 31) = true ∧
      (12 < fld c.w2 25 16 ∧ bufferOf c.w3 c.w4 = 0 ∨ bufferOf c.w3 c.w4 % 8 ≠ 0)) := by
    simp [h, hd]
    omega
  have hmay : ¬ (fld c.w2 15 0 < 0x0C40 ∧ fabricCaller c = true) := by
    rintro ⟨hlow, hcaller⟩
    rcases hp with hp | hp
    · omega
    · simp [hcaller] at hp
  have hsize : (stageRec c).size ≤ 2048 := by simp [stageRec, hd, StageRec.size]
  have hroom : ¬ (16 < [stageRec c].length ∨ 2048 < ([stageRec c].map StageRec.size).sum) := by simp; omega
  have hstage : s.updSettings (fun t => { t with staged := (t.staged.filter fun (e : Nat × List StageRec) => e.1 ≠ callerOf c) ++ [(callerOf c, [stageRec c])] }) =
      s.updSettings fun t => { t with staged := [(callerOf c, [stageRec c])] } := State.updSettings_congr (by simp [hs])
  simp only [State.settingsStage]
  rw [if_neg hargs, if_neg hmay]
  simp only [hs, List.find?_nil, Option.map_none, Option.getD_none, List.any_nil, Bool.not_false, List.length_nil, show ¬ 8 ≤ 0 by decide, and_false,
    if_false, Bool.false_eq_true, List.nil_append]
  rw [if_neg hroom, hstage]
  simp

/-! ### Commits -/

/-- The records that the caller has staged. -/
def State.stagedBy (s : State) (c : Call) : Option (Nat × List StageRec) :=
  s.settings.staged.find? fun (e : Nat × List StageRec) => e.1 == callerOf c

theorem State.settingsCommit_empty (h : (s.sampleTj tj).stagedBy c = none) : s.settingsCommit c tj = (s.sampleTj tj).longOnce 0x0403 c rcOK 0 [0] := by
  unfold State.stagedBy at h
  simp only [State.settingsCommit, h]

theorem State.settingsCommit_fault {k : Nat} {l : List StageRec} (h : (s.sampleTj tj).stagedBy c = some (k, l))
    (hr : ((s.sampleTj tj).readStaged l).1 = none) :
    s.settingsCommit c tj = ((s.sampleTj tj).readStaged l).2.longOnce 0x0403 c rcBUFFER_FAULT 0 [] := by
  unfold State.stagedBy at h
  simp only [State.settingsCommit, h, hr]

theorem State.settingsCommit_read {k : Nat} {l : List StageRec} {recs : List SetRec} (h : (s.sampleTj tj).stagedBy c = some (k, l))
    (hr : ((s.sampleTj tj).readStaged l).1 = some recs) :
    let x := ((s.sampleTj tj).readStaged l).2.commitRecs (callerOf c) recs
    s.settingsCommit c tj = (if x.1 = rcNO_SPACE then x.2.2
      else (x.2.2.updSettings fun t => { t with staged := t.staged.filter fun (e : Nat × List StageRec) => e.1 ≠ callerOf c }).showSettings).longOnce
        0x0403 c x.1 0 x.2.1 := by
  unfold State.stagedBy at h
  simp only [State.settingsCommit, h, hr]

/-! ### The CLAMP log -/

theorem State.clampLogCall_fails {k : Nat}
    (hp : (s.putBuffer (bufferOf c.w3 c.w4) ((s.settings.clampLog.drop (fld c.w2 5 0)).flatMap clampBytes)).1 = some k) :
    s.clampLogCall c = (s.putBuffer (bufferOf c.w3 c.w4) ((s.settings.clampLog.drop (fld c.w2 5 0)).flatMap clampBytes)).2.answerCall 0x0405 c k 0 [] := by
  simp only [State.clampLogCall, hp]

theorem State.clampLogCall_answers
    (hp : (s.putBuffer (bufferOf c.w3 c.w4) ((s.settings.clampLog.drop (fld c.w2 5 0)).flatMap clampBytes)).1 = none) :
    let f := (s.putBuffer (bufferOf c.w3 c.w4) ((s.settings.clampLog.drop (fld c.w2 5 0)).flatMap clampBytes)).2.free 32
    s.clampLogCall c = f.2.answerCall 0x0405 c rcOK 0
      (BitVec.ofNat 32 (s.settings.clampLog.length * 2 ^ 16 + s.rf (aSET 0x30) 15 0) :: f.1 :: (s.settings.clampLog[fld c.w2 5 0]?).getD []) := by
  simp only [State.clampLogCall, hp]

/-! ### Deferred commits and compaction -/

theorem State.writeDeferred_nothing (h : (s.sampleTj tj).settings.deferred = [] ∨ cool < tj) : s.writeDeferred tj = s.sampleTj tj := by
  unfold State.writeDeferred State.flushDeferred
  split
  · rfl
  · next hc => exact if_pos (by simp [h.resolve_right hc])

theorem State.writeDeferred_cool (h : (s.sampleTj tj).settings.deferred ≠ []) (hc : tj ≤ cool) :
    s.writeDeferred tj = (((s.sampleTj tj).settings.deferred.foldl (fun (t : State) d => t.writeCommit d.2) (s.sampleTj tj)).updSettings fun t =>
      { t with deferred := [] }).showSettings := by
  unfold State.writeDeferred State.flushDeferred
  rw [if_neg (not_lt.mpr hc), if_neg (by simpa using h)]

end

/-- Settles O54, call by call. -/
theorem settingsCommands : Obligations.SettingsCommands := by
  refine ⟨fun s c hc => ⟨fun h => begun_call rfl hc (State.settingsRead_badId h), fun h hf => begun_call rfl hc (State.settingsRead_absent h hf),
      fun tsn r h hf hd => begun_call rfl hc (State.settingsRead_deleted h hf hd),
      fun tsn r h hf hd hp => begun_call rfl hc (State.settingsRead_record h hf hd hp)⟩,
    fun s c hc => ⟨fun h => begun_call rfl hc (State.settingsStage_badId h),
      fun h hd hn hp hs => begun_call rfl hc (State.settingsStage_first h hd hn hp hs)⟩,
    fun s c tj hc => ⟨fun h => begun_call rfl hc (State.settingsCommit_empty h),
      fun k l h hr => begun_call rfl hc (State.settingsCommit_fault h hr),
      fun k l recs h hr => ⟨fun hx => begun_call rfl hc ((State.settingsCommit_read h hr).trans ?_),
        fun hx => begun_call rfl hc ((State.settingsCommit_read h hr).trans ?_)⟩⟩,
    fun s c hc => begun_call (f := (·.settingsAbort c)) rfl hc rfl,
    fun s c hc => ⟨fun k hp => begun_call rfl hc (State.clampLogCall_fails hp), fun hp => begun_call rfl hc (State.clampLogCall_answers hp)⟩,
    fun s tj ha => ⟨fun h => .live (f := fun t => (t.writeDeferred tj.toInt).showBootPend) rfl ha ?_,
      fun h hc => .live (f := fun t => (t.writeDeferred tj.toInt).showBootPend) rfl ha ?_⟩,
    fun s tj ha => ⟨fun h hh => .live (f := fun t => (t.sampleTj tj.toInt).compaction) rfl ha (if_pos ⟨h, by simp [hh]⟩),
      fun h => .live (f := fun t => (t.sampleTj tj.toInt).compaction) rfl ha (if_neg ?_)⟩⟩
  · rw [if_pos hx, hx]
  · rw [if_neg hx]
  · rw [State.writeDeferred_nothing h]
  · rw [State.writeDeferred_cool h hc]
  · rintro ⟨hlow, hcool⟩
    rcases h with h | h
    · omega
    · simp [h] at hcool

end Sys2Proof.Machine
end

section
/-! Life cycle transitions, OTP writes and debug sessions (R437, R438, R511 to R521). -/

namespace Sys2Proof.Machine

section
variable {s : State} {c : Call} {cut : Cut} {tj : Int}

/-! ### Transitions -/

theorem State.lcTransition_badOp (h : 1 < fld c.w2 31 28) : s.lcTransition c cut tj = (s.sampleTj tj).longOnce 0x0601 c rcBAD_ARG 0 [] := by
  unfold State.lcTransition
  exact (if_neg (by omega)).trans (if_pos h)

theorem State.lcTransition_refused {r : Nat} (h : fld c.w2 31 28 = 0) (hr : (s.sampleTj tj).transitionRefusal c = some r) :
    s.lcTransition c cut tj = (s.sampleTj tj).longOnce 0x0601 c r 0 [] := by
  simp only [State.lcTransition, h, hr, zero_ne_one, not_lt_zero, if_false]

theorem State.lcTransition_badToken {k : Nat} (h : fld c.w2 31 28 = 0) (hr : (s.sampleTj tj).transitionRefusal c = none)
    (hs : (s.sampleTj tj).rf (aLC 0x20) 2 0 ≠ lSCRAP) (ht : ((s.sampleTj tj).tokenCheck c (tokenSlot (fld c.w2 2 0))).1 = some k) :
    let v := ((s.sampleTj tj).tokenCheck c (tokenSlot (fld c.w2 2 0))).2
    s.lcTransition c cut tj = v.longOnce 0x0601 c k 0 v.lcWords := by
  simp only [State.lcTransition, h, hr, hs, ht, zero_ne_one, not_lt_zero, if_false]

theorem State.lcTransition_runs (h : fld c.w2 31 28 = 0) (hr : (s.sampleTj tj).transitionRefusal c = none)
    (hs : (s.sampleTj tj).rf (aLC 0x20) 2 0 ≠ lSCRAP) (ht : ((s.sampleTj tj).tokenCheck c (tokenSlot (fld c.w2 2 0))).1 = none) :
    s.lcTransition c cut tj = ((s.sampleTj tj).tokenCheck c (tokenSlot (fld c.w2 2 0))).2.runTransition c (fld c.w2 2 0) cut := by
  simp only [State.lcTransition, h, hr, hs, ht, zero_ne_one, not_lt_zero, if_false]

/-! ### OTP writes -/

theorem State.otpWriteCall_refused {r : Nat} (h : fld c.w2 31 28 = 1) (hr : (s.sampleTj tj).otpRefusal c = some r) :
    s.otpWriteCall c cut tj = (s.sampleTj tj).longOnce 0x0601 c r 0 [] := by
  simp only [State.otpWriteCall, h, hr, ne_eq, not_true_eq_false, if_false]

/-- A write that nothing cuts programs every word, in order. -/
theorem State.otpWriteCall_writes {bytes : List Byte} (h : fld c.w2 31 28 = 1) (hr : (s.sampleTj tj).otpRefusal c = none)
    (hb : ((s.sampleTj tj).takeBuffer (bufferOf c.w3 c.w4) (8 * fld c.w2 14 8)).1 = some bytes) (hn : fld c.w2 14 8 < cut.word) :
    s.otpWriteCall c cut tj = ((List.range (fld c.w2 14 8)).foldl (fun (t : State) k =>
      t.otpWrite (fld c.w2 6 0 + k) (BitVec.ofNat 64 (ofBytes ((bytes.drop (8 * k)).take 8))))
      ((s.sampleTj tj).takeBuffer (bufferOf c.w3 c.w4) (8 * fld c.w2 14 8)).2).longOnce 0x0601 c rcOK 0 [BitVec.ofNat 32 (fld c.w2 14 8)] := by
  have hdone : min (fld c.w2 14 8) (cut.word - 1) = fld c.w2 14 8 := by omega
  simp only [State.otpWriteCall, h, hr, hb, hn, hdone, ne_eq, not_true_eq_false, if_false, if_true]

/-! ### Debug sessions -/

theorem State.debugOpenCall_untrusted (h : trustedCaller c = false) : s.debugOpenCall c = s.answerCall 0x0602 c rcNOT_PERMITTED 0 [] := by
  unfold State.debugOpenCall
  exact if_pos (by rw [h]; rfl)

/-- Outside FIELD a session of a trusted caller needs no token. -/
theorem State.debugOpenCall_opens (h : trustedCaller c = true) (hf : s.rf (aLC 0x20) 2 0 ≠ lFIELD) :
    let remain := if fld c.w2 31 16 = 0 then 0xFFFF else fld c.w2 31 16
    let w : Nat := 1 + (bit c.w2 0).toNat * 2 + (bit c.w2 1).toNat * 4 + c.jtag.toNat * 8 + remain * 2 ^ 16
    let v := (s.setReg (aLC 0x28) (BitVec.ofNat 32 w)).raise 114
    s.debugOpenCall c = v.answerCall 0x0602 c rcOK 0 [v.reg (aLC 0x28)] := by
  simp only [State.debugOpenCall, h, beq_false_of_ne hf, Bool.not_true, Bool.false_eq_true, false_and, if_false]

theorem State.debugOpenCall_noTime (h : trustedCaller c = true) (hf : s.rf (aLC 0x20) 2 0 = lFIELD) (ht : fld c.w2 31 16 = 0) :
    s.debugOpenCall c = s.answerCall 0x0602 c rcBAD_ARG 0 [] := by
  simp only [State.debugOpenCall, h, hf, ht, BEq.rfl, Bool.not_true, Bool.false_eq_true, and_self, if_false, if_true]

theorem State.debugOpenCall_badToken {k : Nat} (h : trustedCaller c = true) (hf : s.rf (aLC 0x20) 2 0 = lFIELD) (ht : fld c.w2 31 16 ≠ 0)
    (hk : (s.tokenCheck c 46).1 = some k) :
    s.debugOpenCall c = (s.tokenCheck c 46).2.answerCall 0x0602 c k 0 [(s.tokenCheck c 46).2.reg (aLC 0x28)] := by
  simp only [State.debugOpenCall, h, hf, ht, hk, BEq.rfl, Bool.not_true, Bool.false_eq_true, and_false, if_false, if_true]

theorem State.debugTimeout_ends (ho : s.rb (aLC 0x28) 0 = true) (ht : s.debugTimed = true) : s.debugTimeout = s.debugEnd := by
  simp only [State.debugTimeout, ho, ht, Bool.and_self, if_true]

end

/-- Settles O55, command by command. -/
theorem lifeCycle : Obligations.LifeCycle :=
  ⟨fun _ _ _ _ _ _ hc => ⟨fun h => begun_call rfl hc (State.lcTransition_badOp h),
      fun h => ⟨fun _ hr => begun_call rfl hc (State.lcTransition_refused h hr), fun hr hs =>
        ⟨fun _ ht => begun_call rfl hc (State.lcTransition_badToken h hr hs ht), fun ht => begun_call rfl hc (State.lcTransition_runs h hr hs ht)⟩⟩,
      fun h => ⟨fun _ hr => begun_call rfl hc (State.otpWriteCall_refused h hr),
        fun _ hr hb hn => begun_call rfl hc (State.otpWriteCall_writes h hr hb hn)⟩⟩,
    fun _ _ hc => ⟨fun h => begun_call rfl hc (State.debugOpenCall_untrusted h), fun h hf => begun_call rfl hc (State.debugOpenCall_opens h hf),
      fun h hf ht => begun_call rfl hc (State.debugOpenCall_noTime h hf ht),
      fun _ h hf ht hk => begun_call rfl hc (State.debugOpenCall_badToken h hf ht hk)⟩,
    fun _ c hc => begun_call (f := (·.debugCloseCall c)) rfl hc rfl,
    fun _ ha ho ht => .live (f := (·.debugTimeout)) rfl ha (State.debugTimeout_ends ho ht)⟩

end Sys2Proof.Machine
end

section
/-! The JTAG port (R1, R522, R523). -/

namespace Sys2Proof.Machine

section
variable (s : State) (code : Nat)

/-! ### An instruction of the port changes the scan state and the pins alone -/

@[simp] theorem State.jtagIr_guide : (s.jtagIr code).guide = s.guide := State.settlePins_guide _
@[simp] theorem State.jtagIr_mbSeq : (s.jtagIr code).mbSeq = s.mbSeq := State.settlePins_mbSeq _
@[simp] theorem State.jtagIr_regs : (s.jtagIr code).regs = s.regs := State.settlePins_regs _
@[simp] theorem State.jtagIr_power : (s.jtagIr code).power = s.power := State.settlePins_power _
@[simp] theorem State.jtagIr_fabric : (s.jtagIr code).fabric = s.fabric := State.settlePins_fabric _
@[simp] theorem State.jtagIr_otp : (s.jtagIr code).otp = s.otp := State.settlePins_otp _
@[simp] theorem State.jtagIr_dramMem : (s.jtagIr code).dramMem = s.dramMem := State.settlePins_dramMem _
@[simp] theorem State.jtagIr_ir : (s.jtagIr code).pins.scan.ir = code := rfl
@[simp] theorem State.jtagIr_dr : (s.jtagIr code).pins.scan.dr = s.jtagCapture code := rfl

theorem State.reg_jtagIr (a : Nat) : (s.jtagIr code).reg a = s.reg a := by
  rw [State.reg, State.jtagIr_regs, State.reg]

@[simp] theorem State.jtagIr_debugOpen : (s.jtagIr code).debugOpen = s.debugOpen := by
  simp only [State.debugOpen, State.rb, State.reg_jtagIr]

@[simp] theorem State.jtagIr_regsOn : (s.jtagIr code).regsOn = s.regsOn := by
  simp only [State.regsOn, State.mode, State.rf, State.reg_jtagIr, State.jtagIr_power]

end

section
variable {s : State} {w : List Word} {ofs : BitVec 24} {v : Word}

theorem Answers.bypass {code : BitVec 8} (hs : s.supplied = true) (h : jtagListed code.toNat = false) :
    Answers (.bypass code) s (s.jtagIr code.toNat) :=
  .supplied (f := fun t => if jtagListed code.toNat then t else t.jtagIr code.toNat) rfl hs (if_neg (by simp [h]))

/-! ### GUIDE_CALL -/

/-- The request of a scan of GUIDE_CALL is posted where none is pending. -/
theorem State.guideCall_posts (hr : s.guide.jtagReq = none) (ht : s.guide.taken = none) :
    s.guideCall w = { s.jtagIr 0x20 with
      guide := { s.guide with jtagRespValid := false, jtagReq := some (s.mbSeq, w) }, mbSeq := s.mbSeq + 1 } := by
  unfold State.guideCall
  refine (if_neg ?_).trans ?_
  · simp [State.updGuide, hr, ht]
  · simp [State.updGuide]

theorem State.guideCall_pending (hr : s.guide.jtagReq.isSome = true) :
    s.guideCall w = { s.jtagIr 0x20 with guide := { s.guide with jtagRespValid := false } } := by
  unfold State.guideCall
  exact (if_pos (.inl (by simpa [State.updGuide] using hr))).trans (by simp [State.updGuide])

/-! ### DEBUG_ACCESS -/

theorem State.debugAccess_refused {write : Bool} (h : s.debugOpen = false ∨ s.regsOn = false) :
    s.debugAccess write ofs v =
      { ((s.jtagIr 0x21).free 32).2 with debug := { done := true, refused := true, data := ((s.jtagIr 0x21).free 32).1 } } := by
  unfold State.debugAccess
  exact if_pos (by simpa using h)

theorem State.debugAccess_reads (ho : s.debugOpen = true) (hr : s.regsOn = true) :
    let u := s.jtagIr 0x21
    s.debugAccess false ofs v =
      { (u.readReg rDebug ofs.toNat).2 with debug := { done := true, refused := false, data := (u.readReg rDebug ofs.toNat).1 } } := by
  unfold State.debugAccess
  exact (if_neg (by simp [ho, hr])).trans (if_neg (by decide))

theorem State.debugAccess_writes (ho : s.debugOpen = true) (hr : s.regsOn = true) :
    let x := (s.jtagIr 0x21).writeReg rDebug ofs.toNat true v
    s.debugAccess true ofs v = { (x.2.free 32).2 with debug := { done := true, refused := x.1 == 1, data := (x.2.free 32).1 } } := by
  unfold State.debugAccess
  exact (if_neg (by simp [ho, hr])).trans (if_pos rfl)

end

/-- Settles O56, instruction by instruction. -/
theorem jtagPort : Obligations.JtagPort :=
  ⟨fun s hs => ⟨.supplied (f := (·.jtagIr 0x01)) rfl hs rfl, .supplied (f := (·.jtagIr 0x04)) rfl hs rfl, .supplied (f := (·.jtagIr 0x05)) rfl hs rfl,
      fun _ h => .bypass hs h, fun cells => ⟨.supplied (f := (·.jtagScan 0x02 cells)) rfl hs rfl, .supplied (f := (·.jtagScan 0x03 cells)) rfl hs rfl⟩⟩,
    fun s hs => (Answers.supplied (f := (·.jtagIr 0x01)) rfl hs rfl).completes (by simp [State.withPending, State.jtagCapture, idcode]),
    fun s hs => (Answers.supplied (f := (·.jtagIr 0x05)) rfl hs rfl).completes (by simp [State.withPending]),
    fun s w ha hr ht => .live (f := (·.guideCall w)) rfl ha (State.guideCall_posts hr ht),
    fun s w ha hr => .live (f := (·.guideCall w)) rfl ha (State.guideCall_pending hr),
    fun s write ofs v hs h => .supplied (f := (·.debugAccess write ofs v)) rfl hs (State.debugAccess_refused h),
    fun s ofs v hs ho hr => ⟨.supplied (f := (·.debugAccess false ofs v)) rfl hs (State.debugAccess_reads ho hr),
      .supplied (f := (·.debugAccess true ofs v)) rfl hs (State.debugAccess_writes ho hr)⟩⟩

end Sys2Proof.Machine
end

section
/-! Pitches and checks (R493 to R509). -/

namespace Sys2Proof.Machine

/-- The targeted check that the engine starts next: the first of the queue that waits for nothing. -/
def State.nextCheck (s : State) : Option Check :=
  s.bist.queue.find? fun c => !c.waits && decide (elemKind c.elem < 5) && !s.pitchWaits c.elem

/-- The state in which the pitch p has ended, before its results are noted. -/
def State.pitchEnded (s : State) (p : Pitch) : State :=
  (s.showPitch p.elem false false).updBist fun b => { b with running := none, full := b.full && !b.fullStops, fullStops := false }

/-- A pitch that SVC_PITCH_RUN asked for answers its call. -/
def State.pitchReported (s : State) (p : Pitch) : State := if p.source = 10 then s.pitchAnswer else s

section
variable {s : State} {p : Pitch}

/-! ### The engine starts a pitch -/

theorem State.pitchStart_blocked (h : s.pitchBlocked = true) : s.pitchStart = s := if_pos h

/-- A grant that has come is taken. -/
theorem State.pitchStart_grants (h : s.pitchBlocked = false) (hr : s.bist.running = some p) (hw : p.waitGrant = true) :
    s.pitchStart = s.pitchGrant p := by
  simp only [State.pitchStart, h, hr, hw, Bool.false_eq_true, if_false, if_true]

theorem State.pitchStart_checks {c : Check} (h : s.pitchBlocked = false) (hr : s.bist.running = none) (hc : s.nextCheck = some c) :
    s.pitchStart = (s.dropCheck c.elem).beginPitch { elem := c.elem, source := c.source, targeted := true, tries := c.tries } := by
  unfold State.nextCheck at hc
  simp only [State.pitchStart, h, hr, hc, Bool.false_eq_true, if_false]

theorem State.pitchStart_request (h : s.pitchBlocked = false) (hr : s.bist.running = none) (hc : s.nextCheck = none) (hq : s.bist.request = some p)
    (hw : s.runWaits p.elem = false) : s.pitchStart = (s.updBist fun b => { b with request := none }).beginPitch p := by
  unfold State.nextCheck at hc
  simp only [State.pitchStart, h, hr, hc, hq, hw, Bool.false_eq_true, if_false]

theorem State.pitchStart_periodic {late : Bool} (h : s.pitchBlocked = false) (hr : s.bist.running = none) (hq : s.bist.request = none)
    (hc : s.nextCheck = none) (hd : s.bist.due = some late) : s.pitchStart = s.periodicStart late := by
  unfold State.nextCheck at hc
  simp only [State.pitchStart, h, hr, hc, hq, hd, Bool.false_eq_true, if_false]

theorem State.pitchStart_full (h : s.pitchBlocked = false) (hr : s.bist.running = none) (hq : s.bist.request = none)
    (hc : s.nextCheck = none) (hd : s.bist.due = none) : s.pitchStart = s.fullStart := by
  unfold State.nextCheck at hc
  simp only [State.pitchStart, h, hr, hc, hq, hd, Bool.false_eq_true, if_false]

theorem State.periodicPitch_due {late : Bool} (ha : s.awake = true) (he : s.rb (aPITCH 0x20) 16 = true) :
    s.periodicPitch late = (s.updBist fun b => { b with due := some late }).pitchStart := if_pos ⟨ha, he⟩

theorem State.grantTimeout_waiting (hr : s.bist.running = some p) (hw : p.waitGrant = true) : s.grantTimeout = s.pitchNotRun p := by
  simp only [State.grantTimeout, hr, hw, if_true]

/-! ### A pitch ends -/

/-- A signature that agrees passes its element. -/
theorem State.pitchDone_agrees {fails : List Word} (hr : s.bist.running = some p) (hw : p.waitGrant = false) :
    let exp := Config.bistSignature (elemKind p.elem)
    s.pitchDone exp fails =
      ((s.pitchEnded p).checkResult p.elem p.source (if p.targeted then rTRANSIENT else rPASS) p.targeted exp exp).pitchReported p := by
  simp only [State.pitchDone, hr, hw, Bool.false_eq_true, if_false, if_true, State.pitchReported, State.pitchEnded]

/-- A signature that differs has each failing row repaired or retired. -/
theorem State.pitchDone_differs {misr : Word} {fails : List Word} (hr : s.bist.running = some p) (hw : p.waitGrant = false)
    (hm : misr ≠ Config.bistSignature (elemKind p.elem)) :
    s.pitchDone misr fails = ((p.rows fails).foldl (fun (t : State) e => (t.failElem e p.source).2.checkResult e p.source (t.failElem e p.source).1
      p.targeted misr (Config.bistSignature (elemKind p.elem))) (s.pitchEnded p).fuseRepair).pitchReported p := by
  simp only [State.pitchDone, hr, hw, hm, Bool.false_eq_true, if_false, State.pitchReported, State.pitchEnded]

/-! ### Checks that wait -/

theorem State.pitchRetry_waiting {e : Word} {c : Check} (h : s.bist.queue.find? (fun c => c.waits && c.elem == e) = some c) :
    s.pitchRetry e = s.updBist fun b => { b with queue := (b.queue.filter fun x => x.elem != e) ++ [{ c with waits := false }] } := by
  simp only [State.pitchRetry, h]

theorem State.dbeTimeout_untested {e : Word} {c : Check} (h : s.bist.queue.find? (fun c => c.elem == e && c.source == 8 && !c.ready) = some c) :
    s.dbeTimeout e = (s.dropCheck e).checkResult e c.source rUNTESTED true 0 0 := by
  simp only [State.dbeTimeout, h]

theorem State.linkCheckDone_ends {port : Nat} {bad : Bool} {c : Check} (h : s.bist.queue.find? (fun c => c.elem == elemOf 6 port) = some c) :
    s.linkCheckDone port bad = s.endCheck c.elem c.source bad := by
  simp only [State.linkCheckDone, h]

/-! ### The calls -/

variable {c : Call}

theorem State.pitchRun_badState (h : [mRUN, mHOLD, mSERVICE].contains s.mode = false) : s.pitchRun c = s.longOnce 0x0701 c rcBAD_STATE 0 [] := by
  unfold State.pitchRun
  exact if_pos (congrArg (!·) h)

theorem State.pitchRun_badElem (h : [mRUN, mHOLD, mSERVICE].contains s.mode = true) (hp : pitchable c.w2 = false) :
    s.pitchRun c = s.longOnce 0x0701 c rcBAD_ARG 0 [] := by
  simp only [State.pitchRun, h, hp, Bool.not_true, Bool.not_false, Bool.false_eq_true, if_false, if_true]

theorem State.pitchRun_requests (h : [mRUN, mHOLD, mSERVICE].contains s.mode = true) (hp : pitchable c.w2 = true)
    (hg : s.groupRetired c.w2 = false) :
    s.pitchRun c = (s.startLong 0x0701 c).updBist fun b => { b with request := some { elem := c.w2, source := 10, targeted := false } } := by
  simp only [State.pitchRun, h, hp, hg, Bool.not_true, Bool.false_eq_true, if_false]

theorem State.pitchSchedule_noPeriod (hs : bit c.w2 31 = true) (hn : fld c.w2 15 0 = 0) :
    s.pitchSchedule c = s.answerCall 0x0702 c rcBAD_ARG 0 [] := by
  unfold State.pitchSchedule
  exact if_pos (by simp [hs, hn])

theorem State.pitchSchedule_asks (hs : bit c.w2 31 = false) (hh : bit c.w3 31 = false) :
    s.pitchSchedule c = s.answerCall 0x0702 c rcOK 0 [s.reg (aPITCH 0x20), s.holdoffLeft] := by
  simp only [State.pitchSchedule, hs, hh, Bool.false_and, Bool.or_self, Bool.false_eq_true, if_false]

theorem State.pitchSchedule_sets (hs : bit c.w2 31 = true) (hn : fld c.w2 15 0 ≠ 0) (he : bit c.w2 16 = true) (hh : bit c.w3 31 = false) :
    let v := s.setReg (aPITCH 0x20) (c.w2 &&& 0x0001FFFF)
    s.pitchSchedule c = v.answerCall 0x0702 c rcOK 0 [v.reg (aPITCH 0x20), v.holdoffLeft] := by
  simp only [State.pitchSchedule, hs, he, hh, beq_false_of_ne hn, Bool.and_false, Bool.false_and, Bool.or_self, Bool.false_eq_true, if_false, if_true]

end

/-- Settles O57, command by command. -/
theorem pitches : Obligations.Pitches :=
  ⟨fun s ha => ⟨fun h => .live (f := (·.pitchStart)) rfl ha (State.pitchStart_blocked h),
      fun _ h hr hc => .live (f := (·.pitchStart)) rfl ha (State.pitchStart_checks h hr hc),
      fun _ h hr hc hq hw => .live (f := (·.pitchStart)) rfl ha (State.pitchStart_request h hr hc hq hw),
      fun h hr hq hc => ⟨fun _ hd => .live (f := (·.pitchStart)) rfl ha (State.pitchStart_periodic h hr hq hc hd),
        fun hd => .live (f := (·.pitchStart)) rfl ha (State.pitchStart_full h hr hq hc hd)⟩,
      fun _ h hr hw => .live (f := (·.pitchStart)) rfl ha (State.pitchStart_grants h hr hw)⟩,
    fun s p fails ha hr hw => ⟨.live (f := (·.pitchDone _ fails)) rfl ha (State.pitchDone_agrees hr hw),
      fun misr hm => .live (f := (·.pitchDone misr fails)) rfl ha (State.pitchDone_differs hr hw hm)⟩,
    fun s late ha he => .live (f := (·.periodicPitch late)) rfl ha (State.periodicPitch_due ha he),
    fun s p ha hr hw => .live (f := (·.grantTimeout)) rfl ha (State.grantTimeout_waiting hr hw),
    fun s e c ha h => .live (f := (·.pitchRetry e)) rfl ha (State.pitchRetry_waiting h),
    fun s ha => .live (f := (·.holdoffEnd)) rfl ha rfl,
    fun s e c ha h => .live (f := (·.dbeTimeout e)) rfl ha (State.dbeTimeout_untested h),
    fun s port bad c ha h => .live (f := (·.linkCheckDone (portPage port - 0x541) bad)) rfl ha (State.linkCheckDone_ends h),
    fun s c hc => ⟨fun h => begun_call rfl hc (State.pitchRun_badState h), fun h hp => begun_call rfl hc (State.pitchRun_badElem h hp),
      fun h hp hg => begun_call rfl hc (State.pitchRun_requests h hp hg)⟩,
    fun s c hc => ⟨fun hs hn => begun_call rfl hc (State.pitchSchedule_noPeriod hs hn),
      fun hs hh => begun_call rfl hc (State.pitchSchedule_asks hs hh),
      fun hs hn he hh => begun_call rfl hc (State.pitchSchedule_sets hs hn he hh)⟩⟩

end Sys2Proof.Machine
end

section
/-! The heartwood and the calendar (R524, R526 to R533, R536 to R539). -/

namespace Sys2Proof.Machine

section
variable {s : State} {c : Call} {tj : Int}

/-! ### A part of the heartwood is read -/

theorem State.heartRead_noPart (h : s.heartPart (fld c.w2 3 0) (fld c.w2 15 8) = none) :
    s.heartRead c = s.answerCall 0x0801 c rcBAD_ARG 0 [] := by
  simp only [State.heartRead, h]

theorem State.heartRead_badBuffer {d : List Byte} {k : Nat} (h : s.heartPart (fld c.w2 3 0) (fld c.w2 15 8) = some d)
    (hp : (s.putBuffer (bufferOf c.w3 c.w4) d).1 = some k) :
    s.heartRead c = (s.putBuffer (bufferOf c.w3 c.w4) d).2.answerCall 0x0801 c k 0 [] := by
  simp only [State.heartRead, h, hp]

theorem State.heartRead_buffer {d : List Byte} (h : s.heartPart (fld c.w2 3 0) (fld c.w2 15 8) = some d) (ha : bufferOf c.w3 c.w4 ≠ 0)
    (hp : (s.putBuffer (bufferOf c.w3 c.w4) d).1 = none) :
    s.heartRead c = (s.putBuffer (bufferOf c.w3 c.w4) d).2.answerCall 0x0801 c rcOK 0 [BitVec.ofNat 32 d.length, s.heart.seq] := by
  simp only [State.heartRead, h, hp, ha, if_false]

/-- Without a buffer nothing is put in memory. -/
theorem State.putBuffer_zero (s : State) (d : List Byte) : s.putBuffer 0 d = (none, s) := by
  unfold State.putBuffer
  exact (if_pos (.inl rfl)).trans (if_pos rfl)

theorem State.heartRead_inline {d : List Byte} (h : s.heartPart (fld c.w2 3 0) (fld c.w2 15 8) = some d) (ha : bufferOf c.w3 c.w4 = 0) :
    s.heartRead c = (s.inlineWords d).2.answerCall 0x0801 c rcOK 0 ([BitVec.ofNat 32 (min 16 d.length), s.heart.seq] ++ (s.inlineWords d).1) := by
  simp only [State.heartRead, h, ha, State.putBuffer_zero, if_true]

/-! ### The calendar -/

theorem State.calendarSet_badArg (h : fld c.w3 31 8 ≠ 0) : s.calendarSet c tj = (s.sampleTj tj).answerCall 0x0802 c rcBAD_ARG 0 [] := if_pos h

theorem State.calendarSet_sets (h : fld c.w3 31 8 = 0) :
    let u := s.sampleTj tj
    let v := (u.setCalendar (c.w2.toNat + fld c.w3 7 0 * 2 ^ 32)).setTicks ((u.ticks + 1) % 2 ^ 48)
    let w := (((v.setReg (aRTC 0x30) 0).setReg (aRTC 0x24) 1).raise 119).alarmNow
    s.calendarSet c tj = (w.heartCount false).answerCall 0x0802 c rcOK 0 [w.reg (aRTC 0x28), w.reg (aRTC 0x2C)] := if_neg (not_not.mpr h)

/-- A second is counted: the ticks and the calendar show it. -/
def State.secondCounted (s : State) : State :=
  (((s.setTicks ((s.ticks + (32768 - s.rf (aRTC 0x30) 14 0)) % 2 ^ 48)).setReg (aRTC 0x30) 0).setCalendar (s.calendar + 1)).setB (aRTC 0x24) 3 false

theorem State.setTicks_power (s : State) (n : Nat) : (s.setTicks n).power = s.power := rfl

theorem State.setCalendar_power (s : State) (n : Nat) : (s.setCalendar n).power = s.power := rfl

theorem State.secondCounted_mode : s.secondCounted.mode = s.mode := by
  have hne {o : Nat} : aMODE ≠ aRTC o := by unfold aMODE aRTC pg; omega
  unfold State.secondCounted State.mode State.rf State.setTicks State.setCalendar State.setB
  simp only [State.reg_setReg_ne _ _ _ _ hne]

theorem State.secondCounted_power : s.secondCounted.power = s.power := by
  rw [State.secondCounted, State.setB_power, State.setCalendar_power, State.setReg_power, State.setTicks_power]

theorem State.secondCounted_awake : s.secondCounted.awake = s.awake := by
  rw [State.awake, State.secondCounted_mode, State.secondCounted_power, State.awake]

theorem State.calendarSecond_cold (h : s.power.cold = true) : s.calendarSecond tj = s := if_pos h

/-- Short of the end of the calendar a second is counted, and an awake device notes it. -/
theorem State.calendarSecond_counts (h : s.power.cold = false) (hn : s.calendar + 1 < maxCalendar) :
    s.calendarSecond tj = if s.awake = true then ((s.secondCounted.sampleTj tj).heartSecond).debugSecond else s.secondCounted := by
  have hlow : s.calendar < maxCalendar := by omega
  have hend : ¬ maxCalendar ≤ s.calendar + 1 := by omega
  rw [← State.secondCounted_awake]
  simp only [State.calendarSecond, h, hlow, hend, Bool.false_eq_true, if_false, if_true, decide_false, State.secondCounted]
  congr

/-! ### The alarm -/

/-- A cause that comes late is noted in the causes alone, where it counts. -/
theorem State.lateCause_cases (s : State) (b : Nat) (en : Bool) :
    s.lateCause b en = s ∨ s.lateCause b en = (s.setB (aPMU 0x28) b true).setB (aPMU 0x28) 31 true := by
  unfold State.lateCause
  split
  · exact .inr rfl
  · exact .inl rfl

theorem State.lateCause_same (s : State) (b : Nat) (en : Bool) : SameOutside s (s.lateCause b en) := by
  obtain h | h := s.lateCause_cases b en <;> rw [h]
  · exact SameOutside.refl s
  · rfl

@[simp] theorem State.count_lateCause (s : State) (b e : Nat) (en : Bool) : (s.lateCause b en).count e = s.count e := by
  obtain h | h := s.lateCause_cases b en <;> rw [h]
  rfl

theorem State.reg_lateCause (s : State) (b : Nat) (en : Bool) {a : Nat} (ha : a ≠ aPMU 0x28) : (s.lateCause b en).reg a = s.reg a := by
  obtain h | h := s.lateCause_cases b en <;> rw [h]
  rw [State.reg_setB_ne _ _ _ _ _ ha, State.reg_setB_ne _ _ _ _ _ ha]

/-- What an alarm of an awake device leaves. -/
def State.alarmed (s : State) : State := (((s.setB (aRTC 0x20) 0 false).setErr 0x003 16).raise 118).lateCause 2 (s.rb (aPMU 0x24) 1)

theorem State.alarmed_disarmed : s.alarmed.rb (aRTC 0x20) 0 = false := by
  have hreg : s.alarmed.reg (aRTC 0x20) = (s.setB (aRTC 0x20) 0 false).reg (aRTC 0x20) := by
    unfold State.alarmed
    rw [State.reg_lateCause _ _ _ (by decide), State.raise_reg _ _ _ (by decide) (by decide), State.setErr_reg _ _ _ _ (fun _ => pageEvent_lt)
      (by decide) (by decide)]
  rw [State.rb, hreg, ← State.rb, State.rb_setB_same _ _ _ _ (by decide)]

theorem State.alarmed_count : s.alarmed.count 118 = s.count 118 + 1 := by
  rw [State.alarmed, State.count_lateCause, State.count_raise _ _ (by decide), State.count_setErr_ne _ (by decide) (by decide), State.count_setB]

theorem State.alarmed_flag : s.alarmed.rb (pg 0x003 0x00C) 16 = true := by
  have hreg : s.alarmed.reg (pg 0x003 0x00C) = ((s.setB (aRTC 0x20) 0 false).setErr 0x003 16).reg (pg 0x003 0x00C) := by
    unfold State.alarmed
    rw [State.reg_lateCause _ _ _ (by decide), State.raise_reg _ _ _ (by decide) (by decide)]
  rw [State.rb, hreg, ← State.rb, State.setErr_reads _ _ (by decide)]

theorem State.alarmed_same : SameOutside s s.alarmed :=
  (((State.setB_same s _ _ _).trans (State.setErr_same _ _ _)).trans (State.raise_same _ _)).trans (State.lateCause_same _ _ _)

variable {fails : BitVec 16}

theorem State.alarm_awake (ha : s.awake = true) (hb : s.rb (aRTC 0x20) 0 = true) (hd : s.alarmAt ≤ s.calendar) : s.alarm fails = s.alarmed := by
  obtain ⟨hreset, -⟩ := State.power_of_awake ha
  unfold State.alarm
  exact (if_neg (by simp [hreset, hb, hd])).trans (if_pos ha)

theorem State.alarm_disarmed (hb : s.rb (aRTC 0x20) 0 = false) : s.alarm fails = s := if_pos (.inr (.inl (by simp [hb])))

theorem State.alarm_asleep (hr : s.power.inReset = false) (ha : s.awake = false) (hb : s.rb (aRTC 0x20) 0 = true) (hd : s.alarmAt ≤ s.calendar) :
    let s1 := (s.setB (aRTC 0x20) 0 false).setB (pg 0x003 0x00C) 16 true
    s.alarm fails = if s1.rb (aPMU 0x24) 1 then s1.wakeSource 2 none fails else s1 := by
  unfold State.alarm
  exact (if_neg (by simp [hr, hb, hd])).trans (if_neg (by simp [ha]))

/-! ### The entries that are due -/

theorem State.heartCountWrite_awake (ha : s.awake = true) : s.heartCountWrite tj = (s.sampleTj tj).heartCount false := if_pos ha

theorem State.heartDeferredWrite_awake (ha : s.awake = true) : s.heartDeferredWrite tj = (s.sampleTj tj).heartLate := if_pos ha

theorem State.heartRebaseDue_full (ha : s.awake = true) (h : s.heartFree < 128) :
    s.heartRebaseDue tj = (s.sampleTj tj).heartWrite State.heartRebase := if_pos ⟨ha, h⟩

theorem State.heartRebaseDue_room (h : 128 ≤ s.heartFree) : s.heartRebaseDue tj = s := if_neg fun hd => absurd hd.2 (by omega)

end

/-- Settles O58, command by command. -/
theorem heartAndCalendar : Obligations.HeartAndCalendar :=
  ⟨fun s c hc => ⟨fun h => begun_call rfl hc (State.heartRead_noPart h),
      fun _ h ha => ⟨fun _ hp => begun_call rfl hc (State.heartRead_badBuffer h hp), fun hp => begun_call rfl hc (State.heartRead_buffer h ha hp)⟩,
      fun _ h ha => begun_call rfl hc (State.heartRead_inline h ha)⟩,
    fun s c tj hc => ⟨fun h => begun_call rfl hc (State.calendarSet_badArg h), fun h => begun_call rfl hc (State.calendarSet_sets h)⟩,
    fun s tj hp ha hn => .act (f := (·.calendarSecond tj.toInt)) rfl ((State.calendarSecond_counts hp hn).trans (if_neg (by simp [ha]))),
    fun s tj hp ha hn => .act (f := (·.calendarSecond tj.toInt)) rfl ((State.calendarSecond_counts hp hn).trans (if_pos ha)),
    fun s tj hp => .act (f := (·.calendarSecond tj.toInt)) rfl (State.calendarSecond_cold hp),
    fun s fails ha hb hd => ⟨.act (f := (·.alarm fails)) rfl (State.alarm_awake ha hb hd), State.alarmed_disarmed, State.alarmed_count,
      State.alarmed_flag, State.alarmed_same⟩,
    fun s fails ha hb => .act (f := (·.alarm fails)) rfl (State.alarm_disarmed hb),
    fun s fails hr ha hb hd => .act (f := (·.alarm fails)) rfl (State.alarm_asleep hr ha hb hd),
    fun s tj ha => ⟨.act (f := (·.heartCountWrite tj.toInt)) rfl (State.heartCountWrite_awake ha),
      .act (f := (·.heartDeferredWrite tj.toInt)) rfl (State.heartDeferredWrite_awake ha),
      fun h => .act (f := (·.heartRebaseDue tj.toInt)) rfl (State.heartRebaseDue_full ha h),
      fun h => .act (f := (·.heartRebaseDue tj.toInt)) rfl (State.heartRebaseDue_room h)⟩⟩

end Sys2Proof.Machine
end
